-- ==== Sys2Proof/Word.lean ====
section
/-! DEFINITION. The plainest arithmetic on bytes and bit fields. -/

namespace Sys2Proof

/-- A byte. -/
abbrev Byte := BitVec 8

/-- Bits `lo` to `lo + n - 1` of a number. -/
def field (w lo n : Nat) : Nat := w / 2 ^ lo % 2 ^ n

/-- One bit of a number. -/
def bitAt (w i : Nat) : Bool := w / 2 ^ i % 2 == 1

/-- The number a truth value is stored as. -/
def bit (b : Bool) : Nat := if b then 1 else 0

/-- The low `n` bits of a two's complement number. -/
def wrapInt (n : Nat) (v : Int) : Nat := (v % (2 ^ n : Nat)).toNat

/-- The signed value of an `n`-bit two's complement number. -/
def signed (n w : Nat) : Int := if w % 2 ^ n < 2 ^ (n - 1) then (w % 2 ^ n : Nat) else (w % 2 ^ n : Nat) - (2 ^ n : Nat)

/-- Number of set bits among the low `n`. -/
def popCount : Nat → Nat → Nat
  | 0, _ => 0
  | n + 1, w => w % 2 + popCount n (w / 2)

/-- All bits set in an `n`-bit field. -/
def allOnes (n : Nat) : Nat := 2 ^ n - 1

end Sys2Proof
end

