-- ==== Sys2Proof/Syntax.lean ====
section
/-! DEFINITION. The commands of the FJ2812-64 and the operands they carry. -/

namespace Sys2Proof

/-- One mailbox submission (R47, R49): the channel, the slot, the header fields and the argument bytes that the host
writes to the command area before the doorbell. Argument bytes not listed are 0. `host` is what the host wrote to its
own memory before the doorbell: address and bytes of each piece (log entry 17). `fetchFail`: a read or write of host memory
that the command asks for fails (R62). `first` and `width` are the image columns of a job that JOB.OPEN opens: no field of the
command gives them (log entry 15). -/
structure Mbox where
  ch      : Nat := 0
  slot    : Nat := 0
  tag     : Nat := 0
  phase   : Bool := false
  atOnce  : Bool := false
  notify  : Bool := false
  rsvd5   : Nat := 0
  argLen  : Nat := 0
  rsvd16  : Nat := 0
  args    : List Nat := []
  host    : List (Nat × List Nat) := []
  fetchFail : Bool := false
  first   : Nat := 0
  width   : Nat := 120992
  deriving DecidableEq, Repr

/-- What the pins of an encoder show from now on: the levels of lines A, B and Z, held for `n` samples of 5 ns (R213). -/
structure Pins where
  n : Nat
  a : Bool
  b : Bool
  z : Bool
  deriving DecidableEq, Repr

/-- How long a run of samples lasts, and the level of line Z in it (R213). -/
structure Held where
  n : Nat
  z : Bool
  deriving DecidableEq, Repr

/-- What an encoder input samples: a run of equal samples of its lines, or one sample of the 14-bit ADC on the sin and cos pairs
(R213, R218). -/
inductive EncIn where
  | lines (p : Pins)
  | adc (sin cos : Int)
  deriving DecidableEq, Repr

/-- The differential and the common-mode voltage of an RS-422 pair, in mV (R224). -/
structure PairIn where
  vd : Int
  cm : Int
  deriving DecidableEq, Repr

/-- What the hall lines show from now on: the code 4U + 2V + W, held for `n` samples of 5 ns (R227). -/
structure HallRun where
  n : Nat
  code : Nat
  deriving DecidableEq, Repr

/-- What a mark input shows from now on: the input, its level, held for `n` samples of 5 ns (R249). -/
structure MarkRun where
  k : Nat
  n : Nat
  level : Bool
  deriving DecidableEq, Repr

/-- What a gang's GSYNC unit carries (R327, R356 to R359). -/
inductive GMsg where
  | commitToken (lift : Nat)
  | stop (course : Nat)
  | unserved (course : Nat)
  | settled (member : Nat)
  | ceiling (member courses : Nat)
  | target (lift bar : Nat) (t : Int)
  | fire (course time : Nat)
  | rest (member : Nat)
  | linkDown (member : Nat)
  | form
  | dissolve
  | retry
  | liftToken (lift : Nat)
  deriving DecidableEq, Repr

/-- A GTIME echo as its answer comes back (R358): the press time that the neighbour gives its departure, the round-trip time in ps, the
neighbour's turn-round in line bits, the lane that carried it, and the offsets to member 0 of a gang in ns, by member, that the
neighbour knows of itself and of those beyond it. -/
structure GEcho where
  stamp : Nat := 0
  rtt   : Nat := 0
  turn  : Nat := 0
  lane  : Nat := 0
  chain : List (Nat × Int) := []
  deriving DecidableEq, Repr

/-- What names a PTP message (R365): its domain and its sequenceId; for a message that the module sends, the sequenceId. -/
structure PtpId where
  domain : Nat := 0
  seq    : Nat := 0
  deriving DecidableEq, Repr

/-- An Announce message (R365): sent by the module as master, or heard in a domain. -/
inductive AnnounceIo
  | sent
  | heard (domain : Nat)
  deriving DecidableEq, Repr

/-- A read of TIME_NOW (R382): a 32-bit read of its low word or its high word, or a 64-bit read of both. -/
inductive TimeRead
  | low
  | high
  | both
  deriving DecidableEq, Repr

/-- The rest of a BEAT (R327): the lane that carried it, and STATE_SEQ, the present lift and SINCE_SWAP of the sender. -/
structure BeatIn where
  lane  : Nat := 0
  seq   : Nat := 0
  lift  : Nat := 0
  since : Nat := 0
  deriving DecidableEq, Repr

/-- What GANG.FORM learns of a member (R353): its digest, firmware, press-time offset to member 0 in ns, OP_STATE, whether it has
a started job, MEMBER, MEMBERS, COL_OFFSET, and whether its chain links are UP. -/
structure GInfo where
  digest  : Nat := 0
  fw      : Nat := 0
  offset  : Int := 0
  opState : Nat := 0
  started : Bool := false
  member  : Nat := 0
  members : Nat := 0
  column  : Nat := 0
  linkUp  : Bool := true
  deriving DecidableEq, Repr

/-- What PAIR.JOIN learns of the partner (R330, R353): its pair digest, firmware, press-time offset in ns and PREFER. -/
structure PInfo where
  digest : Nat := 0
  fw     : Nat := 0
  offset : Int := 0
  prefer : Bool := false
  deriving DecidableEq, Repr

/-- The state copy of a resynchronisation (R337): the committed sections but LANE_TABLE and PAIR and their digest; the nozzle states that
are not OK; the highest lift screened, and the active codes of it, those of the lift before and the target codes that are not 128; the
trims, targets and SETTLE of the bars; and the job table. States and codes go by index over all bars. -/
structure CopyIn where
  digest  : Nat := 0
  secs    : List (Nat × List Nat) := []
  states  : List (Nat × Nat) := []
  highest : Option Nat := none
  active  : List (Nat × Nat) := []
  before  : List (Nat × Nat) := []
  target  : List (Nat × Nat) := []
  trims   : List Int := []
  targets : List Int := []
  settle  : List (Option Nat) := []
  jobs    : List Nat := []
  deriving DecidableEq, Repr

/-- What a MSG unit carries (R332, R337, R354): a forwarded command with the data of its entries, or the
data of a CFG.STAGE, its acknowledgement (with the member, its RESULT and DETAIL and
the gang digest of its shadow set), the state copy of a resynchronisation, or that the sender's MIRROR_OK is cleared, with the reason. -/
inductive BMsg where
  | command (m : Mbox) (verb : Nat) (data : List Nat)
  | stage (ch slot sect off : Nat) (bytes : List Nat)
  | ack (ch slot member result detail digest : Nat)
  | copy (c : CopyIn)
  | mirror (reason : Nat)
  deriving DecidableEq, Repr

/-- A Tie block and then its replays as a wythe receives them: the bits of each that differ from what was sent (R30). The block is the
one `back` blocks before the newest in the replay buffer of its sender. -/
structure TieIn where
  dest   : Nat := 0
  back   : Nat := 0
  errors : List Nat := []
  deriving DecidableEq, Repr

/-- An entry of the seam copies of a wythe that a fault of the hardware has changed: nozzle states or density codes, the bar, the
nozzle's index in the bar, and what it reads now (R149, R193). -/
structure SeamUpset where
  w      : Nat := 0
  states : Bool := false
  bar    : Nat := 0
  idx    : Nat := 0
  value  : Nat := 0
  deriving DecidableEq, Repr

/-- What an HV_EN output then drives: the output and its load current in µA (R313). -/
structure LoadIn where
  output : Nat := 0
  ua     : Nat := 0
  deriving DecidableEq, Repr

/-- What a sensor supply then does: 0 ENC0_5V, 1 ENC1_5V, 2 HALL_5V, 3 MARK_SUP, and whether it is in its current limit (R478). -/
structure SupplyIn where
  k     : Nat := 0
  limit : Bool := false
  deriving DecidableEq, Repr

/-- The temperatures at the hardware comparators of the two wythes, in 1/16 °C (R310). -/
structure ThermIn where
  tj0 : Int := 0
  tj1 : Int := 0
  deriving DecidableEq, Repr

/-- What a lamp driver sees and measures (R384, R387, R388): how long its input is high in each slot of the stream, in ns, how long it then
stays low, in ns, and the results of its channels (0 OK, 1 OPEN, 2 SHORT), its temperature as TEMP gives it, and whether its own
over-temperature protection acted. -/
structure ChainIn where
  highs : List Nat := []
  low   : Nat := 0
  st    : List Nat := List.replicate 16 0
  temp  : Nat := 255
  ot    : Bool := false
  deriving DecidableEq, Repr

/-- The current of a matrix row switch, in mA (R401). -/
structure RowIn where
  row : Nat := 0
  ma  : Nat := 0
  deriving DecidableEq, Repr

/-- A Zarnetrum request (R428, R429): the bus (0 SPI, 1 SMBus), TAG, FLAGS, the payload, whose length is LEN, and the check byte that came
with it: the CRC-8 of an SPI frame, the PEC of an SMBus write, or none. -/
structure ZReq where
  bus     : Nat := 0
  tag     : Nat := 0
  flags   : Nat := 0
  payload : List Nat := []
  check   : Option Nat := none
  deriving DecidableEq, Repr

/-- A Zarnetrum request of any OP (R428). -/
structure ZFrame where
  op  : Nat := 0
  req : ZReq := {}
  deriving DecidableEq, Repr

/-- What an uncorrectable memory word holds, where the address alone does not say it (R125): the stored copy of a section, a pair mirror
bank, or lines of a job and fluid in staging (with whether the strip failed again when read again from HBM). -/
inductive MemUse where
  | nothing
  | sect (id : Nat)
  | mirror (bank : Nat)
  | staged (again : Bool) (job fluid line lines : Nat)
  deriving DecidableEq, Repr

/-- The commands of the block, one constructor per row of opcode_table.json, in its order.
Every command first carries `dt`, the nanoseconds that have passed since the command before it (log entry 14). -/
inductive Instr where
  /-- V_AUX_APPLIED (R80): V_AUX is applied in OFF: the Aux reset runs, the Plinth starts and the module enters STANDBY. `sel` is what the address straps read, ADDR_SEL1 and ADDR_SEL0 (R477), `mv` the voltage (R448). -/
  | vAuxApplied (dt : Nat) (sel : Nat) (mv : Nat)
  /-- KEEP_RESET (R453): D0 loses all supply: the event log empties, LOG_REINIT is set and the real-time clock restarts at 0. -/
  | keepReset (dt : Nat)
  /-- SUPPLY_THRESHOLD (R448): A supply input crosses, or clears, one of its monitored thresholds after the 20 µs dwell, and a CODE 0x1A01 record is written. `input` 0 V_MAIN, 1 V_AUX, 2 V_FIELD, 3 VBAT; `kind` 1 undervoltage, 2 overvoltage, 3 reversed, 4 cleared; `mv` the voltage. The command comes as the voltage changes, and again once it has stood for 20 µs. -/
  | supplyThreshold (dt : Nat) (input : Nat) (kind : Nat) (mv : Int)
  /-- SUPPLIES_LOST (R447): V_MAIN and V_AUX are both absent: D1 and its latches are lost and the module is OFF. -/
  | suppliesLost (dt : Nat)
  /-- AUTO_ON (R449): With AUTO_ON set and no POWER_OFF as the last power command, V_MAIN has stayed at 35.0 V or above for 100 ms and main sequencing starts. -/
  | autoOn (dt : Nat)
  /-- DOMAIN_POWER_GOOD (R450): The domains of one sequencing step report power-good and the next step starts; at step 6 the main-domain reset is released. -/
  | domainPowerGood (dt : Nat)
  /-- POWER_GOOD_MISSED (R451): A sequencing step has not reported power-good within 10 ms: the failed domain and its dependants are switched off, or POWER_ON fails for D2/D3. `d` is the domain. -/
  | powerGoodMissed (dt : Nat) (d : Nat)
  /-- POWER_GOOD_LOST (R451): A domain loses power-good after sequencing and raises BOOT reason 6, FIELD_SUPPLY, MEMORY or ENGINE_STALL as the state and domain require. `d` is the domain. -/
  | powerGoodLost (dt : Nat) (d : Nat)
  /-- BOOT_END (R459): The boot steps complete: the module enters REST, or FAULT if a cause is latched, and it re-bases positions and the course grid. `crcA` and `crcB` say that the CRC of each main image matched, `test` is the reason of a step that failed (0 none), and `fence0` and `fence1` are the Mortar units that failed their self-test (R178, R459). -/
  | bootEnd (dt : Nat) (crcA : Bool) (crcB : Bool) (test : Nat) (fence0 : List Nat) (fence1 : List Nat)
  /-- BOOT_TIMEOUT (R459): BOOT has not ended 6 s after it began, and it ends in FAULT with cause BOOT reason 7. -/
  | bootTimeout (dt : Nat)
  /-- FUNCTION_RESET (R454): PERST#, Hot Reset, FLR or link down on one function resets its interrupts and DMA block, and on Wythe 0 its mailboxes and event ring. `down` says that the reset takes the link down (PERST#, Hot Reset, link down), which a Function Level Reset does not. -/
  | functionReset (dt : Nat) (fn : Nat) (down : Bool)
  /-- LINK_TRAINED (R455): A function trains its PCIe link after PERST# deassertion or D6/D7 power-good, and answers with CRS until BAR0 is usable. `rate` is the transfer rate in tenths of GT/s; `mrrs`, `mps` and `extTag` are what the host then configures (R90). -/
  | linkTrained (dt : Nat) (fn : Nat) (lanes : Nat) (rate : Nat) (mrrs : Nat) (mps : Nat) (extTag : Bool)
  /-- PCIE_LINK_LOST (R101): Loss of the PCIe link stops every DMA channel of the function as DISABLE does. -/
  | pcieLinkLost (dt : Nat) (fn : Nat)
  /-- REGISTER_WRITE (R12): A host write to a register that has no row of its own sets the RW value, is ignored for RO or reserved bits, and is discarded on a command area that is pending. `fn` is the function, `off` the BAR0 byte offset; a PCIe write crosses no 4 KiB boundary. -/
  | registerWrite (dt : Nat) (fn : Nat) (off : Nat) (bytes : List Nat)
  /-- RESPONSE_READ (R53): The first read covering bytes 0–7 of a ready response returns READ_AGAIN 0 and clears COMPLETE bit s; later reads return READ_AGAIN 1. `off` and `n` are the bytes read of the response area. -/
  | responseRead (dt : Nat) (ch : Nat) (slot : Nat) (off : Nat) (n : Nat)
  /-- INT_CAUSE_CLEAR (R45): A W1C write to INT_CAUSE clears vector bits; a source firing in the same clock leaves its bit set and sends a new message. `clear` is what is written; `again` are the vectors whose sources fire in the same clock. -/
  | intCauseClear (dt : Nat) (fn : Nat) (clear : Nat) (again : Nat)
  /-- INT_ENABLE_WRITE (R45): A write to INT_ENABLE enables vectors, and sends a message at once for an enabled vector whose INT_CAUSE bit is already 1. -/
  | intEnableWrite (dt : Nat) (fn : Nat) (value : Nat)
  /-- OVERFLOW_CLEAR (R41): A W1C write to OVERFLOW clears it together with LOST. -/
  | overflowClear (dt : Nat)
  /-- SYS_INFO (R510): Returns the identity words of both wythes, the lane and Mortar unit counts, the Plinth firmware version and the module serial. -/
  | sysInfo (dt : Nat) (m : Mbox)
  /-- SYS_PING (R55): Echoes 48 bytes of ARGS into DATA. -/
  | sysPing (dt : Nat) (m : Mbox)
  /-- SYS_EVENT_RING (R58): Sets the event ring from a host address and size exponent, or removes it when k is 0. -/
  | sysEventRing (dt : Nat) (m : Mbox)
  /-- SYS_RESET_WARM (R456): SYS.RESET mode 0 resets the main domains with power kept, keeps the latched causes and re-enters BOOT. The command area's byte 8 is not 1. -/
  | sysResetWarm (dt : Nat) (m : Mbox)
  /-- SYS_RESET_COLD (R456): SYS.RESET mode 1 makes an orderly power-off, then the power-up of R450, and keeps the latched causes. The command area's byte 8 is 1. -/
  | sysResetCold (dt : Nat) (m : Mbox)
  /-- STATE_ARM (R60): Checks the arm conditions in order and moves the module from REST to READY when all of them hold. -/
  | stateArm (dt : Nat) (m : Mbox)
  /-- STATE_DISARM (R80): Moves the module from READY to REST with the REST actions. -/
  | stateDisarm (dt : Nat) (m : Mbox)
  /-- STATE_REST (R80): Enters REST at once, without a controlled stop, ending pending commits and scheduled actions. -/
  | stateRest (dt : Nat) (m : Mbox)
  /-- STATE_CLEAR (R319): Checks every latched cause for removal and, if all are removed, clears the latches and moves FAULT to REST. -/
  | stateClear (dt : Nat) (m : Mbox)
  /-- CFG_STAGE (R62): Writes one shadow section from inline or fetched data and increments SHADOW_GEN. -/
  | cfgStage (dt : Nat) (m : Mbox)
  /-- CFG_CHECK (R63): Judges the whole shadow set in two passes and returns OK or the first failing check code. -/
  | cfgCheck (dt : Nat) (m : Mbox)
  /-- CFG_COMMIT (R64): Accepts or refuses applying the checked shadow set at once, at a lift or at a course. -/
  | cfgCommit (dt : Nat) (m : Mbox)
  /-- CFG_CANCEL (R68): Withdraws a pending commit whose acceptance deadline has not passed. -/
  | cfgCancel (dt : Nat) (m : Mbox)
  /-- CFG_DISCARD (R69): Copies the set in force into the shadow set, increments SHADOW_GEN and leaves every section untouched. -/
  | cfgDiscard (dt : Nat) (m : Mbox)
  /-- CFG_READ (R505): Copies part of a shadow or committed section to host memory through channel 15. -/
  | cfgRead (dt : Nat) (m : Mbox)
  /-- JOB_OPEN (R73): Declares a job, places it on both wythes and returns the placement report. -/
  | jobOpen (dt : Nat) (m : Mbox)
  /-- JOB_SUBMIT_ATTACH (R92): Binds host DMA channels of both wythes to an open job. The command area's byte 9 is neither 2 nor 3. -/
  | jobSubmitAttach (dt : Nat) (m : Mbox)
  /-- JOB_SUBMIT_DETACH (R92): Unbinds channels from a job unless they still hold unended SOURCE descriptors. The command area's byte 9 is 2. -/
  | jobSubmitDetach (dt : Nat) (m : Mbox)
  /-- JOB_SUBMIT_END (R92): Declares the job's total source lines. The command area's byte 9 is 3. -/
  | jobSubmitEnd (dt : Nat) (m : Mbox)
  /-- JOB_START (R75): Queues an open job at the next or a named lift boundary under the acceptance rule of R65. -/
  | jobStart (dt : Nat) (m : Mbox)
  /-- JOB_PAUSE (R76): Raises hold trigger PAUSE, requesting a controlled stop. -/
  | jobPause (dt : Nat) (m : Mbox)
  /-- JOB_CONTINUE (R76): Releases a pause so that the hold may resume. -/
  | jobContinue (dt : Nat) (m : Mbox)
  /-- JOB_ABORT (R76): Ends a job: it is removed from the queue, prints no drops from the next lift boundary, or ends its hold without a resume. -/
  | jobAbort (dt : Nat) (m : Mbox)
  /-- JOB_CLOSE (R55): Frees a job that has not started or has ended. -/
  | jobClose (dt : Nat) (m : Mbox)
  /-- JOB_STATUS (R508): Reports a job's state, speed, admitted lines and course range. -/
  | jobStatus (dt : Nat) (m : Mbox)
  /-- EVT_AT_COURSE (R258): Schedules an action at a course and fraction, or returns LATE if it has passed. -/
  | evtAtCourse (dt : Nat) (m : Mbox)
  /-- EVT_AT_TIME (R376): Schedules an action at a press time, or returns LATE if it lies less than 10 µs ahead. -/
  | evtAtTime (dt : Nat) (m : Mbox)
  /-- EVT_CANCEL (R79): Withdraws a pending action, or returns LATE with the execution stamp of one already run. -/
  | evtCancel (dt : Nat) (m : Mbox)
  /-- EVT_LIST (R509): Copies the pending actions to host memory in ascending event id. -/
  | evtList (dt : Nat) (m : Mbox)
  /-- ACTION_AT_COURSE (R258): A pending course action is released when HWM passes its position; it runs once and writes a CODE 0x0501 record. -/
  | actionAtCourse (dt : Nat) (id : Nat)
  /-- ACTION_AT_TIME (R376): Press time reaches a pending action's time; it runs once and writes a CODE 0x0501 record. -/
  | actionAtTime (dt : Nat) (id : Nat)
  /-- DENS_UPDATE (R153): Applies measured density errors to the target codes of a colour bar, skipping stale and deadband entries. -/
  | densUpdate (dt : Nat) (m : Mbox)
  /-- DENS_READ (R156): Copies active codes, target codes or row records of a bar to host memory. -/
  | densRead (dt : Nat) (m : Mbox)
  /-- DENS_FREEZE (R157): Freezes or releases density stepping per channel from the next unscreened lift. -/
  | densFreeze (dt : Nat) (m : Mbox)
  /-- NOZ_MAP (R196): Accepts nozzle state changes that take effect from a named or earliest acceptable lift. -/
  | nozMap (dt : Nat) (m : Mbox)
  /-- NOZ_READ (R200): Copies nozzle states or head counters of a bar to host memory. -/
  | nozRead (dt : Nat) (m : Mbox)
  /-- DISCOVER (R203): LANE.BOND operation 0 runs topology discovery and builds a new bond. The command area's byte 8 is neither 1 nor 2. -/
  | discover (dt : Nat) (m : Mbox)
  /-- READ_BOND (R202): LANE.BOND operation 1 copies 720 bond records to host memory. The command area's byte 8 is 1. -/
  | readBond (dt : Nat) (m : Mbox)
  /-- READ_NODES (R202): LANE.BOND operation 2 copies 80 node records to host memory. The command area's byte 8 is 2. -/
  | readNodes (dt : Nat) (m : Mbox)
  /-- PAIR_SWAP (R346): Performs a planned role exchange with the standby now, at the next READY, or in a hold. -/
  | pairSwap (dt : Nat) (m : Mbox)
  /-- PAIR_JOIN (R348): Forms the pair, or joins as standby to an active partner. `partner` is what the partner tells of itself over Buttress. -/
  | pairJoin (dt : Nat) (m : Mbox) (partner : PInfo)
  /-- PAIR_LEAVE (R348): Makes the module ISOLATED, releasing the leases of an ACTIVE. -/
  | pairLeave (dt : Nat) (m : Mbox)
  /-- PAIR_TAKE (R348): Makes the module ACTIVE alone when every node is free. -/
  | pairTake (dt : Nat) (m : Mbox)
  /-- PAIR_INFO (R348): Reports the partner's role, state, digest, firmware, time offset, MIRROR_OK and last complete epoch. -/
  | pairInfo (dt : Nat) (m : Mbox)
  /-- GANG_FORM (R353): Member 0 forms the gang if every link is UP and every member matches. `members` is what members 1 onward tell of themselves over Buttress. -/
  | gangForm (dt : Nat) (m : Mbox) (members : List GInfo)
  /-- GANG_DISSOLVE (R348): Every member leaves the gang. -/
  | gangDissolve (dt : Nat) (m : Mbox)
  /-- GANG_INFO (R348): Reports the members, their states, offsets and ceilings. -/
  | gangInfo (dt : Nat) (m : Mbox)
  /-- TIME_ACCEPT_STEP (R373): Applies the pending refused step of −STEP_OFFSET and puts the servo in ACQUIRING. -/
  | timeAcceptStep (dt : Nat) (m : Mbox)
  /-- TIME_SET (R374): Steps press time to a given value when PHASE_SRC is 0, and sets TIME_VALID. -/
  | timeSet (dt : Nat) (m : Mbox)
  /-- TIME_STATUS (R375): Reports the PTP data sets. -/
  | timeStatus (dt : Nat) (m : Mbox)
  /-- LAMP_SET (R397): Sets LEVEL of the masked lamp groups from the next frame. -/
  | lampSet (dt : Nat) (m : Mbox)
  /-- LAMP_READ (R398): Copies channel or driver records of a chain to host memory. -/
  | lampRead (dt : Nat) (m : Mbox)
  /-- LAMP_CLEAR_SHORT (R397): LAMP.CLEAR with byte 8 = 0 clears the SHORT latches. The command area's byte 8 is not 1. -/
  | lampClearShort (dt : Nat) (m : Mbox)
  /-- LAMP_CLEAR_PINS (R403): LAMP.CLEAR with byte 8 = 1 clears the matrix pin and row latches. The command area's byte 8 is 1. -/
  | lampClearPins (dt : Nat) (m : Mbox)
  /-- PANEL_SET (R402): Changes indicator codes and blink modes in entry order. -/
  | panelSet (dt : Nat) (m : Mbox)
  /-- COPING_READ (R423): Copies the 108 calibration block records to host memory. -/
  | copingRead (dt : Nat) (m : Mbox)
  /-- COPING_CAL (R423): Queues calibration of a range of blocks. -/
  | copingCal (dt : Nat) (m : Mbox)
  /-- PLINTH_LOG_READ (R444): Copies event log entries in LOG_SEQ order to host memory. -/
  | plinthLogRead (dt : Nat) (m : Mbox)
  /-- PLINTH_FW (R444): Runs an image session on data fetched through channel 14. -/
  | plinthFw (dt : Nat) (m : Mbox)
  /-- PLINTH_FW_SELECT (R444): Selects the image slot for the next start, as FW_SELECT does. -/
  | plinthFwSelect (dt : Nat) (m : Mbox)
  /-- IDENT (R430): The Zarnetrum command returns part, stepping, firmware versions and the module serial. -/
  | ident (dt : Nat) (r : ZReq)
  /-- STATUS (R431): The Zarnetrum command returns the status payload and clears the pending ALERT sources. -/
  | status (dt : Nat) (r : ZReq)
  /-- ZARNETRUM_TEMPS (R430): The Zarnetrum TEMPS command returns sensor readings and the throttle step. -/
  | zarnetrumTemps (dt : Nat) (r : ZReq)
  /-- PAIR (R430): The Zarnetrum command returns the pair and gang status, the last value known when the main domains are off. -/
  | pair (dt : Nat) (r : ZReq)
  /-- SETTINGS (R432): Reads, and optionally first writes, the Plinth flash settings. -/
  | settings (dt : Nat) (r : ZReq)
  /-- POWER_ON (R433): Starts main-domain sequencing from STANDBY into BOOT. -/
  | powerOn (dt : Nat) (r : ZReq)
  /-- POWER_OFF (R434): Requests REST, forcing it after 5 ms if needed, then switches the main domains off in order. `ack` says that the Keystone takes the REST request in time. -/
  | powerOff (dt : Nat) (r : ZReq) (ack : Bool)
  /-- POWER_CYCLE (R430): Performs POWER_OFF with FORCE, then POWER_ON. `ack` says that the Keystone takes the REST request in time. -/
  | powerCycle (dt : Nat) (r : ZReq) (ack : Bool)
  /-- REST_REQ (R435): Asks the Keystone for a non-latching REST. `ack` says that the Keystone takes the REST request in time. -/
  | restReq (dt : Nat) (r : ZReq) (ack : Bool)
  /-- FORCE (R435): Drives the watchdog force input, latches PLINTH_FORCE and enters FAULT. -/
  | force (dt : Nat) (r : ZReq)
  /-- LOCKOUT_CLEAR (R436): Clears LOCKOUT and SHUTDOWNS_1H unless a diode reads 90 °C or more. -/
  | lockoutClear (dt : Nat) (r : ZReq)
  /-- LOG_INFO (R430): Returns the log sequence bounds, wraps, drops and LOG_REINIT. -/
  | logInfo (dt : Nat) (r : ZReq)
  /-- LOG_READ (R430): Returns one log entry by LOG_SEQ. -/
  | logRead (dt : Nat) (r : ZReq)
  /-- FW_OPEN (R442): Opens an image session and erases the idle slot. -/
  | fwOpen (dt : Nat) (r : ZReq)
  /-- FW_DATA (R442): Writes the next chunk of the image at the expected offset. -/
  | fwData (dt : Nat) (r : ZReq)
  /-- FW_CLOSE (R442): Reads back the slot, checks the image CRC and marks the slot valid or invalid. -/
  | fwClose (dt : Nat) (r : ZReq)
  /-- FW_SELECT (R443): Selects the image slot for the next start, and may restart the Plinth. -/
  | fwSelect (dt : Nat) (r : ZReq)
  /-- FW_SESSION_TIMEOUT (R442): An image session left 60 s without a command ends with its slot invalid. -/
  | fwSessionTimeout (dt : Nat)
  /-- ALERT_RESPONSE (R432): A response to the SMBus Alert Response Address releases ALERT until a new source becomes pending. -/
  | alertResponse (dt : Nat)
  /-- RING_BASE_WRITE (R82): A write to RING_BASE in IDLE or STOPPED sets the ring and resets TAIL, HEAD, DONE_IDX, BYTES and RESIDUE. -/
  | ringBaseWrite (dt : Nat) (fn : Nat) (ch : Nat) (value : Nat)
  /-- ENABLE (R83): Starts or restarts a DMA channel at HEAD, or stops it with BAD_ARG for an invalid RING_EXP. `host` is what the host wrote to its own memory before (log entry 17). -/
  | enable (dt : Nat) (fn : Nat) (ch : Nat) (host : List (Nat × List Nat))
  /-- ABORT (R100): Stops a running channel's request issue and lets the in-flight requests drain. -/
  | abort (dt : Nat) (fn : Nat) (ch : Nat)
  /-- DISABLE (R101): Drops all of a channel's work within 100 ns, writes no status and moves it to DRAINING. -/
  | disable (dt : Nat) (fn : Nat) (ch : Nat)
  /-- TAIL_WRITE (R84): A TAIL write publishes descriptors, or stops the channel with NO_SPACE if it overruns the ring. `host` is what the host wrote to its own memory before (log entry 17). -/
  | tailWrite (dt : Nat) (fn : Nat) (ch : Nat) (value : Nat) (host : List (Nat × List Nat))
  /-- SOURCE_DESTINATION_FREE (R94): A waiting SOURCE descriptor's destination in the job placement becomes free and its reads are issued. -/
  | sourceDestinationFree (dt : Nat) (fn : Nat)
  /-- READ_COMPLETION (R90): A completion for a DMA read request arrives, is stored or discarded, and decrements OUTSTANDING. `k` is the request among those of the channel in flight; `err` 0 good data, 1 Unsupported Request or Completer Abort, 2 poisoned; `beat` says that the error falls on the final data beat; `host` is what the host memory then holds; `runMin` is the shortest run of zero residuals that the compressor codes as a run if it compresses the descriptor whose data this completes (log entry 111). -/
  | readCompletion (dt : Nat) (fn : Nat) (ch : Nat) (k : Nat) (err : Nat) (beat : Bool) (host : List (Nat × List Nat)) (runMin : Nat)
  /-- COMPLETION_TIMEOUT (R97): A read completion fails to arrive within the Completion Timeout and ends the descriptor with HW_FAULT DETAIL 0x0003. `k` is the request among those of the channel in flight. -/
  | completionTimeout (dt : Nat) (fn : Nat) (ch : Nat) (k : Nat)
  /-- ADMISSION_END (R116): Every Ashlar strip of a SOURCE descriptor has been decoded and checked, and the descriptor may end. -/
  | admissionEnd (dt : Nat) (fn : Nat) (ch : Nat)
  /-- DESCRIPTOR_END (R96): A descriptor ends: the read-back, the status write, the index update and the vector follow in order. -/
  | descriptorEnd (dt : Nat) (fn : Nat) (ch : Nat)
  /-- COMPRESSION_RESUME (R123): Extents are freed and stalled compression resumes, with a CODE 0x0413 record. -/
  | compressionResume (dt : Nat) (job : Nat)
  /-- EVENT_RING_WRITE (R58): An event record's ring write completes its read-back and EVT_PROD advances, or the record is lost if the ring is full. -/
  | eventRingWrite (dt : Nat)
  /-- BAR2_READ (R105): A BAR2 read returns module memory, poisoned for an uncorrectable word and 0 beyond the target. `off` and `n` are the bytes read of the window. -/
  | bar2Read (dt : Nat) (fn : Nat) (off : Nat) (n : Nat)
  /-- BAR2_WRITE (R105): A BAR2 write changes module memory, or is dropped and counted. -/
  | bar2Write (dt : Nat) (fn : Nat) (off : Nat) (bytes : List Nat)
  /-- BAR2_DROPPED_READ (R105): Reading BAR2_DROPPED returns the count and clears it. -/
  | bar2DroppedRead (dt : Nat) (fn : Nat)
  /-- SNAP_REQ (R382): Captures press time, positions, HWM, course and NEXT_RELEASE from one ENCS sample, and writes SNAP_SEQ last. -/
  | snapReq (dt : Nat) (fn : Nat)
  /-- TIME_NOW_LOW_READ (R382): A 32-bit read of the low word of TIME_NOW latches its high word for the next read. `rd` is which words are read, and by which function. -/
  | timeNowLowRead (dt : Nat) (rd : TimeRead × Nat)
  /-- STRIP_PIPELINE_DECODE (R119): A strip's last sample leaves the decompressor and its CRC and body checks are compared; a failure enters REST with cause DECODE. `pieces` are the pieces of the strip as the decompressor reads them; `memErr` says that a memory error was reported for its data. -/
  | stripPipelineDecode (dt : Nat) (w : Nat) (memErr : Bool) (pieces : List (List Nat))
  /-- MEMORY_ERROR (R125): An uncorrectable 144/128 word is read and the effect for its location is taken, with a CODE 0x0415 record. `target` 0 and 1 are the HBM stacks, 2 SRAM; `item` is what the word holds, where its address alone does not say it. -/
  | memoryError (dt : Nat) (w : Nat) (target : Nat) (addr : Nat) (item : MemUse)
  /-- SCRUB_REPORT (R124): At most once per second per stack and SRAM, a CODE 0x0414 record reports the corrections. `unit` 0 to 2 are the stacks and SRAM of Wythe 0, 3 to 5 those of Wythe 1; `words` are the 16-byte words, by number, that have been read with errors since, each with the bits of its 144 that differ from what was written, and with what its region holds there, where the address does not say it. -/
  | scrubReport (dt : Nat) (unit : Nat) (words : List (Nat × Nat × MemUse))
  /-- COURSE_RECORD (R27): Wythe 1 receives a course record and checks its sequence, fire time and lead, latching COURSE_SEQ on failure. -/
  | courseRecord (dt : Nat) (course : Nat) (fire : Nat)
  /-- TIE_REPLAY (R30): An uncorrectable Tie block is replayed; three failed replays enter REST with cause TIE. `failed` is how a block and its replays arrive. -/
  | tieReplay (dt : Nat) (failed : TieIn)
  /-- SEAM_DEADLINE_MISS (R30): A SEAM block misses its 1 µs deadline and the module enters REST with cause TIE. -/
  | seamDeadlineMiss (dt : Nat)
  /-- TIE_TRAINING_LOST (R30): The Tie loses training and the module enters REST with cause TIE. -/
  | tieTrainingLost (dt : Nat)
  /-- LOCKSTEP (R26): A Keystone lockstep mismatch puts the module in REST with cause LOCKSTEP latched. -/
  | lockstep (dt : Nat) (w : Nat)
  /-- LIFT_TOKEN (R241): Wythe 1's lift token arrives over SYNC, marking its level lift complete. -/
  | liftToken (dt : Nat) (lift : Nat)
  /-- COMMIT_TOKEN (R31): The commit token arrives at Wythe 1, which applies the set at course 256 × L if it came in time. -/
  | commitToken (dt : Nat)
  /-- LIFT_SCREENED (R22): Mortar completes every level of a firing lift, including the audit comparison of R179. `audit` says that the second screening of the audited band differs from the first (R179). -/
  | liftScreened (dt : Nat) (w : Nat) (lift : Nat) (audit : Bool)
  /-- COURSE_RELEASE (R239): A course's predicted fire time comes within 16 µs, and it is checked by R241 and released, or found unserved. -/
  | courseRelease (dt : Nat)
  /-- COURSE_FIRE (R66): A released course reaches its fire time: pending lift commits complete, and the state moves to PRINTING or READY at a job's first or last course. -/
  | courseFire (dt : Nat)
  /-- LIFT_BOUNDARY (R22): A lift starts firing: screening of the next lift begins with band assignment, density stepping, bands, NOZ.MAP and commit loads, and starvation tests run. `seam` are the entries of the seam copies that a fault of the hardware has changed since the last boundary. -/
  | liftBoundary (dt : Nat) (seam : List SeamUpset)
  /-- SPEED_LOOP_CYCLE (R254): Every 125 µs the loop measures r_c, moves the ramp, updates the lag and sets the speed reference and trim. -/
  | speedLoopCycle (dt : Nat)
  /-- OVERSPEED_CLEAR (R259): After 8 consecutive cycles at or below 0.99 × CRL, SPEED_CLAMP and OVERSPEED_WARN clear. -/
  | overspeedClear (dt : Nat)
  /-- WEB_AT_REST (R254): |r_c| stays below 0.001 × CRL for 160 cycles: the web is at rest and the hold phase advances. -/
  | webAtRest (dt : Nat)
  /-- CEILING (R263): v_top falls below 1.05 × MIN_FIRE_SPEED in PRINTING and hold trigger CEILING fires. -/
  | ceiling (dt : Nat)
  /-- RESUME_BEGIN (R265): Every resume condition holds with the web at rest at or behind B, and the hold moves to RESUMING. -/
  | resumeBegin (dt : Nat)
  /-- REJECT_EDGE (R270): REJECT switches on or off at the predicted time of a rejected sheet's gate positions. -/
  | rejectEdge (dt : Nat)
  /-- MARK_EDGE (R249): A filtered mark edge at HWM in PRINTING is matched to an expected mark and may update the bar's target trim, or is counted as a stray. `run` is what the mark input shows. -/
  | markEdge (dt : Nat) (run : MarkRun)
  /-- MARK_MISS (R249): A mark window closes without a match, and MISS_MAX consecutive misses freeze the bar. `k` is the mark sensor. -/
  | markMiss (dt : Nat) (k : Nat)
  /-- POSITION_CHANGE (R221): An accepted encoder count changes POSITION, is stamped, updates DIR, EXT and HWM, and drives ENC_OUT. `inp` is what the encoder input samples. -/
  | positionChange (dt : Nat) (enc : Nat) (inp : EncIn)
  /-- ILLEGAL_TRANSITION (R216): An illegal encoder transition holds POSITION, and the 17th in 10 ms latches ENC_FAULT reason 1. `a`, `b` and `run` are what the lines then show. -/
  | illegalTransition (dt : Nat) (enc : Nat) (a : Bool) (b : Bool) (run : Held)
  /-- RADIUS_FAULT (R220): Four consecutive sin/cos samples outside the radius window latch ENC_FAULT reason 3. `samples` are the ADC codes of the sin and cos pairs, oldest first. -/
  | radiusFault (dt : Nat) (enc : Nat) (samples : List (Int × Int))
  /-- INDEX (R222): A Z rising edge is accepted and latches INDEX_POS, or is recorded as an index error. `pins` is what the lines show as Z rises or falls. -/
  | index (dt : Nat) (enc : Nat) (pins : Pins)
  /-- MISSING_INDEX (R223): Forward travel reaches 2 × COUNTS_PER_REV + 2 without an index: error kind 4, and ENC_FAULT reason 6. -/
  | missingIndex (dt : Nat) (enc : Nat)
  /-- PAIR_STATUS_CHANGE (R224): An RS-422 pair holds a new status for 2 µs; a fault on the position source latches ENC_FAULT reason 2. `k` is the pair of the encoder, A, B or Z; `v` its voltages. The command comes as they change, and again once they have held for 2 µs. -/
  | pairStatusChange (dt : Nat) (enc : Nat) (k : Nat) (v : PairIn)
  /-- HALL_CHANGE (R227): A filtered hall code change is a boundary, an illegal code or a skip; measured sectors are tested for mismatch and reversal. `run` is what the hall lines show. -/
  | hallChange (dt : Nat) (run : HallRun)
  /-- CHECK_WINDOW (R229): A 65,536-count window of the position source ends and the check encoder's counts are compared with the tolerance. -/
  | checkWindow (dt : Nat)
  /-- SUPPLY_OVERLOAD (R478): A sensor supply held in its current limit for 10 ms switches off for 100 ms and retries. The command comes as a supply enters or leaves its limit, and again once it has been there for 10 ms. -/
  | supplyOverload (dt : Nat) (supply : SupplyIn)
  /-- FIELD_INPUT_CHANGE (R311): A field input's filtered level changes; the gate acts, and causes are raised or removed. `inp` is the bit of R312, `level` what its pin reads and `ua` the current it draws, in µA. The command comes as the pin changes, and again once it has held. -/
  | fieldInputChange (dt : Nat) (inp : Nat) (level : Bool) (ua : Nat)
  /-- ESTOP_DISC (R316): ESTOP_A and ESTOP_B differ for longer than ESTOP_DISC and cause ESTOP_DISC latches. -/
  | estopDisc (dt : Nat)
  /-- FIELD_SUPPLY (R316): V_FIELD stays below 19.2 V for 10 ms, or is reversed, and cause FIELD_SUPPLY is raised. `mv` is the voltage, negative when reversed. The command comes as it changes, and again once it has stood for 10 ms. -/
  | fieldSupply (dt : Nat) (mv : Int)
  /-- OUTPUT_FAULT (R313): An output reads on while commanded off for 1 ms, or stays in current limit for 10 ms. `kind` is how the output reads: 0 off, or on without limit as commanded; 1 on; 2 in current limit. The command comes as that changes, and again once it has held for 1 or 10 ms. -/
  | outputFault (dt : Nat) (output : Nat) (kind : Nat)
  /-- OPEN_LOAD (R313): An HV_EN output draws below 2 mA for 100 ms while on, and only a record is written. The command comes as the load current crosses 2 mA, and again once it has been below for 100 ms. -/
  | openLoad (dt : Nat) (load : LoadIn)
  /-- THERM_OK_CHANGE (R310): The hardware comparator drops THERM_OK at 112 °C, or raises it below 105 °C. -/
  | thermOkChange (dt : Nat) (tj : ThermIn)
  /-- WATCHDOG_KEY (R314): The Plumb monitor writes the watchdog key inside the 250–1,500 µs window. -/
  | watchdogKey (dt : Nat)
  /-- WATCHDOG (R314): A late, early or wrong key write, or no write, drops WDOG_OK and latches WATCHDOG. `wrong` says that a write with another value or outside the window came; else none came. -/
  | watchdog (dt : Nat) (wrong : Bool)
  /-- HEARTBEAT_SCAN (R315): Every 1 ms the monitor reads the engine heartbeats and registers ENGINE_STALL for one stalled 5 ms. `beats` are the engines and the heartbeat values read. -/
  | heartbeatScan (dt : Nat) (beats : List (Nat × Nat))
  /-- ALIVE_TICK (R41): ALIVE increments every 1 ms while the Keystone runs. -/
  | aliveTick (dt : Nat)
  /-- LANE_RX_ALIGNED (R302): A lane receiver becomes ALIGNED in DOWN, and DISCOVER starts. `l` is the lane. -/
  | laneRxAligned (dt : Nat) (l : Nat)
  /-- LANE_RX_UNALIGNED (R281): A lane receiver becomes UNALIGNED; IDENT or DELAY return to DOWN. `l` is the lane. -/
  | laneRxUnaligned (dt : Nat) (l : Nat)
  /-- HELLO (R302): A HELLO with PROTO 0x01 records the node and starts 16 ECHOs. `len` and `bits` are the unit on the line: how many bits, and the bits, the first in bit 0. -/
  | hello (dt : Nat) (l : Nat) (len : Nat) (bits : Nat)
  /-- IDENT_TIMEOUT (R302): 1 ms passes in IDENT without a valid HELLO, and the lane returns to DOWN. `l` is the lane. -/
  | identTimeout (dt : Nat) (l : Nat)
  /-- ECHO_REPLY (R291): An ECHO_REPLY gives an RTT sample for d_f; after 16 replies the lane enters UP or fails. `len` and `bits` are the unit on the line, `rtt` the measured round-trip time in ps. -/
  | echoReply (dt : Nat) (l : Nat) (len : Nat) (bits : Nat) (rtt : Nat)
  /-- DELAY_TIMEOUT (R302): Echo replies are still missing after 1 ms in DELAY, and the lane returns to DOWN. `l` is the lane. -/
  | delayTimeout (dt : Nat) (l : Nat)
  /-- STATUS_UNIT (R299): A STATUS unit arrives, is stamped, and is checked for lease, alignment and identity. `len` and `bits` are the unit on the line: how many bits, and the bits, the first in bit 0. -/
  | statusUnit (dt : Nat) (l : Nat) (len : Nat) (bits : Nat)
  /-- TEMPS_UNIT (R301): A TEMPS unit arrives and its head temperatures pass to Coping. `len` and `bits` are the unit on the line: how many bits, and the bits, the first in bit 0. -/
  | tempsUnit (dt : Nat) (l : Nat) (len : Nat) (bits : Nat)
  /-- STATUS_TIMEOUT (R303): No valid STATUS arrives on an UP lane for 100 µs. `l` is the lane. -/
  | statusTimeout (dt : Nat) (l : Nat)
  /-- UNALIGNED_TIMEOUT (R303): An UP lane's receiver stays UNALIGNED for 2 µs. `l` is the lane. -/
  | unalignedTimeout (dt : Nat) (l : Nat)
  /-- LOST_TIMEOUT (R302): 10 ms after loss the lane transmits IDLE and returns to DOWN. `l` is the lane. -/
  | lostTimeout (dt : Nat) (l : Nat)
  /-- DISCOVERY (R203): After a LANE_TABLE commit every enabled lane is UP, or 200 ms have passed, and discovery builds the bond. -/
  | discovery (dt : Nat)
  /-- TIME_SEND (R290): At least every 50 µs a TIME unit carrying ARRIVAL is sent on each UP lane. `l` is the lane. -/
  | timeSend (dt : Nat) (l : Nat)
  /-- ECHO_SEND (R291): Once per second an ECHO is sent on each UP lane. `l` is the lane. -/
  | echoSend (dt : Nat) (l : Nat)
  /-- DISCOVER_SEND (R302): Every 100 µs in IDENT a DISCOVER is sent. `l` is the lane. -/
  | discoverSend (dt : Nat) (l : Nat)
  /-- RENEW_SEND (R297): Every 1 ms a LEASE RENEW is sent on every UP lane of each held node. `id` is the node. -/
  | renewSend (dt : Nat) (id : Nat)
  /-- ACQUIRE_RETRY (R297): A refused ACQUIRE is repeated every T_LEASE, with a record. `id` is the node. -/
  | acquireRetry (dt : Nat) (id : Nat)
  /-- REST_SEND (R298): Every 100 µs in REST or FAULT a LEASE REST is sent on the held lanes. -/
  | restSend (dt : Nat)
  /-- NODE_FRAME (R286): A node checks a received FRAME, renews the lease and queues it, or discards and counts it. `id` is the node, `port` and `k` the port and lane at which the unit arrives; `len` and `bits` are the unit on the line: how many bits, and the bits, the first in bit 0. -/
  | nodeFrame (dt : Nat) (id : Nat) (port : Nat) (k : Nat) (len : Nat) (bits : Nat)
  /-- NODE_RENEW (R294): A node receives LEASE RENEW from its holder and renews E. `id` is the node, `port` and `k` the port and lane at which the unit arrives; `len` and `bits` are the unit on the line: how many bits, and the bits, the first in bit 0. -/
  | nodeRenew (dt : Nat) (id : Nat) (port : Nat) (k : Nat) (len : Nat) (bits : Nat)
  /-- NODE_ACQUIRE (R295): A node grants or refuses an ACQUIRE and sets ACQ_RESULT. `id` is the node, `port` and `k` the port and lane at which the unit arrives; `len` and `bits` are the unit on the line: how many bits, and the bits, the first in bit 0. -/
  | nodeAcquire (dt : Nat) (id : Nat) (port : Nat) (k : Nat) (len : Nat) (bits : Nat)
  /-- NODE_RELEASE (R295): A node receives RELEASE, freezes E and keeps its queue and pending rows. `id` is the node, `port` and `k` the port and lane at which the unit arrives; `len` and `bits` are the unit on the line: how many bits, and the bits, the first in bit 0. -/
  | nodeRelease (dt : Nat) (id : Nat) (port : Nat) (k : Nat) (len : Nat) (bits : Nat)
  /-- NODE_REST (R296): A node receives LEASE REST, discards every queued frame and pending row, and renews its lease. `id` is the node, `port` and `k` the port and lane at which the unit arrives; `len` and `bits` are the unit on the line: how many bits, and the bits, the first in bit 0. -/
  | nodeRest (dt : Nat) (id : Nat) (port : Nat) (k : Nat) (len : Nat) (bits : Nat)
  /-- NODE_CANCEL (R296): A node receives CANCEL and discards the unfired frames from COURSE_LO onward. `id` is the node, `port` and `k` the port and lane at which the unit arrives; `len` and `bits` are the unit on the line: how many bits, and the bits, the first in bit 0. -/
  | nodeCancel (dt : Nat) (id : Nat) (port : Nat) (k : Nat) (len : Nat) (bits : Nat)
  /-- NODE_CONFIG (R305): A node applies, or refuses and counts, a CONFIG block of row staggers. `id` is the node, `port` and `k` the port and lane at which the unit arrives; `len` and `bits` are the unit on the line: how many bits, and the bits, the first in bit 0. -/
  | nodeConfig (dt : Nat) (id : Nat) (port : Nat) (k : Nat) (len : Nat) (bits : Nat)
  /-- NODE_TIME (R290): A node loads ARRIVAL from a TIME unit of its source port and records TIME_ERR. `id` is the node, `port` and `k` the port and lane at which the unit arrives; `len` and `bits` are the unit on the line: how many bits, and the bits, the first in bit 0. -/
  | nodeTime (dt : Nat) (id : Nat) (port : Nat) (k : Nat) (len : Nat) (bits : Nat)
  /-- NODE_ECHO (R291): A node replies to an ECHO with ECHO_REPLY within 10 µs. `id` is the node, `port` and `k` the port and lane at which the unit arrives; `len` and `bits` are the unit on the line: how many bits, and the bits, the first in bit 0. `turn` is the time after which the reply falls due, in line bits. -/
  | nodeEcho (dt : Nat) (id : Nat) (port : Nat) (k : Nat) (len : Nat) (bits : Nat) (turn : Nat)
  /-- NODE_DISCOVER (R300): A node answers a DISCOVER with HELLO within 100 µs. `id` is the node, `port` and `k` the port and lane at which the unit arrives; `len` and `bits` are the unit on the line: how many bits, and the bits, the first in bit 0. -/
  | nodeDiscover (dt : Nat) (id : Nat) (port : Nat) (k : Nat) (len : Nat) (bits : Nat)
  /-- NODE_LEASE_EXPIRY (R295): A node's press time reaches E, and it discards its queue and goes FREE, setting EXPIRED for a live lease. -/
  | nodeLeaseExpiry (dt : Nat) (id : Nat)
  /-- NODE_ROW_FIRE (R287): A row's firing instant arrives, and the node strobes its codes if R296 permits. -/
  | nodeRowFire (dt : Nat) (id : Nat) (head : Nat) (row : Nat)
  /-- NODE_STATUS_SEND (R301): Every 25 µs, and within 5 µs of a change, a node sends STATUS on each ALIGNED lane. -/
  | nodeStatusSend (dt : Nat) (id : Nat) (port : Nat) (k : Nat)
  /-- NODE_TEMPS_SEND (R301): Every 1 ms a node sends TEMPS on the lowest ALIGNED lane of each port. `temps` are the temperatures of its heads in 1/16 °C. -/
  | nodeTempsSend (dt : Nat) (id : Nat) (port : Nat) (temps : List Int)
  /-- NODE_RESET (R295): A node reset empties its queues, sets e = 0 and makes it FREE. `lanesA`, `lanesB`, `heads` and `maxK` are the strapping of the node board (R292, R299). -/
  | nodeReset (dt : Nat) (id : Nat) (lanesA : Nat) (lanesB : Nat) (heads : List Nat) (maxK : Nat)
  /-- BEAT (R331): A BEAT arrives; a standby follows the ACTIVE's state and hold phase. `role`, `op` and `phase` are PAIR_ROLE, OP_STATE and the hold phase of the sender, `unit` the rest of what it carries. -/
  | beat (dt : Nat) (side : Nat) (role : Nat) (op : Nat) (phase : Nat) (unit : BeatIn)
  /-- BEAT_SEND (R327): A BEAT takes the next unit boundary on a lane 10 µs after the last. -/
  | beatSend (dt : Nat) (side : Nat)
  /-- BUTTRESS_LINK_DOWN (R326): Fewer than 2 lanes are UP, or no BEAT has arrived for 20 µs, and the link goes DOWN. `lanes` are the lanes whose receiver is still ALIGNED. -/
  | buttressLinkDown (dt : Nat) (side : Nat) (lanes : Nat)
  /-- BUTTRESS_LINK_UP (R326): At least 2 lanes of the Buttress link are UP and the link goes UP. `lanes` are the lanes whose receiver is now ALIGNED. -/
  | buttressLinkUp (dt : Nat) (side : Nat) (lanes : Nat)
  /-- MIRROR (R334): A MIRROR unit of epoch L is written into bank L mod 2. -/
  | mirror (dt : Nat) (lift : Nat) (item : Nat) (off : Nat) (bytes : List Nat)
  /-- EPOCH_END (R334): EPOCH_END completes an epoch if UNITS and ECRC match, and the standby applies it. -/
  | epochEnd (dt : Nat) (lift : Nat) (units : Nat) (ecrc : Nat)
  /-- PROGRESS (R328): The standby receives the PROGRESS of a released course and fails any epoch left incomplete. -/
  | progress (dt : Nat) (course : Nat)
  /-- HANDOVER (R340): The standby receives HANDOVER, giving F_DONE and ONE_MORE for takeover or swap. -/
  | handover (dt : Nat) (fDone : Nat) (oneMore : Bool) (cause : Nat)
  /-- MSG (R332): A forwarded command, acknowledgement or resynchronisation control arrives over Buttress. -/
  | msg (dt : Nat) (side : Nat) (unit : BMsg)
  /-- FORWARD_ACK_TIMEOUT (R332): A forwarded command is not acknowledged within 1 ms; it completes with WARN and MIRROR_OK clears. `ch` and `slot` are where the command was submitted. -/
  | forwardAckTimeout (dt : Nat) (ch : Nat) (slot : Nat)
  /-- GSYNC (R356): A gang GSYNC carries tokens, stop announcements, SETTLED, ceilings, trim targets or base fire times, and is forwarded along the chain. -/
  | gsync (dt : Nat) (side : Nat) (unit : GMsg)
  /-- GTIME (R358): A GTIME echo measures the press-time offset to a neighbour or partner. `echo` is the answer to an echo, where the unit is no request. -/
  | gtime (dt : Nat) (side : Nat) (request : Bool) (echo : GEcho)
  /-- GSEAM (R355): A neighbour's overlap levels arrive for a course. `levels` is the body of the unit: the 16 levels of each of 12 channels or, 257 numbers long, a bar and the 128 states and 128 density codes of its overlap nozzles, row after row, from the lift of `course` on; `crc`, where the unit brings one instead, is the CRC-32C of the copies that the neighbour holds of ours. -/
  | gseam (dt : Nat) (side : Nat) (course : Nat) (levels : List Nat) (crc : Option Nat)
  /-- OFFSET_MEASURE (R358): Every 1 ms neighbours start a GTIME offset measurement. -/
  | offsetMeasure (dt : Nat)
  /-- PAIR_FORMATION (R330): Two ISOLATED modules meet the formation conditions and become ACTIVE and STANDBY. The operands are the partner's pair digest, firmware version, press-time offset in ns and PREFER. -/
  | pairFormation (dt : Nat) (digest : Nat) (fw : Nat) (offset : Int) (prefer : Bool)
  /-- RESYNC (R337): With MIRROR_OK clear and the link UP, the ACTIVE sends the standby a full state copy. -/
  | resync (dt : Nat)
  /-- TAKEOVER (R338): A standby meets the takeover conditions, acquires every node and enters HOLDING with trigger PARTNER. -/
  | takeover (dt : Nat)
  /-- ACQUIRE_TIMEOUT (R341): Not every node grants within 2 ms; granted leases are released and the module becomes ISOLATED. -/
  | acquireTimeout (dt : Nat)
  /-- SWAP_AT_READY (R345): A pending AT_READY swap runs when the module next enters READY. -/
  | swapAtReady (dt : Nat)
  /-- AUTO_SWAP (R347): SINCE_SWAP has reached SWAP_INTERVAL and the ACTIVE performs a NOW swap at the next READY with no started job. -/
  | autoSwap (dt : Nat)
  /-- SINCE_SWAP_TICK (R347): Each second of PRINTING increments SINCE_SWAP, and at 72 h UNPROVEN is set. -/
  | sinceSwapTick (dt : Nat)
  /-- HEARTBEAT_SEND (R360): Every 5 ms a UDP heartbeat datagram is sent to HB_IPV4. -/
  | heartbeatSend (dt : Nat)
  /-- HEARTBEAT_DATAGRAM (R360): A heartbeat datagram arrives and sets HB_OK. `fields` are what the datagram carries. -/
  | heartbeatDatagram (dt : Nat) (member : Nat) (fields : List Nat)
  /-- HB_OK_TIMEOUT (R360): 20 ms pass without a heartbeat datagram and HB_OK clears. -/
  | hbOkTimeout (dt : Nat)
  /-- SYNC (R365): A PTP Sync message is received and stamped, or sent as master. `p` is the port, `m` names the message, `sent` says that the module sends the message, `t1` is the departure a one-step message carries. -/
  | sync (dt : Nat) (p : Nat) (sent : Bool) (m : PtpId) (t1 : Option Nat)
  /-- FOLLOW_UP (R365): A PTP Follow_Up message is received. `p` is the port. -/
  | followUp (dt : Nat) (p : Nat) (sent : Bool) (m : PtpId) (t1 : Nat)
  /-- DELAY_REQ (R365): A PTP Delay_Req is sent on its interval, or answered as master. `p` is the port. -/
  | delayReq (dt : Nat) (p : Nat) (sent : Bool) (m : PtpId)
  /-- DELAY_RESP (R367): A PTP Delay_Resp completes an E2E exchange and forms an offset sample. `p` is the port. -/
  | delayResp (dt : Nat) (p : Nat) (m : PtpId) (t4 : Nat)
  /-- PDELAY_REQ (R365): A PTP Pdelay_Req is sent or answered. `p` is the port, `turn` the ns until the answer leaves. -/
  | pdelayReq (dt : Nat) (p : Nat) (sent : Bool) (m : PtpId) (turn : Nat)
  /-- PDELAY_RESP (R365): A PTP Pdelay_Resp is received. `p` is the port. -/
  | pdelayResp (dt : Nat) (p : Nat) (m : PtpId) (t2 : Nat) (t3 : Option Nat)
  /-- PDELAY_RESP_FOLLOW_UP (R367): A PTP Pdelay_Resp_Follow_Up completes the peer delay measurement. `p` is the port. -/
  | pdelayRespFollowUp (dt : Nat) (p : Nat) (m : PtpId) (t3 : Nat)
  /-- ANNOUNCE (R365): A PTP Announce is received and the best master clock algorithm runs. `p` is the port, `fields` the data set that a message heard carries (log entry 31). -/
  | announce (dt : Nat) (p : Nat) (io : AnnounceIo) (fields : List Nat)
  /-- ARP (R365): An ARP request on a port's IPv4 address is answered. `p` is the port, `addr` the address asked for. -/
  | arp (dt : Nat) (p : Nat) (addr : Nat)
  /-- ICMP_ECHO (R365): An ICMP echo on a port's IPv4 address is answered. `p` is the port, `addr` the address asked. -/
  | icmpEcho (dt : Nat) (p : Nat) (addr : Nat)
  /-- ANNOUNCE_TIMEOUT (R368): Announce receipt times out, the PTP port has no link, or no PPS_IN edge comes for 1.5 s, and the servo enters HOLDOVER for LOST. -/
  | announceTimeout (dt : Nat)
  /-- STEP_APPLY (R371): At the next 125,000 ns boundary a step D is added to press time on both wythes, and stamps and cycles are adjusted. -/
  | stepApply (dt : Nat)
  /-- RTC_COPY (R364): While TIME_VALID is 1, press time is copied into the real-time clock once per second. -/
  | rtcCopy (dt : Nat)
  /-- PPS_IN_EDGE (R379): A PPS_IN rising edge is stamped and PPS_ERR updated, as a servo sample or monitor. -/
  | ppsInEdge (dt : Nat)
  /-- PPS_OUT (R378): PPS_OUT rises at each whole second of press time while TIME_VALID is 1. -/
  | ppsOut (dt : Nat)
  /-- REF10_LOST (R380): CLK_IN10M stops or is out of frequency; REF10_OK clears and the PLL holds. -/
  | ref10Lost (dt : Nat)
  /-- REF10_RESTORED (R380): After 1 s of valid CLK_IN10M, REF10_OK sets again. -/
  | ref10Restored (dt : Nat)
  /-- CAM_PULSE (R377): A periodic camera pulse falls due per course or per press time. `k` is the camera trigger, `course` the course just passed. -/
  | camPulse (dt : Nat) (k : Nat) (course : Nat)
  /-- CHAIN_FRAME_START (R385): Every 27.0 ms a lamp frame built from the values in force starts on all four chains. -/
  | chainFrameStart (dt : Nat)
  /-- CHAIN_RETURN_END (R394): A frame's return ends: channel STATUS, loss of return and driver LIMIT and OFF_HOT are evaluated. `words` are the diagnosis words received, in driver order, none where none came, and `ended` how long after the frame began the last of them ended, in ns. -/
  | chainReturnEnd (dt : Nat) (chain : Nat) (words : List (Option Nat)) (ended : Nat)
  /-- CHAIN_REST_FRAME (R392): 100 µs after entry to REST an all-off frame starts and the schedule is re-based. -/
  | chainRestFrame (dt : Nat)
  /-- DRIVER_LATCH (R387): A lamp driver sees a reset at its input and latches its share if SCRC matches. `driver` is 64 × chain + driver, `inp` what the driver sees at its input and measures. -/
  | driverLatch (dt : Nat) (driver : Nat) (inp : ChainIn)
  /-- DRIVER_SHARE_TIMEOUT (R387): A lamp driver with no share latched for 100 ms switches all its channels off. -/
  | driverShareTimeout (dt : Nat) (driver : Nat)
  /-- MATRIX_ROW_SLOT (R400): A matrix row slot starts with blanking, a pin-pair test, then the row's column currents. `ohm` is the resistance between the pins of the pair tested, `ua` what the 16 columns draw, in µA. -/
  | matrixRowSlot (dt : Nat) (ohm : Nat) (ua : List Nat)
  /-- ROW_OVERCURRENT (R401): A matrix row switch above 350 mA for 10 µs is switched off and latched. The command comes as the current of a row switch changes, and again once it has stood for 10 µs. -/
  | rowOvercurrent (dt : Nat) (sw : RowIn)
  /-- SENSOR_SAMPLE (R412): Every 10 ms Coping samples every sensor, judges failures, evaluates the excess and bands, and may change the throttle step. `temps` are the readings in 1/16 °C, none where no conversion completed; `pMeas` the power; `tj0` and `tj1` the hardware diodes. -/
  | sensorSample (dt : Nat) (temps : List (Option Int)) (pMeas : Nat) (tj0 : Option Int) (tj1 : Option Int)
  /-- CAL_RUN_END (R421): A calibration run ends and its trims are applied if plausible or discarded. `trims` are the trims found, each as its place in its range of 65,536, `quality` the quality figure, and `diff` the mean difference of the two ADC cores in LSB (R419). -/
  | calRunEnd (dt : Nat) (block : Nat) (trims : List Nat) (quality : Nat) (diff : Nat)
  /-- REFERENCE_COMPARE (R422): At BOOT and every hour the 0.1 % reference is compared with the bandgap, setting or clearing REF_SUSPECT. `diff` is the difference in 0.01 %. -/
  | referenceCompare (dt : Nat) (diff : Int)
  /-- HARDWARE_SHUTDOWN (R417): A hardware diode reads 115 °C and D2–D11 are switched off within 50 µs with THERMAL latched. `w` is the wythe of the diode, `tj` its temperature in 1/16 °C. -/
  | hardwareShutdown (dt : Nat) (w : Nat) (tj : Int)
  /-- THERMAL_RESTART (R418): 10 s after a shutdown, with both diodes below 90 °C and no LOCKOUT, the main domains restart. `t0` and `t1` are what the hardware diodes read, in 1/16 °C. -/
  | thermalRestart (dt : Nat) (t0 : Int) (t1 : Int)
  /-- STATUS_MIRROR_COPY (R425): Every 10 ms the thermal and Plinth status is copied to BAR0 0x4_0000 as one record. -/
  | statusMirrorCopy (dt : Nat)
  /-- LOG_COMMIT (R438): 20 ms after arrival, records are committed to the event log in stamp order, with the next LOG_SEQ. -/
  | logCommit (dt : Nat)
  /-- TAMPER (R441): A tamper loop opening lasting 10 ms increments TAMPER_COUNT and writes a record. -/
  | tamper (dt : Nat)
  /-- FLASH_REFRESH (R460): Five years after the last refresh, or after a keep reset, the Plinth rewrites every flash sector. `bad` are the images whose CRC fails: 0 and 1 main A and B, 2 and 3 Plinth A and B. -/
  | flashRefresh (dt : Nat) (bad : List Nat)
  /-- QUANTA_LOST_REPORT (R201): At most once per second, a CODE 0x0702 record reports lost quanta per wythe. -/
  | quantaLostReport (dt : Nat) (w : Nat)
  /-- SATURATION_REPORT (R175): At most once per second per wythe, a CODE 0x1003 record reports saturating diffusion additions. -/
  | saturationReport (dt : Nat) (w : Nat)
  /-- ETHERNET_LINK (R365): An Ethernet port gains or loses its 1000BASE-T link, which moves the ordinary clock and the heartbeat between port 0 and port 1. `p` is the port. -/
  | ethernetLink (dt : Nat) (p : Nat) (up : Bool)
  /-- NODE_RECEIVER_ALIGNMENT (R281): A node's lane receiver becomes ALIGNED or UNALIGNED, changing RX_OK_A/RX_OK_B, its TIME source port and its transmit clock, and prompting a STATUS within 5 µs. -/
  | nodeReceiverAlignment (dt : Nat) (id : Nat) (port : Nat) (k : Nat) (ok : Bool)
  /-- HEAD_FAULT (R301): A head behind a node reports a fault, or stops reporting one, and the node sends STATUS within 5 µs with HEAD_FAULT and FAULT_HEAD. -/
  | headFault (dt : Nat) (id : Nat) (head : Nat) (faulty : Bool)
  /-- NODE_TIME_OK_TIMEOUT (R290): 200 µs pass at a node without a TIME from its source port, and TIME_OK falls to 0 so that later frames are counted LATE. -/
  | nodeTimeOkTimeout (dt : Nat) (id : Nat)
  /-- UNKNOWN_VERB (R56): A doorbell names a slot whose VERB no chapter lists, and the command returns UNSUPPORTED. `verb` is the VERB that no chapter lists. -/
  | unknownVerb (dt : Nat) (verb : Nat) (m : Mbox)
  /-- UNKNOWN_OP (R430): A Zarnetrum request carries an OP that no command defines, and it is answered with UNSUPPORTED. `op` is the OP code. -/
  | unknownOp (dt : Nat) (r : ZReq) (op : Nat)
  /-- REQUEST_DISCARDED (R429): A Zarnetrum request with a bad CRC-8 or PEC, with LEN above 56, or without a required PEC is discarded unanswered, and the next read returns PENDING with TAG 0. `frame` is the request as its bus received it. -/
  | requestDiscarded (dt : Nat) (frame : ZFrame)
  /-- ILLEGAL_TRANSITION_REPORT (R216): At most once per second per encoder, while ILLEGAL_TRANSITION counts have moved, a CODE 0x1101 record carries the number since the previous record. -/
  | illegalTransitionReport (dt : Nat) (enc : Nat)
  /-- HALL_REPORT (R227): At most once per second, while HALL_ILLEGAL or HALL_SKIPS have moved, a CODE 0x1106 record carries both counts since the previous record. -/
  | hallReport (dt : Nat)
  /-- ACTION_PULSE_END (R77): The width of an OUT_PULSE, CAM_PULSE or REJECT_PULSE action runs out and the output returns to its idle level. `output` 14 REJECT, 15 GP_OUT0, 16 onward CAM_TRIG0 to 3. -/
  | actionPulseEnd (dt : Nat) (output : Nat)
  deriving DecidableEq, Repr

end Sys2Proof
end

