-- ==== Sys2Proof/Decode.lean ====
section
/-! DEFINITION. The commands that table words spell: none, since opcode_table.json gives no row any bits. The host's accesses reach the
block as operands of the commands themselves. -/

namespace Sys2Proof

/-- The command that a word spells by the table's bits (log entry 14): the table gives no bits, so no word spells one. -/
def decodeTableWord (_nbits _w : Nat) : Option Instr := none

end Sys2Proof
end

