-- ==== Sys2Proof/Config.lean ====
section
/-! DEFINITION. What the spec leaves open: free values, of which nothing can be proved. -/

namespace Sys2Proof.Config

/-- Values the spec leaves undefined after which the machine goes on (R101, R13; log entry 1).
The argument is the counter `State.freeCtr`, so that each use is a fresh value. -/
opaque free : Nat → Nat

/-- The 32-bit DETAIL and 128-bit DATA of an event record whose fields a chapter names without giving their bits
(R59; log entry 18), from the event code, the detail and the named quantities. -/
opaque packEvent : Nat → Int → List Int → Nat

/-- The 48 DATA bytes of a response whose fields a chapter names without giving their bytes (R348, R353, R375; log
entry 30), as one number, from the verb code and the named quantities. -/
opaque packData : Nat → List Int → Nat

/-- What the offset and gain corrections of an encoder's sin or cos channel make of a 14-bit ADC code, in µV (R218, R420; log
entry 97): from the encoder, the ADC core that runs and its trims, whether it is the cos channel, and the code. -/
opaque adcMicrovolts : Nat → Nat → List Nat → Bool → Int → Int

/-- The 32-bit flag word of a course record, whose content no rule gives (R27; log entry 103), from the course. -/
opaque courseFlags : Nat → Nat

end Sys2Proof.Config
end

