-- ==== Sys2Proof/Machine/State.lean ====
section
/-! DEFINITION. Everything the spec gives the FJ2812-64 to remember, as plain data, and its value after reset. -/

namespace Sys2Proof.Machine

open Sys2Proof

/-- A byte memory: addresses strictly rising, no zero byte listed; an unlisted address reads 0 (log entry 6). -/
abbrev Mem := List Host.Cell

/-- A large table of numbers: every index reads `dflt` unless `cells` lists it.
Indexes strictly rise and no listed value equals `dflt`. -/
structure SMap where
  dflt  : Nat
  cells : List (Nat × Nat) := []
  deriving DecidableEq, Repr

/-- An exact rational quantity: `n / d`, with `d` positive. -/
structure Frac where
  n : Int := 0
  d : Nat := 1
  deriving DecidableEq, Repr

/-- The operating states of R9, coded by R42. -/
inductive OpState where
  | off | standby | boot | rest | ready | printing | holding | fault
  deriving DecidableEq, Repr

/-- The states of a DMA channel (R82, R83). -/
inductive ChState where
  | idle | running | aborting | stopped | draining
  deriving DecidableEq, Repr

/-- The status of an RS-422 pair (R224). -/
inductive PairStatus where
  | valid | opened | short | marginal | commonMode | unused
  deriving DecidableEq, Repr

/-- The hold phases of R268. -/
inductive HoldPhase where
  | none | stopping | reverseWait | reversing | backed | resuming | waiting
  deriving DecidableEq, Repr

/-- The states of an Ndeig lane (R302). -/
inductive LaneState where
  | off | down | ident | delay | up | lost
  deriving DecidableEq, Repr

/-- The pair roles of R329; `none` while no PAIR section is in force. -/
inductive PairRole where
  | none | active | standby | isolated
  deriving DecidableEq, Repr

/-- The servo states of R368. -/
inductive Servo where
  | free | acquiring | locked | holdover
  deriving DecidableEq, Repr

/-- A command area as copied when its doorbell was taken (R47, R49). -/
structure QCmd where
  /-- Slot of the channel (R47). -/
  slot   : Nat := 0
  /-- VERB (R47). -/
  verb   : Nat := 0
  /-- TAG (R47). -/
  tag    : Nat := 0
  /-- PHASE, returned in the response (R47). -/
  phase  : Bool := false
  /-- AT_ONCE (R47). -/
  atOnce : Bool := false
  /-- NOTIFY (R47). -/
  notify : Bool := false
  /-- Reserved bits 35 to 39 (R47). -/
  rsvd5  : Nat := 0
  /-- ARG_LEN (R47). -/
  argLen : Nat := 0
  /-- Reserved bits 48 to 63 (R47). -/
  rsvd16 : Nat := 0
  /-- The 56 argument bytes (R47). -/
  args   : List Nat := []
  /-- The fetch from host memory that the verb makes fails (R81; log entry 93). -/
  fetchFail : Bool := false
  /-- First column of the job that the verb opens (R73; log entry 15). -/
  first  : Nat := 0
  /-- Columns of the job that the verb opens (R73; log entry 15). -/
  width  : Nat := 120992
  /-- The verb has acted and its response waits. Implied by the rules, not a register. -/
  acted  : Bool := false
  /-- Forwarded by the partner or by member 0 (R31, R332). -/
  remote : Bool := false
  /-- What a forwarded command brings beside its arguments: its lift or boundary, and the entries of DENS.UPDATE and NOZ.MAP (R332). -/
  carried : List Nat := []
  deriving DecidableEq, Repr

/-- Where the samples of a received source line are (R94, R122). -/
inductive LineAt where
  /-- Nowhere. -/
  | lost
  /-- In job space, raw: offset in the region of its fluid. -/
  | raw (off : Nat)
  /-- In job space, in the strips of a batch: those of one SOURCE descriptor, or of one block of lines that the module compressed. -/
  | strips (batch : Nat)
  /-- In the compressor's staging: the 16-bit samples. -/
  | staged (samples : List Nat)
  deriving DecidableEq, Repr

/-- What the module sends out, kept so that claims can name it. -/
inductive Out where
  /-- An MSI-X message of a function and vector (R45). -/
  | msix (fn vec addr data : Nat)
  /-- A unit whose transmission on an Ndeig lane begins: lane, kind, SEQ, the 128-bit data words of its blocks, and what goes over
  the line: so many bits, the first in bit 0 (R276 to R280, R282), driven with the taps FFE_PRE, FFE_MAIN and FFE_POST (R275). -/
  | lane (lane kind seq : Nat) (data : List Nat) (len bits : Nat) (taps : List Nat)
  /-- IDLE units on an Ndeig lane before the next unit: how many, and the SEQ of the last (R276). -/
  | idle (lane count seq : Nat)
  /-- A unit sent by a node: node, port, node lane, kind, SEQ, data words and line bits, as on a lane of the module. -/
  | node (node port lane kind seq : Nat) (data : List Nat) (len bits : Nat)
  /-- IDLE units on a lane of a node: node, port, node lane, how many, and the SEQ of the last. -/
  | nodeIdle (node port lane count seq : Nat)
  /-- A strobe of one row of one head: node, head, row, node press time, waveform and the codes that fire (R287). -/
  | strobe (node head row time wave : Nat) (codes : List (Nat × Nat))
  /-- A Buttress unit: side (0 East, 1 West), kind and its fields, of a BEAT its lane first (R327). -/
  | butt (side kind : Nat) (fields : List Int)
  /-- A unit on the Tie (R29): sending wythe, class and fields. -/
  | tie (from_ cls : Nat) (fields : List Int)
  /-- An Ethernet message: port, kind and its fields (R365). -/
  | eth (port kind : Nat) (fields : List Int)
  /-- What a host read returned: function, offset, value, and whether it was poisoned. -/
  | read (fn off value : Nat) (poison : Bool)
  /-- The level that an output pin takes: OUT0 to OUT15 are pins 0 to 15, CAM_OUT0 to 3 pins 16 to 19, PPS_OUT pin 20. -/
  | pin (pin : Nat) (level : Bool)
  /-- A level that ENC_OUT_A, B or Z (0 to 2) takes at an up-time in ns (R231, R232). -/
  | encOut (line time : Nat) (level : Bool)
  /-- A lamp frame of a chain (R384, R385): chain, and for each slot of 100 CORB clocks how many of them the line is high. -/
  | chain (chain : Nat) (highs : List Nat)
  /-- What an external lamp driver sends on: 64 × chain + driver, and its slots as on the chain (R387). -/
  | driver (driver : Nat) (highs : List Nat)
  /-- A row slot of the indicator matrix (R400, R403): row, the blanking in µs, the pin pair tested in it, and the sink codes of the
  columns. -/
  | matrix (row blank pair : Nat) (cols : List Nat)
  deriving DecidableEq, Repr

/-- One configuration section's stored copy (R61, R511). -/
structure Sec where
  /-- Bytes (R511). Implied by the rule, not a register. -/
  len : Nat := 0
  /-- Byte map (R62). Implied by the rule, not a register. -/
  mem : Mem := []
  /-- 1 bit: stored copy holds an uncorrectable word (R125). Implied by the rule, not a register. -/
  bad : Bool := false
  deriving DecidableEq, Repr

/-- Response area of a mailbox slot (R48). -/
structure Rsp where
  /-- 16 (R48). -/
  verb : Nat := 0
  /-- 16 (R48). -/
  tag : Nat := 0
  /-- 1 (R48). -/
  phase : Bool := false
  /-- 1 (R48). -/
  readAgain : Bool := false
  /-- 1 (R48). -/
  lateMark : Bool := false
  /-- 1 (R48). -/
  warn : Bool := false
  /-- 8, reset PENDING (R48). -/
  result : Nat := 1
  /-- 16 (R48). -/
  detail : Nat := 0
  /-- 64 (R48). -/
  stamp : Nat := 0
  /-- 48 bytes, missing bytes 0 (R48). -/
  data : List Nat := []
  deriving DecidableEq, Repr

/-- One mailbox channel (R46, R50). -/
structure Chan where
  /-- 64 x 64 bytes CMD_SLOT, reset undefined (R46). DESIGN CHOICE (log entry 2): the reset value. -/
  area : Mem := []
  /-- 64 RSP_SLOTs, unlisted = R48 reset (R46). -/
  rsp : List (Nat × Rsp) := []
  /-- 64 (R46). -/
  complete : BitVec 64 := 0
  /-- Up to 64; head is running when running (R50). -/
  queue : List QCmd := []
  /-- Place of each command of the queue in the order in which the doorbells were taken (R55). Implied by the rule, not a register. -/
  order : List Nat := []
  /-- 1 (R46). -/
  running : Bool := false
  /-- 1 (R46). -/
  dbBusy : Bool := false
  /-- 2 (R46). -/
  irqMode : Nat := 0
  /-- The running command completes without writing its response (R454). Implied by the rule, not a register. -/
  mute : Bool := false
  deriving DecidableEq, Repr

/-- An event record (R59). -/
structure Ev where
  /-- 64 (R59). Implied by the rule, not a register. -/
  stamp : Nat := 0
  /-- 16 (R440). Implied by the rule, not a register. -/
  source : Nat := 0
  /-- 16 (R59). Implied by the rule, not a register. -/
  code : Nat := 0
  /-- 32 (R59). Implied by the rule, not a register. -/
  detail : Int := 0
  /-- 128, fields in the order the chapter lists them (R59). Implied by the rule, not a register. -/
  data : List Int := []
  /-- Stamped from the real-time clock (R438). Implied by the rule, not a register. -/
  rtc : Bool := false
  deriving DecidableEq, Repr

/-- An event log entry (R439). -/
structure LogEntry where
  /-- 256 (R439). Implied by the rule, not a register. -/
  ev : Ev := {}
  /-- 32 (R439). Implied by the rule, not a register. -/
  seq : Nat := 0
  /-- 1 (R439). Implied by the rule, not a register. -/
  lateOrder : Bool := false
  deriving DecidableEq, Repr

/-- Time bases. -/
structure Clock where
  /-- 64, press time ns (R8). -/
  press : Nat := 0
  /-- What press time has run beyond its last whole ns, in 1/16,000,000,000 ns, the step of FREQ_TRIM (R363). Implied by the rule, not a
  register. -/
  part : Nat := 0
  /-- Real-time clock, ns since it restarted (R453). -/
  rtc : Nat := 0
  /-- Ns the model has run (model's own) (R34). Implied by the rule, not a register. -/
  up : Nat := 0
  deriving DecidableEq, Repr

/-- Identity and global status registers. -/
structure Ident where
  /-- 8 STEP, per silicon (R41). DESIGN CHOICE (log entry 3): the reset value. -/
  step : Nat := 1
  /-- 32 FW_BUILD/PATCH/MINOR/MAJOR, per image (R41). DESIGN CHOICE (log entry 3): the reset value. -/
  fwVersion : Nat := 0
  /-- 1 BOOT_IMAGE (R41). DESIGN CHOICE (log entry 3): the reset value. -/
  bootImage : Nat := 0
  /-- 64 module serial (R510). DESIGN CHOICE (log entry 3): the reset value. -/
  serial : Nat := 0
  /-- 4 OP_STATE (R42). -/
  opState : OpState := .boot
  /-- 4 PREV_STATE (R41). -/
  prevState : OpState := .standby
  /-- 16 STATE_SEQ (R41). -/
  stateSeq : BitVec 16 := 0
  /-- 32 ALIVE (R41). -/
  alive : BitVec 32 := 0
  /-- 32 SCRATCH (R41). -/
  scratch : BitVec 32 := 0
  /-- 32 SCRATCH of the Wythe 1 function (R41). -/
  scratch1 : BitVec 32 := 0
  /-- 24 SPEED_CEIL (R41). -/
  speedCeil : Nat := 0
  /-- 4 CEIL_LIMIT (R41). -/
  ceilLimit : Nat := 0
  /-- Boot ROM only after BOOT reasons 1, 2 (R459). Implied by the rule, not a register. -/
  romOnly : Bool := false
  deriving DecidableEq, Repr

/-- Interrupt block of a function (R43). -/
structure IntBlk where
  /-- 64 INT_CAUSE (R43). -/
  cause : BitVec 64 := 0
  /-- 64 INT_ENABLE (R43). -/
  enable : BitVec 64 := 0
  /-- 64 MSI-X vector mask bits (R43). PRESUMED (log entry 4): the reset value. -/
  masked : BitVec 64 := 0xFFFFFFFFFFFFFFFF
  /-- 64 pending-bit array (R43). PRESUMED (log entry 4): the reset value. -/
  pba : BitVec 64 := 0
  /-- 64 x 16 bytes MSI-X addresses and data (R43). PRESUMED (log entry 4): the reset value. -/
  table : Mem := []
  deriving DecidableEq, Repr

/-- PCIe link of a function. -/
structure Link where
  /-- Link trained (R455). DESIGN CHOICE (log entry 5): the reset value. -/
  up : Bool := true
  /-- Link width (R472). DESIGN CHOICE (log entry 5): the reset value. -/
  lanes : Nat := 16
  /-- Transfer rate in tenths of GT/s (R472). DESIGN CHOICE (log entry 5): the reset value. -/
  rate : Nat := 320
  /-- Max_Read_Request_Size (R90). PRESUMED (log entry 5): the reset value. -/
  mrrs : Nat := 512
  /-- Max_Payload_Size (R90). PRESUMED (log entry 5): the reset value. -/
  mps : Nat := 128
  /-- Extended Tag Field Enable (R90). PRESUMED (log entry 5): the reset value. -/
  extTag : Bool := true
  deriving DecidableEq, Repr

/-- Event ring (R58). -/
structure Ring where
  /-- 1 RING_VALID (R41). -/
  valid : Bool := false
  /-- 64 (R58). -/
  base : Nat := 0
  /-- Size exponent (R58). -/
  exp : Nat := 0
  /-- 32 EVT_PROD (R41). -/
  prod : BitVec 32 := 0
  /-- 32 EVT_CONS (R41). -/
  cons : BitVec 32 := 0
  /-- 1 OVERFLOW (R41). -/
  overflow : Bool := false
  /-- 16 LOST saturating (R41). -/
  lost : Nat := 0
  /-- Records on their way to the ring (R58). Implied by the rule, not a register. -/
  wait : List Ev := []
  deriving DecidableEq, Repr

/-- The pending CFG.COMMIT (R64-R68). -/
structure Pend where
  /-- Channel of the command (R66). Implied by the rule, not a register. -/
  chan : Nat := 0
  /-- Slot of the command (R66). Implied by the rule, not a register. -/
  slot : Nat := 0
  /-- Lift named (R64). Implied by the rule, not a register. -/
  lift : Nat := 0
  /-- Generation (R64). Implied by the rule, not a register. -/
  gen : Nat := 0
  /-- The set carried (R69). Implied by the rule, not a register. -/
  secs : List (Nat × Sec) := []
  /-- Sections carried touched (R69). Implied by the rule, not a register. -/
  touched : List Nat := []
  /-- Changes an idle section (R64). Implied by the rule, not a register. -/
  idle : Bool := false
  /-- LATE_MARK (R65). Implied by the rule, not a register. -/
  late : Bool := false
  /-- Commit token arrived at Wythe 1 in time (R31). Implied by the rule, not a register. -/
  token : Bool := false
  /-- Lift-start load actions done (R145) (R145). Implied by the rule, not a register. -/
  loaded : Bool := false
  /-- The partner did not acknowledge it in time (R332). Implied by the rule, not a register. -/
  noAck : Bool := false
  deriving DecidableEq, Repr

/-- Staged configuration. -/
structure Cfg where
  /-- The shadow set (R61). -/
  shadow : List (Nat × Sec) := []
  /-- 64 SHADOW_GEN (R41). -/
  shadowGen : BitVec 64 := 0
  /-- Generation that passed CFG.CHECK (R64). -/
  checked : Option Nat := none
  /-- Touched sections (R69). -/
  touched : List Nat := []
  /-- The set in force (R61). -/
  force : List (Nat × Sec) := []
  /-- 64 COMMITTED_GEN (R41). -/
  gen : Nat := 0
  /-- 64 APPLIED_LIFT, none = all ones (R41). -/
  applied : Option Nat := none
  /-- The sets before lift commits, newest first, each with the lift that ended it (R67). Implied by the rule, not a register. -/
  prev : List (Nat × List (Nat × Sec)) := []
  /-- Pending commit (R66). -/
  pend : Option Pend := none
  deriving DecidableEq, Repr

/-- An open job (R73, R507). -/
structure Job where
  /-- 8 (R507). Implied by the rule, not a register. -/
  id : Nat := 0
  /-- KIND 0 repeat (R507). Implied by the rule, not a register. -/
  repeats : Bool := false
  /-- FORMAT (R507). Implied by the rule, not a register. -/
  ashlar : Bool := false
  /-- Channel mask (R507). Implied by the rule, not a register. -/
  mask : BitVec 12 := 0
  /-- X_RES 600 dpi (R507). Implied by the rule, not a register. -/
  xHalf : Bool := false
  /-- Y_RES one line per two courses (R507). Implied by the rule, not a register. -/
  yHalf : Bool := false
  /-- Courses, 0 unbounded (R507). Implied by the rule, not a register. -/
  length : Nat := 0
  /-- Courses (R507). Implied by the rule, not a register. -/
  tile : Nat := 0
  /-- NO_MODULE_COMPRESS (R127). Implied by the rule, not a register. -/
  noComp : Bool := false
  /-- Planning ratio in 1/16 (R127). Implied by the rule, not a register. -/
  ratio16 : Nat := 32
  /-- PLACE_W0 (R508). Implied by the rule, not a register. -/
  place0 : Nat := 0
  /-- PLACE_W1 (R508). Implied by the rule, not a register. -/
  place1 : Nat := 0
  /-- EXTENTS_W0 (R508). Implied by the rule, not a register. -/
  ext0 : Nat := 0
  /-- EXTENTS_W1 (R508). Implied by the rule, not a register. -/
  ext1 : Nat := 0
  /-- RING_EXP_W0 (R508). Implied by the rule, not a register. -/
  ring0 : Nat := 0
  /-- RING_EXP_W1 (R508). Implied by the rule, not a register. -/
  ring1 : Nat := 0
  /-- Wythe 0 channels bound (R92). Implied by the rule, not a register. -/
  chan0 : BitVec 14 := 0
  /-- Wythe 1 channels bound (R92). Implied by the rule, not a register. -/
  chan1 : BitVec 14 := 0
  /-- STATE 0-4 (R508). Implied by the rule, not a register. -/
  state : Nat := 0
  /-- Start boundary queued (course) (R74). Implied by the rule, not a register. -/
  boundary : Option Nat := none
  /-- S: the boundary the job begins at (R247). Implied by the rule, not a register. -/
  start : Option Nat := none
  /-- END_LINE (R92). Implied by the rule, not a register. -/
  endLine : Option Nat := none
  /-- Abort: no drops from this lift (R76). Implied by the rule, not a register. -/
  endLift : Option Nat := none
  /-- Aborted in HOLDING: first course that it does not print (R76). Implied by the rule, not a register. -/
  cut : Option Nat := none
  /-- Number of the job among all opened, so that an id used again names another (R507). Implied by the rule, not a register. -/
  key : Nat := 0
  /-- LAST_RELEASED (R508). Implied by the rule, not a register. -/
  lastReleased : Option Nat := none
  /-- Ended SOURCE descriptors, newest first: fluid, wythe, first line, lines, LENGTH (R131). Implied by the rule, not a register. -/
  adm : List (Nat × Nat × Nat × Nat × Nat) := []
  /-- Its span extends 32 columns below column 0, where another gang member joins (R352). Implied by the rule, not a register. -/
  east : Bool := false
  /-- Its span extends 32 columns above column 120,991, where another gang member joins (R352). Implied by the rule, not a register. -/
  west : Bool := false
  /-- First image column of the module (R93). Implied by the rule, not a register. -/
  first : Nat := 0
  /-- Image columns of the module (R93). Implied by the rule, not a register. -/
  width : Nat := 120992
  /-- Job-space extents: fluid, wythe, runs of extents as first and count (R126). Implied by the rule, not a register. -/
  exts : List (Nat × Nat × List (Nat × Nat)) := []
  /-- Bytes written to the chain of a fluid and wythe (R122). Implied by the rule, not a register. -/
  tails : List (Nat × Nat × Nat) := []
  /-- SERIAL of the next strip the module compresses (R108). Implied by the rule, not a register. -/
  serial : Nat := 0
  /-- The resident tile of Wythe 0 has been complete: its unused extents are returned for good (R129). Implied by the rule, not a register. -/
  back0 : Bool := false
  /-- The same on Wythe 1 (R129). Implied by the rule, not a register. -/
  back1 : Bool := false
  deriving DecidableEq, Repr

/-- A received source line (R94). -/
structure Line where
  /-- 8 (R94). Implied by the rule, not a register. -/
  job : Nat := 0
  /-- 4 (R94). Implied by the rule, not a register. -/
  fluid : Nat := 0
  /-- 1 (R94). Implied by the rule, not a register. -/
  wythe : Nat := 0
  /-- Source line (R94). Implied by the rule, not a register. -/
  line : Nat := 0
  /-- Where its samples are (R94). Implied by the rule, not a register. -/
  held : LineAt := .lost
  deriving DecidableEq, Repr

/-- An Ashlar strip held in job space (R107, R122). -/
structure Strip where
  /-- Which SOURCE descriptor or compressed block it came with (R107). Implied by the rule, not a register. -/
  batch : Nat := 0
  /-- 8 (R107). Implied by the rule, not a register. -/
  job : Nat := 0
  /-- 4 (R107). Implied by the rule, not a register. -/
  fluid : Nat := 0
  /-- 1 (R107). Implied by the rule, not a register. -/
  wythe : Nat := 0
  /-- First source line (R108). Implied by the rule, not a register. -/
  line0 : Nat := 0
  /-- Lines (R108). Implied by the rule, not a register. -/
  lines : Nat := 0
  /-- First source pixel (R108). Implied by the rule, not a register. -/
  px0 : Nat := 0
  /-- Pixels per line (R108). Implied by the rule, not a register. -/
  width : Nat := 0
  /-- Pieces: offset in the chain of its fluid, bytes (R122). Implied by the rule, not a register. -/
  pieces : List (Nat × Nat) := []
  deriving DecidableEq, Repr

/-- Open jobs and source data. -/
structure Jobs where
  /-- At most 16 (R73). -/
  opened : List Job := []
  /-- Started jobs, in the order started (R74). -/
  order : List Nat := []
  /-- Source lines received (R94). -/
  lines : List Line := []
  /-- JOB.PAUSE in force (R76). -/
  paused : Bool := false
  /-- Strips in job space, newest first (R122). -/
  strips : List Strip := []
  /-- Batch of the strips stored next (R107). Implied by the rule, not a register. -/
  nextBatch : Nat := 0
  deriving DecidableEq, Repr

/-- A scheduled action (R77, R509). -/
structure Act where
  /-- 32 (R77). Implied by the rule, not a register. -/
  id : Nat := 0
  /-- KIND (R509). Implied by the rule, not a register. -/
  byTime : Bool := false
  /-- 8 (R77). Implied by the rule, not a register. -/
  code : Nat := 0
  /-- 32 (R77). Implied by the rule, not a register. -/
  arg : Nat := 0
  /-- 64 (R509). Implied by the rule, not a register. -/
  moment : Nat := 0
  /-- 8 (R509). Implied by the rule, not a register. -/
  frac : Nat := 0
  /-- Runs late under AT_ONCE (R78) (R78). Implied by the rule, not a register. -/
  late : Bool := false
  /-- A JOB_START whose job has been queued ahead of it, for its lift to be screened (R77). Implied by the rule, not a register. -/
  queued : Bool := false
  deriving DecidableEq, Repr

/-- Scheduled actions. -/
structure Acts where
  /-- At most 1,024 (R77). -/
  pend : List Act := []
  /-- 32, from 1 after BOOT (R77). -/
  nextId : Nat := 1
  /-- Last 1,024 executed ids and stamps, newest first (R509). -/
  done : List (Nat × Nat) := []
  /-- Running pulses: output (0-15 field, 16-19 CAM) and end time (R77). -/
  pulses : List (Nat × Nat) := []
  deriving DecidableEq, Repr

/-- A fetched descriptor (R85). -/
structure Desc where
  /-- 32 index (R84). Implied by the rule, not a register. -/
  idx : Nat := 0
  /-- 8 (R85). Implied by the rule, not a register. -/
  op : Nat := 0
  /-- 1 (R85). Implied by the rule, not a register. -/
  irq : Bool := false
  /-- 1 (R85). Implied by the rule, not a register. -/
  nosnoop : Bool := false
  /-- 1 (R85). Implied by the rule, not a register. -/
  circ : Bool := false
  /-- 1 (R85). Implied by the rule, not a register. -/
  fence : Bool := false
  /-- 4 (R85). Implied by the rule, not a register. -/
  fluid : Nat := 0
  /-- 8 (R85). Implied by the rule, not a register. -/
  job : Nat := 0
  /-- 64 (R85). Implied by the rule, not a register. -/
  addr : Nat := 0
  /-- 32 (R85). Implied by the rule, not a register. -/
  len : Nat := 0
  /-- 6 (R85). Implied by the rule, not a register. -/
  sizeExp : Nat := 0
  /-- 64 (R85). Implied by the rule, not a register. -/
  img : Nat := 0
  /-- 24 (DUMP: TARGET) (R85). Implied by the rule, not a register. -/
  lines : Nat := 0
  /-- 17 (R85). Implied by the rule, not a register. -/
  pxFirst : Nat := 0
  /-- 17 (R85). Implied by the rule, not a register. -/
  pxCount : Nat := 0
  /-- Bytes whose requests were issued (R90). Implied by the rule, not a register. -/
  issued : Nat := 0
  /-- Bytes received, by offset (R95). Implied by the rule, not a register. -/
  got : Mem := []
  /-- Bytes received (R95). Implied by the rule, not a register. -/
  gotLen : Nat := 0
  /-- Offset of the earliest failing request (R97). Implied by the rule, not a register. -/
  failOff : Option Nat := none
  /-- DETAIL of the error (R97). Implied by the rule, not a register. -/
  failDetail : Nat := 0
  /-- Error on the final beat (R98). Implied by the rule, not a register. -/
  lastBeat : Bool := false
  /-- Admission complete (R116). Implied by the rule, not a register. -/
  admitted : Bool := false
  /-- Its data waits in staging for an extent (R123). Implied by the rule, not a register. -/
  stall : Bool := false
  /-- Shortest run of zero residuals that the compressor codes as RUN for it (R121). Implied by the rule, not a register. -/
  runMin : Nat := 1
  /-- END, RESULT, DETAIL, RESIDUE decided, status not yet written (R96). Implied by the rule, not a register. -/
  ended : Option (Nat × Nat × Nat × Nat) := none
  /-- SEQ matched (R86). Implied by the rule, not a register. -/
  seqOk : Bool := true
  deriving DecidableEq, Repr

/-- A read request in flight (R90). -/
structure Req where
  /-- Descriptor index (R90). Implied by the rule, not a register. -/
  idx : Nat := 0
  /-- Offset in the descriptor's data (R90). Implied by the rule, not a register. -/
  off : Nat := 0
  /-- Bytes (R90). Implied by the rule, not a register. -/
  len : Nat := 0
  /-- Completion is discarded (R99, R101) (R99). Implied by the rule, not a register. -/
  drop : Bool := false
  deriving DecidableEq, Repr

/-- A DMA channel (R82). -/
structure Dma where
  /-- 64 RING_BASE (R82). -/
  ringBase : Nat := 0
  /-- 5 RING_EXP (R82). -/
  ringExp : Nat := 0
  /-- 9 MAX_OUTSTANDING (R82). -/
  maxOut : Nat := 64
  /-- 32 TAIL (R82). -/
  tail : BitVec 32 := 0
  /-- 32 HEAD (R82). -/
  head : BitVec 32 := 0
  /-- 32 DONE_IDX (R82). -/
  done : BitVec 32 := 0
  /-- 3 CH_STATE (R82). -/
  st : ChState := .idle
  /-- 1 ABORTED (R82). -/
  aborted : Bool := false
  /-- 1 ERR (R82). -/
  err : Bool := false
  /-- 1 LAST_BEAT (R82). -/
  lastBeat : Bool := false
  /-- 8 RESULT (R82). -/
  result : Nat := 0
  /-- 16 DETAIL (R82). -/
  detail : Nat := 0
  /-- 32 RESIDUE (R82). -/
  residue : BitVec 32 := 0
  /-- 64 DONE_STAMP (R82). -/
  doneStamp : Nat := 0
  /-- 64 BYTES (R82). -/
  bytes : BitVec 64 := 0
  /-- Descriptors fetched and not ended, in order (R88). Implied by the rule, not a register. -/
  descs : List Desc := []
  /-- Requests in flight; OUTSTANDING is its length (R90). -/
  inflight : List Req := []
  /-- The abort came from REST or FAULT (R100) (R100). Implied by the rule, not a register. -/
  stopRest : Bool := false
  deriving DecidableEq, Repr

/-- A PCIe function: DMA block, BAR2, interrupts. -/
structure Fn where
  /-- Interrupt block (R43). -/
  int : IntBlk := {}
  /-- PCIe link (R455). DESIGN CHOICE (log entry 5): the reset value. -/
  link : Link := {}
  /-- 16 channels (R81). -/
  ch : List Dma := List.replicate 16 {}
  /-- Channel served next, round-robin (R90). Implied by the rule, not a register. -/
  rr : Nat := 0
  /-- 64 BAR2_BASE (R105). -/
  bar2Base : Nat := 0
  /-- 2 TARGET (R105). -/
  bar2Target : Nat := 0
  /-- 1 WRITE_EN (R105). -/
  bar2Wen : Bool := false
  /-- 32 BAR2_DROPPED saturating (R105). -/
  bar2Dropped : Nat := 0
  /-- Latched high word of TIME_NOW (R382). -/
  timeHigh : Option Nat := none
  deriving DecidableEq, Repr

/-- Memories. -/
structure Store where
  /-- Host memory as the module sees it (R32). DESIGN CHOICE (log entry 6): the reset value. -/
  host : Mem := []
  /-- Wythe 0 HBM stack 0, 16 GiB (R32). -/
  hbm00 : Mem := []
  /-- Wythe 0 HBM stack 1 (R32). -/
  hbm01 : Mem := []
  /-- Wythe 1 HBM stack 0 (R32). -/
  hbm10 : Mem := []
  /-- Wythe 1 HBM stack 1 (R32). -/
  hbm11 : Mem := []
  /-- Wythe 0 SRAM, 192 MiB (R23). DESIGN CHOICE (log entry 6): the reset value. -/
  sram0 : Mem := []
  /-- Wythe 1 SRAM (R23). DESIGN CHOICE (log entry 6): the reset value. -/
  sram1 : Mem := []
  /-- Uncorrectable words: wythe, target, word address (R125). -/
  badWords : List (Nat × Nat × Nat) := []
  /-- Time of the last 0x0414 record, per stack and SRAM (R124). Implied by the rule, not a register. -/
  scrubRep : List (Nat × Nat) := []
  /-- Corrections since the last 0x0414 record, per stack and SRAM (R124). -/
  corrected : List (Nat × Nat) := []
  deriving DecidableEq, Repr

/-- One row of levels in a level lift buffer (R22). -/
structure Row where
  /-- Bar (R158). Implied by the rule, not a register. -/
  ch : Nat := 0
  /-- Firing course (R22). Implied by the rule, not a register. -/
  course : Nat := 0
  /-- Image course (R159). Implied by the rule, not a register. -/
  img : Nat := 0
  /-- Job (R160). Implied by the rule, not a register. -/
  job : Nat := 0
  /-- Level per column 0-120,991 (R158). Implied by the rule, not a register. -/
  levels : List Nat := []
  deriving DecidableEq, Repr

/-- A level lift buffer (R22). -/
structure LiftBuf where
  /-- Lift (R22). Implied by the rule, not a register. -/
  lift : Nat := 0
  /-- Complete on Wythe 0 (R22). Implied by the rule, not a register. -/
  done0 : Bool := false
  /-- Complete on Wythe 1 (R22). Implied by the rule, not a register. -/
  done1 : Bool := false
  /-- Lift token of Wythe 1 arrived (R241). Implied by the rule, not a register. -/
  token : Bool := false
  /-- Levels (R22). Implied by the rule, not a register. -/
  rows : List Row := []
  deriving DecidableEq, Repr

/-- Screening. -/
structure Mortar where
  /-- Fenced units of Wythe 0 (R178). -/
  fenced0 : BitVec 28 := 0
  /-- Fenced units of Wythe 1 (R178). -/
  fenced1 : BitVec 28 := 0
  /-- The lift being fired and the lift being screened (R22). -/
  bufs : List LiftBuf := []
  /-- Accumulator row per channel (13 bits per column) (R169). -/
  acc : List (Nat × List Int) := []
  /-- Lift-entry rows: lift, channel, row (R174). -/
  entry : List (Nat × Nat × List Int) := []
  /-- Saturating additions since the last report, Wythe 0 (R175). -/
  sat0 : Nat := 0
  /-- The same, Wythe 1 (R175). -/
  sat1 : Nat := 0
  /-- Time of the last 0x1003 record, Wythe 0 (R175). Implied by the rule, not a register. -/
  satRep0 : Option Nat := none
  /-- The same, Wythe 1 (R175). Implied by the rule, not a register. -/
  satRep1 : Option Nat := none
  /-- Mortar clock in force (R411). -/
  mhz : Nat := 1000
  /-- Bands of the lift being screened on Wythe 0: unit, channel, first column, columns (R171). Implied by the rule, not a register. -/
  bands0 : List (Nat × Nat × Nat × Nat) := []
  /-- The same on Wythe 1 (R171). Implied by the rule, not a register. -/
  bands1 : List (Nat × Nat × Nat × Nat) := []
  /-- Lifts that Wythe 0 has audited, the place in the round of bands, courses and pairs of units (R179). Implied by the rule, not a
  register. -/
  audits0 : Nat := 0
  /-- The same on Wythe 1 (R179). Implied by the rule, not a register. -/
  audits1 : Nat := 0
  /-- The lift from which a takeover screens again (R342). Implied by the rule, not a register. -/
  rescreen : Option Nat := none
  deriving DecidableEq, Repr

/-- A wythe's copies of the density codes of the other wythe's seam head, one table per bar (R147). -/
structure ToneSeam where
  /-- Active codes (R147). -/
  active : List SMap := List.replicate 12 ⟨128, []⟩
  /-- Target codes (R147). -/
  target : List SMap := List.replicate 12 ⟨128, []⟩
  /-- Active codes of the lift before the highest screened (R148). -/
  before : List SMap := List.replicate 12 ⟨128, []⟩
  deriving DecidableEq, Repr

/-- The density state that a load for a pending lift commit replaced (R68, R145). -/
structure ToneKept where
  /-- Active codes (R145). Implied by the rule, not a register. -/
  active : List SMap := []
  /-- Target codes (R145). Implied by the rule, not a register. -/
  target : List SMap := []
  /-- Active codes of the lift before (R145). Implied by the rule, not a register. -/
  before : List SMap := []
  /-- Highest lift screened (R148). Implied by the rule, not a register. -/
  highest : Option Nat := none
  /-- First DENSITY commit after BOOT done (R150). Implied by the rule, not a register. -/
  first : Bool := false
  /-- Seam copies of Wythe 0 (R147). Implied by the rule, not a register. -/
  seam0 : ToneSeam := {}
  /-- Seam copies of Wythe 1 (R147). Implied by the rule, not a register. -/
  seam1 : ToneSeam := {}
  deriving DecidableEq, Repr

/-- Density state (R147-R157). -/
structure Tone where
  /-- 8-bit active codes, one table of 491,520 per bar, lost in BOOT (R150). DESIGN CHOICE (log entry 7): the reset value. -/
  active : List SMap := List.replicate 12 ⟨128, []⟩
  /-- 8-bit target codes, one table per bar (R150). DESIGN CHOICE (log entry 7): the reset value. -/
  target : List SMap := List.replicate 12 ⟨128, []⟩
  /-- Active codes of the lift before the highest screened (the directions of the last steps and the kept copy) (R148). DESIGN CHOICE (log entry 7): the reset value. -/
  before : List SMap := List.replicate 12 ⟨128, []⟩
  /-- Highest lift screened (R148). -/
  highest : Option Nat := none
  /-- Frozen channels (R157). -/
  freeze : BitVec 12 := 0
  /-- Frozen channels as the highest lift was stepped (R157, R333). Implied by the rule, not a register. -/
  stepMask : BitVec 12 := 0
  /-- First DENSITY commit after BOOT done (R150). -/
  first : Bool := false
  /-- 2,880 x 64 SETTLE_LIFT (R154). -/
  settle : SMap := ⟨0, []⟩
  /-- 2,880 x 32 UPDATES (R154). -/
  updates : SMap := ⟨0, []⟩
  /-- Nozzles with a 0x0601 record in the present job (R153). Implied by the rule, not a register. -/
  noted : List Nat := []
  /-- What a load for a pending lift commit replaced, until the commit completes (R68). Implied by the rule, not a register. -/
  kept : Option ToneKept := none
  /-- Copies of H30, nozzles 0-15, on Wythe 0 (R147). DESIGN CHOICE (log entry 7): the reset value. -/
  seam0 : ToneSeam := {}
  /-- Copies of H29, nozzles 2,032-2,047, on Wythe 1 (R147). DESIGN CHOICE (log entry 7): the reset value. -/
  seam1 : ToneSeam := {}
  /-- Last lift whose firing SETTLE_LIFT has been judged at (R154). Implied by the rule, not a register. -/
  fired : Option Nat := none
  deriving DecidableEq, Repr

/-- An accepted NOZ.MAP waiting for its lift (R197). -/
structure NozChg where
  /-- Lift (R196). Implied by the rule, not a register. -/
  lift : Nat := 0
  /-- Nozzle index, state (R196). Implied by the rule, not a register. -/
  entries : List (Nat × Nat) := []
  deriving DecidableEq, Repr

/-- A node record (R204). -/
structure NodeRec where
  /-- 32 (R204). Implied by the rule, not a register. -/
  id : Nat := 0
  /-- 3 (R204). Implied by the rule, not a register. -/
  laneCount : Nat := 0
  /-- Module lane per node lane, 0x7F none (R204). Implied by the rule, not a register. -/
  lanes : List Nat := []
  /-- Global head ids (R204). Implied by the rule, not a register. -/
  heads : List Nat := []
  /-- MAX_K of HELLO (R300). Implied by the rule, not a register. -/
  maxK : Nat := 0
  deriving DecidableEq, Repr

/-- A bond record (R205). -/
structure Bond where
  /-- Global head id (R205). Implied by the rule, not a register. -/
  head : Nat := 0
  /-- 7 (R205). Implied by the rule, not a register. -/
  lane : Nat := 0
  /-- 4 (R205). Implied by the rule, not a register. -/
  slot : Nat := 0
  /-- 8 (R205). Implied by the rule, not a register. -/
  node : Nat := 0
  deriving DecidableEq, Repr

/-- Nozzles, bond. -/
structure Point where
  /-- 2-bit nozzle states, one table of 491,520 per bar, lost in BOOT (R187). DESIGN CHOICE (log entry 7): the reset value. -/
  states : List SMap := List.replicate 12 ⟨0, []⟩
  /-- First POINTING commit after BOOT done (R187). -/
  first : Bool := false
  /-- NOZ.MAP waiting, at most 64 (R197). -/
  pend : List NozChg := []
  /-- 720 x 64 SAME_COL (R192). -/
  sameCol : SMap := ⟨0, []⟩
  /-- 720 x 64 OTHER_HEAD (R192). -/
  otherHead : SMap := ⟨0, []⟩
  /-- 720 x 64 NEIGHBOUR (R192). -/
  neighbour : SMap := ⟨0, []⟩
  /-- 720 x 64 LOST (R192). -/
  lost : SMap := ⟨0, []⟩
  /-- 720: quanta lost since the wythe's last 0x0702 record (R201). -/
  lostSince : SMap := ⟨0, []⟩
  /-- Time of the last 0x0702 record, Wythe 0 (R201). Implied by the rule, not a register. -/
  lostRep0 : Option Nat := none
  /-- The same, Wythe 1 (R201). Implied by the rule, not a register. -/
  lostRep1 : Option Nat := none
  /-- Node records (R204). -/
  nodes : List NodeRec := []
  /-- Bonded heads (R205). -/
  bonds : List Bond := []
  /-- LANE_TABLE of the last discovery (R203). -/
  discTable : Option Sec := none
  /-- The bond was built without failing (R206). -/
  passed : Bool := false
  /-- Up-time of the commit that waits for discovery (R203). -/
  discDue : Option Nat := none
  /-- First lift of a change of states and the states before it, newest first (R184). -/
  past : List (Nat × List SMap) := []
  /-- Copies of the states of H30, nozzles 0-31, on Wythe 0 (R193). DESIGN CHOICE (log entry 7): the reset value. -/
  seam0 : List SMap := List.replicate 12 ⟨0, []⟩
  /-- Copies of the states of H29, nozzles 2,016-2,047, on Wythe 1 (R193). DESIGN CHOICE (log entry 7): the reset value. -/
  seam1 : List SMap := List.replicate 12 ⟨0, []⟩
  deriving DecidableEq, Repr

/-- An encoder input (R210-R235). -/
structure Enc where
  /-- 64 POSITION (R235). -/
  pos : Int := 0
  /-- 64 HWM (R235). -/
  hwm : Int := 0
  /-- EXT (R221). -/
  ext : Int := 0
  /-- DIR (R235). -/
  rev : Bool := false
  /-- 3 A_STATUS (R235). -/
  aStat : PairStatus := .unused
  /-- 3 B_STATUS (R235). -/
  bStat : PairStatus := .unused
  /-- 3 Z_STATUS (R235). -/
  zStat : PairStatus := .unused
  /-- Stamps and radii in µV of the last 1 ms, whose mean AMP_MV reads (R235). Implied by the rule, not a register. -/
  radii : List (Nat × Nat) := []
  /-- Consecutive samples with the radius outside the window (R220). Implied by the rule, not a register. -/
  radBad : Nat := 0
  /-- 32 ILLEGAL_TOTAL saturating (R235). -/
  illegal : Nat := 0
  /-- 32 INDEX_ERRORS saturating (R235). -/
  indexErr : Nat := 0
  /-- 64 INDEX_POS (R235). -/
  indexPos : Int := 0
  /-- Samples that line A has held away from its accepted level (R213). Implied by the rule, not a register. -/
  aRun : Nat := 0
  /-- The same of line B (R213). Implied by the rule, not a register. -/
  bRun : Nat := 0
  /-- The same of line Z (R213). Implied by the rule, not a register. -/
  zRun : Nat := 0
  /-- Samples since the last accepted change of line B, up to 256 (R215). Implied by the rule, not a register. -/
  dirAge : Nat := 256
  /-- Accepted level of line Z (R213). DESIGN CHOICE (log entry 8): the reset value. -/
  z : Bool := false
  /-- Condition on each pair and the up-time since which it has held (R224). Implied by the rule, not a register. -/
  dwell : List (PairStatus × Nat) := List.replicate 3 (.unused, 0)
  /-- Accepted level of line A (STEP, UP) (R214). DESIGN CHOICE (log entry 8): the reset value. -/
  a : Bool := false
  /-- Accepted level of line B (DIR, DOWN) (R214). DESIGN CHOICE (log entry 8): the reset value. -/
  b : Bool := false
  /-- 12 last sin/cos angle (R218). DESIGN CHOICE (log entry 8): the reset value. -/
  angle : Nat := 0
  /-- Stamps of the last 16 ILLEGAL_TRANSITIONs (R216). Implied by the rule, not a register. -/
  illStamps : List Nat := []
  /-- ILLEGAL_TRANSITIONs since the last 0x1101 record (R216). Implied by the rule, not a register. -/
  illSince : Nat := 0
  /-- Time of the last 0x1101 record (R216). Implied by the rule, not a register. -/
  illRep : Option Nat := none
  /-- Position at the rise of line Z while it is high (R222). Implied by the rule, not a register. -/
  zHigh : Option Int := none
  /-- Polarity error already recorded for this Z pulse (R222). Implied by the rule, not a register. -/
  zFlagged : Bool := false
  /-- Last accepted index: position, direction (R222). Implied by the rule, not a register. -/
  idxLast : Option (Int × Bool) := none
  /-- Consecutive index events with an error (R222). Implied by the rule, not a register. -/
  idxBadRun : Nat := 0
  /-- The present Z pulse already counts as an error (R222). Implied by the rule, not a register. -/
  zBad : Bool := false
  /-- Where the missing-index count started, none while reversing (R223). Implied by the rule, not a register. -/
  missFrom : Option Int := some 0
  /-- Stamps and counts of the last 1 ms, whose sum SPEED reads (R235). Implied by the rule, not a register. -/
  window : List (Nat × Int) := []
  /-- Time of the last 0x1105 record (R220). Implied by the rule, not a register. -/
  radRep : Option Nat := none
  /-- Lowest radius since the last record, µV (R220). Implied by the rule, not a register. -/
  radLo : Nat := 0
  /-- Highest radius since the last record, µV (R220). Implied by the rule, not a register. -/
  radHi : Nat := 0
  deriving DecidableEq, Repr

/-- Hall input (R227, R228). -/
structure Hall where
  /-- 3 HALL_STATE (R235). -/
  code : Nat := 0
  /-- 32 HALL_ILLEGAL saturating (R235). -/
  illegal : Nat := 0
  /-- 32 HALL_SKIPS saturating (R235). -/
  skips : Nat := 0
  /-- 16 HALL_DEV, 0.1 % (R235). -/
  dev : Int := 0
  /-- Samples that lines W, V and U have held away from their accepted levels (R227). Implied by the rule, not a register. -/
  runs : List Nat := [0, 0, 0]
  /-- Last boundary: position, forward, stamp (R227). Implied by the rule, not a register. -/
  bound : Option (Int × Bool × Nat) := none
  /-- Consecutive mismatched sectors (R228). Implied by the rule, not a register. -/
  badRun : Nat := 0
  /-- Consecutive reversed sectors (R228). Implied by the rule, not a register. -/
  revRun : Nat := 0
  /-- Illegal codes since the last 0x1106 record (R227). Implied by the rule, not a register. -/
  illSince : Nat := 0
  /-- Skips since the last 0x1106 record (R227). Implied by the rule, not a register. -/
  skipSince : Nat := 0
  /-- Time of the last 0x1106 record (R227). Implied by the rule, not a register. -/
  rep : Option Nat := none
  /-- Time of the last 0x1107 record (R228). Implied by the rule, not a register. -/
  devRep : Option Nat := none
  deriving DecidableEq, Repr

/-- Web inputs beside the encoders. -/
structure Web where
  /-- ENC0 (R235). -/
  enc0 : Enc := {}
  /-- ENC1 (R235). -/
  enc1 : Enc := {}
  /-- Hall input (R227). -/
  hall : Hall := {}
  /-- Position source at the start of the check window (R229). Implied by the rule, not a register. -/
  winStart : Int := 0
  /-- Check encoder at the start of the check window (R229). Implied by the rule, not a register. -/
  winCheck : Int := 0
  /-- Stamp of the start of the check window (R229). Implied by the rule, not a register. -/
  winTime : Nat := 0
  /-- Consecutive windows outside tolerance (R229). Implied by the rule, not a register. -/
  chkBad : Nat := 0
  /-- Checking ended until STATE.CLEAR (R225). -/
  chkOff : Bool := false
  /-- ENC_OUT divider accumulator (R230). -/
  outAcc : Int := 0
  /-- ENC_OUT_A/B state S (R231). -/
  outState : Nat := 0
  /-- Press time of the sample on which the detectors now conclude, where a run of samples is judged (R236). Implied by the rule, not a
  register. -/
  judged : Option Nat := none
  /-- Output counts queued, at most 64: forward, and ENC_OUT_Z of each (R232). -/
  outQueue : List (Bool × Bool) := []
  /-- Up-time from which the next output count may leave (R232). Implied by the rule, not a register. -/
  outAt : Nat := 0
  /-- Output counts since reset (R231). Implied by the rule, not a register. -/
  outCount : Int := 0
  /-- ENC_OUT_Z (R231). -/
  outZ : Bool := false
  /-- 32 OUT_DROPPED saturating (R235). -/
  outDropped : Nat := 0
  /-- Time of the last 0x1108 record (R232). Implied by the rule, not a register. -/
  outRep : Option Nat := none
  /-- Sensor supplies switched off and when (R478). -/
  supOff : List (Nat × Nat) := []
  /-- Switch-offs since the last 0x1109 record, per supply (R478). Implied by the rule, not a register. -/
  supSince : List (Nat × Nat) := []
  /-- Time of the last 0x1109 record, per supply (R478). Implied by the rule, not a register. -/
  supRep : List (Nat × Nat) := []
  deriving DecidableEq, Repr

/-- A released course not yet fired (R239). -/
structure Released where
  /-- Course (R239). Implied by the rule, not a register. -/
  course : Nat := 0
  /-- Base fire time T_f, ns (R240). Implied by the rule, not a register. -/
  fire : Nat := 0
  /-- T_f - T_(f-8), ns (R240). Implied by the rule, not a register. -/
  period8 : Nat := 0
  deriving DecidableEq, Repr

/-- Hold state (R261-R268). -/
structure Hold where
  /-- 4 HOLD_PHASE (R271). -/
  phase : HoldPhase := .none
  /-- 4 HOLD_TRIGGER (R271). -/
  trigger : Nat := 0
  /-- 4 RETRIES (R271). -/
  retries : Nat := 0
  /-- Planned stop course (R262). -/
  stop : Option Nat := none
  /-- Resume course RC (R262). -/
  rc : Option Nat := none
  /-- Triggers of this hold, first to last (R262). -/
  triggers : List Nat := []
  /-- Release has ended (R262). Implied by the rule, not a register. -/
  ended : Bool := false
  /-- Back-up target B, counts x 2^32 (R264). -/
  bTarget : Option Int := none
  /-- HWM reached before the stop of the last resume, up to which releases go by forward changes of POSITION; cleared with the return to READY or REST (R266). Implied by the rule, not a register. -/
  hwmStop : Option Int := none
  /-- Resume speed v_r of B (R264). Implied by the rule, not a register. -/
  vr : Nat := 0
  /-- Time the ramp reached v_r (R266). Implied by the rule, not a register. -/
  settleAt : Option Nat := none
  /-- Sheet media: R of R269 (R269). Implied by the rule, not a register. -/
  sheetR : Option Nat := none
  /-- The last started job was aborted: READY once at rest (R268). Implied by the rule, not a register. -/
  aborting : Bool := false
  deriving DecidableEq, Repr

/-- Course timing. -/
structure Lintel where
  /-- ORIGIN in counts x 2^32 (R237). -/
  origin : Int := 0
  /-- N0 (R237). -/
  n0 : Nat := 0
  /-- Stamped changes that raised HWM (or, from a resume up to the HWM before the stop, of POSITION while DIR is forward, R266), newest first, 2 ms (R239). -/
  samples : List (Nat × Int) := []
  /-- R_c at the last course released, for the record of R272 (R272). Implied by the rule, not a register. -/
  lastRate : Frac := {}
  /-- 64 NEXT_RELEASE (R271). -/
  next : Nat := 0
  /-- 64 LAST_FIRED, none = all ones (R271). -/
  lastFired : Option Nat := none
  /-- Released courses not yet fired, in order (R239). -/
  queue : List Released := []
  /-- Base fire times of released courses, newest first (R240). -/
  base : List (Nat × Nat) := []
  /-- First course of the release run (R240). Implied by the rule, not a register. -/
  runFrom : Option Nat := none
  /-- 64 HORIZON, none = unbounded (R271). -/
  horizon : Option Nat := none
  /-- R_lift, courses/s (R259). -/
  rLift : Frac := {}
  /-- 24 COURSE_RATE, r_lift as it reads (R271). -/
  rate : Nat := 0
  /-- Last lift whose first course HWM reached, and when (R259). Implied by the rule, not a register. -/
  liftAt : Option (Nat × Nat) := none
  /-- 1 SPEED_CLAMP (R271). -/
  clamp : Bool := false
  /-- 1 OVERSPEED_WARN (R271). -/
  overWarn : Bool := false
  /-- 1 STARVE_WARN (R271). -/
  starveWarn : Bool := false
  /-- V_ramp, courses/s (R254). -/
  vRamp : Frac := {}
  /-- V_cmd, courses/s (R255). -/
  vCmd : Frac := {}
  /-- Present acceleration of the ramp, courses/s2 (R239). Implied by the rule, not a register. -/
  accel : Frac := {}
  /-- R_c of the last cycle, courses/s (R254). -/
  rc : Frac := {}
  /-- E, courses (R254). -/
  lag : Frac := {}
  /-- Speed reference, uV (R254). -/
  aout0 : Frac := {}
  /-- Speed trim, uV (R254). -/
  aout1 : Frac := {}
  /-- Position at the start of the cycle (R254). Implied by the rule, not a register. -/
  cyclePos : Int := 0
  /-- Press time of the start of the cycle (R254). Implied by the rule, not a register. -/
  cycleAt : Nat := 0
  /-- Consecutive cycles with abs r_c below 0.001 CRL (R254). Implied by the rule, not a register. -/
  restRun : Nat := 0
  /-- Consecutive cycles with r_c <= 0.99 CRL (R259). Implied by the rule, not a register. -/
  lowRun : Nat := 0
  /-- Consecutive cycles within RESUME_TOL (R266). Implied by the rule, not a register. -/
  tolRun : Nat := 0
  /-- The start boundary is being counted (R257) (R257). -/
  atSpeed : Bool := false
  /-- Courses passed over: first, last, reason (R241). Implied by the rule, not a register. -/
  passed : Option (Nat × Nat × Nat) := none
  /-- Time of the last 0x120C record (R241). Implied by the rule, not a register. -/
  passRep : Option Nat := none
  /-- 64 SHEETS_REJECTED (R271). -/
  sheets : Nat := 0
  /-- Rejected sheets: key and start boundary of the job, sheet (R269). -/
  rejected : List (Nat × Nat × Nat) := []
  /-- REJECT on for rejected sheets (R270). -/
  rejectOn : Bool := false
  /-- Sheet media: R, first lift boundary to fire (R269). Implied by the rule, not a register. -/
  rejectTo : Option Nat := none
  /-- Wythe 1: last course record's course and fire time (R27). -/
  recPrev : Option (Nat × Nat) := none
  /-- Wythe 1: course and fire time of the course records of this release run, newest first, from which T_(f−8) is taken (R240). Implied by the rule, not a register. -/
  recBase : List (Nat × Nat) := []
  /-- Wythe 1: course records accepted (R27). Implied by the rule, not a register. -/
  w1Lift : Nat := 0
  /-- Hold (R268). -/
  hold : Hold := {}
  deriving DecidableEq, Repr

/-- Registration. -/
structure Quoin where
  /-- 12 x 16 QTRIM q_b (R271). -/
  trim : List Int := List.replicate 12 0
  /-- Q_b of the lift before (R251). Implied by the rule, not a register. -/
  prev : List Int := List.replicate 12 0
  /-- Trims fixed per lift, newest first: lift, q_b of the lift before, q_b (R251). Implied by the rule, not a register. -/
  fixed : List (Nat × List Int × List Int) := []
  /-- T_b (R252). -/
  target : List Int := List.replicate 12 0
  /-- SETTLE_b, none while trim differs (R250). Implied by the rule, not a register. -/
  settle : List (Option Nat) := List.replicate 12 (some 0)
  /-- Accepted level of each mark input (R249). DESIGN CHOICE (log entry 8): the reset value. -/
  mark : BitVec 13 := 0
  /-- Samples that each mark input has held away from its accepted level (R249). Implied by the rule, not a register. -/
  markRun : List Nat := List.replicate 13 0
  /-- Where the present run of each mark input began: POSITION, where it stood at HWM in PRINTING (R249). Implied by the rule, not a register. -/
  markAt : List (Option Int) := List.replicate 13 none
  /-- 12 QUOIN_FROZEN (R271). -/
  frozen : BitVec 12 := 0
  /-- Consecutive misses per sensor (R249). Implied by the rule, not a register. -/
  misses : List Nat := List.replicate 13 0
  /-- Consecutive matches per sensor while frozen (R249). Implied by the rule, not a register. -/
  hits : List Nat := List.replicate 13 0
  /-- Image course from which the next mark is awaited, per sensor (R249). Implied by the rule, not a register. -/
  nextMark : List Nat := List.replicate 13 0
  /-- Matched marks, newest first: sensor, image course of the mark, C (R250). Implied by the rule, not a register. -/
  matched : List (Nat × Nat × Int) := []
  /-- Targets formed in a gang that wait for their lift: lift, bar, target (R359). Implied by the rule, not a register. -/
  pendT : List (Nat × Nat × Int) := []
  /-- Strays (R249). -/
  strays : Nat := 0
  /-- Bars with a 0x1209 record in the present job (R250). Implied by the rule, not a register. -/
  noted : List Nat := []
  deriving DecidableEq, Repr

/-- A FRAME queued or sent on a lane. -/
structure FrameTx where
  /-- Course (R283). Implied by the rule, not a register. -/
  course : Nat := 0
  /-- Global head id (R284). Implied by the rule, not a register. -/
  head : Nat := 0
  /-- Bar fire time, ns (R284). Implied by the rule, not a register. -/
  fire : Nat := 0
  /-- PERIOD (R285). Implied by the rule, not a register. -/
  period : Nat := 0
  /-- WAVE (R284). Implied by the rule, not a register. -/
  wave : Nat := 0
  /-- End of transmission as reckoned at release, press time in 1/15 ns (R241). Implied by the rule, not a register. -/
  endAt : Nat := 0
  /-- Nozzle slots (pair-1 0-2,047, pair-2 2,048-4,095) with a non-zero code (R182). Implied by the rule, not a register. -/
  payload : List (Nat × Nat) := []
  /-- Given to its lane; a frame of Wythe 1 waits for the course record (R27). Implied by the rule, not a register. -/
  sent : Bool := true
  deriving DecidableEq, Repr

/-- A unit that waits for its lane (R276). -/
structure TxUnit where
  /-- Place in the order of priority (R276). Implied by the rule, not a register. -/
  prio : Nat := 0
  /-- KIND (R276). Implied by the rule, not a register. -/
  kind : Nat := 0
  /-- 128-bit data words of its blocks (R276). Implied by the rule, not a register. -/
  data : List Nat := []
  /-- Line bit time at which it became due (R276). Implied by the rule, not a register. -/
  due : Nat := 0
  /-- FRAME: global head id (R284). Implied by the rule, not a register. -/
  head : Nat := 0
  /-- FRAME: course (R284). Implied by the rule, not a register. -/
  course : Nat := 0
  /-- ECHO_REPLY: line bit time at which the ECHO that it answers arrived (R291). Implied by the rule, not a register. -/
  echoAt : Nat := 0
  deriving DecidableEq, Repr

/-- How the bits that a receiver has taken end (R279). -/
structure RxEnd where
  /-- Last bit (R279). Implied by the rule, not a register. -/
  last : Bool := false
  /-- Run of equal bits at the end (R279). Implied by the rule, not a register. -/
  run : Nat := 0
  /-- Up-time of the end (R276). Implied by the rule, not a register. -/
  at_ : Nat := 0
  deriving DecidableEq, Repr

/-- A transmitter of a lane (R276 to R279). -/
structure TxLine where
  /-- SEQ of the last unit sent (R277). -/
  seq : Nat := 0
  /-- Line bit time (1/15 ns of up-time) at which the last unit that has begun ends (R276). Implied by the rule, not a register. -/
  freeAt : Nat := 0
  /-- Last bit sent (R279). Implied by the rule, not a register. -/
  last : Bool := false
  /-- Equal bits at the end of the stream (R279). Implied by the rule, not a register. -/
  run : Nat := 0
  /-- Units waiting, in the order in which they go (R276). Implied by the rule, not a register. -/
  queue : List TxUnit := []
  deriving DecidableEq, Repr

/-- An Ndeig lane (R302, R306). -/
structure Lane where
  /-- 3 LANE_STATE (R306). -/
  st : LaneState := .off
  /-- 2 EQ_SET (R306). -/
  eqSet : Nat := 0
  /-- Receiver ALIGNED (R281). Implied by the rule, not a register. -/
  aligned : Bool := false
  /-- Up-time the receiver became UNALIGNED (R303). Implied by the rule, not a register. -/
  unalignedAt : Nat := 0
  /-- Up-time the state was entered (R302). Implied by the rule, not a register. -/
  since : Nat := 0
  /-- NODE_ID recorded (R303). Implied by the rule, not a register. -/
  nodeId : Nat := 0
  /-- 2 NODE_LANE (R306). -/
  nodeLane : Nat := 0
  /-- PORT recorded (R300). Implied by the rule, not a register. -/
  port : Nat := 0
  /-- HELLO content (R300). Implied by the rule, not a register. -/
  hello : Option NodeRec := none
  /-- 16 DELAY_F, 1/16 ns (R306). -/
  delayF : Nat := 0
  /-- Last 16 d_f samples, 1/30 ps (R291). Implied by the rule, not a register. -/
  rtts : List Int := []
  /-- 16 LOSSES saturating (R306). -/
  losses : Nat := 0
  /-- Lost since the last discovery, so that it carries no head (R302). Implied by the rule, not a register. -/
  barred : Bool := false
  /-- 32 RX_CORRECTED saturating (R306). -/
  rxCorr : Nat := 0
  /-- 32 RX_UNCORRECTABLE saturating (R306). -/
  rxUnc : Nat := 0
  /-- Up-times of uncorrectable blocks within 1 ms (R303). Implied by the rule, not a register. -/
  uncAt : List Nat := []
  /-- UNCORRECTABLE of the last STATUS since UP (R303). Implied by the rule, not a register. -/
  farUnc : Option Nat := none
  /-- Up-times and counts of blocks the node could not correct, within 1 ms (R303). Implied by the rule, not a register. -/
  farUncAt : List (Nat × Nat) := []
  /-- Up-time of the last valid STATUS (R303). Implied by the rule, not a register. -/
  lastStatus : Nat := 0
  /-- Frames whose fire time has not passed, in order (R242). Implied by the rule, not a register. -/
  frames : List FrameTx := []
  /-- Transmitter (R276). Implied by the rule, not a register. -/
  tx : TxLine := {}
  /-- Next ECHO TAG (R291). Implied by the rule, not a register. -/
  echoTag : Nat := 0
  /-- Consecutive valid delimiters received, up to 3 (R281). Implied by the rule, not a register. -/
  rxGood : Nat := 0
  /-- Consecutive invalid delimiters received, up to 2 (R281). Implied by the rule, not a register. -/
  rxBad : Nat := 0
  /-- Stuffing violations recorded (R279). Implied by the rule, not a register. -/
  violations : Nat := 0
  /-- How the last unit received ended (R279). Implied by the rule, not a register. -/
  rxEnd : RxEnd := {}
  deriving DecidableEq, Repr

/-- The module's view of a node's lease (R297). -/
structure Lease where
  /-- Node (R297). Implied by the rule, not a register. -/
  nodeId : Nat := 0
  /-- Lease granted to this module (R297). Implied by the rule, not a register. -/
  held : Bool := false
  /-- Epoch held or requested (R297). Implied by the rule, not a register. -/
  epoch : Nat := 0
  /-- Port used (R341). Implied by the rule, not a register. -/
  port : Nat := 0
  /-- Consecutive STATUS units showing another holder (R297). Implied by the rule, not a register. -/
  bad : Nat := 0
  /-- An ACQUIRE waits for its result (R297). Implied by the rule, not a register. -/
  asked : Bool := false
  /-- Up-time at which a refused ACQUIRE is repeated (R297). Implied by the rule, not a register. -/
  retryAt : Option Nat := none
  /-- Last STATUS shows FREE (R338). Implied by the rule, not a register. -/
  free : Bool := false
  /-- Last LEASE_LEFT (R339). Implied by the rule, not a register. -/
  left : Nat := 0
  /-- Up-time of that STATUS (R339). Implied by the rule, not a register. -/
  leftAt : Nat := 0
  /-- EPOCH the node reported, none before its first STATUS (R297). Implied by the rule, not a register. -/
  nodeEpoch : Option Nat := none
  /-- Last BAD, LATE, REFUSED, ROW_DROPPED (R307). Implied by the rule, not a register. -/
  counts : List Nat := []
  /-- Time of the last 0x1303 record (R307). Implied by the rule, not a register. -/
  lossRep : Option Nat := none
  /-- Time of the last 0x1306 record (R307). Implied by the rule, not a register. -/
  errRep : Option Nat := none
  /-- HEAD_FAULT last reported (R307). Implied by the rule, not a register. -/
  headFault : Bool := false
  deriving DecidableEq, Repr

/-- Lanes and leases. -/
structure Ndeig where
  /-- 80 lanes (R306). -/
  lanes : List Lane := List.replicate 80 {}
  /-- Leases by node (R297). -/
  leases : List Lease := []
  /-- Head, up-time, temperature in 1/16 C (TEMPS) (R301). -/
  headTemp : List (Nat × Nat × Int) := []
  /-- Lanes that carry REST while REST or FAULT lasts (R298). Implied by the rule, not a register. -/
  restLanes : List Nat := []
  deriving DecidableEq, Repr

/-- An accepted frame in a node. -/
structure NFrame where
  /-- Head (R286). Implied by the rule, not a register. -/
  head : Nat := 0
  /-- COURSE_LO 11 bits (R286). Implied by the rule, not a register. -/
  course : Nat := 0
  /-- FIRE_TIME, node press time (R286). Implied by the rule, not a register. -/
  fire : Nat := 0
  /-- PERIOD (R285). Implied by the rule, not a register. -/
  period : Nat := 0
  /-- WAVE (R284). Implied by the rule, not a register. -/
  wave : Nat := 0
  /-- Rows that have not fired (R299). Implied by the rule, not a register. -/
  left : Nat := 2
  /-- Slots with non-zero codes (R182). Implied by the rule, not a register. -/
  codes : List (Nat × Nat) := []
  deriving DecidableEq, Repr

/-- A row waiting for or at its firing instant in a node. -/
structure NRow where
  /-- Head (R287). Implied by the rule, not a register. -/
  head : Nat := 0
  /-- Row 0-3 (R287). Implied by the rule, not a register. -/
  row : Nat := 0
  /-- Course of its frame, 11 bits (R287). Implied by the rule, not a register. -/
  course : Nat := 0
  /-- COURSE_LO of the carrier frame (R287). Implied by the rule, not a register. -/
  carrier : Nat := 0
  /-- Firing instant once the carrier is known (R287). Implied by the rule, not a register. -/
  fireAt : Option Nat := none
  /-- F of the stagger in force when its frame was accepted (R287). Implied by the rule, not a register. -/
  frac : Nat := 0
  /-- EPOCH of the lease under which the carrier was accepted (R296). Implied by the rule, not a register. -/
  epoch : Nat := 0
  /-- E of that lease as it ended, where another has followed (R296). Implied by the rule, not a register. -/
  expiry : Nat := 0
  /-- Waveform (R287). Implied by the rule, not a register. -/
  wave : Nat := 0
  /-- Nozzle codes (R287). Implied by the rule, not a register. -/
  codes : List (Nat × Nat) := []
  deriving DecidableEq, Repr

/-- An Ndeig node board (R286-R301). -/
structure Node where
  /-- 32 NODE_ID (R300). Implied by the rule, not a register. -/
  id : Nat := 0
  /-- Lanes on port A (R300). Implied by the rule, not a register. -/
  lanesA : Nat := 1
  /-- Lanes on port B (R300). Implied by the rule, not a register. -/
  lanesB : Nat := 1
  /-- Heads strapped (R273). Implied by the rule, not a register. -/
  heads : List Nat := []
  /-- MAX_K (R300). Implied by the rule, not a register. -/
  maxK : Nat := 0
  /-- Lease HELD (R292). -/
  held : Bool := false
  /-- Holder port (last holder while FREE) (R292). -/
  holder : Nat := 0
  /-- 6 e (R292). -/
  epoch : Nat := 0
  /-- T, us (R292). -/
  tLease : Nat := 0
  /-- E (R292). -/
  expiry : Nat := 0
  /-- FREE after a RELEASE, E still frozen (R295). Implied by the rule, not a register. -/
  released : Bool := false
  /-- 3 ACQ_RESULT (R299). -/
  acqResult : Nat := 0
  /-- EXPIRED still to be shown, per lane (port A 0-3, port B 4-7) (R299). -/
  expired : BitVec 8 := 0
  /-- Node press time offset base: ARRIVAL loaded (R290). Implied by the rule, not a register. -/
  press : Nat := 0
  /-- Line bit time, 1/15 ns of up-time, at which bit 0 of that TIME arrived (R290). Implied by the rule, not a register. -/
  pressAt : Nat := 0
  /-- A TIME has been loaded within the last 200 µs (R290). -/
  timeOk : Bool := false
  /-- The port that it came from (R290). Implied by the rule, not a register. -/
  timePort : Nat := 0
  /-- TIME_ERR (R290). -/
  timeErr : Int := 0
  /-- RX_OK_A (R299). -/
  alignA : BitVec 4 := 0
  /-- RX_OK_B (R299). -/
  alignB : BitVec 4 := 0
  /-- Accepted, unfired frames (R289). -/
  frames : List NFrame := []
  /-- Pending rows (R287). -/
  rows : List NRow := []
  /-- LAST: accepted frames, of each head the newest first, all whose FIRE_TIME has not passed and the newest of the others: head,
  COURSE_LO, FIRE_TIME (R286, R296). -/
  last : List (Nat × Nat × Nat) := []
  /-- STAGGER A-D per head (R305). -/
  stagger : List (Nat × List Nat) := []
  /-- FIRED (R299). -/
  fired : BitVec 16 := 0
  /-- LATE (R299). -/
  late : BitVec 16 := 0
  /-- BAD (R299). -/
  bad : BitVec 16 := 0
  /-- REFUSED (R299). -/
  refused : BitVec 16 := 0
  /-- ROW_DROPPED (R299). -/
  rowDropped : BitVec 16 := 0
  /-- CORRECTED per lane (R299). -/
  corrected : List (BitVec 16) := List.replicate 8 0
  /-- UNCORRECTABLE per lane (R299). -/
  uncorr : List (BitVec 16) := List.replicate 8 0
  /-- Heads reporting a fault (R301). -/
  faultHeads : List Nat := []
  /-- STATUS_SEQ per lane (R299). -/
  statusSeq : List (BitVec 8) := List.replicate 8 0
  /-- Transmitters per lane (port A 0-3, port B 4-7) (R276). Implied by the rule, not a register. -/
  tx : List TxLine := List.replicate 8 {}
  /-- Consecutive valid delimiters received, per lane (R281). Implied by the rule, not a register. -/
  rxGood : List Nat := List.replicate 8 0
  /-- Consecutive invalid delimiters received, per lane (R281). Implied by the rule, not a register. -/
  rxBad : List Nat := List.replicate 8 0
  /-- Stuffing violations recorded, per lane (R279). Implied by the rule, not a register. -/
  violations : List Nat := List.replicate 8 0
  /-- How the last unit received ended, per lane (R279). Implied by the rule, not a register. -/
  rxEnds : List RxEnd := List.replicate 8 {}
  /-- Lane of port A from whose recovered clock its transmitters run (R281). Implied by the rule, not a register. -/
  clockA : Option Nat := none
  /-- The same of port B (R281). Implied by the rule, not a register. -/
  clockB : Option Nat := none
  deriving DecidableEq, Repr

/-- Safety. -/
structure Plumb where
  /-- CAUSE_LATCHED (Aux domain) (R316). -/
  latched : BitVec 32 := 0
  /-- Event causes present in the last sample (R316). -/
  events : BitVec 32 := 0
  /-- Up-time of the last sample that registered causes (R316). Implied by the rule, not a register. -/
  eventsAt : Nat := 0
  /-- Reason of each latched cause (R316). Implied by the rule, not a register. -/
  latchReason : List (Nat × Nat) := []
  /-- Latched causes that still need a main-domain reset (R316). Implied by the rule, not a register. -/
  mustReset : BitVec 32 := 0
  /-- IN_LEVEL filtered (R323). -/
  level : BitVec 24 := 0
  /-- BREAK_OPEN (R323). -/
  breakOpen : Bool := false
  /-- JAM_OPEN (R323). -/
  jamOpen : Bool := false
  /-- Up-time since ESTOP_A and ESTOP_B differ (R316). Implied by the rule, not a register. -/
  discAt : Option Nat := none
  /-- ESTOP_DISC condition present (R316). Implied by the rule, not a register. -/
  disc : Bool := false
  /-- WDOG_OK (R323). -/
  wdogOk : Bool := false
  /-- Watchdog dropped until the next main-domain reset (R314). Implied by the rule, not a register. -/
  wdogTrip : Bool := false
  /-- Up-time of the last key write (R314). Implied by the rule, not a register. -/
  wdogAt : Option Nat := none
  /-- THERM_OK (R323). -/
  thermOk : Bool := false
  /-- The hardware comparator of Wythe 0 has tripped (R310). Implied by the rule, not a register. -/
  trip0 : Bool := false
  /-- The same of Wythe 1 (R310). Implied by the rule, not a register. -/
  trip1 : Bool := false
  /-- What each filtered input, output and supply shows, and up-time since when, by number (0-23 inputs, 32-47 outputs, 64-75 loads, 80 V_FIELD, 96-99 sensor supplies, 112-127 matrix rows) (R311). Implied by the rule, not a register. -/
  dwells : List (Nat × Nat × Nat) := []
  /-- 16 V_FIELD, 10 mV (R323). -/
  vField : Int := 0
  /-- FIELD_SUPPLY condition present (R316). Implied by the rule, not a register. -/
  fieldLow : Bool := false
  /-- Outputs that read on while commanded off, which OUT_STATE shows (R323). -/
  stuckOn : BitVec 16 := 0
  /-- Outputs in current limit, which read off while commanded on (R323). -/
  stuckOff : BitVec 16 := 0
  /-- OUT_FAULT (R323). -/
  outFault : BitVec 16 := 0
  /-- Level last commanded on GP_OUT0 (R321). -/
  gpOut : Bool := false
  /-- 64 FIRST_STAMP (R323). -/
  firstStamp : Nat := 0
  /-- 5 FIRST_CAUSE, none reads 0 (R323). -/
  firstCause : Option Nat := none
  /-- 8 FIRST_REASON (R323). -/
  firstReason : Nat := 0
  /-- The Tie is trained (R30). Implied by the rule, not a register. -/
  tieTrained : Bool := true
  /-- Per engine: heartbeat and up-time it last advanced (R315). Implied by the rule, not a register. -/
  beats : List (Nat × Nat × Nat) := []
  /-- Engines whose present stall has been registered (R315). Implied by the rule, not a register. -/
  stalled : List Nat := []
  deriving DecidableEq, Repr

/-- A Buttress port. -/
structure BLink where
  /-- Link enabled (OFF otherwise) (R361). -/
  enabled : Bool := false
  /-- Link UP (R361). -/
  up : Bool := false
  /-- Lanes UP (R361). -/
  lanes : BitVec 4 := 0
  /-- Lanes whose receiver is ALIGNED (R326). Implied by the rule, not a register. -/
  aligned : BitVec 4 := 0
  /-- Lanes on which a BEAT has arrived since then (R326). Implied by the rule, not a register. -/
  heard : BitVec 4 := 0
  /-- Lanes on which a BEAT has left since then (R326). Implied by the rule, not a register. -/
  said : BitVec 4 := 0
  /-- Up-time of the last BEAT sent, by lane (R327). Implied by the rule, not a register. -/
  beatAt : List (Nat × Nat) := []
  /-- Up-time it went DOWN (R339). Implied by the rule, not a register. -/
  downAt : Nat := 0
  /-- Up-time of the last BEAT (R326). Implied by the rule, not a register. -/
  lastBeat : Nat := 0
  deriving DecidableEq, Repr

/-- A command that waits for the partner's acknowledgement (R332). -/
structure Fwd where
  /-- Channel (R332). Implied by the rule, not a register. -/
  ch : Nat := 0
  /-- Slot (R332). Implied by the rule, not a register. -/
  slot : Nat := 0
  /-- Up-time at which it was forwarded (R332). Implied by the rule, not a register. -/
  at_ : Nat := 0
  /-- Its RESULT (R332). Implied by the rule, not a register. -/
  result : Nat := 0
  /-- Its DETAIL (R332). Implied by the rule, not a register. -/
  detail : Nat := 0
  /-- Its DATA (R332). Implied by the rule, not a register. -/
  data : List Nat := []
  /-- Its WARN (R332). Implied by the rule, not a register. -/
  warn : Bool := false
  /-- Its LATE_MARK (R332). Implied by the rule, not a register. -/
  late : Bool := false
  /-- A CFG.CHECK carried in a gang (R354). Implied by the rule, not a register. -/
  check : Bool := false
  /-- Gang members whose answers are awaited (R354). Implied by the rule, not a register. -/
  need : List Nat := []
  /-- Answers of gang members that are not OK: member, RESULT, DETAIL (R354). Implied by the rule, not a register. -/
  acks : List (Nat × Nat × Nat) := []
  /-- The command itself is still pending (CFG.COMMIT) (R332). Implied by the rule, not a register. -/
  keep : Bool := false
  /-- Its verb (R332). Implied by the rule, not a register. -/
  verb : Nat := 0
  deriving DecidableEq, Repr

/-- A gang neighbour's nozzles of one bar in the overlap, for the courses from a lift on (R355). -/
structure SeamCopy where
  /-- Side of the neighbour, 0 East (R355). Implied by the rule, not a register. -/
  side : Nat := 0
  /-- Bar (R355). Implied by the rule, not a register. -/
  bar : Nat := 0
  /-- Lift from which the copy governs (R355). Implied by the rule, not a register. -/
  lift : Nat := 0
  /-- Nozzle states, 32 x row + overlap column (R355). Implied by the rule, not a register. -/
  states : SMap := ⟨3, []⟩
  /-- Density codes, 32 x row + overlap column (R355). Implied by the rule, not a register. -/
  codes : SMap := ⟨128, []⟩
  deriving DecidableEq, Repr

/-- Pairs and gangs. -/
structure Butt where
  /-- East link (R361). -/
  east : BLink := {}
  /-- West link (R361). -/
  west : BLink := {}
  /-- 2 PAIR_ROLE (R41). -/
  role : PairRole := .none
  /-- UNPROVEN (R41). -/
  unproven : Bool := false
  /-- MIRROR_OK (R361). -/
  mirrorOk : Bool := false
  /-- HB_OK (R361). -/
  hbOk : Bool := false
  /-- Up-time of the last heartbeat datagram (R360). Implied by the rule, not a register. -/
  hbAt : Nat := 0
  /-- Partner's role of the last BEAT (R327). -/
  partnerRole : PairRole := .none
  /-- Partner's OP_STATE of the last BEAT (R327). -/
  partnerState : OpState := .off
  /-- Partner's STATE_SEQ (R327). -/
  partnerSeq : Nat := 0
  /-- Partner's present lift of the last BEAT (R327). -/
  partnerLift : Nat := 0
  /-- Partner's SINCE_SWAP of the last BEAT (R327). -/
  partnerSince : Nat := 0
  /-- Partner's digest, firmware, offset, PREFER (R348). Implied by the rule, not a register. -/
  partnerInfo : PInfo := {}
  /-- 64 EPOCH_COMPLETE, none = all ones (R361). -/
  epoch : Option Nat := none
  /-- 64 PROGRESS_COURSE (R361). -/
  progress : Option Nat := none
  /-- 32 SINCE_SWAP (VBAT keep) (R361). -/
  sinceSwap : Nat := 0
  /-- 16 SWAPS (R361). -/
  swaps : Nat := 0
  /-- 16 TAKEOVERS (R361). -/
  takeovers : Nat := 0
  /-- 32 TIME_OFFSET (R361). -/
  offset : Int := 0
  /-- Offsets measured, by side, in ns (R358). Implied by the rule, not a register. -/
  offsets : List (Nat × Int) := []
  /-- Offsets of the gang members to member 0, in ns, as the chain tells them (R358, R361). Implied by the rule, not a register. -/
  chain : List (Nat × Int) := []
  /-- Units due on the Buttress links in this command (R327). Implied by the rule, not a register. -/
  wait : List Out := []
  /-- Mirror bank 0: item, offset, bytes (R334). -/
  bank0 : List (Nat × Nat × List Nat) := []
  /-- Mirror bank 1 (R334). -/
  bank1 : List (Nat × Nat × List Nat) := []
  /-- Epoch in bank 0 (R334). Implied by the rule, not a register. -/
  bankLift0 : Option Nat := none
  /-- Epoch in bank 1 (R334). Implied by the rule, not a register. -/
  bankLift1 : Option Nat := none
  /-- EPOCH_END of bank 0: UNITS, ECRC (R334). Implied by the rule, not a register. -/
  end0 : Option (Nat × Nat) := none
  /-- EPOCH_END of bank 1 (R334). Implied by the rule, not a register. -/
  end1 : Option (Nat × Nat) := none
  /-- The epoch in bank 0 is complete (R334). Implied by the rule, not a register. -/
  whole0 : Bool := false
  /-- The epoch in bank 1 is complete (R334). Implied by the rule, not a register. -/
  whole1 : Bool := false
  /-- Epoch whose MIRROR units have gone: lift, units, CRC (R333). Implied by the rule, not a register. -/
  mirrored : Option (Nat × Nat × Nat) := none
  /-- Grid difference of R335, counts x 2^32 (R335). Implied by the rule, not a register. -/
  grid : Option Int := none
  /-- Job table of the last epoch (R333). -/
  jobTable : List Nat := []
  /-- HANDOVER received: F_DONE, ONE_MORE (R342). -/
  handover : Option (Nat × Bool) := none
  /-- Takeover masking: RC and f_m (R342). Implied by the rule, not a register. -/
  mask : Option (Nat × Nat) := none
  /-- Pending PAIR.SWAP: mode, channel, slot (R345). -/
  swapPend : Option (Nat × Nat × Nat) := none
  /-- Up-time of a takeover or swap ACQUIRE (R341). Implied by the rule, not a register. -/
  acqAt : Option Nat := none
  /-- That ACQUIRE serves a swap (R346). Implied by the rule, not a register. -/
  acqSwap : Bool := false
  /-- A swap that waits for 100 ms of heartbeats: up-time, mode, RC (R346). Implied by the rule, not a register. -/
  swapAt : Option (Nat × Nat × Nat) := none
  /-- LEASE_LEFT of the last STATUS per lane: lane, value, up-time (R339). Implied by the rule, not a register. -/
  lastLeft : List (Nat × Nat × Nat) := []
  /-- Forwarded commands waiting (R332). -/
  fwd : List Fwd := []
  /-- A renewal was seen after the link loss (R339). Implied by the rule, not a register. -/
  renewed : Bool := false
  /-- Up-time at which a swap turned the ROLE output off (R346). Implied by the rule, not a register. -/
  swapOff : Option Nat := none
  /-- Formed or resynchronised since MIRROR_OK was last cleared (R337). Implied by the rule, not a register. -/
  synced : Bool := false
  /-- Target changes accepted since the last epoch, on a standby those forwarded that no epoch has brought yet: the lift that first steps
  toward them, nozzle, target (R332, R333). Implied by the rule, not a register. -/
  densChg : List (Nat × Nat × Nat) := []
  /-- On a standby the freeze mask of a forwarded DENS.FREEZE that no epoch has brought yet, with the lift that first steps under it (R332,
  R333). Implied by the rule, not a register. -/
  freezeChg : Option (Nat × BitVec 12) := none
  /-- NOZ.MAP entries applied since the last epoch (R333). Implied by the rule, not a register. -/
  nozChg : List (Nat × Nat) := []
  /-- GANG_FORMED / GANG_MEMBER (R361). -/
  gang : Bool := false
  /-- 2 MEMBER (R361). -/
  member : Nat := 0
  /-- Modules heard by heartbeat: member, up-time and datagram fields of the last datagram (R360). Implied by the rule, not a register. -/
  members : List (Nat × Nat × List Nat) := []
  /-- Last values known of the gang members (R353). Implied by the rule, not a register. -/
  info : List GInfo := []
  /-- Last values known of the members (R353). Implied by the rule, not a register. -/
  ginfo : List GInfo := []
  /-- Members that announced SETTLED (R357). -/
  settled : List Nat := []
  /-- Stop courses announced in the gang (R356). -/
  stops : List Nat := []
  /-- Members' lowest ceilings (R359). -/
  ceils : List (Nat × Nat) := []
  /-- Neighbour levels arrived: side, course, 16 columns of each of 12 channels (R355). -/
  seam : List (Nat × Nat × List Nat) := []
  /-- Copies of the neighbours' overlap nozzle states and density codes, newest first (R355). -/
  copies : List SeamCopy := []
  /-- Base fire times announced of courses not yet released: course, time (R358). Implied by the rule, not a register. -/
  fires : List (Nat × Nat) := []
  /-- Consecutive offsets within 50 ns (R358). Implied by the rule, not a register. -/
  divergeOk : Nat := 16
  deriving DecidableEq, Repr

/-- An Ethernet port's PTP state. -/
structure Port where
  /-- 1000BASE-T link (R479). DESIGN CHOICE (log entry 10): the reset value. -/
  link : Bool := false
  /-- 4 portState (R382). -/
  state : Nat := 0
  /-- SequenceId and t2 of a Sync that waits for its Follow_Up (R367). Implied by the rule, not a register. -/
  sync : Option (Nat × Int) := none
  /-- Delay_Req or Pdelay_Req sent: sequenceId, t3 (R367). Implied by the rule, not a register. -/
  reqT3 : Option (Nat × Int) := none
  /-- Pdelay_Req sent: sequenceId, t1 (R367). Implied by the rule, not a register. -/
  peer : Option (Nat × Int) := none
  /-- Pdelay_Resp received: sequenceId, t1, t2, t4 (R367). Implied by the rule, not a register. -/
  peerResp : Option (Nat × Int × Int × Int) := none
  /-- T1 and t2 of the last Sync (R367). Implied by the rule, not a register. -/
  ds : Option (Int × Int) := none
  /-- The path delay that the port's last peer delay exchange measured (R367). Implied by the rule, not a register. -/
  peerDelay : Option Int := none
  /-- Up-time of the last Announce of the parent (R368). Implied by the rule, not a register. -/
  annAt : Option Nat := none
  /-- Announce of the best master on the port: prio1, class, accuracy, variance, prio2, identity, stepsRemoved, sender, utcOffset, utcValid (R375). -/
  announce : List Nat := []
  deriving DecidableEq, Repr

/-- Press time and servo. -/
structure Time where
  /-- 2 SERVO_STATE (R382). -/
  servo : Servo := .free
  /-- 2 HOLD_REASON (R382). -/
  reason : Nat := 0
  /-- TIME_VALID (R382). -/
  valid : Bool := false
  /-- STEP_PENDING (R382). -/
  stepPending : Bool := false
  /-- REF10_OK (R382). -/
  ref10 : Bool := false
  /-- PTP_PORT (R382). -/
  ptpPort : Nat := 0
  /-- Port 0 (R382). -/
  port0 : Port := {}
  /-- Port 1 (R382). -/
  port1 : Port := {}
  /-- STEP_SEQ (R382). -/
  stepSeq : BitVec 16 := 0
  /-- OFFSET (R382). -/
  offset : Int := 0
  /-- PATH_DELAY (R382). -/
  pathDelay : Int := 0
  /-- FREQ_TRIM, 1/16 ppb (R382). -/
  trim : Int := 0
  /-- STEP_OFFSET (R382). -/
  stepOffset : Int := 0
  /-- GM_ID (R382). -/
  gmId : Nat := 0
  /-- PPS_ERR (R382). -/
  ppsErr : Int := 0
  /-- STEPS saturating (R382). -/
  steps : Nat := 0
  /-- REFUSED saturating (R382). -/
  refused : Nat := 0
  /-- Offset samples of the state, newest first (R368). Implied by the rule, not a register. -/
  samples : List Int := []
  /-- Last 8 path delays, newest first (R369). Implied by the rule, not a register. -/
  delays : List Int := []
  /-- Stable samples since the path change (R369). Implied by the rule, not a register. -/
  stable : Nat := 0
  /-- First path delay after the change (R369). Implied by the rule, not a register. -/
  stableRef : Int := 0
  /-- Consecutive samples not within the limit (R368). Implied by the rule, not a register. -/
  outRun : Nat := 0
  /-- Consecutive samples within 100 ns (ACQUIRING) or the limit (R368). Implied by the rule, not a register. -/
  inRun : Nat := 0
  /-- Last 64 trims (R368). Implied by the rule, not a register. -/
  trims : List Int := []
  /-- Up-time of the last change of the trim (R363). Implied by the rule, not a register. -/
  trimAt : Nat := 0
  /-- The trim that the present one runs to, at 10 ppm per second (R363; log entry 144). Implied by the rule, not a register. -/
  trimGoal : Option Int := none
  /-- Step waiting: D or the time to set, verb, channel, slot (R371). -/
  stepReq : Option (Int × Option Nat × Nat × Nat × Nat) := none
  /-- Up-time of the last PPS_IN edge (R368). Implied by the rule, not a register. -/
  ppsAt : Option Nat := none
  /-- Time of the last 0x1606 record (R379). Implied by the rule, not a register. -/
  ppsRep : Option Nat := none
  /-- PPS_OUT (R378). -/
  ppsOut : Bool := false
  /-- Course of the last periodic pulse of a trigger in CAM_MODE 1, so that a back-up repeats none (R377). Implied by the rule, not a register. -/
  camLast : List (Nat × Nat) := []
  /-- SNAP_SEQ (R382). -/
  snapSeq : BitVec 32 := 0
  /-- SNAP_TIME (R382). -/
  snapTime : Nat := 0
  /-- SNAP_POS0 (R382). -/
  snapPos0 : Int := 0
  /-- SNAP_POS1 (R382). -/
  snapPos1 : Int := 0
  /-- SNAP_HWM (R382). -/
  snapHwm : Int := 0
  /-- SNAP_COURSE (R382). -/
  snapCourse : Int := 0
  /-- SNAP_RELEASE (R382). -/
  snapRelease : Nat := 0
  /-- SequenceId of the module's own PTP messages (R365). Implied by the rule, not a register. -/
  seqId : Nat := 0
  deriving DecidableEq, Repr

/-- An external lamp driver (R387). -/
structure LampDrv where
  /-- ON and I_IDX per channel of the latched share (R387). Implied by the rule, not a register. -/
  latched : List (Nat × Nat) := []
  /-- Up-time of the last latch (R387). Implied by the rule, not a register. -/
  latchedAt : Option Nat := none
  /-- Every channel off (R387). Implied by the rule, not a register. -/
  off : Bool := true
  /-- The share of the last frame was latched (R388). Implied by the rule, not a register. -/
  shareOk : Bool := false
  /-- The channel that the share latched last stretches, and the up-time at which its first PWM period ends (R387). Implied by the rule, not
  a register. -/
  stretch : Option (Nat × Nat) := none
  deriving DecidableEq, Repr

/-- Lamps. -/
structure Corbel where
  /-- Number of the next frame, from which FRAME_NO reads (R404). -/
  frameNo : BitVec 32 := 0
  /-- RET_OK (R404). -/
  retOk : BitVec 4 := 0
  /-- LEVEL per group (R391). -/
  level : List Nat := List.replicate 16 0
  /-- A LAMP.SET has come since BOOT or the last entry to REST or FAULT (R392). Implied by the rule, not a register. -/
  lit : Bool := false
  /-- 4,096 x 3 STATUS (R398). -/
  status : SMap := ⟨0, []⟩
  /-- 4,096 x 16 AGE (R398). -/
  age : SMap := ⟨0, []⟩
  /-- 4,096 x 12 ON_SENT (R398). -/
  onSent : SMap := ⟨0, []⟩
  /-- 4,096 x 4 I_SENT (R398). -/
  iSent : SMap := ⟨0, []⟩
  /-- ON of the frame before (R394). Implied by the rule, not a register. -/
  onPrev : SMap := ⟨0, []⟩
  /-- ST of the frame before plus 1 (R394). Implied by the rule, not a register. -/
  stPrev : SMap := ⟨0, []⟩
  /-- 4,096 x 1, the SHORT latches (R394). Implied by the rule, not a register. -/
  short : SMap := ⟨0, []⟩
  /-- Last probe result plus 1 (R395). Implied by the rule, not a register. -/
  probe : SMap := ⟨0, []⟩
  /-- Per channel, 1: the last probe reported OPEN or SHORT and is to be repeated; 2: its repeat has been sent (R395). Implied by the rule,
  not a register. -/
  probeBad : SMap := ⟨0, []⟩
  /-- Channel probed in the last frame plus 1, per driver (R395). Implied by the rule, not a register. -/
  probeSent : SMap := ⟨0, []⟩
  /-- The same, of the frame before (R395). Implied by the rule, not a register. -/
  probePrev : SMap := ⟨0, []⟩
  /-- Driver, share and diagnosis failures since the chain's last 0x1703 record (R405). Implied by the rule, not a register. -/
  failSince : List (Nat × Nat × Nat) := []
  /-- 256 x 8 TEMP, reset 0xFF (R398). -/
  temp : SMap := ⟨255, []⟩
  /-- 256 x 4 LIMIT (R398). -/
  limit : SMap := ⟨15, []⟩
  /-- Frames since the last LIMIT change (R396). Implied by the rule, not a register. -/
  limitAge : SMap := ⟨64, []⟩
  /-- 256 x 1 OFF_HOT (R398). -/
  hot : SMap := ⟨0, []⟩
  /-- 256 x 1 DRV_OT (R398). -/
  drvOt : SMap := ⟨0, []⟩
  /-- 256 x 16 SHARE_FAILS (R398). -/
  shareFails : SMap := ⟨0, []⟩
  /-- 256 x 16 DIAG_FAILS (R398). -/
  diagFails : SMap := ⟨0, []⟩
  /-- Consecutive frames without a diagnosis word, per driver (R394). Implied by the rule, not a register. -/
  missing : SMap := ⟨0, []⟩
  /-- Consecutive frames without a valid TEMP, per driver (R396). Implied by the rule, not a register. -/
  noTemp : SMap := ⟨0, []⟩
  /-- Consecutive bad returns per chain (R389). Implied by the rule, not a register. -/
  badRet : List Nat := List.replicate 4 0
  /-- Consecutive complete returns per chain (R389). Implied by the rule, not a register. -/
  goodRet : List Nat := List.replicate 4 0
  /-- Time of the last 0x1703 record, per chain (R405). Implied by the rule, not a register. -/
  failRep : List (Nat × Nat) := []
  /-- Chains whose frame has not had its return yet (R389). Implied by the rule, not a register. -/
  awaited : BitVec 4 := 0
  /-- Chains whose ended frame's return is still to come, and is ignored (R392). Implied by the rule, not a register. -/
  ignoreRet : BitVec 4 := 0
  /-- Up-time at which the all-off frame starts (R392). Implied by the rule, not a register. -/
  restAt : Option Nat := none
  /-- Up-time at which the last frame started (R385). Implied by the rule, not a register. -/
  frameAt : Option Nat := none
  /-- External drivers by chain x 64 + driver (R387). -/
  drivers : List (Nat × LampDrv) := []
  deriving DecidableEq, Repr

/-- Indicator matrix. -/
structure Panel where
  /-- 256 x (CODE + 64 x BLINK) in force (R400). -/
  codes : SMap := ⟨0, []⟩
  /-- Next row slot (R400). -/
  row : Nat := 0
  /-- Up-time at which the last row slot started (R400). Implied by the rule, not a register. -/
  slotAt : Option Nat := none
  /-- Next pin pair to test (R403). -/
  pair : Nat := 0
  /-- Pairs that failed in the last cycle (R403). Implied by the rule, not a register. -/
  failed : BitVec 31 := 0
  /-- PIN_LATCH (R404). -/
  pinLatch : BitVec 31 := 0
  /-- ROW_LIMITED (R404). -/
  rowLimited : BitVec 16 := 0
  /-- ROW_LATCHED (R404). -/
  rowLatched : BitVec 16 := 0
  /-- Consecutive frames below half current, per indicator (R401). Implied by the rule, not a register. -/
  openRun : SMap := ⟨0, []⟩
  /-- PANEL_OPEN per indicator (R404). -/
  openBits : SMap := ⟨0, []⟩
  deriving DecidableEq, Repr

/-- A calibration block record (R424). -/
structure Cal where
  /-- 64 LAST_RUN (R424). -/
  lastRun : Nat := 0
  /-- 32 RUNS (R424). -/
  runs : BitVec 32 := 0
  /-- 16 LAST_T, none = 0x8000 (R424). -/
  lastT : Option Int := none
  /-- 16 QUALITY (R424). -/
  quality : Nat := 0
  /-- 16 REJECTS saturating (R424). -/
  rejects : Nat := 0
  /-- Trims in use, each as its place in a range of 65,536 (R419). Implied by the rule, not a register. -/
  trims : List Nat := []
  /-- Trims of the spare core of an ADC (R419, R420). Implied by the rule, not a register. -/
  spare : List Nat := []
  /-- Trims that come into use at the next lift boundary (R420). Implied by the rule, not a register. -/
  due : List Nat := []
  /-- Which ADC core runs (R420). Implied by the rule, not a register. -/
  core : Nat := 0
  /-- Up-time at which the present run began (R419). Implied by the rule, not a register. -/
  startAt : Nat := 0
  /-- 2 CAL_STATE (R424). -/
  st : Nat := 0
  deriving DecidableEq, Repr

/-- A temperature sensor (R406). -/
structure Sensor where
  /-- 16 TEMP, none = 0x8000 (R425). -/
  temp : Option Int := none
  /-- SENSOR_FAIL bit (R425). -/
  failed : Bool := false
  /-- Consecutive valid readings while failed (R407). Implied by the rule, not a register. -/
  good : Nat := 0
  /-- Up-time of the last conversion (R407). Implied by the rule, not a register. -/
  seenAt : Option Nat := none
  deriving DecidableEq, Repr

/-- Thermal. -/
structure Coping where
  /-- THROTTLE_STEP (R425). -/
  step : Nat := 0
  /-- Step whose clock and ceiling are in effect (R413). Implied by the rule, not a register. -/
  stepForce : Nat := 0
  /-- FROZEN (R425). -/
  frozen : Bool := false
  /-- FORCED (R425). -/
  forced : Bool := false
  /-- REF_SUSPECT (R425). -/
  refSuspect : Bool := false
  /-- Last reference difference, 0.01 % (R422). Implied by the rule, not a register. -/
  refDiff : Int := 0
  /-- P_MEAS, 0.1 W (R425). -/
  pMeas : Nat := 0
  /-- THERM_CEIL (R425). -/
  thermCeil : Nat := 118110
  /-- Sensors 0-24 (R406). -/
  sensors : List Sensor := List.replicate 25 {}
  /-- HBM_DOUBLE (R425). -/
  double : BitVec 4 := 0
  /-- 720 x 4 WAVE_BAND (R425). -/
  wave : SMap := ⟨0, []⟩
  /-- Waveform bands of the lift being screened (R409). Implied by the rule, not a register. -/
  waveNext : SMap := ⟨0, []⟩
  /-- Refresh bands of the lift being screened (R409). Implied by the rule, not a register. -/
  doubleNext : BitVec 4 := 0
  /-- Lane trim set of Wythe 0 (R410). -/
  eq0 : Nat := 0
  /-- Lane trim set of Wythe 1 (R410). -/
  eq1 : Nat := 0
  /-- The same for the lift being screened (R409). Implied by the rule, not a register. -/
  eqNext0 : Nat := 0
  /-- The same for the lift being screened, Wythe 1 (R409). Implied by the rule, not a register. -/
  eqNext1 : Nat := 0
  /-- Up-time at which screening of a lift last began (R409). Implied by the rule, not a register. -/
  liftBegan : Option Nat := none
  /-- Failed sensors, each with the up-time of its failure (R415). Implied by the rule, not a register. -/
  failOrder : List (Nat × Nat) := []
  /-- Heads that changed band since the last 0x1804 record (R410). Implied by the rule, not a register. -/
  waveSince : List Nat := []
  /-- Time of the last 0x1804 record (R410). Implied by the rule, not a register. -/
  waveRep : Option Nat := none
  /-- Up-time of the last step change (R412). Implied by the rule, not a register. -/
  stepAt : Option Nat := none
  /-- Up-time since which E <= -5 C (R412). Implied by the rule, not a register. -/
  coolFrom : Option Nat := none
  /-- Sensor that set E in the last evaluation (R414). Implied by the rule, not a register. -/
  hotSensor : Option Nat := none
  /-- Failed sensors that set E as they failed, with the step above 0 (R414). Implied by the rule, not a register. -/
  lostHot : List Nat := []
  /-- Failed sensors that failed first of a group lost as a whole (R415). Implied by the rule, not a register. -/
  lostFirst : List Nat := []
  /-- TJ_HW0, none = 0x8000 (R425). -/
  tjHw0 : Option Int := none
  /-- TJ_HW1 (R425). -/
  tjHw1 : Option Int := none
  /-- Calibration blocks (R424). -/
  cal : List Cal := List.replicate 108 {}
  /-- Up-times of shutdowns in the last 60 minutes (R418). -/
  shutdowns : List Nat := []
  /-- Up-time of the shutdown that waits for restart (R418). Implied by the rule, not a register. -/
  shutAt : Option Nat := none
  /-- LOCKOUT (R425). -/
  lockout : Bool := false
  /-- MIRROR_SEQ (R425). -/
  mirrorSeq : BitVec 32 := 0
  /-- Status mirror words as last copied: offset, value (R425). -/
  mirror : List (Nat × Nat) := []
  deriving DecidableEq, Repr

/-- A side-band bus (R429). -/
structure ZBus where
  /-- OP echoed (R428). Implied by the rule, not a register. -/
  op : Nat := 0
  /-- TAG (R429). Implied by the rule, not a register. -/
  tag : Nat := 0
  /-- FLAGS (bit 7 of R430 PAIR) (R430). Implied by the rule, not a register. -/
  flags : Nat := 0
  /-- RESULT (R428). Implied by the rule, not a register. -/
  result : Nat := 1
  /-- DETAIL (R428). Implied by the rule, not a register. -/
  detail : Nat := 0
  /-- Payload bytes (R428). Implied by the rule, not a register. -/
  payload : List Nat := []
  /-- Bytes that a read returns (R429). Implied by the rule, not a register. -/
  frame : List Nat := [0, 0, 0, 1, 0, 0]
  deriving DecidableEq, Repr

/-- An image session (R442). -/
structure Fw where
  /-- 0 main, 1 Plinth (R442). Implied by the rule, not a register. -/
  target : Nat := 0
  /-- Slot being written (R442). Implied by the rule, not a register. -/
  slot : Nat := 0
  /-- Length (R442). Implied by the rule, not a register. -/
  len : Nat := 0
  /-- Offset of the previous chunk (R442). Implied by the rule, not a register. -/
  prevOff : Option Nat := none
  /-- End of the previous chunk (R442). Implied by the rule, not a register. -/
  endOff : Nat := 0
  /-- RTC time of the last command (R442). Implied by the rule, not a register. -/
  last : Nat := 0
  deriving DecidableEq, Repr

/-- A firmware slot (R457). -/
structure Image where
  /-- Slot valid (R503). -/
  valid : Bool := true
  /-- VERSION (R457). DESIGN CHOICE (log entry 3): the reset value. -/
  version : Nat := 0
  /-- Bytes written in a session (R442). DESIGN CHOICE (log entry 3): the reset value. -/
  content : Mem := []
  /-- Has completed a BOOT (not on trial) (R458). DESIGN CHOICE (log entry 3): the reset value. -/
  confirmed : Bool := true
  deriving DecidableEq, Repr

/-- Aux domain management. -/
structure Plinth where
  /-- SPI bus (R429). DESIGN CHOICE (log entry 11): the reset value. -/
  spi : ZBus := { frame := [0, 0, 0, 1, 0, 0, 107] }
  /-- SMBus (R429). DESIGN CHOICE (log entry 11): the reset value. -/
  smbus : ZBus := {}
  /-- Request of one bus that waits for the other's: OP, request, whether the Keystone acknowledges in time (R429). Implied by the rule, not a register. -/
  held : Option (Nat × ZReq × Bool) := none
  /-- 2 straps read at the Aux reset (R477). DESIGN CHOICE (log entry 11): the reset value. -/
  addrSel : Nat := 0
  /-- AUTO_ON (R432). -/
  autoOn : Bool := true
  /-- PEC_REQ (R432). -/
  pecReq : Bool := false
  /-- ALERT_MASK (R432). -/
  alertMask : BitVec 7 := 0x7F
  /-- ALERT_PEND (R431). -/
  alertPend : BitVec 7 := 0
  /-- ALERT released by the Alert Response Address (R432). Implied by the rule, not a register. -/
  alertReleased : Bool := false
  /-- POWER_OFF was the last power command (R432). DESIGN CHOICE (log entry 11): the reset value. -/
  lastOff : Bool := false
  /-- Aux queue: arrival up-time and record, at most 256 (R437). -/
  queue : List (Nat × Ev) := []
  /-- Records lost since the queue was full (R437). Implied by the rule, not a register. -/
  dropNow : Nat := 0
  /-- Event log, oldest first, at most 2,048 (R437). -/
  log : List LogEntry := []
  /-- Next LOG_SEQ (R438). -/
  nextSeq : BitVec 32 := 0
  /-- WRAPS (R437). -/
  wraps : Nat := 0
  /-- DROPPED (R437). -/
  dropped : Nat := 0
  /-- LOG_REINIT (R437). -/
  reinit : Bool := false
  /-- TAMPER_COUNT saturating (R431). -/
  tamper : Nat := 0
  /-- Image session (R442). -/
  fw : Option Fw := none
  /-- Main image A (R457). DESIGN CHOICE (log entry 3): the reset value. -/
  imgA : Image := {}
  /-- Main image B (R457). DESIGN CHOICE (log entry 3): the reset value. -/
  imgB : Image := {}
  /-- Plinth image A (R503). DESIGN CHOICE (log entry 3): the reset value. -/
  plA : Image := {}
  /-- Plinth image B (R503). DESIGN CHOICE (log entry 3): the reset value. -/
  plB : Image := {}
  /-- Plinth slot running (R443). DESIGN CHOICE (log entry 3): the reset value. -/
  plRun : Nat := 0
  /-- Plinth slot selected (R443). DESIGN CHOICE (log entry 3): the reset value. -/
  plNext : Nat := 0
  /-- Main slot selected (R443). DESIGN CHOICE (log entry 3): the reset value. -/
  mainNext : Nat := 0
  /-- SYS.RESET image override (R456). -/
  imgOverride : Option Nat := none
  /-- RTC time of the last completed flash refresh (R460). DESIGN CHOICE (log entry 3): the reset value. -/
  refreshAt : Nat := 0
  /-- A trial BOOT ended with cause BOOT (R458). Implied by the rule, not a register. -/
  trialBad : Bool := false
  /-- The event log was emptied and 0x1906 is not yet written (R437). Implied by the rule, not a register. -/
  reinitDue : Bool := false
  /-- Elapsed time unknown after a keep reset (R460). -/
  refreshUnknown : Bool := false
  /-- Pair status last known before the main domains went off (R430). Implied by the rule, not a register. -/
  lastPair : List Nat := []
  /-- 16 PLINTH_FW (R425). DESIGN CHOICE (log entry 3): the reset value. -/
  fwVersion : Nat := 0
  deriving DecidableEq, Repr

/-- Supplies and domains. -/
structure Power where
  /-- Domains D0-D11 on (R446). -/
  domains : BitVec 12 := 0xFFF
  /-- Step of R450 in progress, 6 = complete (R450). -/
  seqStep : Nat := 6
  /-- Domains that missed or lost power-good (R451). -/
  failed : List Nat := []
  /-- V_MAIN mV (R485). DESIGN CHOICE (log entry 12): the reset value. -/
  vMain : Int := 48000
  /-- V_AUX mV (R485). DESIGN CHOICE (log entry 12): the reset value. -/
  vAux : Int := 12000
  /-- VBAT mV (R485). DESIGN CHOICE (log entry 12): the reset value. -/
  vBat : Int := 3000
  /-- V_MAIN within its thresholds (R448). DESIGN CHOICE (log entry 12): the reset value. -/
  mainOk : Bool := true
  /-- V_AUX present (R447). DESIGN CHOICE (log entry 12): the reset value. -/
  auxOk : Bool := true
  /-- VBAT present (R447). DESIGN CHOICE (log entry 12): the reset value. -/
  batOk : Bool := true
  /-- Up-time since which V_MAIN >= 35.0 V (R449). Implied by the rule, not a register. -/
  mainGoodAt : Option Nat := some 0
  /-- Up-time at which BOOT began (R459). Implied by the rule, not a register. -/
  bootAt : Nat := 0
  /-- BOOT reason recorded (R459) (R459). Implied by the rule, not a register. -/
  bootFail : Option Nat := none
  /-- The boot steps of R459 have not ended (R459). Implied by the rule, not a register. -/
  booting : Bool := true
  /-- Bus whose POWER_ON or POWER_CYCLE waits for BOOT (R433). Implied by the rule, not a register. -/
  waitBus : Option Nat := none
  /-- VBAT undervoltage reported since the Aux start (R448). Implied by the rule, not a register. -/
  batRep : Bool := false
  /-- Threshold kind in force on each input, 4 none (R448). Implied by the rule, not a register. -/
  kinds : List Nat := [4, 4, 4, 4]
  /-- Up-time at which the step in progress began (R451). Implied by the rule, not a register. -/
  stepAt : Nat := 0
  /-- Threshold kind each input shows, and up-time since when (R448). Implied by the rule, not a register. -/
  dwells : List (Nat × Nat × Nat) := []
  /-- Up-time at which the reset of SYS.RESET begins, and whether it is a cold one (R456). Implied by the rule, not a register. -/
  resetDue : Option (Nat × Bool) := none
  deriving DecidableEq, Repr

/-- The die-to-die link. -/
structure Tie where
  /-- Blocks due: sending wythe, class, fields (R29). -/
  wait : List (Nat × Nat × List Int) := []
  /-- Data of the last 32 blocks that Wythe 0 sent, newest first (R30). -/
  replay0 : List Nat := []
  /-- The same of Wythe 1 (R30). -/
  replay1 : List Nat := []
  /-- Symbols corrected by the receiver of Wythe 0 (R30). -/
  corrected0 : Nat := 0
  /-- Symbols corrected by the receiver of Wythe 1 (R30). -/
  corrected1 : Nat := 0
  deriving DecidableEq, Repr

/-- The whole module. -/
structure State where
  /-- Time (R8). -/
  clock : Clock := {}
  /-- Identity and operating state (R41). -/
  ident : Ident := {}
  /-- Mailbox channels 0-3 (R46). -/
  mbox : List Chan := List.replicate 4 {}
  /-- Event ring (R58). -/
  ring : Ring := {}
  /-- Configuration (R61). -/
  cfg : Cfg := {}
  /-- Jobs (R73). -/
  jobs : Jobs := {}
  /-- Scheduled actions (R77). -/
  acts : Acts := {}
  /-- Wythe 0 function (R40). -/
  fn0 : Fn := {}
  /-- Wythe 1 function (R40). -/
  fn1 : Fn := {}
  /-- Memories (R32). -/
  store : Store := {}
  /-- Screening (R158). -/
  mortar : Mortar := {}
  /-- Density state (R147). -/
  tone : Tone := {}
  /-- Nozzles and bond (R183). -/
  point : Point := {}
  /-- Web position inputs (R210). -/
  web : Web := {}
  /-- Course timing (R237). -/
  lintel : Lintel := {}
  /-- Registration (R248). -/
  quoin : Quoin := {}
  /-- Head link (R273). -/
  ndeig : Ndeig := {}
  /-- Ndeig node boards (R273). -/
  nodes : List (Nat × Node) := []
  /-- Safety (R308). -/
  plumb : Plumb := {}
  /-- Pairs and gangs (R326). -/
  butt : Butt := {}
  /-- Press time and servo (R363). -/
  time : Time := {}
  /-- Lamps (R384). -/
  corbel : Corbel := {}
  /-- Indicator matrix (R399). -/
  panel : Panel := {}
  /-- Thermal (R406). -/
  coping : Coping := {}
  /-- Side-band (R427). -/
  plinth : Plinth := {}
  /-- Power (R446). -/
  power : Power := {}
  /-- Die-to-die link (R29). -/
  tie : Tie := {}
  /-- Free-value counter (model's own) (R101). DESIGN CHOICE (log entry 13): the reset value. -/
  freeCtr : Nat := 0
  /-- Outputs sent, newest first (model's own) (R45). Implied by the rule, not a register. -/
  out : List Out := []
  /-- Commands waiting, first in first out (R25). Implied by the rule, not a register. -/
  pending : List Instr := []
  deriving DecidableEq, Repr

/-- Why a step stops with a fault: no command does, so there is no reason to name. -/
inductive Fault where
  deriving DecidableEq, Repr

/-- Why a step is refused. -/
inductive Refusal where
  /-- Raised by an arm of `exec` that has no meaning yet; safe. -/
  | notModelled (mnemonic : String)
  deriving DecidableEq, Repr

/-- The module right after the main-domain reset of R453: every field at the value its docstring names. -/
def State.reset : State := {}

end Sys2Proof.Machine
end

