-- ==== Sys2Proof/WellFormed.lean ====
section
/-! DEFINITION. Which commands are well formed: every operand within the numbers the spec gives it. -/

namespace Sys2Proof

/-- A list of bytes. -/
def bytesOk (l : List Nat) : Bool := l.all (· < 256)

/-- A mailbox submission that a host can write: R46 gives four channels of 64 slots, R47 the field widths. -/
def Mbox.wf (m : Mbox) : Bool :=
  m.ch < 4 && m.slot < 64 && m.tag < 65536 && m.rsvd5 < 32 && m.argLen < 256 && m.rsvd16 < 65536 &&
    m.args.length ≤ 56 && bytesOk m.args && m.host.all (fun p => p.1 < 2 ^ 64 && bytesOk p.2) &&
    0 < m.width && m.first + m.width ≤ 120992

/-- A request that a bus can carry (R428); one with a longer payload is discarded (`REQUEST_DISCARDED`). -/
def ZReq.wf (r : ZReq) : Bool :=
  r.bus < 2 && r.tag < 256 && r.flags < 256 && r.payload.length < 256 && bytesOk r.payload && r.check.all (· < 256)

/-- An argument byte of a submission, by its offset in the command area (R47). -/
def Mbox.arg (m : Mbox) (off : Nat) : Nat := m.args.getD (off - 8) 0

/-- A code of a 14-bit ADC (R218). -/
def adcOk (p : Int × Int) : Bool := -8192 ≤ p.1 && p.1 ≤ 8191 && -8192 ≤ p.2 && p.2 ≤ 8191

/-- What an encoder input can sample (R213, R218). -/
def EncIn.wf : EncIn → Bool
  | .lines _ => true
  | .adc a b => adcOk (a, b)

/-- Bytes that the host wrote to its own memory, each piece with its 64-bit address. -/
def hostOk (l : List (Nat × List Nat)) : Bool := l.all (fun p => p.1 < 2 ^ 64 && bytesOk p.2)

/-- The verbs of the command table of R57. -/
def verbTable : List Nat :=
  [0x0101, 0x0102, 0x0103, 0x0104, 0x0201, 0x0202, 0x0203, 0x0204, 0x0301, 0x0302, 0x0303, 0x0304, 0x0305, 0x0306,
   0x0401, 0x0402, 0x0403, 0x0404, 0x0405, 0x0406, 0x0407, 0x0408, 0x0501, 0x0502, 0x0503, 0x0504, 0x0601, 0x0602, 0x0603,
   0x0701, 0x0702, 0x0801, 0x0901, 0x0902, 0x0903, 0x0904, 0x0905, 0x0A01, 0x0A02, 0x0A03, 0x0B01, 0x0B02, 0x0B03,
   0x0C01, 0x0C02, 0x0C03, 0x0C04, 0x0D01, 0x0D02, 0x0E01, 0x0E02, 0x0E03]

/-- The threshold that a supply has crossed at a voltage in mV: 1 under, 2 over, 3 reversed, 4 none (R448, R485). -/
def supplyKind (input : Nat) (mv : Int) : Nat :=
  let band (rev low high : Int) : Nat := if mv < rev then 3 else if mv < low then 1 else if high < mv then 2 else 4
  match input with
  | 0 => band 0 33000 63000
  | 1 => band 0 10000 14500
  | 2 => band (-1000) 19200 30000
  | _ => if mv < 0 then 3 else if mv < 2500 then 1 else 4

/-- The OP codes of R430. -/
def zarnetrumOps : List Nat :=
  [0x01, 0x02, 0x03, 0x04, 0x05, 0x10, 0x11, 0x12, 0x13, 0x14, 0x15, 0x20, 0x21, 0x30, 0x31, 0x32, 0x33]

/-- An instruction whose operands such a command can carry.
The bounds are the number ranges that the rules named at each constructor of `Instr` give. -/
def Instr.wf : Instr → Bool
  | .vAuxApplied _ sel mv => sel < 4 && decide (10000 ≤ mv) && decide (mv ≤ 14500)
  | .keepReset _ => true
  | .supplyThreshold _ input kind mv => input < 4 && kind == supplyKind input mv
  | .suppliesLost _ => true
  | .autoOn _ => true
  | .domainPowerGood _ => true
  | .powerGoodMissed _ d => decide (2 ≤ d) && d < 12
  | .powerGoodLost _ d => decide (2 ≤ d) && d < 12
  | .bootEnd _ _ _ test fence0 fence1 => decide (test = 0 ∨ (3 ≤ test ∧ test ≤ 5)) && fence0.all (· < 28) && fence1.all (· < 28)
  | .bootTimeout _ => true
  | .functionReset _ fn _ => fn < 2
  | .linkTrained _ fn lanes rate mrrs mps _ => fn < 2 && [1, 2, 4, 8, 16].contains lanes && [25, 50, 80, 160, 320].contains rate && [128, 256, 512, 1024, 2048, 4096].contains mrrs && [128, 256, 512, 1024, 2048, 4096].contains mps
  | .pcieLinkLost _ fn => fn < 2
  | .registerWrite _ fn off bytes => fn < 2 && off % 4096 + bytes.length ≤ 4096 && off < 1048576 && bytesOk bytes
  | .responseRead _ ch slot off n => ch < 4 && slot < 64 && decide (off + n ≤ 64)
  | .intCauseClear _ fn clear again => fn < 2 && clear < 2 ^ 64 && again < 2 ^ 28
  | .intEnableWrite _ fn value => fn < 2 && value < 2 ^ 64
  | .overflowClear _ => true
  | .sysInfo _ m => m.wf
  | .sysPing _ m => m.wf
  | .sysEventRing _ m => m.wf
  | .sysResetWarm _ m => m.wf && m.arg 8 != 1
  | .sysResetCold _ m => m.wf && m.arg 8 == 1
  | .stateArm _ m => m.wf
  | .stateDisarm _ m => m.wf
  | .stateRest _ m => m.wf
  | .stateClear _ m => m.wf
  | .cfgStage _ m => m.wf
  | .cfgCheck _ m => m.wf
  | .cfgCommit _ m => m.wf
  | .cfgCancel _ m => m.wf
  | .cfgDiscard _ m => m.wf
  | .cfgRead _ m => m.wf
  | .jobOpen _ m => m.wf
  | .jobSubmitAttach _ m => m.wf && m.arg 9 != 2 && m.arg 9 != 3
  | .jobSubmitDetach _ m => m.wf && m.arg 9 == 2
  | .jobSubmitEnd _ m => m.wf && m.arg 9 == 3
  | .jobStart _ m => m.wf
  | .jobPause _ m => m.wf
  | .jobContinue _ m => m.wf
  | .jobAbort _ m => m.wf
  | .jobClose _ m => m.wf
  | .jobStatus _ m => m.wf
  | .evtAtCourse _ m => m.wf
  | .evtAtTime _ m => m.wf
  | .evtCancel _ m => m.wf
  | .evtList _ m => m.wf
  | .actionAtCourse _ _ => true
  | .actionAtTime _ _ => true
  | .densUpdate _ m => m.wf
  | .densRead _ m => m.wf
  | .densFreeze _ m => m.wf
  | .nozMap _ m => m.wf
  | .nozRead _ m => m.wf
  | .discover _ m => m.wf && m.arg 8 != 1 && m.arg 8 != 2
  | .readBond _ m => m.wf && m.arg 8 == 1
  | .readNodes _ m => m.wf && m.arg 8 == 2
  | .pairSwap _ m => m.wf
  | .pairJoin _ m _ => m.wf
  | .pairLeave _ m => m.wf
  | .pairTake _ m => m.wf
  | .pairInfo _ m => m.wf
  | .gangForm _ m members => m.wf && members.length ≤ 3
  | .gangDissolve _ m => m.wf
  | .gangInfo _ m => m.wf
  | .timeAcceptStep _ m => m.wf
  | .timeSet _ m => m.wf
  | .timeStatus _ m => m.wf
  | .lampSet _ m => m.wf
  | .lampRead _ m => m.wf
  | .lampClearShort _ m => m.wf && m.arg 8 != 1
  | .lampClearPins _ m => m.wf && m.arg 8 == 1
  | .panelSet _ m => m.wf
  | .copingRead _ m => m.wf
  | .copingCal _ m => m.wf
  | .plinthLogRead _ m => m.wf
  | .plinthFw _ m => m.wf
  | .plinthFwSelect _ m => m.wf
  | .ident _ r => r.wf
  | .status _ r => r.wf
  | .zarnetrumTemps _ r => r.wf
  | .pair _ r => r.wf
  | .settings _ r => r.wf
  | .powerOn _ r => r.wf
  | .powerOff _ r _ => r.wf
  | .powerCycle _ r _ => r.wf
  | .restReq _ r _ => r.wf
  | .force _ r => r.wf
  | .lockoutClear _ r => r.wf
  | .logInfo _ r => r.wf
  | .logRead _ r => r.wf
  | .fwOpen _ r => r.wf
  | .fwData _ r => r.wf
  | .fwClose _ r => r.wf
  | .fwSelect _ r => r.wf
  | .fwSessionTimeout _ => true
  | .alertResponse _ => true
  | .ringBaseWrite _ fn ch value => fn < 2 && ch < 16 && value < 2 ^ 64
  | .enable _ fn ch host => fn < 2 && ch < 16 && hostOk host
  | .abort _ fn ch => fn < 2 && ch < 16
  | .disable _ fn ch => fn < 2 && ch < 16
  | .tailWrite _ fn ch value host => fn < 2 && ch < 16 && value < 2 ^ 32 && hostOk host
  | .sourceDestinationFree _ fn => fn < 2
  | .readCompletion _ fn ch _ err _ host _ => fn < 2 && ch < 16 && err < 3 && hostOk host
  | .completionTimeout _ fn ch _ => fn < 2 && ch < 16
  | .admissionEnd _ fn ch => fn < 2 && ch < 16
  | .descriptorEnd _ fn ch => fn < 2 && ch < 16
  | .compressionResume _ job => job < 256
  | .eventRingWrite _ => true
  | .bar2Read _ fn off n => fn < 2 && decide (off + n ≤ 2 ^ 28) && n ≤ 4096
  | .bar2Write _ fn off bytes => fn < 2 && decide (off + bytes.length ≤ 2 ^ 28) && bytesOk bytes
  | .bar2DroppedRead _ fn => fn < 2
  | .snapReq _ fn => fn < 2
  | .timeNowLowRead _ rd => rd.2 < 2
  | .stripPipelineDecode _ w _ pieces => w < 2 && pieces.all bytesOk
  | .memoryError _ w target _ _ => w < 2 && target < 3
  | .scrubReport _ unit words => unit < 6 && words.all (fun p => p.1 < (if unit % 3 = 2 then 12582912 else 1073741824) && p.2.1 < 2 ^ 144)
  | .courseRecord _ course fire => course < 2 ^ 64 && fire < 2 ^ 64
  | .tieReplay _ failed => failed.dest < 2 && failed.back < 32 && failed.errors.all (· < 2 ^ 144)
  | .seamDeadlineMiss _ => true
  | .tieTrainingLost _ => true
  | .lockstep _ w => w < 2
  | .liftToken _ _ => true
  | .commitToken _ => true
  | .liftScreened _ w _ _ => w < 2
  | .courseRelease _ => true
  | .courseFire _ => true
  | .liftBoundary _ seam => seam.all (fun u => u.w < 2 && u.bar < 12 && u.idx < 491520 && u.value < (if u.states then 4 else 256))
  | .speedLoopCycle _ => true
  | .overspeedClear _ => true
  | .webAtRest _ => true
  | .ceiling _ => true
  | .resumeBegin _ => true
  | .rejectEdge _ => true
  | .markEdge _ run => run.k < 13
  | .markMiss _ k => k < 13
  | .positionChange _ enc inp => enc < 2 && inp.wf
  | .illegalTransition _ enc _ _ _ => enc < 2
  | .radiusFault _ enc samples => enc < 2 && samples.all adcOk
  | .index _ enc _ => enc < 2
  | .missingIndex _ enc => enc < 2
  | .pairStatusChange _ enc k _ => enc < 2 && k < 3
  | .hallChange _ run => run.code < 8
  | .checkWindow _ => true
  | .supplyOverload _ supply => supply.k < 4
  | .fieldInputChange _ inp _ _ => inp < 24
  | .estopDisc _ => true
  | .fieldSupply _ _ => true
  | .outputFault _ output kind => output < 16 && kind < 3
  | .openLoad _ load => load.output < 12
  | .thermOkChange _ _ => true
  | .watchdogKey _ => true
  | .watchdog _ _ => true
  | .heartbeatScan _ beats => beats.all (fun p => p.1 < 16 && p.1 != 13)
  | .aliveTick _ => true
  | .laneRxAligned _ l => l < 80
  | .laneRxUnaligned _ l => l < 80
  | .hello _ l len bits => l < 80 && len ≤ 65536 && bits < 2 ^ len
  | .identTimeout _ l => l < 80
  | .echoReply _ l len bits _ => l < 80 && len ≤ 65536 && bits < 2 ^ len
  | .delayTimeout _ l => l < 80
  | .statusUnit _ l len bits => l < 80 && len ≤ 65536 && bits < 2 ^ len
  | .tempsUnit _ l len bits => l < 80 && len ≤ 65536 && bits < 2 ^ len
  | .statusTimeout _ l => l < 80
  | .unalignedTimeout _ l => l < 80
  | .lostTimeout _ l => l < 80
  | .discovery _ => true
  | .timeSend _ l => l < 80
  | .echoSend _ l => l < 80
  | .discoverSend _ l => l < 80
  | .renewSend _ id => id < 2 ^ 32
  | .acquireRetry _ id => id < 2 ^ 32
  | .restSend _ => true
  | .nodeFrame _ _ port k len bits => port < 2 && k < 4 && len ≤ 65536 && bits < 2 ^ len
  | .nodeRenew _ _ port k len bits => port < 2 && k < 4 && len ≤ 65536 && bits < 2 ^ len
  | .nodeAcquire _ _ port k len bits => port < 2 && k < 4 && len ≤ 65536 && bits < 2 ^ len
  | .nodeRelease _ _ port k len bits => port < 2 && k < 4 && len ≤ 65536 && bits < 2 ^ len
  | .nodeRest _ _ port k len bits => port < 2 && k < 4 && len ≤ 65536 && bits < 2 ^ len
  | .nodeCancel _ _ port k len bits => port < 2 && k < 4 && len ≤ 65536 && bits < 2 ^ len
  | .nodeConfig _ _ port k len bits => port < 2 && k < 4 && len ≤ 65536 && bits < 2 ^ len
  | .nodeTime _ _ port k len bits => port < 2 && k < 4 && len ≤ 65536 && bits < 2 ^ len
  | .nodeEcho _ _ port k len bits turn => port < 2 && k < 4 && len ≤ 65536 && bits < 2 ^ len && turn ≤ 150000
  | .nodeDiscover _ _ port k len bits => port < 2 && k < 4 && len ≤ 65536 && bits < 2 ^ len
  | .nodeLeaseExpiry _ _ => true
  | .nodeRowFire _ _ _ row => row < 4
  | .nodeStatusSend _ _ port k => port < 2 && k < 4
  | .nodeTempsSend _ _ port _ => port < 2
  | .nodeReset _ id lanesA lanesB heads maxK => id < 2 ^ 32 && 1 ≤ lanesA && lanesA ≤ 4 && 1 ≤ lanesB && lanesB ≤ 4 && heads.length ≤ 48 && heads.eraseDups.length == heads.length && heads.all (· < 720) && maxK < 2048
  | .beat _ side role op phase unit => side < 2 && role < 4 && op < 8 && phase < 8 && unit.lane < 4
  | .beatSend _ side => side < 2
  | .buttressLinkDown _ side lanes => side < 2 && lanes < 16
  | .buttressLinkUp _ side lanes => side < 2 && lanes < 16
  | .mirror _ _ _ _ bytes => bytesOk bytes
  | .epochEnd _ _ units ecrc => units < 65536 && ecrc < 2 ^ 32
  | .progress _ _ => true
  | .handover _ _ _ cause => cause < 32
  | .msg _ side _ => side < 2
  | .forwardAckTimeout _ ch slot => ch < 4 && slot < 64
  | .gsync _ side _ => side < 2
  | .gtime _ side _ _ => side < 2
  | .gseam _ side _ _ _ => side < 2
  | .offsetMeasure _ => true
  | .pairFormation _ digest fw _ _ => digest < 2 ^ 64 && fw < 2 ^ 32
  | .resync _ => true
  | .takeover _ => true
  | .acquireTimeout _ => true
  | .swapAtReady _ => true
  | .autoSwap _ => true
  | .sinceSwapTick _ => true
  | .heartbeatSend _ => true
  | .heartbeatDatagram _ member _ => member < 4
  | .hbOkTimeout _ => true
  | .sync _ p _ m _ => p < 2 && m.seq < 65536 && m.domain < 256
  | .followUp _ p _ m _ => p < 2 && m.seq < 65536 && m.domain < 256
  | .delayReq _ p _ m => p < 2 && m.seq < 65536 && m.domain < 256
  | .delayResp _ p m _ => p < 2 && m.seq < 65536 && m.domain < 256
  | .pdelayReq _ p _ m _ => p < 2 && m.seq < 65536 && m.domain < 256
  | .pdelayResp _ p m _ _ => p < 2 && m.seq < 65536 && m.domain < 256
  | .pdelayRespFollowUp _ p m _ => p < 2 && m.seq < 65536 && m.domain < 256
  | .announce _ p _ fields => p < 2 && fields.length == 10
  | .arp _ p addr => p < 2 && addr < 2 ^ 32
  | .icmpEcho _ p addr => p < 2 && addr < 2 ^ 32
  | .announceTimeout _ => true
  | .stepApply _ => true
  | .rtcCopy _ => true
  | .ppsInEdge _ => true
  | .ppsOut _ => true
  | .ref10Lost _ => true
  | .ref10Restored _ => true
  | .camPulse _ k _ => k < 4
  | .chainFrameStart _ => true
  | .chainReturnEnd _ chain words _ => chain < 4 && words.length ≤ 64
  | .chainRestFrame _ => true
  | .driverLatch _ driver inp => driver < 256 && inp.highs.length ≤ 32768 && inp.st.length == 16 && inp.st.all (· < 3) && inp.temp < 256
  | .driverShareTimeout _ driver => driver < 256
  | .matrixRowSlot _ _ ua => ua.length == 16
  | .rowOvercurrent _ sw => sw.row < 16
  | .sensorSample _ temps _ _ _ => temps.length ≤ 32
  | .calRunEnd _ block trims quality _ => block < 108 && trims.all (· < 65536) && quality < 65536
  | .referenceCompare _ _ => true
  | .hardwareShutdown _ w _ => w < 2
  | .thermalRestart _ _ _ => true
  | .statusMirrorCopy _ => true
  | .logCommit _ => true
  | .tamper _ => true
  | .flashRefresh _ bad => bad.all (· < 4)
  | .quantaLostReport _ w => w < 2
  | .saturationReport _ w => w < 2
  | .ethernetLink _ p _ => p < 2
  | .nodeReceiverAlignment _ _ port k _ => port < 2 && k < 4
  | .headFault _ _ head _ => head < 720
  | .nodeTimeOkTimeout _ _ => true
  | .unknownVerb _ verb m => m.wf && verb < 65536 && !(verbTable.contains verb)
  | .unknownOp _ r op => r.wf && op < 256 && !(zarnetrumOps.contains op)
  | .requestDiscarded _ frame => frame.op < 256 && frame.req.wf
  | .illegalTransitionReport _ enc => enc < 2
  | .hallReport _ => true
  | .actionPulseEnd _ output => output < 20

end Sys2Proof
end

