-- ==== Sys2Proof/Machine/Ops.lean ====
section
/-! DEFINITION. The named operations over memories, tables, records, interrupts and the operating state. -/

namespace Sys2Proof.Machine

open Sys2Proof

/-! ## Byte memories -/

/-- The byte at an address; an unlisted address reads 0. -/
def Mem.get : Mem → Nat → Byte
  | [], _ => 0
  | (a, b) :: m, x => if a = x then b else if x < a then 0 else Mem.get m x

/-- Writes one byte, keeping the canonical form. -/
def Mem.set : Mem → Nat → Byte → Mem
  | [], x, v => if v = 0 then [] else [(x, v)]
  | (a, b) :: m, x, v =>
    if x < a then (if v = 0 then (a, b) :: m else (x, v) :: (a, b) :: m)
    else if x = a then (if v = 0 then m else (x, v) :: m)
    else (a, b) :: Mem.set m x v

/-- The canonical form of a memory from an address on: addresses strictly rising, no zero byte listed. -/
def Mem.wfFrom : Nat → Mem → Bool
  | _, [] => true
  | lo, (a, b) :: m => lo ≤ a && b != 0 && Mem.wfFrom (a + 1) m

/-- The canonical form of a memory. -/
def Mem.wf (m : Mem) : Bool := Mem.wfFrom 0 m

/-- Every memory of a store is in canonical form. -/
def Store.ok (x : Store) : Prop :=
  x.host.wf = true ∧ x.hbm00.wf = true ∧ x.hbm01.wf = true ∧ x.hbm10.wf = true ∧ x.hbm11.wf = true ∧
    x.sram0.wf = true ∧ x.sram1.wf = true

/-- The cells that a list of bytes fills at rising addresses: the bytes that are not 0. -/
def cellsAt : Nat → List Nat → Mem
  | _, [] => []
  | a, b :: bs => if b % 256 = 0 then cellsAt (a + 1) bs else (a, BitVec.ofNat 8 b) :: cellsAt (a + 1) bs

/-- Writes a list of bytes at rising addresses. -/
def Mem.write (m : Mem) (a : Nat) (bytes : List Nat) : Mem :=
  m.takeWhile (fun c => c.1 < a) ++ (cellsAt a bytes ++ m.dropWhile (fun c => c.1 < a + bytes.length))

/-- Reads `n` bytes from an address on in a memory that lists nothing below it. -/
def Mem.readFrom : Mem → Nat → Nat → List Nat
  | _, _, 0 => []
  | [], a, n + 1 => 0 :: Mem.readFrom [] (a + 1) n
  | (x, b) :: m, a, n + 1 => if x = a then b.toNat :: Mem.readFrom m (a + 1) n else 0 :: Mem.readFrom ((x, b) :: m) (a + 1) n

/-- Reads `n` bytes from an address. -/
def Mem.read (m : Mem) (a n : Nat) : List Nat := Mem.readFrom (m.dropWhile (fun c => c.1 < a)) a n

/-- Drops every byte at or above an address. -/
def Mem.below (m : Mem) (a : Nat) : Mem := m.filter (·.1 < a)

/-- The little-endian value of a list of bytes (R15). -/
def leVal : List Nat → Nat
  | [] => 0
  | b :: bs => b % 256 + 256 * leVal bs

/-- The `n` little-endian bytes of a number (R15). -/
def leBytes : Nat → Nat → List Nat
  | 0, _ => []
  | n + 1, v => v % 256 :: leBytes n (v / 256)

/-- The little-endian number in `n` bytes at an address. -/
def Mem.le (m : Mem) (a n : Nat) : Nat := leVal (m.read a n)

/-! ## Large tables -/

/-- The value at an index. -/
def SMap.get (m : SMap) (i : Nat) : Nat :=
  match m.cells.find? (·.1 == i) with
  | some p => p.2
  | none => m.dflt

/-- Inserts into a list sorted by index. -/
def insertCell (i v : Nat) : List (Nat × Nat) → List (Nat × Nat)
  | [] => [(i, v)]
  | (a, b) :: l => if i < a then (i, v) :: (a, b) :: l else if i = a then (i, v) :: l else (a, b) :: insertCell i v l

/-- Sets the value at an index, keeping the canonical form. -/
def SMap.set (m : SMap) (i v : Nat) : SMap :=
  if v = m.dflt then { m with cells := m.cells.filter (·.1 != i) } else { m with cells := insertCell i v m.cells }

/-- Changes the value at an index. -/
def SMap.upd (m : SMap) (i : Nat) (f : Nat → Nat) : SMap := m.set i (f (m.get i))

/-- Association list: the value of a key. -/
def assoc {α : Type} (k : Nat) (l : List (Nat × α)) : Option α := (l.find? (·.1 == k)).map (·.2)

/-- Association list: sets the value of a key, at the front when it is new. -/
def assocSet {α : Type} (k : Nat) (v : α) (l : List (Nat × α)) : List (Nat × α) :=
  if l.any (·.1 == k) then l.map (fun p => if p.1 == k then (k, v) else p) else (k, v) :: l

/-- Association list: removes a key. -/
def assocDel {α : Type} (k : Nat) (l : List (Nat × α)) : List (Nat × α) := l.filter (·.1 != k)

/-- Changes element `i` of a list; a list too short is left as it is. -/
def modAt {α : Type} (l : List α) (i : Nat) (f : α → α) : List α :=
  match l, i with
  | [], _ => []
  | a :: as, 0 => f a :: as
  | a :: as, n + 1 => a :: modAt as n f

/-- Puts an element before the first one that it has to precede. -/
def insertBefore {α : Type} (p : α → Bool) (x : α) : List α → List α
  | [] => [x]
  | y :: l => if p y then x :: y :: l else y :: insertBefore p x l

/-- Saturating increment. -/
def satInc (max n : Nat) : Nat := if n < max then n + 1 else max

/-- Saturating addition. -/
def satAdd (max n k : Nat) : Nat := min max (n + k)

/-- A signed value that saturates at 16 bits. -/
def sat16 (v : Int) : Int := max (-32768) (min 32767 v)

/-- Bit `i` of a vector set or cleared. -/
def setBit {w : Nat} (v : BitVec w) (i : Nat) (b : Bool) : BitVec w :=
  if b then v ||| BitVec.ofNat w (2 ^ i) else v &&& ~~~(BitVec.ofNat w (2 ^ i))

/-- Lowest set bit of a number below `n`, if any. -/
def lowestBit (n w : Nat) : Option Nat := (List.range n).find? (bitAt w)

/-! ## Exact quantities -/

/-- A fraction in lowest terms; a zero denominator stands for 0. -/
def Frac.mk' (n d : Int) : Frac :=
  if d = 0 then {} else
    let g := Nat.gcd n.natAbs d.natAbs
    let s : Int := if d < 0 then -1 else 1
    { n := s * n / g, d := d.natAbs / g }

/-- A whole number as a fraction. -/
def Frac.ofInt (n : Int) : Frac := { n := n, d := 1 }

def Frac.add (a b : Frac) : Frac := Frac.mk' (a.n * b.d + b.n * a.d) (a.d * b.d)
def Frac.neg (a : Frac) : Frac := { a with n := -a.n }
def Frac.sub (a b : Frac) : Frac := a.add b.neg
def Frac.mul (a b : Frac) : Frac := Frac.mk' (a.n * b.n) (a.d * b.d)
def Frac.div (a b : Frac) : Frac := Frac.mk' (a.n * b.d) (a.d * b.n)
def Frac.lt (a b : Frac) : Bool := a.n * b.d < b.n * a.d
def Frac.le (a b : Frac) : Bool := a.n * b.d ≤ b.n * a.d
def Frac.abs (a : Frac) : Frac := { a with n := a.n.natAbs }
def Frac.min (a b : Frac) : Frac := if a.le b then a else b
def Frac.max (a b : Frac) : Frac := if a.le b then b else a
/-- A fraction rounded down. -/
def Frac.floor (a : Frac) : Int := a.n / a.d
/-- A fraction rounded up. -/
def Frac.ceil (a : Frac) : Int := -((-a.n) / a.d)

/-- Division rounded up. -/
def ceilDiv (a b : Nat) : Nat := (a + b - 1) / b

/-- Division of integers rounded to nearest, halves away from zero. -/
def roundDiv (a : Int) (b : Nat) : Int :=
  if a < 0 then -((2 * a.natAbs + b) / (2 * b) : Nat) else ((2 * a.natAbs + b) / (2 * b) : Nat)

/-! ## Codes -/

/-- The code of an operating state (R42). -/
def OpState.code : OpState → Nat
  | .off => 0 | .standby => 1 | .boot => 2 | .rest => 3 | .ready => 4 | .printing => 5 | .holding => 6 | .fault => 7

/-- The operating state of a code (R42). -/
def OpState.ofCode : Nat → OpState
  | 0 => .off | 1 => .standby | 2 => .boot | 3 => .rest | 4 => .ready | 5 => .printing | 6 => .holding | _ => .fault

/-- The code of a pair role (R41). -/
def PairRole.code : PairRole → Nat
  | .none => 0 | .active => 1 | .standby => 2 | .isolated => 3

/-- The pair role of a code (R41). -/
def PairRole.ofCode : Nat → PairRole
  | 0 => .none | 1 => .active | 2 => .standby | _ => .isolated

/-- The code of a DMA channel state (R82). -/
def ChState.code : ChState → Nat
  | .idle => 0 | .running => 1 | .aborting => 2 | .stopped => 3 | .draining => 4

/-- The code of a pair status (R224). -/
def PairStatus.code : PairStatus → Nat
  | .valid => 0 | .opened => 1 | .short => 2 | .marginal => 3 | .commonMode => 4 | .unused => 5

/-- The code of a hold phase (R271). -/
def HoldPhase.code : HoldPhase → Nat
  | .none => 0 | .stopping => 1 | .reverseWait => 2 | .reversing => 3 | .backed => 4 | .resuming => 5 | .waiting => 6

/-- The hold phase of a code (R271). -/
def HoldPhase.ofCode : Nat → HoldPhase
  | 1 => .stopping | 2 => .reverseWait | 3 => .reversing | 4 => .backed | 5 => .resuming | 6 => .waiting | _ => .none

/-- The code of a lane state (R306). -/
def LaneState.code : LaneState → Nat
  | .off => 0 | .down => 1 | .ident => 2 | .delay => 3 | .up => 4 | .lost => 5

/-- The code of a servo state (R382). -/
def Servo.code : Servo → Nat
  | .free => 0 | .acquiring => 1 | .locked => 2 | .holdover => 3

/-! ## Result codes (R54) -/

namespace Res
def ok := 0x00
def pending := 0x01
def busy := 0x02
def badArg := 0x10
def badState := 0x11
def late := 0x12
def noSpace := 0x13
def checkFail := 0x14
def notHolder := 0x15
def mismatch := 0x16
def hwFault := 0x20
def inRest := 0x21
def unsupported := 0x30
end Res

/-! ## Time -/

/-- The bases of all time: press time of R8, even nanoseconds, 64 bits. -/
def State.now (s : State) : Nat := s.clock.press % 2 ^ 64 / 2 * 2

/-- Up-time, which every "within t" of the rules is measured on. -/
def State.up (s : State) : Nat := s.clock.up

/-- Whether the main domains run (D2 to D11 on and out of reset): BOOT and every later state of R9. -/
def State.mainOn (s : State) : Bool :=
  match s.ident.opState with
  | .off => false
  | .standby => false
  | _ => true

/-- Whether the main domains run and domain `d` has its supply (R446). -/
def State.powered (s : State) (d : Nat) : Bool := s.mainOn && s.power.domains.getLsbD d

/-- How far the frequency trim may move in `ns`, in 1/16 ppb: 10 ppm per second (R363). -/
def trimReach (ns : Nat) : Nat := 160000 * ns / 1000000000

/-- The frequency trim, 1/16 ppb, on its way to the trim that it runs to (R363, R382; log entry 144). -/
def State.trimNow (s : State) : Int :=
  let t := s.time
  let most : Int := (trimReach (s.clock.up - t.trimAt) : Nat)
  match t.trimGoal with
  | none => t.trim
  | some g => max (t.trim - most) (min (t.trim + most) g)

/-- The steps of FREQ_TRIM in one: 1/16 ppb. -/
def trimUnit : Nat := 16000000000

/-- What press time runs in `dt` ns of the REF crystal, in 1/16,000,000,000 ns, at the present trim (R363). -/
def State.runs (s : State) (dt : Nat) : Nat := s.clock.part + dt * ((trimUnit : Nat) + s.trimNow).toNat

/-- Time passes: up-time and the real-time clock always; press time, at its trimmed rate, while its counter is powered (R34, R363, R453). -/
def State.advance (dt : Nat) (s : State) : State :=
  { s with clock :=
      { press := if s.mainOn then (s.clock.press + s.runs dt / trimUnit) % 2 ^ 64 else s.clock.press
        part := if s.mainOn then s.runs dt % trimUnit else s.clock.part
        rtc := s.clock.rtc + dt
        up := s.clock.up + dt } }

/-- The stamp of the real-time clock: whole 32,768 Hz ticks as nanoseconds, even (R438). -/
def State.rtcStamp (s : State) : Nat := 1000000000 * (32768 * s.clock.rtc / 1000000000) / 32768 / 2 * 2

/-- Sends something out. -/
def State.send (o : Out) (s : State) : State := { s with out := o :: s.out }

/-! ## Engines (R24) -/

/-- The wythe of an engine, 2 for the Aux domain. Engines are numbered through the table of R24: on Wythe 0 the two cores of the
Keystone, Lintel, Pointing, two Ndeig sequencers and Corbel; on Wythe 1 the two cores, Lintel, Pointing, two Ndeig sequencers, the Plumb
monitor and Coping; then Plinth (log entry 120). -/
def engineWythe (e : Nat) : Nat := if e < 7 then 0 else if e < 15 then 1 else 2

/-- The Plumb monitor among the engines. -/
def monitorEngine : Nat := 13

/-- The engines that the Plumb monitor supervises: the other 15 (R315). -/
def watchedEngines : List Nat := (List.range 16).filter (· != monitorEngine)

/-! ## The Tie (R29, R30) -/

/-- The classes of R29 by their priority: seam words. -/
def tieSeam : Nat := 1
/-- Course records, lift tokens and commit tokens. -/
def tieSync : Nat := 2
/-- Messages of the Keystones. -/
def tieKmsg : Nat := 3
/-- Mirror state of the wythe without the pair port. -/
def tiePair : Nat := 4
/-- Mirrored control. -/
def tieCtrl : Nat := 5

/-- Units are due on the Tie: a wythe sends them in its class (R29). -/
def State.tieSendAll (from_ cls : Nat) (l : List (List Int)) (s : State) : State :=
  { s with tie := { s.tie with wait := s.tie.wait ++ l.map (fun u => (from_, cls, u)) } }

/-- One unit is due on the Tie (R29). -/
def State.tieSend (from_ cls : Nat) (fields : List Int) (s : State) : State := s.tieSendAll from_ cls [fields]

/-- Quantities of 64 bits, two to a block (log entry 135). -/
def tiePairs : List Int → List Nat
  | a :: b :: l => (wrapInt 64 a + 2 ^ 64 * wrapInt 64 b) :: tiePairs l
  | [a] => [wrapInt 64 a]
  | [] => []

/-- The data of the blocks of a unit: a seam block is one, with the data it carries; another unit's quantities stand two to a block
(R29; log entry 135). -/
def tieWords (u : Nat × Nat × List Int) : List Nat :=
  if u.2.1 = tieSeam ∧ u.2.2.length = 3 then [(u.2.2.getD 2 0).toNat] else tiePairs u.2.2

/-- The blocks of a unit enter their sender's replay buffer of 32 blocks (R30). -/
def Tie.keep (u : Nat × Nat × List Int) (t : Tie) : Tie :=
  if u.1 = 0 then { t with replay0 := ((tieWords u).reverse ++ t.replay0).take 32 }
  else { t with replay1 := ((tieWords u).reverse ++ t.replay1).take 32 }

/-- One unit leaves on the Tie. -/
def State.tieOut (u : Nat × Nat × List Int) (s : State) : State :=
  State.send (.tie u.1 u.2.1 u.2.2) { s with tie := s.tie.keep u }

/-- What is due on the Tie leaves, a higher class before a lower one, each class in the order given (R29). -/
def State.tieFlush (s : State) : State :=
  if s.tie.wait.isEmpty then s
  else
    [tieSeam, tieSync, tieKmsg, tiePair, tieCtrl].foldl
      (fun (x : State) c => (s.tie.wait.filter (fun u => u.2.1 == c)).foldl (fun (x : State) u => x.tieOut u) x)
      { s with tie := { s.tie with wait := [] } }

/-! ## Buttress units (R327) -/

/-- The place of a Buttress unit in the order of priority: BEAT takes the next unit boundary, then HANDOVER, GSYNC, PROGRESS, GSEAM,
GTIME, MSG, EPOCH_END and MIRROR (R327). -/
def buttPrio : Out → Nat
  | .butt _ 0x20 _ => 0
  | .butt _ 0x24 _ => 1
  | .butt _ 0x26 _ => 2
  | .butt _ 0x23 _ => 3
  | .butt _ 0x28 _ => 4
  | .butt _ 0x27 _ => 5
  | .butt _ 0x25 _ => 6
  | .butt _ 0x22 _ => 7
  | _ => 8

/-- A unit is due on a Buttress link (R327). -/
def State.buttSend (o : Out) (s : State) : State := { s with butt := { s.butt with wait := s.butt.wait ++ [o] } }

/-- What is due on the Buttress links leaves in the order of priority (R327). -/
def State.buttFlush (s : State) : State :=
  if s.butt.wait.isEmpty then s
  else
    { s with
      out := (List.range 9).foldl (fun o k => (s.butt.wait.filter (fun u => buttPrio u == k)).reverse ++ o) s.out
      butt := { s.butt with wait := [] } }

/-- A fresh free value (log entry 1). -/
def State.fresh (s : State) : Nat × State := (Config.free s.freeCtr, { s with freeCtr := s.freeCtr + 1 })

/-- A quotient that no rule says how to round: down or up, as a free value has it (log entry 22). -/
def State.roundFree (n d : Nat) (s : State) : Nat × State :=
  if n % d = 0 then (n / d, s) else (n / d + s.fresh.1 % 2, s.fresh.2)

/-- Whether a time has been reached since an up-time. -/
def State.since (s : State) (from_ age : Nat) : Bool := from_ + age ≤ s.clock.up

/-! ## Event records (R59, R437, R58) -/

/-- An ALERT source becomes pending: 0 cause latched, 1 state change, 2 throttle step or shutdown, 3 log drop or
reinitialisation, 4 tamper, 5 pair role change, 6 firmware session ended (R432). -/
def State.alert (k : Nat) (s : State) : State :=
  let p := s.plinth
  { s with plinth := { p with
      alertPend := setBit p.alertPend k true
      alertReleased := p.alertReleased && (p.alertPend.getLsbD k || !(p.alertMask.getLsbD k)) } }

/-- ALERT is asserted (R432). -/
def State.alertOn (s : State) : Bool := s.plinth.alertPend &&& s.plinth.alertMask != 0 && !s.plinth.alertReleased

/-- One record is committed with the next LOG_SEQ; a full log overwrites its oldest entry (R437, R438). -/
def State.commitEv (late : Bool) (s : State) (e : Ev) : State :=
  let p := s.plinth
  let full := 2048 ≤ p.log.length
  { s with plinth := { p with
      log := (if full then p.log.drop 1 else p.log) ++ [{ ev := e, seq := p.nextSeq.toNat, lateOrder := late }]
      nextSeq := p.nextSeq + 1
      wraps := if full then p.wraps + 1 else p.wraps } }

/-- A record arrives more than 20 ms after its stamp: on press time, or on the real-time clock while the main domains are off (R438; log
entry 148). -/
def State.lateRecord (s : State) (e : Ev) : Bool := 20000000 + e.stamp < (if s.mainOn then s.now else s.rtcStamp)

/-- A record that arrives at the Plinth: a late one is committed at once, another enters the Aux queue of 256, or is counted lost (R437,
R438). -/
def State.queueRecord (e : Ev) (s : State) : State :=
  if s.lateRecord e then s.commitEv true e
  else if s.plinth.queue.length < 256 then
    let p := { s.plinth with queue := s.plinth.queue ++ [(s.clock.up, e)] }
    { s with plinth := p }
  else State.alert 3 { s with plinth := { s.plinth with dropped := s.plinth.dropped + 1, dropNow := s.plinth.dropNow + 1 } }

/-- A record goes to the Aux queue and, where a ring is set, towards the event ring (R58, R437). -/
def State.putRecord (e : Ev) (s : State) : State :=
  let s := s.queueRecord e
  if s.mainOn && s.ring.valid then { s with ring := { s.ring with wait := s.ring.wait ++ [e] } } else s

/-- Writes one event record: stamped with press time, or from the real-time clock while the main domains are off
(R36, R438). DESIGN CHOICE (log entry 129): events of different domains within 4 ns carry the exact times of their commands, so the stamps
have the order of the commands. -/
def State.emit (source code : Nat) (detail : Int) (data : List Int) (s : State) : State :=
  s.putRecord { stamp := if s.mainOn then s.now else s.rtcStamp, source, code, detail, data, rtc := !s.mainOn }

/-- Source numbers (R440). -/
def srcKeystone (w : Nat) : Nat := 0x0100 + w
def srcLintel (w : Nat) : Nat := 0x0102 + w
def srcPointing (w : Nat) : Nat := 0x0104 + w
def srcLane (lane : Nat) : Nat := 0x0106 + lane / 20
def srcCorbel : Nat := 0x010A
def srcPlumbMon : Nat := 0x010B
def srcCoping : Nat := 0x010C
def srcGate : Nat := 0x010D
def srcMortar (w : Nat) : Nat := 0x0110 + w
def srcDma (w : Nat) : Nat := 0x0112 + w
def srcTie : Nat := 0x0114
def srcWeb : Nat := 0x0115
def srcTime : Nat := 0x0116
def srcButt : Nat := 0x0117
def srcPlinth : Nat := 0x0000
def srcAux : Nat := 0x0001
def srcKeep : Nat := 0x0002

/-! ## Interrupts (R43 to R45) -/

/-- A PCIe function. -/
def State.fn (s : State) (f : Nat) : Fn := if f = 0 then s.fn0 else s.fn1

/-- Replaces a PCIe function. -/
def State.setFn (f : Nat) (x : Fn) (s : State) : State := if f = 0 then { s with fn0 := x } else { s with fn1 := x }

/-- The MSI-X message of a vector: the address and data of its table entry (R43). -/
def msixOut (f v : Nat) (b : IntBlk) : Out := .msix f v (b.table.le (16 * v) 8) (b.table.le (16 * v + 8) 4)

/-- A message is due for vector `v`: sent at once, or left in the pending-bit array while the vector is masked (R43, R45). -/
def State.message (f v : Nat) (s : State) : State :=
  let x := s.fn f
  if x.int.masked.getLsbD v then s.setFn f { x with int := { x.int with pba := setBit x.int.pba v true } }
  else (s.setFn f { x with int := { x.int with pba := setBit x.int.pba v false } }).send (msixOut f v x.int)

/-- A source of vector `v` fires: its INT_CAUSE bit is set; a message goes out when the bit was 0 and the vector is
enabled (R45). -/
def State.raise (f v : Nat) (s : State) : State :=
  let x := s.fn f
  let was := x.int.cause.getLsbD v
  let s := s.setFn f { x with int := { x.int with cause := setBit x.int.cause v true } }
  if !was && x.int.enable.getLsbD v then s.message f v else s

/-- A source that both functions carry: vector 22 (R44). -/
def State.raiseBoth (v : Nat) (s : State) : State := (s.raise 0 v).raise 1 v

/-! ## The operating state (R41, R80) -/

/-- The whole seconds of the real-time clock, as press time (R364). -/
def State.rtcSecond (s : State) : Nat := 1000000000 * (s.clock.rtc / 1000000000) % 2 ^ 64

/-- BOOT ends: press time starts from the real-time clock, in whole seconds, and is not valid (R364). -/
def State.startTime (s : State) : State :=
  { s with clock := { s.clock with press := s.rtcSecond, part := 0 }, time := { s.time with valid := false } }

/-- The operating state changes: PREV_STATE, STATE_SEQ and vector 20 (R41, R44); with the end of BOOT press time starts (R364). -/
def State.enter (o : OpState) (s : State) : State :=
  if s.ident.opState = o then s else
    let s := if s.ident.opState = .boot then s.startTime else s
    (({ s with ident := { s.ident with opState := o, prevState := s.ident.opState, stateSeq := s.ident.stateSeq + 1 } }).alert 1).raise 0 20

/-- READY, PRINTING or HOLDING. -/
def State.armed (s : State) : Bool :=
  match s.ident.opState with
  | .ready => true
  | .printing => true
  | .holding => true
  | _ => false

/-- PRINTING or HOLDING. -/
def State.printHold (s : State) : Bool :=
  match s.ident.opState with
  | .printing => true
  | .holding => true
  | _ => false

/-- REST or FAULT. -/
def State.inRest (s : State) : Bool :=
  match s.ident.opState with
  | .rest => true
  | .fault => true
  | _ => false

end Sys2Proof.Machine
end

