-- ==== Sys2Proof/Machine/Ashlar.lean ====
section
/-! DEFINITION. The Ashlar format: strips, bodies, check values, their decoding and the module's encoder (R106 to R122). -/

namespace Sys2Proof.Machine

open Sys2Proof

/-- A strip header (R108). -/
structure StripHdr where
  magic  : Nat
  version : Nat
  mode   : Nat
  pred   : Nat
  depth  : Nat
  fluid  : Nat
  lines  : Nat
  line0  : Nat
  px0    : Nat
  width  : Nat
  serial : Nat
  body   : Nat
  check  : Nat
  rsvd   : Bool
  deriving DecidableEq, Repr

/-- Reads a strip header from its 32 bytes (R108). -/
def stripHdr (b : List Nat) : StripHdr :=
  let w := leVal (b.take 32)
  { magic := field w 0 32, version := field w 32 8, mode := field w 40 2, pred := field w 42 3, depth := field w 45 2
    fluid := field w 48 4, lines := field w 56 8 + 1, line0 := field w 64 64, px0 := field w 128 17
    width := field w 160 12 + 1, serial := field w 176 16, body := field w 192 32, check := field w 224 32
    rsvd := bitAt w 47 || field w 52 4 != 0 || field w 145 15 != 0 || field w 172 4 != 0 }

/-- The depth in bits (R108). -/
def depthBits : Nat → Nat
  | 0 => 8 | 1 => 10 | 2 => 12 | _ => 16

/-- The width W of a coded sample (R109). -/
def StripHdr.codedW (h : StripHdr) : Nat := if h.mode = 1 then 9 else depthBits h.depth

/-- The prediction from the left, upper and upper-left neighbours (R109). -/
def predict (pred a b c : Nat) : Nat :=
  match pred with
  | 0 => 0
  | 1 => a
  | 2 => b
  | 3 => (a + b) / 2
  | _ => if max a b ≤ c then min a b else if c ≤ min a b then max a b else a + b - c

/-- The neighbours of the next sample of a line: `above` is the line above, `cur` the samples of this line so far,
last first (R109). -/
def neighbours (w : Nat) (above : Option (List Nat)) (cur : List Nat) : Nat × Nat × Nat :=
  match above, cur with
  | none, [] => (2 ^ (w - 1), 2 ^ (w - 1), 2 ^ (w - 1))
  | none, a :: _ => (a, a, a)
  | some up, [] => let b := up.getD 0 0; (b, b, b)
  | some up, a :: t => (a, up.getD (t.length + 1) 0, up.getD t.length 0)

/-- The sample that the mapped residual `m` stands for (R110). DESIGN CHOICE (log entry 133): a Rice code of 2^W or more, which R116 does
not list as malformed, is taken modulo 2^W. -/
def rebuild (w p m : Nat) : Nat :=
  if m % 2 = 0 then (p + m / 2) % 2 ^ w else ((p + 2 ^ w - (m + 1) / 2 % 2 ^ w)) % 2 ^ w

/-- Reads one Rice code with parameter `k`: its value and the next bit position (R111). -/
def riceCode (body k w : Nat) : Nat → Nat → Nat → Nat × Nat
  | 0, q, pos => (field body pos w, pos + w + 0 * q)
  | n + 1, q, pos =>
    if bitAt body pos then riceCode body k w n (q + 1) (pos + 1)
    else (q * 2 ^ k + field body (pos + 1) k, pos + 1 + k)

/-- The decoder's position in a strip: bits read, finished lines with the last first, and the open line, last sample first. -/
structure DecSt where
  pos  : Nat
  done : List (List Nat)
  cur  : List Nat
  deriving DecidableEq, Repr

/-- Adds one sample to the open line, closing the line when it is full. -/
def DecSt.put (width : Nat) (d : DecSt) (x : Nat) : DecSt :=
  let cur := x :: d.cur
  if cur.length = width then { d with done := cur.reverse :: d.done, cur := [] } else { d with cur := cur }

/-- `n` Rice codes (R111). -/
def decRice (h : StripHdr) (body k : Nat) : Nat → DecSt → DecSt
  | 0, d => d
  | n + 1, d =>
    let w := h.codedW
    let (a, b, c) := neighbours w d.done.head? d.cur
    let (m, pos) := riceCode body k w 24 0 d.pos
    decRice h body k n (DecSt.put h.width { d with pos := pos } (rebuild w (predict h.pred a b c) m))

/-- `n` samples whose residual is 0 (R111). -/
def decRun (h : StripHdr) : Nat → DecSt → DecSt
  | 0, d => d
  | n + 1, d =>
    let (a, b, c) := neighbours h.codedW d.done.head? d.cur
    decRun h n (DecSt.put h.width d (rebuild h.codedW (predict h.pred a b c) 0))

/-- `n` samples copied from a line above (R111). -/
def decMatch (h : StripHdr) (src : List Nat) : Nat → DecSt → DecSt
  | 0, d => d
  | n + 1, d => decMatch h src n (DecSt.put h.width d (src.getD d.cur.length 0))

/-- A body as the decoder takes it: its bits, the first in bit 0, and its length in bits. -/
abbrev Bits := Nat × Nat

/-- The groups of a body up to its END: the lines in order, or nothing for a malformed body (R111, R112, R116). `size` is the body's
length in bits, and `more` are the bodies of the pieces that follow, which a CONT goes on in (R122). The first argument bounds the
number of groups. DESIGN CHOICE (log entry 133): the bits that fill the word after END or CONT are not read. -/
def decGroups (h : StripHdr) : Nat → Bits → List Bits → DecSt → Option (List (List Nat))
  | 0, _, _, _ => none
  | fuel + 1, (body, size), more, d =>
    let left := h.width - d.cur.length
    let full := d.done.length = h.lines
    match field body d.pos 2 with
    | 0 =>
      let k := field body (d.pos + 2) 4
      if full ∨ h.codedW < k then none
      else decGroups h fuel (body, size) more (decRice h body k (min 32 left) { d with pos := d.pos + 6 })
    | 1 =>
      let n := field body (d.pos + 2) 6 + 1
      if full ∨ left < n then none else decGroups h fuel (body, size) more (decRun h n { d with pos := d.pos + 8 })
    | 2 =>
      let dist := field body (d.pos + 2) 4
      let n := field body (d.pos + 6) 12 + 1
      if full ∨ left < n then none else
        match d.done[dist]? with
        | none => none
        | some src => decGroups h fuel (body, size) more (decMatch h src n { d with pos := d.pos + 18 })
    | _ =>
      let stop := d.pos + 4
      if size < stop ∨ stop + 64 ≤ size then none
      else match field body (d.pos + 2) 2, more with
        | 0, [] => if full then some d.done.reverse else none
        | 1, next :: more => decGroups h fuel next more { d with pos := 0 }
        | _, _ => none

/-- The reflected CRC-32C of one more byte, bit by bit (R114). -/
def crcBits : Nat → Nat → Nat
  | 0, c => c
  | n + 1, c => crcBits n (if c % 2 = 1 then (c / 2) ^^^ 0x82F63B78 else c / 2)

/-- CRC-32C of a list of bytes (R114). -/
def crc32c (bytes : List Nat) : Nat :=
  (bytes.foldl (fun c b => crcBits 8 (c ^^^ (b % 256))) 0xFFFFFFFF) ^^^ 0xFFFFFFFF

/-- The CHECK of decoded samples: each in a 16-bit little-endian word (R114). -/
def stripCheck (lines : List (List Nat)) : Nat := crc32c ((lines.flatten).flatMap (leBytes 2))

/-- A body of bytes as bits. -/
def bodyOf (bytes : List Nat) : Bits := (leVal bytes, 8 * bytes.length)

/-- Decodes a strip's body and those of its continuation pieces: the samples at their depth, or nothing for a malformed body
(R113, R116, R122). -/
def decodeBody (h : StripHdr) (bytes : List Nat) (more : List (List Nat)) : Option (List (List Nat)) :=
  if h.body % 8 ≠ 0 ∨ h.body = 0 ∨ bytes.length < h.body then none else
    match decGroups h (8 * (h.body + (more.map List.length).sum)) (bodyOf (bytes.take h.body)) (more.map bodyOf)
      { pos := 0, done := [], cur := [] } with
    | none => none
    | some ls =>
      if h.mode = 1 then (if ls.all (·.all (· ≤ 341)) then some (ls.map (·.map (3 * ·))) else none) else some ls

/-- Expansion of a decoded sample to 16 bits by bit replication (R115). -/
def expand (depth v : Nat) : Nat :=
  match depth with
  | 0 => v * 257
  | 1 => v * 64 + v / 16
  | 2 => v * 16 + v / 256
  | _ => v

/-- The reference sample of bounded mode (R113). -/
def boundedRef (s : Nat) : Nat := 3 * ((s + 1) / 3)

/-- What admission expects of a descriptor's strips: the first line, the lines, the span and the fluid (R107). -/
structure AdmitReq where
  line0  : Nat
  lines  : Nat
  px0    : Nat
  width  : Nat
  fluid  : Nat
  length : Nat
  deriving DecidableEq, Repr

/-- A failure of admission: RESULT, DETAIL, and LINE0, PX0 and byte offset of the failing strip (R116). -/
structure AdmitFail where
  result : Nat
  detail : Nat
  line0  : Nat
  px0    : Nat
  off    : Nat
  deriving DecidableEq, Repr

/-- What a descriptor's strips do not cover yet: segments of the span from the left, first pixel and pixels, each with the first line
that is missing there. -/
abbrev Sky := List (Nat × Nat × Nat)

/-- Neighbouring segments that lack the same lines are one. -/
def skyJoin : Sky → Sky
  | [] => []
  | (p, n, l) :: t =>
    match skyJoin t with
    | (_, n', l') :: t' => if l = l' then (p, n + n', l) :: t' else (p, n, l) :: (p + n, n', l') :: t'
    | [] => [(p, n, l)]

/-- The first sample missing in the order of lines, then pixels, with the pixels free from there on. -/
def skyLow (k : Sky) : Option (Nat × Nat × Nat) :=
  k.foldl (fun m x => match m with
    | none => some x
    | some y => if x.2.2 < y.2.2 then some x else m) none

/-- A strip put at the first missing sample. -/
def skyPut (px width lines : Nat) (k : Sky) : Sky :=
  skyJoin (k.flatMap (fun x => if x.1 = px then [(px, width, x.2.2 + lines)] ++
    (if width < x.2.1 then [(px + width, x.2.1 - width, x.2.2)] else []) else [x]))

/-- A strip of a descriptor that admission has found good: its place, its byte offset and its bytes without padding. -/
structure Admitted where
  line0 : Nat
  lines : Nat
  px0   : Nat
  width : Nat
  off   : Nat
  size  : Nat
  deriving DecidableEq, Repr

/-- Whether a header is what R108 allows in its reserved fields, MODE, PRED and DEPTH. -/
def StripHdr.formOk (h : StripHdr) : Bool := !h.rsvd && h.mode ≤ 1 && h.pred ≤ 4 && (h.mode != 1 || h.depth == 1)

/-- Whether a header begins a strip (R108). -/
def StripHdr.begins (h : StripHdr) : Bool := h.magic == 0x4C485341 && h.version == 1

/-- The first check that a strip's header fails, in the order of the table of R116. In ascending order the strips tile the lines and
the span exactly once if each begins at the first sample still missing and stays within what is free there (R107). -/
def hdrFault (r : AdmitReq) (h : StripHdr) (sky : Sky) : Option Nat :=
  if !h.begins then some 0x0A01
  else if !h.formOk then some 0x0A02
  else match skyLow sky with
    | none => some 0x0A03
    | some (p, n, l) =>
      if h.fluid ≠ r.fluid ∨ h.line0 ≠ l ∨ h.px0 ≠ p ∨ n < h.width ∨ r.line0 + r.lines < l + h.lines then some 0x0A03 else none

/-- Whether every line is covered everywhere. -/
def AdmitReq.covered (r : AdmitReq) (sky : Sky) : Bool := sky.all (fun x => r.line0 + r.lines ≤ x.2.2)

/-- Admission of the strips from byte offset `off` on: every strip in order, or the first failure (R107, R116). The first argument
bounds the number of strips, none of which is shorter than 64 bytes. Bytes after the last line that begin no strip are a LENGTH that
is not the strips' total. -/
def admitFrom (r : AdmitReq) : Nat → List Nat → Nat → Sky → Except AdmitFail (List Admitted)
  | 0, _, off, _ => .error ⟨0x10, 0x0A05, r.line0, r.px0, off⟩
  | fuel + 1, bytes, off, sky =>
    if r.length ≤ off then
      (if r.covered sky then .ok []
       else let low := (skyLow sky).getD (r.px0, 0, r.line0)
            .error ⟨0x10, 0x0A03, low.2.2, low.1, off⟩)
    else
      let h := stripHdr bytes
      let fail (res d : Nat) : Except AdmitFail (List Admitted) := .error ⟨res, d, h.line0, h.px0, off⟩
      if r.covered sky ∧ !h.begins then fail 0x10 0x0A05 else
      match hdrFault r h sky with
      | some d => fail 0x10 d
      | none =>
        let total := (32 + h.body + 63) / 64 * 64
        if r.length < off + total then fail 0x10 0x0A05 else
        match decodeBody h (bytes.drop 32) [] with
        | none => fail 0x10 0x0A04
        | some ls =>
          if 2 ^ 20 < 32 + h.body then fail 0x10 0x0A05
          else if stripCheck ls ≠ h.check then fail 0x16 0x0A10
          else match admitFrom r fuel (bytes.drop total) (off + total) (skyPut h.px0 h.width h.lines sky) with
            | .error e => .error e
            | .ok l => .ok ({ line0 := h.line0, lines := h.lines, px0 := h.px0, width := h.width, off := off, size := 32 + h.body } :: l)

/-- Admission of all strips of a descriptor's data (R116). -/
def admitted (r : AdmitReq) (bytes : List Nat) : Except AdmitFail (List Admitted) :=
  admitFrom r (r.length / 64 + 1) bytes 0 [(r.px0, r.width, r.line0)]

/-- Inserts a segment of a line in pixel order. -/
def insertSeg (px : Nat) (xs : List Nat) : List (Nat × List Nat) → List (Nat × List Nat)
  | [] => [(px, xs)]
  | (p, ys) :: t => if px < p then (px, xs) :: (p, ys) :: t else (p, ys) :: insertSeg px xs t

/-! ## Strips in pieces (R122) -/

/-- A continuation header (R122). -/
def contHdr (serial piece bytes : Nat) : List Nat := leBytes 4 0x544E4F43 ++ leBytes 2 serial ++ leBytes 2 piece ++ leBytes 4 bytes ++ leBytes 4 0

/-- The body of a continuation piece, where its header continues the strip (R122). -/
def contBody (serial piece : Nat) (bytes : List Nat) : Option (List Nat) :=
  let w := leVal (bytes.take 16)
  let n := field w 64 32
  if bytes.length < 16 ∨ field w 0 32 ≠ 0x544E4F43 ∨ field w 32 16 ≠ serial ∨ field w 48 16 ≠ piece ∨ field w 96 32 ≠ 0 ∨ n % 8 ≠ 0 ∨ n = 0 ∨
      bytes.length < 16 + n then none
  else some ((bytes.drop 16).take n)

/-- The bodies of the continuation pieces of a strip, from piece `k` on. -/
def contBodies (serial : Nat) : Nat → List (List Nat) → Option (List (List Nat))
  | _, [] => some []
  | k, p :: ps =>
    match contBody serial k p, contBodies serial (k + 1) ps with
    | some b, some bs => some (b :: bs)
    | _, _ => none

/-- The decode of a strip from its pieces with its CHECK, as the pipeline and the compressor's admission do it: the lines expanded to
16 bits (R115, R116, R119). -/
def decodeStrip (pieces : List (List Nat)) : Option (List (List Nat)) :=
  match pieces with
  | [] => none
  | p :: ps =>
    let h := stripHdr p
    if p.length < 32 ∨ !h.begins ∨ !h.formOk then none
    else match contBodies h.serial 1 ps with
      | none => none
      | some more =>
        match decodeBody h (p.drop 32) more with
        | none => none
        | some ls => if stripCheck ls = h.check then some (ls.map (·.map (expand h.depth))) else none

/-! ## The compressor's encoder (R110, R111, R121, R122) -/

/-- The mapped residual of a 16-bit sample against its prediction (R110). -/
def mapped (p x : Nat) : Nat :=
  let d := (x + 65536 - p) % 65536
  if d < 32768 then 2 * d else 2 * (65536 - d) - 1

/-- The mapped residuals of a line under PRED 4, with the line above (R109, R121). -/
def lineResiduals (above : Option (List Nat)) : List Nat → List Nat → List Nat
  | [], _ => []
  | x :: xs, cur =>
    let (a, b, c) := neighbours 16 above cur
    mapped (predict 4 a b c) x :: lineResiduals above xs (x :: cur)

/-- The mapped residuals of the lines of a strip. -/
def stripResiduals : Option (List Nat) → List (List Nat) → List (List Nat)
  | _, [] => []
  | above, l :: ls => lineResiduals above l [] :: stripResiduals (some l) ls

/-- One group: its bits, their number, and the samples that it codes. -/
structure Group where
  bits : Nat
  len  : Nat
  n    : Nat
  deriving DecidableEq, Repr

/-- The bits of a Rice code with parameter `k` (R111). -/
def riceLen (k m : Nat) : Nat := if m / 2 ^ k < 24 then m / 2 ^ k + 1 + k else 40

/-- A Rice code: its bits and their number (R111). -/
def riceBits (k m : Nat) : Nat × Nat :=
  let q := m / 2 ^ k
  if q < 24 then (2 ^ q - 1 + m % 2 ^ k * 2 ^ (q + 1), q + 1 + k) else (2 ^ 24 - 1 + m * 2 ^ 24, 40)

/-- Codes put one behind the other. -/
def joinCodes (l : List (Nat × Nat)) : Nat × Nat := l.foldr (fun c r => (c.1 + r.1 * 2 ^ c.2, c.2 + r.2)) (0, 0)

/-- The parameter that codes a list of mapped residuals in the fewest bits, the lowest where several do. -/
def bestK (l : List Nat) : Nat :=
  let cost (k : Nat) : Nat := (l.map (riceLen k)).sum
  (List.range 17).foldl (fun b k => if cost k < cost b then k else b) 0

/-- A RICE group (R111). -/
def riceGroup (l : List Nat) : Group :=
  let k := bestK l
  let c := joinCodes (l.map (riceBits k))
  { bits := 4 * k + 64 * c.1, len := 6 + c.2, n := l.length }

/-- A RUN group (R111). -/
def runGroup (n : Nat) : Group := { bits := 1 + 4 * (n - 1), len := 8, n := n }

/-- The groups of one line's mapped residuals: RUN where at least `runMin` residuals are 0, else RICE; both codes of R111 (log entry
111). The first argument bounds the number of groups. -/
def lineGroups (runMin : Nat) : Nat → List Nat → List Group
  | 0, _ => []
  | _, [] => []
  | fuel + 1, l =>
    let z := (l.takeWhile (· == 0)).length
    if max 1 runMin ≤ z then runGroup (min z 64) :: lineGroups runMin fuel (l.drop (min z 64))
    else riceGroup (l.take 32) :: lineGroups runMin fuel (l.drop 32)

/-- The groups of a strip (R121). -/
def stripGroups (runMin : Nat) (lines : List (List Nat)) : List Group :=
  (stripResiduals none lines).flatMap (fun l => lineGroups runMin l.length l)

/-- Whole bytes of codes that follow one another, with `n` bits of `acc` before them. -/
def packBytes : List (Nat × Nat) → Nat → Nat → List Nat
  | [], _, _ => []
  | (v, b) :: l, acc, n =>
    let w := acc + v * 2 ^ n
    let k := (n + b) / 8
    leBytes k w ++ packBytes l (w / 256 ^ k) ((n + b) % 8)

/-- The bytes of groups and the ESC that ends them, filled to the word's end with zero bits (R111). -/
def bodyBytes (gs : List Group) (sub : Nat) : List Nat :=
  let used := (gs.map (·.len)).sum + 4
  packBytes (gs.map (fun g => (g.bits, g.len)) ++ [(3 + 4 * sub, 4), (0, (64 - used % 64) % 64)]) 0 0

/-- What the compressor has written of a strip: pieces that are full, as offset and groups, and the piece it writes. -/
structure Packing where
  full : List (Nat × List Group) := []
  off  : Nat
  open_ : List Group := []
  bits : Nat := 0

/-- The bytes of an extent (R126). -/
def extentBytes : Nat := 2097152

/-- Where a group goes: the present piece while the rest of its extent holds it with an ESC and the fill, else the next extent; nothing
where `limit` extents are all the chain can have (R122, R123). -/
def Packing.add (limit : Nat) (g : Group) (p : Packing) : Option Packing :=
  let head := if p.full.isEmpty then 32 else 16
  let rest := 8 * (extentBytes - p.off % extentBytes - head)
  if (p.bits + g.len + 4 + 63) / 64 * 64 ≤ rest then some { p with open_ := g :: p.open_, bits := p.bits + g.len }
  else
    let k := p.off / extentBytes + 1
    if limit ≤ k then none
    else some { full := (p.off, p.open_) :: p.full, off := k * extentBytes, open_ := [g], bits := g.len }

/-- All groups of a strip packed in order, or the samples coded before the chain had no extent left (R123). -/
def packGroups (limit : Nat) : List Group → Packing → Nat → Except Nat Packing
  | [], p, _ => .ok p
  | g :: gs, p, n =>
    match p.add limit g with
    | none => .error n
    | some p => packGroups limit gs p (n + g.n)

/-- A place in the source: job, fluid and wythe. -/
structure StripPlace where
  fluid  : Nat
  line0  : Nat
  px0    : Nat
  serial : Nat

/-- The header of a strip that the module writes: lossless, DEPTH 16, PRED 4 (R108, R121). -/
def ownHdr (p : StripPlace) (lines width body check : Nat) : List Nat :=
  leBytes 4 0x4C485341 ++ leBytes 4 (1 + 2 ^ 10 * 4 + 2 ^ 13 * 3 + 2 ^ 16 * p.fluid + 2 ^ 24 * (lines - 1)) ++ leBytes 8 p.line0 ++
    leBytes 4 p.px0 ++ leBytes 4 (width - 1 + 2 ^ 16 * p.serial) ++ leBytes 4 body ++ leBytes 4 check

/-- The pieces of a strip that the module compresses, each with its offset in the chain, from offset `off` on; or the samples coded
before the chain had no extent left (R121 to R123). -/
def compressStrip (runMin limit off : Nat) (p : StripPlace) (lines : List (List Nat)) : Except Nat (List (Nat × List Nat)) :=
  if limit ≤ off / extentBytes then .error 0
  else match packGroups limit (stripGroups runMin lines) { off := off } 0 with
    | .error n => .error n
    | .ok k =>
      let parts := ((k.off, k.open_, 0) :: k.full.map (fun x => (x.1, x.2, 1))).reverse
      .ok (parts.zipIdx.map (fun x =>
        let body := bodyBytes x.1.2.1.reverse x.1.2.2
        (x.1.1, (if x.2 = 0 then ownHdr p lines.length (lines.headD []).length body.length (stripCheck lines)
          else contHdr p.serial x.2 body.length) ++ body)))

end Sys2Proof.Machine
end

