-- ==== Sys2Proof/Machine/Sections.lean ====
section
/-! DEFINITION. The configuration sections of R61: their bytes, their fields, and the set in force. -/

namespace Sys2Proof.Machine

open Sys2Proof

namespace SecId
def profile := 0x01
def barGeometry := 0x02
def barDelay := 0x03
def quoin := 0x04
def drive := 0x05
def encoder := 0x06
def tone := 0x07
def density := 0x08
def mortar := 0x09
def pointing := 0x0A
def laneTable := 0x0B
def ndeig := 0x0C
def interlock := 0x0D
def lamps := 0x0E
def panel := 0x0F
def thermal := 0x10
def time := 0x11
def pair := 0x12
def gang := 0x13
def generalIo := 0x14
end SecId

/-- The bits `lo` to `lo + n - 1` of a section, bit 0 being bit 0 of byte 0 (R15). -/
def Sec.bits (c : Sec) (lo n : Nat) : Nat := c.mem.le (lo / 8) ((lo % 8 + n + 7) / 8) / 2 ^ (lo % 8) % 2 ^ n

/-- A field given as a byte offset, a first bit within the bytes there, and a width. -/
def Sec.fld (c : Sec) (off lo n : Nat) : Nat := c.bits (8 * off + lo) n

/-- A signed field. -/
def Sec.sfld (c : Sec) (off lo n : Nat) : Int := signed n (c.fld off lo n)

/-- A single-bit field. -/
def Sec.flag (c : Sec) (off lo : Nat) : Bool := c.fld off lo 1 == 1

/-- Whether every byte of a range of the section is 0. -/
def Sec.zero (c : Sec) (off len : Nat) : Bool := !(c.mem.any (fun p => off ≤ p.1 && p.1 < off + len))

/-- Equality of content over the section's length. -/
def Sec.same (a b : Sec) : Bool := a.mem == b.mem && a.len == b.len

/-- The idle sections of R61. -/
def idleSections : List Nat := [0x01, 0x02, 0x06, 0x0B, 0x0C, 0x0D, 0x11, 0x12, 0x13]

/-- The sections of R61, in ascending id. -/
def allSections : List Nat := (List.range 20).map (· + 1)

/-- The sections that CFG.CHECK requires (R63). -/
def requiredSections : List Nat := allSections.filter (fun i => i != 0x04 && i != 0x12 && i != 0x13)

/-- A section of the set in force; an absent one reads as all zeros. -/
def State.sec (s : State) (id : Nat) : Sec := (assoc id s.cfg.force).getD {}

/-- Whether the set in force holds a section. -/
def State.hasSec (s : State) (id : Nat) : Bool := (assoc id s.cfg.force).isSome

/-! ## PROFILE (R70, R71) -/

def profContinuity (c : Sec) : Bool := c.flag 0 0
def profRes600 (c : Sec) : Bool := c.flag 0 1
def profFRowMax (c : Sec) : Nat := c.fld 1 0 24
def profUserCeil (c : Sec) : Nat := c.fld 4 0 24

/-- The course-rate limit CRL (R71). -/
def crlOf (c : Sec) : Nat := min (2 * profFRowMax c) 118110

/-- The profile ceiling (R71). -/
def profileCeil (c : Sec) : Nat :=
  if profContinuity c then crlOf c * 90 / 100 else min (98 * (2 * profFRowMax c) / 100) 118110

/-- The course-rate limit in force. -/
def State.crl (s : State) : Nat := crlOf (s.sec SecId.profile)

/-- Whether 600-dpi courses are in force (R70). -/
def State.res600 (s : State) : Bool := profRes600 (s.sec SecId.profile)

/-! ## INTERLOCK (R320) -/

def ilEstopDisc (c : Sec) : Nat := c.fld 0 0 10
def ilGuardEn (c : Sec) : Bool := c.flag 0 10
def ilLatch (c : Sec) : Nat := c.fld 0 16 5

/-! ## GENERAL_IO (R321) -/

def gioFunc (c : Sec) (i : Nat) : Nat := c.fld 0 (2 * i) 2
def gioActiveHigh (c : Sec) (i : Nat) : Bool := c.flag 0 (8 + i)
def gioFilter (c : Sec) : Nat := c.fld 2 0 8
def gioOutKept (c : Sec) : Bool := c.flag 0 24

end Sys2Proof.Machine
end

