-- ==== Sys2Proof/Machine/Lintel.lean ====
section
/-! DEFINITION. The course grid, bar delays, release prediction, the data horizon and the hold plan
(R237 to R266), and the sections ENCODER, BAR_GEOMETRY, BAR_DELAY, QUOIN and DRIVE. -/

namespace Sys2Proof.Machine

open Sys2Proof

/-! ## Which set governs a course (R67) -/

/-- The entry of a past, newest first, that governs a lift: that of the earliest change after it (R67, R184). -/
def pastAt {α : Type} (lift : Nat) (l : List (Nat × α)) : Option α := ((l.filter (fun (p : Nat × α) => lift < p.1)).getLast?).map Prod.snd

/-- The sets that govern course `f`: a pending lift commit from its lift on, those before past lift commits below their lifts. -/
def State.setAt (s : State) (f : Nat) : List (Nat × Sec) :=
  match s.cfg.pend.filter (fun p => p.lift ≤ f / 256) with
  | some p => p.secs
  | none => (pastAt (f / 256) s.cfg.prev).getD s.cfg.force

/-- A section of the set that governs course `f`. -/
def State.secAt (s : State) (f id : Nat) : Sec := (assoc id (s.setAt f)).getD {}

/-! ## ENCODER (R234) -/

def encPosSrc (c : Sec) : Nat := c.fld 0 0 1
def encCheckEn (c : Sec) : Bool := c.flag 0 1
def encMode (c : Sec) (e : Nat) : Nat := c.fld (0x10 + 0x10 * e) 0 3
def encInvert (c : Sec) (e : Nat) : Bool := c.flag (0x10 + 0x10 * e) 3
def encZEn (c : Sec) (e : Nat) : Bool := c.flag (0x10 + 0x10 * e) 4
def encZGate (c : Sec) (e : Nat) : Nat := c.fld (0x10 + 0x10 * e) 5 2
def encStepEdge (c : Sec) (e : Nat) : Bool := c.flag (0x10 + 0x10 * e) 7
def encFilter (c : Sec) (e : Nat) : Nat := c.fld (0x11 + 0x10 * e) 0 8
def encDirSetup (c : Sec) (e : Nat) : Nat := c.fld (0x12 + 0x10 * e) 0 8
def encCpr (c : Sec) (e : Nat) : Nat := c.fld (0x14 + 0x10 * e) 0 32
def encCheckRatio (c : Sec) (e : Nat) : Nat := c.fld (0x18 + 0x10 * e) 0 32
def encCheckTol (c : Sec) (e : Nat) : Nat := c.fld (0x1C + 0x10 * e) 0 8
def hallEn (c : Sec) : Bool := c.flag 0x30 0
def hallInvert (c : Sec) : Bool := c.flag 0x30 1
def hallFilter (c : Sec) : Nat := c.fld 0x31 0 8
def hallCounts (c : Sec) : Nat := c.fld 0x34 0 48
def outMode (c : Sec) : Nat := c.fld 0x40 0 2
def outInvert (c : Sec) : Bool := c.flag 0x40 2
def outPulseW (c : Sec) : Nat := c.fld 0x41 0 8
def outN (c : Sec) : Nat := c.fld 0x42 0 24
def outM (c : Sec) : Nat := c.fld 0x45 0 24
def outZPeriod (c : Sec) : Nat := c.fld 0x48 0 32

/-! ## BAR_GEOMETRY and BAR_DELAY (R244, R246) -/

def bgPitch (c : Sec) : Nat := c.fld 0 0 64
def bgBarEn (c : Sec) : Nat := c.fld 8 0 12
def bgSheets (c : Sec) : Bool := c.flag 8 16
def bgCol0Side (c : Sec) : Bool := c.flag 8 17
def bgSheetPitch (c : Sec) : Nat := c.fld 0x0C 0 24
def bgHeads (c : Sec) (b : Nat) : Nat := c.fld (0x10 + 8 * b) 0 60
def bgOrder (c : Sec) (b : Nat) : Nat := c.fld (0x10 + 8 * b) 60 4
def bgRejectDist (c : Sec) : Nat := c.fld 0x70 0 32
def bdDelay (c : Sec) (b : Nat) : Nat := c.fld (4 * b) 0 32

/-- The bars a BAR_GEOMETRY section installs. -/
def bgBars (c : Sec) : List Nat := (List.range 12).filter (bitAt (bgBarEn c))

/-- Whether a BAR_GEOMETRY section installs a global head (R7, R244). -/
def bgInstalled (c : Sec) (g : Nat) : Bool := bitAt (bgBarEn c) (g / 60) && bitAt (bgHeads c (g / 60)) (g % 60)

/-- Whether a head is installed by the set in force. -/
def State.installed (s : State) (g : Nat) : Bool := bgInstalled (s.sec SecId.barGeometry) g

/-- The bars installed by the set in force. -/
def State.bars (s : State) : List Nat := bgBars (s.sec SecId.barGeometry)

/-- Sheet media (R244). -/
def State.sheets (s : State) : Bool := bgSheets (s.sec SecId.barGeometry)

/-! ## QUOIN (R248) -/

def qnEn (c : Sec) (i : Nat) : Bool := i < 13 && c.flag 0 i
def qnFalling (c : Sec) : Bool := c.flag 0 13
def qnGain (c : Sec) : Nat := c.fld 4 0 8
def qnDeadband (c : Sec) : Nat := c.fld 5 0 8
def qnMissMax (c : Sec) : Nat := c.fld 6 0 8
def qnFilter (c : Sec) : Nat := c.fld 7 0 8
def qnPitch (c : Sec) : Nat := c.fld 8 0 24
def qnPhase (c : Sec) : Nat := c.fld 0x0C 0 24
def qnDist (c : Sec) (i : Nat) : Nat := c.fld (0x10 + 4 * i) 0 32
def qnWin (c : Sec) : Nat := c.fld 0x44 0 16

/-! ## DRIVE (R253) -/

def drTarget (c : Sec) : Nat := c.fld 0 0 24
def drIdleRun (c : Sec) : Bool := c.flag 0 24
def drAccel (c : Sec) : Nat := c.fld 4 0 24
def drDecel (c : Sec) : Nat := c.fld 8 0 24
def drMinFire (c : Sec) : Nat := c.fld 0x0C 0 24
def drBackup (c : Sec) : Nat := c.fld 0x10 0 24
def drSettle (c : Sec) : Nat := c.fld 0x14 0 16
def drTol (c : Sec) : Nat := c.fld 0x16 0 8
def drRetries (c : Sec) : Nat := c.fld 0x17 0 4
def drRefFull (c : Sec) : Nat := c.fld 0x18 0 24
def drInvert (c : Sec) : Bool := c.flag 0x18 24
def drKp (c : Sec) : Nat := c.fld 0x1C 0 16
def drKi (c : Sec) : Nat := c.fld 0x1E 0 16
def drTrimLimit (c : Sec) : Nat := c.fld 0x20 0 14
def drResp (c : Sec) : Nat := c.fld 0x24 0 16

/-- The DRIVE section in force. -/
def State.drive (s : State) : Sec := s.sec SecId.drive

/-! ## The course grid (R237, R238) -/

/-- The pitch P_c in counts × 2^32 that a pair of sections gives (R237). -/
def pitchOf (profile geo : Sec) : Nat := if profRes600 profile then 2 * bgPitch geo else bgPitch geo

/-- The pitch in force. -/
def State.pc (s : State) : Nat := pitchOf (s.sec SecId.profile) (s.sec SecId.barGeometry)

/-- The encoder that is the position source (R211). -/
def State.posEnc (s : State) : Enc := if encPosSrc (s.sec SecId.encoder) = 0 then s.web.enc0 else s.web.enc1

/-- X(n) in counts × 2^32 (R237). -/
def State.xAt (s : State) (n : Int) : Int := s.lintel.origin + (n - s.lintel.n0 + 1) * s.pc

/-- A position in counts × 2^32. -/
def fix32 (p : Int) : Int := p * 4294967296

/-- The course coordinate C(p) in 1/256 course (R237); 0 while no pitch is in force. -/
def State.coord (s : State) (p : Int) : Int :=
  if s.pc = 0 then 256 * (s.lintel.n0 - 1) else
    256 * (s.lintel.n0 - 1) + (2 * 256 * (fix32 p - s.lintel.origin) + s.pc) / (2 * s.pc)

/-- The lowest course not yet reached (R238). -/
def State.unreached (s : State) : Nat :=
  if s.pc = 0 then s.lintel.n0 else s.lintel.n0 + ((fix32 s.posEnc.hwm - s.lintel.origin) / s.pc).toNat

/-- Sets n0 and ORIGIN (R237); a release run ends (R240). -/
def State.rebase (s : State) : State :=
  { s with lintel := { s.lintel with n0 := s.unreached, origin := fix32 s.posEnc.hwm, runFrom := none } }

/-- NEXT_RELEASE as it reads: in REST and FAULT the first course not yet reached (R238, R271). -/
def State.nextRelease (s : State) : Nat :=
  match s.ident.opState with
  | .rest => s.unreached
  | .fault => s.unreached
  | _ => s.lintel.next

/-- The present lift (R64). -/
def State.presentLift (s : State) : Nat := s.nextRelease / 256

/-- The acceptance rule of R65 for a lift. -/
def State.liftOpen (s : State) (l : Nat) : Bool := s.nextRelease + 63 ≤ 256 * (l - 1) && 1 ≤ l

/-- The earliest lift that the acceptance rule still accepts (R65). -/
def State.earliestLift (s : State) : Nat := (s.nextRelease + 63 + 255) / 256 + 1

/-! ## Bar delays and jobs on the grid (R247, R74) -/

/-- I_b, the integer part of a bar's delay less 2 (R247). -/
def barI (delay : Nat) : Nat := delay / 256 - 2

/-- I_b under the set that governs course `f`. -/
def State.barIAt (s : State) (f b : Nat) : Nat := barI (bdDelay (s.secAt f SecId.barDelay) b)

/-- The smallest and the largest I_b of the installed bars in force. -/
def State.minI (s : State) : Nat := ((s.bars.map (fun b => barI (bdDelay (s.sec SecId.barDelay) b))).min?).getD 0
def State.maxI (s : State) : Nat := ((s.bars.map (fun b => barI (bdDelay (s.sec SecId.barDelay) b))).max?).getD 0

/-- Whether a job's source lines are upsampled along the web (R134). -/
def Job.halfLines (j : Job) : Bool := j.yHalf

/-- Source lines of a number of image courses (R128). -/
def Job.linesOf (j : Job) (courses : Nat) : Nat := if j.yHalf then (courses + 1) / 2 else courses

/-- Image courses of the whole job, where known (R73, R92). -/
def Job.courses (j : Job) : Option Nat :=
  if j.length ≠ 0 then some j.length else
    match j.endLine with
    | some n => some (if j.yHalf then 2 * n else n)
    | none => none

/-- The source lines a job has in all, or in its tile; nothing where unknown (R93). -/
def Job.totalLines (j : Job) : Option Nat :=
  if j.repeats then some (j.linesOf j.tile) else
    match j.courses with
    | some n => some (j.linesOf n)
    | none => none

/-- A job by its id. -/
def State.job (s : State) (id : Nat) : Option Job := s.jobs.opened.find? (·.id == id)

/-- Replaces a job. -/
def State.setJob (j : Job) (s : State) : State :=
  { s with jobs := { s.jobs with opened := s.jobs.opened.map (fun x => if x.id == j.id then j else x) } }

/-- The started jobs that have not ended, in the order started. -/
def State.started (s : State) : List Job :=
  (s.jobs.order.filterMap s.job).filter (fun j => j.state == 1 || j.state == 2)

/-- The first firing course of a job that begins at `S` (R247). -/
def State.firstCourse (s : State) (j : Job) : Option Nat := j.start.map (· + s.minI)

/-- The last firing course of a job (R247); an aborted job's last is the one before its end lift (R76). -/
def State.lastCourse (s : State) (j : Job) : Option Nat :=
  match j.start, j.courses with
  | some b, some n =>
    let e := b + (n - 1) + s.maxI
    match j.endLift with
    | some l => some (min e (256 * l - 1))
    | none => some e
  | some _, none => j.endLift.map (fun l => 256 * l - 1)
  | none, _ => none

/-- The image course that bar `b` of a job carries at firing course `f` (R247). -/
def State.imageCourse (s : State) (j : Job) (f b : Nat) : Option Nat :=
  match j.start with
  | none => none
  | some st =>
    let i := s.barIAt f b
    if f < st + i then none else
      let y := f - st - i
      match j.courses with
      | some n => if y < n && (j.endLift.all (fun l => f < 256 * l)) then some y else none
      | none => if j.endLift.all (fun l => f < 256 * l) then some y else none

/-- The started job and image course that a bar carries at a firing course. -/
def State.jobAt (s : State) (f b : Nat) : Option (Job × Nat) :=
  s.started.findSome? (fun j => (s.imageCourse j f b).map (fun y => (j, y)))

/-! ## Source spans (R93, R352) -/

/-- Columns by which a job's image goes on beyond a module edge where another gang member joins (R352). -/
def facing (joined : Bool) : Int := if joined then 32 else 0

/-- The columns of a job's image, the first and the one past the last; they go on beyond an edge that faces another gang member. -/
def Job.cols (j : Job) : Int × Int := (j.first - facing j.east, j.first + j.width + facing j.west)

/-- The span of columns whose source pixels a wythe receives: its owned columns and, where the image continues onto the other wythe,
the 32 columns beyond the seam (R93). -/
def Job.spanCols (j : Job) (w : Nat) : Int × Int :=
  let (lo, hi) := j.cols
  if w = 0 then (if 60496 ≤ lo then (lo, lo) else (lo, min hi 60528)) else (if hi ≤ 60496 then (lo, lo) else (max lo 60464, hi))

/-- The columns of a job's image that a wythe owns, first and one past the last (R17, R160). -/
def Job.owned (j : Job) (w : Nat) : Nat × Nat :=
  let lo := if w = 0 then 0 else 60496
  let hi := if w = 0 then 60496 else 120992
  let (a, b) := j.cols
  (min hi (max lo a.toNat), min hi (max lo b.toNat))

/-- The number of columns of a job's image that a wythe owns (R176). -/
def Job.ownedCount (j : Job) (w : Nat) : Nat := (j.owned w).2 - (j.owned w).1

/-- The source pixel of a column, counted from the first column of the job (R134). -/
def Job.pixelOf (j : Job) (x : Int) : Int := (x - j.cols.1) / (if j.xHalf then 2 else 1)

/-- The wythe's span in source pixels: first and count (R93). -/
def jobSpan (j : Job) (w : Nat) : Nat × Nat :=
  let (a, b) := j.spanCols w
  if a = b then (0, 0) else ((j.pixelOf a).toNat, (j.pixelOf (b - 1) + 1 - j.pixelOf a).toNat)

/-- Bytes of a raw line padded to 64 (R93, R128). -/
def paddedLine (pixels : Nat) : Nat := (2 * pixels + 63) / 64 * 64

/-- Bytes of a raw line of a wythe's span padded to 64 (R128). -/
def Job.padded (j : Job) (w : Nat) : Nat := paddedLine (jobSpan j w).2

/-- Fluids of a job. -/
def Job.fluids (j : Job) : List Nat := (List.range 12).filter (fun c => j.mask.getLsbD c)

/-- Placement of a job on a wythe (R508). -/
def Job.place (j : Job) (w : Nat) : Nat := if w = 0 then j.place0 else j.place1

/-- The ring exponent of a job on a wythe (R508). -/
def Job.ring (j : Job) (w : Nat) : Nat := if w = 0 then j.ring0 else j.ring1

/-- Whether a source line has been received on a wythe that needs pixels of the job (R94). -/
def State.hasLine (s : State) (j : Job) (fluid w line : Nat) : Bool :=
  (jobSpan j w).2 == 0 || s.jobs.lines.any (fun l => l.job == j.id && l.fluid == fluid && l.wythe == w && l.line == line && l.held != .lost)

/-- The source lines an image course needs: its own and, when upsampled, its neighbour's (R134, R135). -/
def Job.needs (j : Job) (y : Nat) : List Nat :=
  let own := if j.yHalf then y / 2 else y
  let n : Int := if j.yHalf then (if y % 2 = 0 then (own : Int) - 1 else own + 1) else own
  if j.repeats then
    let t := max 1 (j.linesOf j.tile)
    [own % t, (n % t).toNat]
  else
    let hi := match j.totalLines with
      | some t => if (t : Int) ≤ n then (own : Int) else n
      | none => n
    [own, if hi < 0 then own else hi.toNat]

/-- The first image course from `y0` on, below `lim`, that lacks a received line of a fluid on a wythe (R260). -/
def State.lackingFrom (s : State) (j : Job) (fluid w y0 : Nat) (lim : Option Nat) : Option Nat :=
  ((List.range (2 * s.jobs.lines.length + 3)).map (y0 + ·)).find? (fun y =>
    j.courses.all (y < ·) && lim.all (y < ·) && (j.needs y).any (fun q => !(s.hasLine j fluid w q)))

/-- D of R260: the first course of the first firing lift, from the present one on, that lacks source lines; an aborted job needs
none from its end lift on (R76). -/
def State.dCourse (s : State) : Option Nat :=
  let fr := s.lintel.next
  let cands := s.started.flatMap (fun j =>
    match j.start with
    | none => []
    | some st => (s.bars.filter (fun b => j.mask.getLsbD b)).flatMap (fun b =>
        let i := barI (bdDelay (s.sec SecId.barDelay) b)
        [0, 1].filterMap (fun w =>
          (s.lackingFrom j b w (256 * (fr / 256) - st - i) (j.endLift.map (fun l => 256 * l - st - i))).map
            (fun y => 256 * ((st + y + i) / 256)))))
  cands.min?

/-- The data horizon H (R260); nothing while D is unbounded. -/
def State.horizonNow (s : State) : Option Nat := s.dCourse.map (fun d => d - s.lintel.next)

/-- The stopping distance at a speed, in courses (R260). -/
def stopDist (drive : Sec) (v : Frac) : Nat :=
  ((Frac.mk' (v.n * drResp drive) (v.d * 1000000)).add
    (Frac.mk' (v.n * v.n) (2 * drDecel drive * (v.d * v.d)))).ceil.toNat

/-- The stopping distance at r_lift. -/
def State.sStop (s : State) : Nat := stopDist s.drive s.lintel.rLift

/-- min(SPEED_TARGET, SPEED_CEIL), v_top of R263 and v_r of R264. -/
def State.vTop (s : State) : Nat := min (drTarget s.drive) s.ident.speedCeil

/-- v_top lets courses be fired: at least 1.05 × MIN_FIRE_SPEED (R263). -/
def State.vTopOk (s : State) : Bool := 105 * drMinFire s.drive ≤ 100 * s.vTop

/-- The stop course that a trigger plans (R262). -/
def State.plannedStop (s : State) : Nat :=
  let ft := s.lintel.next
  let v := s.lintel.rLift
  let m := drMinFire s.drive
  let sq := Frac.mk' (v.n * v.n - (m * m : Nat) * (v.d * v.d)) (v.d * v.d)
  let brake := Frac.mk' (max 0 sq.n) (2 * drDecel s.drive * sq.d)
  let cMin := ((Frac.ofInt ft).add (Frac.mk' (v.n * drResp s.drive) (v.d * 1000000))).add brake
  let a := max ((ft + 8 + 255) / 256 * 256) (256 * (cMin.floor.toNat / 256))
  match s.dCourse with
  | none => a
  | some d => min a (max d ft)

/-- U of R264 in courses, at resume speed `v`. -/
def backupDist (drive : Sec) (v : Nat) : Nat :=
  ((Frac.mk' (v * drSettle drive) 1000).add (Frac.mk' (v * v) (2 * drAccel drive))).ceil.toNat + 256

/-! ## Prediction (R239, R240) -/

/-- The two stamped samples a prediction rests on (R239): newest, and newest at least 100 µs and at most 2 ms older. -/
def predSamples (now : Nat) (l : List (Nat × Int)) : Option ((Nat × Int) × (Nat × Int)) :=
  match l with
  | [] => none
  | k :: rest =>
    if k.1 + 2000000 < now then none else
      match rest.find? (fun j => j.1 + 100000 ≤ k.1) with
      | none => none
      | some j => if j.1 + 2000000 < k.1 ∨ k.2 ≤ j.2 then none else some (k, j)

/-- The equation of R239 for a position: A τ² + B τ = C with τ in ns. `y` is in counts × 2^32, the acceleration in
courses/s². -/
structure Motion where
  tk : Nat
  a  : Int
  b  : Int
  c  : Int
  deriving DecidableEq, Repr

def motionTo (pc : Nat) (acc : Frac) (k j : Nat × Int) (y : Int) : Motion :=
  let dt : Int := k.1 - j.1
  let dh := k.2 - j.2
  { tk := k.1
    a := acc.n * pc * dt
    b := 2 * dh * 4294967296 * acc.d * 10 ^ 18
    c := 2 * dt * acc.d * 10 ^ 18 * (y - fix32 k.2) }

/-- Whether the equation has a real solution. -/
def Motion.real (m : Motion) : Bool := 0 ≤ m.b * m.b + 4 * m.a * m.c

/-- The solution nearest 0 is at least `x`. -/
def Motion.geq (m : Motion) (x : Int) : Bool :=
  if m.a = 0 then m.b * x ≤ m.c
  else if 0 < m.a then 2 * m.a * x + m.b < 0 || m.a * x * x + m.b * x ≤ m.c
  else 0 ≤ 2 * m.a * x + m.b && m.a * x * x + m.b * x ≤ m.c

/-- The solution nearest 0 is at most `x`. -/
def Motion.leq (m : Motion) (x : Int) : Bool :=
  if m.a = 0 then m.c ≤ m.b * x
  else if 0 < m.a then 0 ≤ 2 * m.a * x + m.b && m.c ≤ m.a * x * x + m.b * x
  else 2 * m.a * x + m.b < 0 || m.c ≤ m.a * x * x + m.b * x

/-- The integer square root, digit by digit. -/
def isqrtGo (n : Nat) : Nat → Nat → Nat
  | 0, r => if (r + 1) * (r + 1) ≤ n then r + 1 else r
  | i + 1, r =>
    let t := r + 2 ^ (i + 1)
    isqrtGo n i (if t * t ≤ n then t else r)

def isqrt (n : Nat) : Nat := isqrtGo n (Nat.log2 n / 2 + 1) 0

/-- An estimate of half the solution, within one of it. -/
def Motion.halfGuess (m : Motion) : Int :=
  if m.a = 0 then m.c / (2 * m.b)
  else m.c / (m.b + (isqrt (m.b * m.b + 4 * m.a * m.c).toNat : Nat))

/-- t_k + τ rounded to the nearest even nanosecond, halves up (R240). -/
def Motion.evenTime (m : Motion) : Int :=
  let g := m.halfGuess
  let q := if m.geq (2 * (g + 2) - 1) then g + 2 else if m.geq (2 * (g + 1) - 1) then g + 1
    else if m.geq (2 * g - 1) then g else if m.geq (2 * (g - 1) - 1) then g - 1 else g - 2
  m.tk + 2 * q

/-- The motion towards a position, where a prediction is made (R239). -/
def State.motion (s : State) (y : Int) : Option Motion :=
  match predSamples s.now s.lintel.samples with
  | none => none
  | some (k, j) => if s.pc = 0 then none else some (motionTo s.pc s.lintel.accel k j y)

/-- t(Y) rounded to an even nanosecond, where the prediction has a solution (R239, R240). -/
def State.tPred (s : State) (y : Int) : Option Int :=
  match s.motion y with
  | none => none
  | some m => if m.real then some m.evenTime else none

/-- Whether t(Y) is predicted and lies no more than 16 µs ahead (R239). -/
def State.releaseDue (s : State) (y : Int) : Bool :=
  match s.motion y with
  | none => false
  | some m => m.real && m.leq ((s.now : Int) + 16000 - m.tk)

/-- T_(f-8) of a course: the stored base time of the run, or the prediction at this release (R240). -/
def State.tBack (s : State) (f : Nat) : Option Int :=
  match (if s.lintel.runFrom.any (fun r => r + 8 ≤ f) then assoc (f - 8) s.lintel.base else none) with
  | some t => some t
  | none =>
    let y := s.xAt ((f : Int) - 8)
    match s.motion y with
    | none => none
    | some m => if m.real then some m.evenTime else some ({ m with a := 0 } : Motion).evenTime

/-- An integer rounded to even, halves up (R240). -/
def evenUp (t : Int) : Int := (t + 1) / 2 * 2

/-- φ_b(f) in 1/65,536 course from the fractional delay, the trims of the lift before and of this lift, and the place in
the lift (R251). -/
def phiOf (delay : Nat) (qPrev q : Int) (i : Nat) : Int :=
  256 * ((delay % 256 : Nat) + 512 + qPrev) + (q - qPrev) * i

/-- A trim as it acts: 0 without a QUOIN section or with SENSOR_EN 0 (R248). -/
def State.actTrim (s : State) (f : Nat) (l : List Int) (b : Nat) : Int :=
  if (s.secAt f SecId.quoin).fld 0 0 13 = 0 then 0 else l.getD b 0

/-- The trims of the lift before and of the lift that holds course `f`: those fixed for the lift, else the present ones (R251). -/
def State.trimsAt (s : State) (f : Nat) : List Int × List Int :=
  match s.quoin.fixed.find? (fun p => p.1 == f / 256) with
  | some p => p.2
  | none => (s.quoin.prev, s.quoin.trim)

/-- φ_b(f) in force. -/
def State.phi (s : State) (f b : Nat) : Int :=
  phiOf (bdDelay (s.secAt f SecId.barDelay) b) (s.actTrim f (s.trimsAt f).1 b) (s.actTrim f (s.trimsAt f).2 b) (f % 256)

/-- A bar's fire time from the base fire time and T_(f-8) (R240). -/
def barTime (tf t8 phi : Int) : Int := evenUp (tf + (phi * (tf - t8)) / 524288)

/-! ## Gang neighbours (R352, R355) -/

/-- Whether another member of a formed gang joins on a side, 0 East (R352). -/
def State.neighbour (s : State) (side : Nat) : Bool :=
  s.butt.gang && (if side = 0 then s.butt.member != 0 else s.butt.member + 1 != (s.sec SecId.gang).fld 0 2 3)

/-- The courses of a lift. -/
def liftCourses (lift : Nat) : List Nat := (List.range 256).map (256 * lift + ·)

/-- A gang neighbour's levels of every course of a lift have arrived from a side (R355). -/
def State.neighbourLift (s : State) (side lift : Nat) : Bool :=
  !(s.neighbour side) || (liftCourses lift).all (fun f => s.butt.seam.any (fun p => p.1 == side && p.2.1 == f))

end Sys2Proof.Machine
end

