-- ==== Sys2Proof/Machine/Hbm.lean ====
section
/-! DEFINITION. Module memory: the memories and their regions, job space and its extents, and where received source lines are kept
(R23, R32, R93, R94, R105, R119 to R130). -/

namespace Sys2Proof.Machine

open Sys2Proof

/-! ## Memories (R32, R105) -/

/-- A memory of a wythe by target: 0 and 1 the HBM stacks, otherwise the SRAM. -/
def State.mem (s : State) (w t : Nat) : Mem :=
  match w, t with
  | 0, 0 => s.store.hbm00
  | 0, 1 => s.store.hbm01
  | 0, _ => s.store.sram0
  | _, 0 => s.store.hbm10
  | _, 1 => s.store.hbm11
  | _, _ => s.store.sram1

/-- Replaces a memory of a wythe. -/
def State.setMem (w t : Nat) (m : Mem) (s : State) : State :=
  match w, t with
  | 0, 0 => { s with store := { s.store with hbm00 := m } }
  | 0, 1 => { s with store := { s.store with hbm01 := m } }
  | 0, _ => { s with store := { s.store with sram0 := m } }
  | _, 0 => { s with store := { s.store with hbm10 := m } }
  | _, 1 => { s with store := { s.store with hbm11 := m } }
  | _, _ => { s with store := { s.store with sram1 := m } }

/-- The size of a target in bytes (R23, R32); the reserved target 3 has none (R105; log entry 104). -/
def targetSize (t : Nat) : Nat := if t < 2 then 17179869184 else if t = 2 then 201326592 else 0

/-- Whether a 128-bit word of module memory is uncorrectable (R125). -/
def State.badWord (s : State) (w t addr : Nat) : Bool := s.store.badWords.contains (w, t, addr / 16)

/-- Writes module memory; a word written whole has new check symbols (R124). -/
def State.storeWrite (w t addr : Nat) (bytes : List Nat) (s : State) : State :=
  let s := s.setMem w t ((s.mem w t).write addr bytes)
  { s with store := { s.store with badWords := s.store.badWords.filter (fun p =>
      !(p.1 == w && p.2.1 == t && addr ≤ 16 * p.2.2 && 16 * p.2.2 + 16 ≤ addr + bytes.length)) } }

/-- The module writes host memory. -/
def State.hostWrite (addr : Nat) (bytes : List Nat) (s : State) : State :=
  { s with store := { s.store with host := s.store.host.write addr bytes } }

/-- What the host wrote to its own memory before a command: pieces of address and bytes. -/
def State.hostLoad (l : List (Nat × List Nat)) (s : State) : State := l.foldl (fun s p => s.hostWrite p.1 p.2) s

/-! ## Regions (R23, R126) -/

/-- A fixed region of HBM, or job space (R126). -/
inductive HbmRegion where
  | firmware | config | thresholds | mirror | events | staging | jobs
  deriving DecidableEq, Repr

/-- The fixed regions with their bytes in each stack, half of what R126 gives a wythe, in the order of its table (log entry 114). -/
def hbmRegions : List (HbmRegion × Nat) :=
  [(.firmware, 134217728), (.config, 134217728), (.thresholds, 67108864), (.mirror, 67108864), (.events, 33554432), (.staging, 100663296)]

/-- The partitions of a wythe's SRAM in KiB, in the order of the table of R23 (log entry 115): level lift buffers, diffusion error
rows, tone tables, pointing tables, threshold cache, decode staging, frame queues, Seam and Tie buffers, engine memory. -/
def sramParts : List Nat := [136192, 3072, 4096, 2048, 16384, 16384, 6144, 4096, 8192]

/-- The index of the part of a list of sizes that an address lies in, counted from `k`. -/
def partAt : List Nat → Nat → Nat → Nat
  | [], _, k => k
  | n :: l, a, k => if a < n then k else partAt l (a - n) (k + 1)

/-- The region of an address of an HBM stack. -/
def hbmRegion (addr : Nat) : HbmRegion :=
  ((hbmRegions.map Prod.fst)[partAt (hbmRegions.map Prod.snd) addr 0]?).getD .jobs

/-- The partition of an address of SRAM, by its place in the table of R23. -/
def sramPart (addr : Nat) : Nat := partAt (sramParts.map (1024 * ·)) addr 0

/-- The place of decode staging among the partitions. -/
def sramStaging : Nat := 5

/-! ## Reservations (R126 to R130) -/

/-- Job-space extents of a wythe (R126). -/
def jobSpace : Nat := 15872

/-- 2 MiB extents that one fluid of a job takes on a wythe, for a number of lines and a ratio in 1/16. -/
def fluidExtents (padded lines ratio16 : Nat) : Nat := ceilDiv (lines * padded * 16) (ratio16 * 2097152)

/-- Source lines that a placement holds: the tile, or the ring. `num`/`den` scales lines per course when RES_MODE differs
from the one in force (R130; log entry 34). -/
def Job.linesHeld (j : Job) (place ring num den : Nat) : Nat :=
  let half := if j.yHalf then 2 else 1
  if place = 3 then ceilDiv (2 ^ ring * 256 * num) (half * den) else ceilDiv (j.tile * num) (half * den)

/-- The ratio that a placement is planned with, in 1/16: the hint's, but 1 for raw data (R128). -/
def Job.planRatio (j : Job) (place : Nat) : Nat :=
  if place = 1 ∨ place = 2 ∨ (place = 3 ∧ j.ashlar) then max 16 j.ratio16 else 16

/-- Extents that one fluid of a job reserves on a wythe. -/
def Job.fluidPlan (j : Job) (w place ring num den : Nat) : Nat :=
  fluidExtents (j.padded w) (j.linesHeld place ring num den) (j.planRatio place)

/-- Extents that a placement of a job reserves on a wythe under a BAR_GEOMETRY section (R128, R130). -/
def Job.extentsFor (j : Job) (geo : Sec) (w place ring num den : Nat) : Nat :=
  (j.fluids.filter (bitAt (bgBarEn geo))).length * j.fluidPlan w place ring num den

/-- Source lines received of a job on a wythe, from its first line up to the first one missing for any fluid (R508). -/
def State.admitted (s : State) (j : Job) (w : Nat) : Nat :=
  ((List.range (s.jobs.lines.length + 1)).find? (fun q => j.fluids.any (fun c => !(s.hasLine j c w q)))).getD 0

/-- Whether the last line of a resident tile that may be smaller than its plan has been admitted on a wythe (R129). -/
def State.tileDone (s : State) (j : Job) (w : Nat) : Bool :=
  j.repeats && j.place w != 0 && j.totalLines.all (· ≤ s.admitted j w)

/-- Whether the unused extents of a job's reservation on a wythe have been returned; a line lost later takes none back (R125, R129). -/
def Job.returned (j : Job) (w : Nat) : Bool := if w = 0 then j.back0 else j.back1

/-! ## Extents (R126, R129) -/

/-- The number of extents in runs. -/
def runsLen (l : List (Nat × Nat)) : Nat := (l.map Prod.snd).sum

/-- The `k`-th extent of runs. -/
def runsAt : List (Nat × Nat) → Nat → Nat
  | [], _ => 0
  | (a, n) :: l, k => if k < n then a + k else runsAt l (k - n)

/-- The first `n` extents of runs. -/
def runsTake : List (Nat × Nat) → Nat → List (Nat × Nat)
  | [], _ => []
  | (a, m) :: l, n => if n = 0 then [] else if n < m then [(a, n)] else (a, m) :: runsTake l (n - m)

/-- Runs with an extent added at their end. -/
def runsAdd (l : List (Nat × Nat)) (e : Nat) : List (Nat × Nat) :=
  match l.getLast? with
  | some (a, n) => if a + n = e then l.dropLast ++ [(a, n + 1)] else l ++ [(e, 1)]
  | none => [(e, 1)]

/-- The chain of extents of a job's fluid on a wythe (R126). -/
def Job.chain (j : Job) (c w : Nat) : List (Nat × Nat) :=
  ((j.exts.find? (fun x => x.1 == c && x.2.1 == w)).map (fun x => x.2.2)).getD []

/-- Replaces a chain. -/
def Job.setChain (c w : Nat) (l : List (Nat × Nat)) (j : Job) : Job :=
  { j with exts := (c, w, l) :: j.exts.filter (fun x => !(x.1 == c && x.2.1 == w)) }

/-- Bytes written to a chain (R122). -/
def Job.tail (j : Job) (c w : Nat) : Nat :=
  ((j.tails.find? (fun x => x.1 == c && x.2.1 == w)).map (fun x => x.2.2)).getD 0

/-- Replaces the bytes written to a chain. -/
def Job.setTail (c w n : Nat) (j : Job) : Job :=
  { j with tails := (c, w, n) :: j.tails.filter (fun x => !(x.1 == c && x.2.1 == w)) }

/-- Extents of job space that a fluid of a job holds on a wythe: its chain, and what its plan still reserves, until the unused ones are
returned (`done`), where its bar is enabled (R128, R129). -/
def Job.fluidHeld (j : Job) (geo : Sec) (done : Bool) (w c : Nat) : Nat :=
  max (runsLen (j.chain c w)) (if bitAt (bgBarEn geo) c && !done then j.fluidPlan w (j.place w) (j.ring w) 1 1 else 0)

/-- Extents that a job holds on a wythe: its reservation, less what R129 has returned. -/
def State.extentsHeld (s : State) (j : Job) (w : Nat) : Nat :=
  (j.fluids.map (j.fluidHeld (s.sec SecId.barGeometry) (j.returned w) w)).sum

/-- Job space not reserved by open jobs (R128). -/
def State.freeSpace (s : State) (w : Nat) : Nat := jobSpace - (s.jobs.opened.map (fun j => s.extentsHeld j w)).sum

/-- Whether an extent of a wythe belongs to a chain. -/
def State.extentTaken (s : State) (w e : Nat) : Bool :=
  s.jobs.opened.any (fun j => j.exts.any (fun x => x.2.1 == w && x.2.2.any (fun r => r.1 ≤ e && e < r.1 + r.2)))

/-- Extents from two lists in turn, from the first list first; one alone where the other has no more. -/
def alternate : Nat → List Nat → List Nat → List Nat
  | 0, _, _ => []
  | _ + 1, [], [] => []
  | n + 1, [], b :: l => b :: alternate n [] l
  | n + 1, a :: l, m => a :: alternate n m l

/-- The next `n` extents of a chain: the lowest free ones, alternating between the two stacks; extent `e` lies in stack `e % 2`
(R126). -/
def State.nextExtents (s : State) (w n : Nat) (l : List (Nat × Nat)) : List Nat :=
  let free := (List.range jobSpace).filter (fun e => !(s.extentTaken w e))
  let odd := match l.getLast? with
    | some (a, k) => (a + k) % 2
    | none => ((free.headD 0) % 2)
  alternate n (free.filter (· % 2 == odd)) (free.filter (· % 2 != odd))

/-- The chain of a fluid grows to `n` extents. -/
def State.growChain (id c w n : Nat) (s : State) : State :=
  match s.job id with
  | none => s
  | some j =>
    let l := j.chain c w
    if n ≤ runsLen l then s
    else s.setJob (j.setChain c w ((s.nextExtents w (n - runsLen l) l).foldl runsAdd l))

/-- How many extents a chain can have: those it has or its plan reserves, and then free job space (R123). DESIGN CHOICE (log entry 126):
a fluid takes nothing of what the job's reservation plans for its other fluids. -/
def State.chainLimit (s : State) (j : Job) (c w : Nat) : Nat :=
  j.fluidHeld (s.sec SecId.barGeometry) (j.returned w) w c + s.freeSpace w

/-- The chain of a fluid without the extents behind its first `n`. -/
def Job.trim (w c n : Nat) (j : Job) : Job := j.setChain c w (runsTake (j.chain c w) n)

/-- When a resident tile's last line has been admitted, the unused extents of its reservation go back to job space, once (R129). -/
def State.returnExtents (id w : Nat) (s : State) : State :=
  match s.job id with
  | none => s
  | some j =>
    if j.returned w || !(s.tileDone j w) then s
    else
      let j := if w = 0 then { j with back0 := true } else { j with back1 := true }
      s.setJob (j.fluids.foldl (fun j c => j.trim w c (ceilDiv (j.tail c w) extentBytes)) j)

/-! ## Bytes in a chain (R126) -/

/-- Where a byte of a chain lies, by its offset; a ring begins again at its end: the stack, the address in it, and how many bytes its
extent holds from there on. -/
def chainPlace (l : List (Nat × Nat)) (off : Nat) : Nat × Nat × Nat :=
  let e := runsAt l (off / extentBytes % max 1 (runsLen l))
  (e % 2, 536870912 + e / 2 * extentBytes + off % extentBytes, extentBytes - off % extentBytes)

/-- Writes bytes to a chain; the first argument bounds the extents touched. -/
def State.chainWriteGo (w : Nat) (l : List (Nat × Nat)) : Nat → Nat → List Nat → State → State
  | 0, _, _, s => s
  | n + 1, off, bytes, s =>
    if bytes.isEmpty then s else
      let (t, a, k) := chainPlace l off
      State.chainWriteGo w l n (off + k) (bytes.drop k) (s.storeWrite w t a (bytes.take k))

/-- Writes bytes to a chain. -/
def State.chainWrite (w : Nat) (l : List (Nat × Nat)) (off : Nat) (bytes : List Nat) (s : State) : State :=
  s.chainWriteGo w l (bytes.length / extentBytes + 2) off bytes

/-- Reads bytes of a chain; the first argument bounds the extents touched. -/
def State.chainReadGo (s : State) (w : Nat) (l : List (Nat × Nat)) : Nat → Nat → Nat → List Nat
  | 0, _, _ => []
  | n + 1, off, len =>
    if len = 0 then [] else
      let (t, a, k) := chainPlace l off
      (s.mem w t).read a (min k len) ++ s.chainReadGo w l n (off + k) (len - k)

/-- Reads bytes of a chain. -/
def State.chainRead (s : State) (w : Nat) (l : List (Nat × Nat)) (off len : Nat) : List Nat :=
  s.chainReadGo w l (len / extentBytes + 2) off len

/-- The chain offset of a byte of HBM, where a chain holds it. -/
def chainOffset (l : List (Nat × Nat)) (t addr : Nat) : Option Nat :=
  if addr < 536870912 then none else
    let e := 2 * ((addr - 536870912) / extentBytes) + t
    let rec go : List (Nat × Nat) → Nat → Option Nat
      | [], _ => none
      | (a, n) :: l, k => if a ≤ e ∧ e < a + n then some ((k + (e - a)) * extentBytes + addr % extentBytes) else go l (k + n)
    go l 0

/-! ## Received lines (R93, R94, R119, R122) -/

/-- Where a raw line is kept: its place in the tile, or in the ring of the lines held (R128). -/
def Job.rawOff (j : Job) (w line : Nat) : Nat :=
  (if j.place w = 3 then line % max 1 (j.linesHeld 3 (j.ring w) 1 1) else line) * j.padded w

/-- The pieces of a strip as memory holds them. -/
def State.stripPieces (s : State) (j : Job) (x : Strip) : List (List Nat) :=
  x.pieces.map (fun p => s.chainRead x.wythe (j.chain x.fluid x.wythe) p.1 p.2)

/-- 16-bit samples of bytes (R93). -/
def samples16 : List Nat → List Nat
  | a :: b :: l => (a % 256 + 256 * (b % 256)) :: samples16 l
  | _ => []

/-- A received line. -/
def State.lineHeld (s : State) (job fluid w line : Nat) : Option Line :=
  s.jobs.lines.find? (fun l => l.job == job && l.fluid == fluid && l.wythe == w && l.line == line && l.held != .lost)

/-- The strips that a set of lines of a fluid needs on a wythe. -/
def State.stripsFor (s : State) (j : Job) (fluid w : Nat) (lines : List Nat) : List Strip :=
  let batches := lines.filterMap (fun q => match (s.lineHeld j.id fluid w q).map Line.held with
    | some (LineAt.strips b) => some (q, b)
    | _ => none)
  s.jobs.strips.filter (fun x => x.job == j.id && x.fluid == fluid && x.wythe == w &&
    batches.any (fun p => x.batch == p.2 && x.line0 ≤ p.1 && p.1 < x.line0 + x.lines))

/-- A strip with its decoded lines, none where the decode fails (R119). -/
abbrev Decoded := Strip × Option (List (List Nat))

/-- The pipeline's decode of strips, as memory holds them (R119). -/
def State.decodeAll (s : State) (j : Job) (l : List Strip) : List Decoded := l.map (fun x => (x, decodeStrip (s.stripPieces j x)))

/-- The samples of a source line on a wythe, from memory and the strips decoded for it. -/
def State.samplesOf (s : State) (j : Job) (dec : List Decoded) (fluid w line : Nat) : List Nat :=
  match s.lineHeld j.id fluid w line with
  | none => []
  | some x =>
    match x.held with
    | .lost => []
    | .staged l => l
    | .raw off => samples16 (s.chainRead w (j.chain fluid w) off (2 * (jobSpan j w).2))
    | .strips b =>
      (((dec.filter (fun p => p.1.job == j.id && p.1.fluid == fluid && p.1.wythe == w && p.1.batch == b && p.1.line0 ≤ line &&
          line < p.1.line0 + p.1.lines)).foldl (fun acc p =>
        insertSeg p.1.px0 (((p.2.getD []).getD (line - p.1.line0) [])) acc) []).map Prod.snd).flatten

/-- Lines that are no longer received on a wythe and fluid (R125). -/
def State.dropLines (w job fluid line n : Nat) (s : State) : State :=
  let gone (x : Line) : Bool := x.job == job && x.fluid == fluid && x.wythe == w && line ≤ x.line && x.line < line + n
  { s with jobs := { s.jobs with lines := s.jobs.lines.filter (fun x => !(gone x)) } }

/-- What a word of job space holds: job, fluid, first line and lines of the strip or the raw line (R125). -/
def State.jobWord (s : State) (w t addr : Nat) : Option (Nat × Nat × Nat × Nat) :=
  s.jobs.opened.findSome? (fun j => j.exts.findSome? (fun x =>
    if x.2.1 ≠ w then none else
      match chainOffset x.2.2 t addr with
      | none => none
      | some o =>
        let cap := max 1 (runsLen x.2.2 * extentBytes)
        let raw := s.jobs.lines.reverse.find? (fun l => l.job == j.id && l.fluid == x.1 && l.wythe == w && (match l.held with
          | .raw off => off ≤ o && o < off + j.padded w
          | _ => false))
        let strip := s.jobs.strips.find? (fun y => y.job == j.id && y.fluid == x.1 && y.wythe == w &&
          y.pieces.any (fun p => (o + cap - p.1 % cap) % cap < p.2) &&
          s.jobs.lines.any (fun l => l.job == j.id && l.fluid == x.1 && l.wythe == w && l.held == .strips y.batch && y.line0 ≤ l.line &&
            l.line < y.line0 + y.lines))
        match raw, strip with
        | some l, _ => some (j.id, x.1, l.line, 1)
        | none, some y => some (j.id, x.1, y.line0, y.lines)
        | none, none => none))

/-! ## What a SOURCE descriptor delivers (R95, R117, R121 to R123) -/

/-- The 16-bit samples of a raw line in the data received (R93). -/
def rawLine (got : Mem) (pixels pad i : Nat) : List Nat := samples16 (got.read (i * pad) (2 * pixels))

/-- A line of a descriptor. -/
def Desc.line (d : Desc) (f i : Nat) (held : LineAt) : Line :=
  { job := d.job, fluid := d.fluid, wythe := f, line := d.img + i, held := held }

/-- What admission expects of a descriptor (R107). -/
def Desc.admitReq (d : Desc) : AdmitReq :=
  { line0 := d.img, lines := d.lines, px0 := d.pxFirst, width := d.pxCount, fluid := d.fluid, length := d.len }

/-- New lines. -/
def State.addLines (ls : List Line) (s : State) : State := { s with jobs := { s.jobs with lines := s.jobs.lines ++ ls } }

/-- Admitted strips of the host go to the chain of their fluid as they are (R107, R128). -/
def State.keepStrips (f : Nat) (d : Desc) (j : Job) (s : State) : State :=
  match Machine.admitted d.admitReq (d.got.read 0 d.len) with
  | .error _ => s
  | .ok l =>
    let at_ := j.tail d.fluid f
    let s := s.growChain j.id d.fluid f
      (if j.place f = 3 then j.fluidPlan f 3 (j.ring f) 1 1 else max (j.fluidPlan f 1 0 1 1) (ceilDiv (at_ + d.len) extentBytes))
    match s.job j.id with
    | none => s
    | some j =>
      let b := s.jobs.nextBatch
      let s := (s.setJob (j.setTail d.fluid f (at_ + d.len))).chainWrite f (j.chain d.fluid f) at_ (d.got.read 0 d.len)
      let strips : List Strip := l.map (fun x =>
        { batch := b, job := d.job, fluid := d.fluid, wythe := f, line0 := x.line0, lines := x.lines, px0 := x.px0, width := x.width
          pieces := [(at_ + x.off, x.size)] })
      let s := { s with jobs := { s.jobs with strips := strips ++ s.jobs.strips, nextBatch := b + 1 } }
      s.addLines ((List.range d.lines).map (fun i => d.line f i (.strips b)))

/-- Raw lines go to their places (R93, R128). -/
def State.keepRaw (f : Nat) (d : Desc) (j : Job) (s : State) : State :=
  let s := s.growChain j.id d.fluid f (j.fluidPlan f (j.place f) (j.ring f) 1 1)
  match s.job j.id with
  | none => s
  | some j =>
    let pad := j.padded f
    let s := (List.range d.lines).foldl (fun (s : State) i =>
      s.chainWrite f (j.chain d.fluid f) (j.rawOff f (d.img + i)) (d.got.read (i * pad) pad)) s
    s.addLines ((List.range d.lines).map (fun i => d.line f i (.raw (j.rawOff f (d.img + i)))))

/-- The first lines of the blocks of 256 that the compressor can take with a descriptor's lines: the others have been staged (R121). -/
def State.fullBlocks (s : State) (f : Nat) (d : Desc) (j : Job) : List Nat :=
  let total := j.totalLines.getD 0
  ((List.range (d.lines / 256 + 2)).map (fun k => 256 * (d.img / 256 + k))).filter (fun b =>
    decide (b < total) && (List.range (min 256 (total - b))).all (fun i =>
      (d.img ≤ b + i && b + i < d.img + d.lines) || (match (s.lineHeld j.id d.fluid f (b + i)).map Line.held with
        | some (LineAt.staged _) => true
        | _ => false)) && decide (b < d.img + d.lines) && decide (d.img < b + 256))

/-- A line of a block: of the descriptor, or staged (R121). -/
def State.blockLine (s : State) (f : Nat) (d : Desc) (q : Nat) : List Nat :=
  if d.img ≤ q ∧ q < d.img + d.lines then rawLine d.got d.pxCount (paddedLine d.pxCount) (q - d.img)
  else match (s.lineHeld d.job d.fluid f q).map Line.held with
    | some (LineAt.staged l) => l
    | _ => []

/-- How a compression stands: the chain's end and the next SERIAL, the strips made, last first, with their bytes, and where it stopped
for want of an extent, as line and pixel. -/
structure Compressed where
  off    : Nat
  serial : Nat
  strips : List (Strip × List (Nat × List Nat)) := []
  stop   : Option (Nat × Nat) := none
  /-- A strip that its own admission refuses. -/
  bad    : Option AdmitFail := none

/-- One strip of a block: 2,048 pixels wide, or what is left of the span (R121). Each strip starts on a 64-byte boundary, as a host's
does (log entry 112). The strip is admitted as a host strip is. -/
def compressOne (runMin limit f : Nat) (d : Desc) (batch line0 : Nat) (lines : List (List Nat)) (px : Nat) (c : Compressed) : Compressed :=
  if c.stop.isSome ∨ c.bad.isSome then c else
    let part := lines.map (fun l => (l.drop px).take 2048)
    let w := (part.headD []).length
    match compressStrip runMin limit c.off { fluid := d.fluid, line0 := line0, px0 := d.pxFirst + px, serial := c.serial } part with
    | .error n => { c with stop := some (line0 + n / max 1 w, d.pxFirst + px + n % max 1 w) }
    | .ok ps =>
      if decodeStrip (ps.map Prod.snd) ≠ some part then { c with bad := some ⟨0x16, 0x0A10, line0, d.pxFirst + px, 0⟩ }
      else
        let x : Strip := { batch := batch, job := d.job, fluid := d.fluid, wythe := f, line0 := line0, lines := lines.length
                           px0 := d.pxFirst + px, width := w, pieces := ps.map (fun p => (p.1, p.2.length)) }
        let stop := (ps.getLast?.map (fun p => p.1 + p.2.length)).getD c.off
        { c with off := (stop + 63) / 64 * 64, serial := (c.serial + 1) % 65536, strips := (x, ps) :: c.strips }

/-- The compression of every block that a descriptor completes (R121 to R123). -/
def State.compressDesc (f : Nat) (d : Desc) (j : Job) (s : State) : Compressed :=
  let total := j.totalLines.getD 0
  let limit := s.chainLimit j d.fluid f
  (s.fullBlocks f d j).foldl (fun c b =>
    let lines := (List.range (min 256 (total - b))).map (fun i => s.blockLine f d (b + i))
    (List.range (ceilDiv d.pxCount 2048)).foldl (fun c k => compressOne d.runMin limit f d (s.jobs.nextBatch + b / 256) b lines (2048 * k) c) c)
    { off := j.tail d.fluid f, serial := j.serial }

/-- The lines of a descriptor whose tile the module compresses: the strips of its full blocks are in the chain, with the staged lines of
those blocks in them, and its other lines are staged (R121, R122). -/
def State.keepCompressed (f : Nat) (d : Desc) (j : Job) (s : State) : State :=
  let c := s.compressDesc f d j
  let s := s.growChain d.job d.fluid f (ceilDiv c.off extentBytes)
  match s.job d.job with
  | none => s
  | some j =>
    let s := s.setJob { (j.setTail d.fluid f c.off) with serial := c.serial }
    let s := c.strips.reverse.foldl (fun (s : State) x =>
      x.2.foldl (fun (s : State) p => s.chainWrite f (j.chain d.fluid f) p.1 p.2) s) s
    let strips : List Strip := c.strips.map Prod.fst
    let batchOf (q : Nat) : Option Nat := (strips.find? (fun (x : Strip) => x.line0 ≤ q && q < x.line0 + x.lines)).map Strip.batch
    let s := { s with jobs := { s.jobs with
        strips := strips ++ s.jobs.strips
        nextBatch := (strips.map (fun (x : Strip) => x.batch + 1)).foldl max s.jobs.nextBatch
        lines := s.jobs.lines.map (fun (l : Line) =>
          if l.job == d.job && l.fluid == d.fluid && l.wythe == f then
            (match batchOf l.line with
             | some b => { l with held := .strips b }
             | none => l) else l) } }
    s.addLines ((List.range d.lines).map (fun i => d.line f i (match batchOf (d.img + i) with
      | some b => .strips b
      | none => .staged (rawLine d.got d.pxCount (paddedLine d.pxCount) i))))

/-- A SOURCE descriptor has ended DONE: its lines are received, and its size counts toward the measured ratio (R93 to R95, R117,
R131). -/
def State.deliver (f : Nat) (d : Desc) (s : State) : State :=
  match s.job d.job with
  | none => s
  | some j =>
    let s := if j.ashlar then s.keepStrips f d j else if j.place f = 2 then s.keepCompressed f d j else s.keepRaw f d j
    (match s.job d.job with
     | none => s
     | some j => s.setJob { j with adm := (d.fluid, f, d.img, d.lines, d.len) :: j.adm }).returnExtents d.job f

/-- The extents that a new job reserves are its own from the start (R126, R128). -/
def State.claimExtents (id : Nat) (s : State) : State :=
  match s.job id with
  | none => s
  | some j =>
    (j.fluids.filter (bitAt (bgBarEn (s.sec SecId.barGeometry)))).foldl (fun s c =>
      [0, 1].foldl (fun (s : State) w => s.growChain id c w (j.fluidPlan w (j.place w) (j.ring w) 1 1)) s) s

end Sys2Proof.Machine
end

