-- ==== Sys2Proof/Machine/Mortar.lean ====
section
/-! DEFINITION. Mortar's arithmetic and the MORTAR section (R161 to R169, R176). -/

namespace Sys2Proof.Machine

open Sys2Proof

/-! ## The MORTAR section (R161, R162) -/

def mortMode (c : Sec) (ch : Nat) : Nat := c.fld (32 * ch) 0 2
def mortWExp (c : Sec) (ch : Nat) : Nat := c.fld (32 * ch) 8 4
def mortHExp (c : Sec) (ch : Nat) : Nat := c.fld (32 * ch) 12 4
def mortXOff (c : Sec) (ch : Nat) : Nat := c.fld (32 * ch) 16 9
def mortYOff (c : Sec) (ch : Nat) : Nat := c.fld (32 * ch) 32 9
def mortAmp (c : Sec) (ch : Nat) : Nat := c.fld (32 * ch) 48 8
def mortArrayOff (c : Sec) (ch : Nat) : Nat := c.fld (32 * ch) 64 32
def mortSeed (c : Sec) (ch : Nat) : Nat := c.fld (32 * ch) 96 32

/-- Weight `i` of a kernel, SAME M2 M1 Z P1 P2 in that order; the odd kernel follows the even one (R162). -/
def mortWeight (c : Sec) (ch : Nat) (odd : Bool) (i : Nat) : Nat := c.fld (32 * ch + 16 + 6 * bit odd + i) 0 8

/-- A diffusion kernel (R162). -/
structure Kernel where
  same : Nat
  m2   : Nat
  m1   : Nat
  z    : Nat
  p1   : Nat
  p2   : Nat
  deriving DecidableEq, Repr

/-- The kernel of a course's parity (R166). -/
def mortKernel (c : Sec) (ch : Nat) (odd : Bool) : Kernel :=
  { same := mortWeight c ch odd 0, m2 := mortWeight c ch odd 1, m1 := mortWeight c ch odd 2
    z := mortWeight c ch odd 3, p1 := mortWeight c ch odd 4, p2 := mortWeight c ch odd 5 }

/-- Byte offset of threshold cell `j` of row `i` (R163). -/
def cellOff (c : Sec) (ch i j : Nat) : Nat := mortArrayOff c ch + 12 * 2 ^ mortWExp c ch * i + 12 * j

/-- Threshold `k` (1 to 6) of a cell (R163). -/
def threshold (c : Sec) (ch i j k : Nat) : Nat := c.fld (cellOff c ch i j + 2 * (k - 1)) 0 16

/-! ## Threshold mode (R164) -/

/-- The level of a demand at web column `x` and image course `y`: the number of thresholds at or below it. -/
def thresholdLevel (c : Sec) (ch x y v : Nat) : Nat :=
  let j := (x + mortXOff c ch) % 2 ^ mortWExp c ch
  let i := (y + mortYOff c ch) % 2 ^ mortHExp c ch
  ([1, 2, 3, 4, 5, 6].filter (fun k => threshold c ch i j k ≤ v)).length

/-! ## Course diffusion (R165 to R168) -/

/-- The demand in level units (R165). -/
def levelUnits (v : Nat) : Nat := (v * 6144 + 32768) / 65536

/-- One contribution, rounded half up (R166). -/
def contrib (e : Int) (w : Nat) : Int := (e * w + 128) / 256

/-- Saturation to 13 bits (R166). -/
def sat13 (a : Int) : Int := max (-4096) (min 4095 a)

/-- Whether an addition saturates (R175). -/
def saturates (a : Int) : Nat := if a < -4096 ∨ 4095 < a then 1 else 0

/-- The dither of a sample (R167). -/
def dither (ch x y amp seed : Nat) : Int :=
  let m := 2 ^ 32
  let h := (x * 2654435761 + y % m * 2246822519 + ch * 3266489917 + seed) % m
  let h := h ^^^ (h / 2 ^ 15)
  let h := h * 2246822519 % m
  let h := h ^^^ (h / 2 ^ 13)
  let r : Int := (h / 2 ^ 24 : Nat)
  ((r - 128) * amp) / 128

/-- The level of a sample from its units, its dither and its accumulated error (R166). -/
def diffLevel (m d : Int) : Int := min 6 (max 0 ((m + d + 512) / 1024))

/-- What a course of diffusion yields: levels and the next row, both last column first, saturating additions of the two wythes, and
the errors of the two columns on each side of the seam, by column (R172, R175). -/
structure DiffOut where
  levels : List Nat := []
  next   : List Int := []
  sat0   : Nat := 0
  sat1   : Nat := 0
  edge   : List (Nat × Int) := []
  deriving DecidableEq, Repr

/-- Saturating additions to a column count on the wythe that owns it, which makes them (R172, R175). -/
def DiffOut.count (o : DiffOut) (col n : Nat) : DiffOut :=
  if col < 60496 then { o with sat0 := o.sat0 + n } else { o with sat1 := o.sat1 + n }

/-- Accumulators of the next course that are still open: columns x - 2 to x + 2 (R166). -/
structure DiffWin where
  a : Int := 0
  b : Int := 0
  c : Int := 0
  d : Int := 0
  e : Int := 0
  deriving DecidableEq, Repr

/-- One course of a channel in the reference order of R166. `x` is the web column of the first sample, `col` its module
column, `i` its index in the job's columns; demands and the current row run over the job's columns. -/
def diffuse (k : Kernel) (ch amp seed y : Nat) : Nat → Nat → Nat → List Nat → List Int → Int → DiffWin → DiffOut → DiffOut
  | _, _, i, [], _, _, w, o =>
    let o := if 1 < i then { o with next := w.a :: o.next } else o
    if 0 < i then { o with next := w.b :: o.next } else o
  | x, col, i, v :: vs, cur, carry, w, o =>
    let a0 := cur.headD 0 + carry
    let a := sat13 a0
    let m : Int := levelUnits v + a
    let lvl := diffLevel m (dither ch x y amp seed)
    let e := m - 1024 * lvl
    let na := w.a + contrib e k.m2
    let nb := w.b + contrib e k.m1
    let nc := w.c + contrib e k.z
    let nd := w.d + contrib e k.p1
    let ne := w.e + contrib e k.p2
    let o := ((o.count col (saturates a0 + saturates nc)).count (col - 2) (if 1 < i then saturates na else 0)).count (col - 1)
      (if 0 < i then saturates nb else 0)
    let o := (o.count (col + 1) (if vs = [] then 0 else saturates nd)).count (col + 2) (if vs.length < 2 then 0 else saturates ne)
    let o := { o with levels := lvl.toNat :: o.levels, edge := if 60494 ≤ col ∧ col ≤ 60497 then (col, e) :: o.edge else o.edge }
    let o := if 1 < i then { o with next := sat13 na :: o.next } else o
    diffuse k ch amp seed y (x + 1) (col + 1) (i + 1) vs cur.tail (contrib e k.same)
      { a := sat13 nb, b := sat13 nc, c := sat13 nd, d := sat13 ne, e := 0 } o

/-- One course over the job's columns, beginning at module column `col0` and web column `x0`: levels and next row in
column order. -/
def diffCourse (c : Sec) (ch x0 col0 y : Nat) (demand : List Nat) (row : List Int) : DiffOut :=
  let o := diffuse (mortKernel c ch (y % 2 == 1)) ch (mortAmp c ch) (mortSeed c ch) y x0 col0 0 demand row 0 {} {}
  { o with levels := o.levels.reverse, next := o.next.reverse }

/-- One course in threshold mode. -/
def thrCourse (c : Sec) (ch y : Nat) : Nat → List Nat → List Nat
  | _, [] => []
  | x, v :: vs => thresholdLevel c ch x y v :: thrCourse c ch y (x + 1) vs

/-! ## Bands (R28, R170, R171) -/

/-- The bands of a channel's columns from `lo` to `hi - 1`: 2,048 columns, and at least 4; the last is what is left (R170). The first
argument bounds their number. -/
def bandsOf (ch : Nat) : Nat → Nat → Nat → List (Nat × Nat × Nat)
  | 0, _, _ => []
  | n + 1, lo, hi =>
    if hi ≤ lo then [] else if hi - lo ≤ 2048 then [(ch, lo, hi - lo)]
    else
      let k := if hi - lo < 2052 then 2044 else 2048
      (ch, lo, k) :: bandsOf ch n (lo + k) hi

/-- Deals bands to units, each to the unit with the fewest clocks so far, the lowest of these: unit, channel, first column, columns
(R171; log entry 117). -/
def dealBands : List (Nat × Nat × Nat) → List (Nat × Nat) → List (Nat × Nat × Nat × Nat)
  | [], _ => []
  | b :: bs, loads =>
    match loads with
    | [] => []
    | u :: us =>
      let best := us.foldl (fun (m : Nat × Nat) v => if v.2 < m.2 then v else m) u
      (best.1, b) :: dealBands bs (loads.map (fun (v : Nat × Nat) => if v.1 = best.1 then (v.1, v.2 + (b.2.2 + 3) / 4) else v))

/-! ## Capacity (R176) -/

/-- The Mortar limit of a wythe from the summed 4-column groups of its active channels and its units in service. -/
def mortarLimit (groups units : Nat) : Nat := 256 * units * 800000000 / (256 * groups + 32000 * units)

/-- The units of a wythe that are in service (R178). -/
def State.unitsOf (s : State) (w : Nat) : List Nat :=
  (List.range 28).filter (fun u => !((if w = 0 then s.mortar.fenced0 else s.mortar.fenced1).getLsbD u))

/-- The number of units in service on a wythe (R178). -/
def State.unitsInService (s : State) (w : Nat) : Nat :=
  28 - popCount 28 ((if w = 0 then s.mortar.fenced0 else s.mortar.fenced1).toNat)

/-! ## Check 0x0002 of MORTAR (R14, R163, R511) -/

/-- The cells of one array row are in order. -/
def mortRowOk (c : Sec) (ch i : Nat) : Bool :=
  (List.range (2 ^ mortWExp c ch)).all (fun j =>
    1 ≤ threshold c ch i j 1 && [1, 2, 3, 4, 5].all (fun k => threshold c ch i j k ≤ threshold c ch i j (k + 1)))

/-- A channel descriptor in its mode (R162, R163). -/
def mortDescOk (c : Sec) (ch : Nat) : Bool :=
  let o := 32 * ch
  let arr := 12 * 2 ^ mortWExp c ch * 2 ^ mortHExp c ch
  c.fld o 2 6 == 0 && c.fld o 25 7 == 0 && c.fld o 41 7 == 0 && c.fld (o + 7) 0 8 == 0 && c.fld (o + 28) 0 32 == 0 &&
  (if mortMode c ch = 0 then
    mortAmp c ch == 0 && mortSeed c ch == 0 && c.zero (o + 16) 12 &&
    3 ≤ mortWExp c ch && mortWExp c ch ≤ 9 && 3 ≤ mortHExp c ch && mortHExp c ch ≤ 9 &&
    0x200 ≤ mortArrayOff c ch && mortArrayOff c ch % 64 == 0 && mortArrayOff c ch + arr ≤ c.len &&
    (List.range (2 ^ mortHExp c ch)).all (mortRowOk c ch)
  else if mortMode c ch = 1 then
    c.fld o 8 8 == 0 && mortXOff c ch == 0 && mortYOff c ch == 0 && mortArrayOff c ch == 0 &&
    ((List.range 6).map (mortWeight c ch false)).sum ≤ 256 && ((List.range 6).map (mortWeight c ch true)).sum ≤ 256
  else false)

def mortarFormatOk (c : Sec) : Bool := (List.range 12).all (mortDescOk c) && c.zero 0x180 0x80

end Sys2Proof.Machine
end

