-- ==== Sys2Proof/Machine/Pointing.lean ====
section
/-! DEFINITION. Pointing's arithmetic, the POINTING section and the bond (R180 to R192, R206, R208). -/

namespace Sys2Proof.Machine

open Sys2Proof

/-! ## The POINTING section (R185) -/

def ptSeed (c : Sec) : Nat := c.fld 0 0 32
def ptMapMode (c : Sec) : Nat := c.fld 4 0 2

/-- The split of a level under a variant: pair-1 and pair-2 codes (R185). -/
def ptSplit (c : Sec) (bar level variant : Nat) : Nat × Nat :=
  let e := level * 4 + variant
  (c.fld (0x40 + 64 * bar) (4 * e) 2, c.fld (0x40 + 64 * bar) (4 * e + 2) 2)
def ptWeakCap (c : Sec) (bar : Nat) : Nat := c.fld (0x40 + 64 * bar + 14) 0 2
/-- Weights to the left and right neighbour for residue `r`, 1 to 6 (R185). -/
def ptWl (c : Sec) (bar r : Nat) : Nat := c.fld (0x40 + 64 * bar + 16 + (r - 1)) 0 8
def ptWr (c : Sec) (bar r : Nat) : Nat := c.fld (0x40 + 64 * bar + 22 + (r - 1)) 0 8

/-- The state table of one bar, index (head × 4 + row) × 2,048 + nozzle (R185). -/
def ptTable (c : Sec) (bar : Nat) : SMap :=
  let base := 0x400 + bar * 122880
  { dflt := 0
    cells := (c.mem.filter (fun p => base ≤ p.1 && p.1 < base + 122880)).flatMap (fun p =>
      ((List.range 4).map (fun i => ((p.1 - base) * 4 + i, p.2.toNat / 4 ^ i % 4))).filter (fun q => q.2 != 0)) }

/-- Index of a nozzle in its bar's table (R185). -/
def nozIdx (head row j : Nat) : Nat := (head * 4 + row) * 2048 + j

/-! ## The Pointing hash (R188) -/

def ptHash (x y ch seed : Nat) : Nat :=
  let m := 2 ^ 32
  let h := (x * 2246822519 + y % m * 3266489917 + ch * 668265263 + seed) % m
  let h := h ^^^ (h / 2 ^ 16)
  let h := h * 2654435761 % m
  h ^^^ (h / 2 ^ 13)

def hashLeft (h : Nat) : Nat := field h 0 8
def hashRight (h : Nat) : Nat := field h 8 8
def hashStitch (h : Nat) : Nat := field h 16 6
def hashVariant (h : Nat) : Nat := field h 22 2

/-- The heads of a bar that cover a column: the lower head, and the upper one inside an overlap (R4, R189). -/
def coverHeads (x : Nat) : List Nat :=
  let k := min 59 (x / 2016)
  if 0 < k ∧ x < k * 2016 + 32 then [k - 1, k] else [k]

/-- The owner of a column (R189). -/
def ownerOf (x stitch : Nat) : Nat :=
  match coverHeads x with
  | [k, k1] => if stitch < 2 * (x - k1 * 2016) + 1 then k1 else k
  | [k] => k
  | _ => 0

/-! ## The four passes (R190) -/

/-- One column of one head: quanta placed by the two pairs, residue, and the two caps. -/
structure Cell where
  n1 : Nat := 0
  n2 : Nat := 0
  o  : Nat := 0
  c1 : Nat := 0
  c2 : Nat := 0
  deriving DecidableEq, Repr

/-- Pass 1: ownership and split. -/
def pass1 (c1 c2 lv : Nat) (split : Nat × Nat) : Cell :=
  let a := min split.1 c1
  let b := min split.2 c2
  { n1 := a, n2 := b, o := lv - a - b, c1 := c1, c2 := c2 }

/-- Pass 2: the other pair of the same head; the quanta moved are counted. -/
def pass2 (x : Cell) : Cell × Nat :=
  let t := min x.o (x.c2 - x.n2)
  let u := min (x.o - t) (x.c1 - x.n1)
  ({ x with n2 := x.n2 + t, n1 := x.n1 + u, o := x.o - t - u }, t + u)

/-- Pass 3: from the owner's cell to the other head's cell; the quanta received are counted. -/
def pass3 (own other : Cell) : Cell × Cell × Nat :=
  let t := min own.o (other.c1 - other.n1)
  let u := min (own.o - t) (other.c2 - other.n2)
  ({ own with o := own.o - t - u }, { other with n1 := other.n1 + t, n2 := other.n2 + u }, t + u)

/-- `place` of R190 on one cell: the cell after it and the quanta placed. -/
def placeCell : Nat → Cell → Cell × Nat
  | 0, x => (x, 0)
  | q + 1, x =>
    let a := x.c1 - x.n1
    let b := x.c2 - x.n2
    if a = 0 ∧ b = 0 then (x, 0)
    else
      let x := if b ≤ a then { x with n1 := x.n1 + 1 } else { x with n2 := x.n2 + 1 }
      let (x, k) := placeCell q x
      (x, k + 1)

/-- What pass 4 leaves: the cells, last column first, the residues met, and the quanta placed in neighbours. -/
structure P4 where
  cells   : List Cell := []
  residue : Nat := 0
  placed  : Nat := 0
  deriving DecidableEq, Repr

/-- Quanta lost in pass 4 (R191). -/
def P4.lost (r : P4) : Nat := r.residue - r.placed

/-- Pass 4 over a head's columns in ascending order. `q` quanta come from the column to the left; `prev` is that column's
cell; `shares` gives, for the index of a column and its residue, the parts for the left and the right (R190). -/
def pass4 (shares : Nat → Nat → Nat × Nat) : Nat → Nat → Option Cell → List Cell → P4 → P4
  | _, _, prev, [], r => { r with cells := prev.toList ++ r.cells }
  | i, q, prev, x :: xs, r =>
    let (x, k) := placeCell q x
    let r := { r with placed := r.placed + k }
    if x.o = 0 then pass4 shares (i + 1) 0 (some x) xs { r with cells := prev.toList ++ r.cells }
    else
      let s := shares i x.o
      let (prev, pl) := match prev with
        | none => (none, 0)
        | some p => let (p, k) := placeCell s.1 p; (some p, k)
      pass4 shares (i + 1) s.2 (some { x with o := 0 }) xs
        { cells := prev.toList ++ r.cells, residue := r.residue + x.o, placed := r.placed + pl }

/-- The parts of a residue for the left and right neighbours (R190). -/
def transfer (c : Sec) (bar y h r : Nat) : Nat × Nat :=
  let wl := if y % 2 = 0 then ptWl c bar r else ptWr c bar r
  let wr := if y % 2 = 0 then ptWr c bar r else ptWl c bar r
  let tl := min r ((r * wl + hashLeft h) / 256)
  (tl, min (r - tl) ((r * wr + hashRight h) / 256))

/-- What a state lets a nozzle place (R183, R190). -/
def nozCap (weakCap : Nat) : Nat → Nat
  | 0 => 3
  | 1 => weakCap
  | _ => 0

/-- What building one head's course needs: the bar, the POINTING set, the states of the bar, which heads are installed,
the firing course, the image course, the web column of column 0, the level of each column, the job columns as the first and one past
the last, and, where a gang member joins on a
side, the copied states of its nozzles in the overlap (R355). The East neighbour's H59 counts as head 61 and the West
neighbour's H00 as head 60. -/
structure BuildIn where
  bar    : Nat
  sec    : Sec
  states : SMap
  inst   : Nat → Bool
  f      : Nat
  y      : Nat
  xOff   : Nat
  level  : Nat → Nat
  cols   : Nat × Nat
  east   : Option SMap := none
  west   : Option SMap := none

/-- Index of an overlap nozzle in a neighbour's copy (R355). -/
def copyIdx (row i : Nat) : Nat := 32 * row + i

/-- The first column of the overlap with the West neighbour (R352). -/
def westCol : Nat := 120960

/-- The heads that cover a column, a neighbour's among them (R189, R352). -/
def BuildIn.cover (b : BuildIn) (x : Nat) : List Nat :=
  (if b.east.isSome ∧ x < 32 then [61] else []) ++ coverHeads x ++ (if b.west.isSome ∧ westCol ≤ x then [60] else [])

/-- The head that owns a column, a neighbour's among them (R189, R352). -/
def BuildIn.owner (b : BuildIn) (x stitch : Nat) : Nat :=
  if b.east.isSome ∧ x < 32 then (if stitch < 2 * x + 1 then 0 else 61)
  else if b.west.isSome ∧ westCol ≤ x then (if stitch < 2 * (x - westCol) + 1 then 60 else 59)
  else ownerOf x stitch

/-- The row of a pair that fires at course `f` (R181): rows A to D are 0 to 3. -/
def firingRow (pair f : Nat) : Nat := 2 * (pair - 1) + f % 2

/-- The state of a nozzle in a neighbour's copy: DISABLED without one. -/
def copyState (c : Option SMap) (row i : Nat) : Nat :=
  match c with
  | some m => m.get (copyIdx row i)
  | none => 3

/-- The cap of a head's nozzle in a pair and column (R190, R184, R355). -/
def BuildIn.cap (b : BuildIn) (head pair x : Nat) : Nat :=
  let row := firingRow pair b.f
  if head = 61 then nozCap (ptWeakCap b.sec b.bar) (copyState b.east row x)
  else if head = 60 then nozCap (ptWeakCap b.sec b.bar) (copyState b.west row (x - westCol))
  else if b.inst head then
    nozCap (ptWeakCap b.sec b.bar) (b.states.get (nozIdx head row (x - head * 2016)))
  else 0

/-- The hash of a column (R188). -/
def BuildIn.hash (b : BuildIn) (x : Nat) : Nat := ptHash (x + b.xOff) b.y b.bar (ptSeed b.sec)

/-- Passes 1 and 2 of one head and column: the cell and the quanta pass 2 moved. -/
def BuildIn.cell2 (b : BuildIn) (head x : Nat) : Cell × Nat :=
  let h := b.hash x
  let lv := if b.owner x (hashStitch h) = head then b.level x else 0
  pass2 (pass1 (b.cap head 1 x) (b.cap head 2 x) lv (ptSplit b.sec b.bar lv (hashVariant h)))

/-- Passes 1 to 3 of one head and column: the cell, the quanta pass 2 moved, and the quanta received in pass 3. -/
def BuildIn.cell3 (b : BuildIn) (head x : Nat) : Cell × Nat × Nat :=
  let (me, moved) := b.cell2 head x
  match (b.cover x).filter (· != head) with
  | [] => (me, moved, 0)
  | other :: _ =>
    if b.owner x (hashStitch (b.hash x)) = head then
      let (me, _, _) := pass3 me (b.cell2 other x).1
      (me, moved, 0)
    else
      let (_, me, got) := pass3 (b.cell2 other x).1 me
      (me, moved, got)

/-- One head's course: the non-zero codes by slot (pair 1 at 0 to 2,047, pair 2 at 2,048 to 4,095), and the quanta counted
as moved in pass 2, received in pass 3, placed in pass 4 and lost (R182, R190, R192). -/
structure HeadOut where
  codes      : List (Nat × Nat)
  sameCol    : Nat
  otherHead  : Nat
  neighbour  : Nat
  lost       : Nat
  deriving DecidableEq, Repr

/-- The codes of the cells, ascending columns from index `i`. -/
def cellCodes : Nat → List Cell → List (Nat × Nat)
  | _, [] => []
  | i, x :: xs => (if x.n1 = 0 then [] else [(i, x.n1)]) ++ (if x.n2 = 0 then [] else [(2048 + i, x.n2)]) ++ cellCodes (i + 1) xs

/-- The cell of a head's column as pass 4 finds it: a column that is no job column has room for nothing (R190, R191). -/
def BuildIn.cell4 (b : BuildIn) (x : Nat) (c : Cell) : Cell := if b.cols.1 ≤ x ∧ x < b.cols.2 then c else {}

/-- Builds one head's course over its first `n` columns (2,048 for a whole head) by the four passes of R190. -/
def buildHead (b : BuildIn) (head n : Nat) : HeadOut :=
  let x0 := head * 2016
  let cs := (List.range n).map (fun j => b.cell3 head (x0 + j))
  let r := pass4 (fun i o => transfer b.sec b.bar b.y (b.hash (x0 + i)) o) 0 0 none (cs.zipIdx.map (fun p => b.cell4 (x0 + p.2) p.1.1)) {}
  let codes := cellCodes 0 r.cells.reverse
  { codes := codes.filter (·.1 < 2048) ++ codes.filter (2048 ≤ ·.1)
    sameCol := (cs.map (·.2.1)).sum, otherHead := (cs.map (·.2.2)).sum
    neighbour := r.placed, lost := r.lost }

/-! ## The bond (R205 to R208) -/

/-- The lane of a node with the fewest bonded heads, lowest number first (R206). -/
def bestLane (lanes : List Nat) (bonds : List Bond) : Option Nat :=
  lanes.foldl (fun acc l =>
    let n := (bonds.filter (·.lane == l)).length
    match acc with
    | none => some l
    | some a =>
      let m := (bonds.filter (·.lane == a)).length
      if n < m ∨ (n = m ∧ l < a) then some l else acc) none

/-- Lanes of a node record that were identified (R204). -/
def NodeRec.lanesUsed (n : NodeRec) : List Nat := n.lanes.filter (· < 80)

/-- The lowest lane of a node record. -/
def NodeRec.lowest (n : NodeRec) : Nat := n.lanesUsed.foldl min 80

/-- Bonds a list of heads of one node, in order; fails where the chosen lane already carries 12 (R206). -/
def bondHeads (lanes : List Nat) (node : Nat) : List Nat → List Bond → Option (List Bond)
  | [], bs => some bs
  | h :: hs, bs =>
    match bestLane lanes bs with
    | none => none
    | some l =>
      let n := (bs.filter (·.lane == l)).length
      if 12 ≤ n then none else bondHeads lanes node hs (bs ++ [{ head := h, lane := l, slot := n, node := node }])

/-- Sorted insertion of numbers. -/
def insertNat (a : Nat) : List Nat → List Nat
  | [] => [a]
  | b :: l => if a ≤ b then a :: b :: l else b :: insertNat a l

/-- A list of numbers in ascending order. -/
def sortNat (l : List Nat) : List Nat := l.foldr insertNat []

/-- The bond over the node records in their order: the heads bonded, and whether it failed (R206). -/
def buildBond (installed : Nat → Bool) (nodes : List NodeRec) : List Bond × Bool :=
  let dup (h : Nat) : Bool := 1 < (nodes.filter (fun n => n.heads.any (· == h))).length
  let rec go : Nat → List NodeRec → List Bond → List Bond × Bool
    | _, [], bs => (bs, true)
    | i, n :: ns, bs =>
      match bondHeads n.lanesUsed i ((sortNat n.heads).filter (fun h => installed h && !dup h)) bs with
      | none => (bs, false)
      | some bs => go (i + 1) ns bs
  go 0 nodes []

/-- The load of a lane that carries `n` heads fits 14.4 Gbit/s at course rate `crl` (R207). -/
def laneLoadOk (n crl : Nat) : Bool := n * 9424 * crl * 103125 ≤ 14400000000 * 100000

/-- The lane limit of a wythe from the most heads on one of its lanes (R208). -/
def laneLimit (nMax : Nat) : Nat := 14400000000 * 10 / (nMax * 97185)

/-- The wythe of a global head id (R17). -/
def headWythe (g : Nat) : Nat := if g % 60 < 30 then 0 else 1

/-- The wythe of a lane (R205). -/
def laneWythe (l : Nat) : Nat := if l < 40 then 0 else 1

/-- The first failure of the lane-load check: the lane or head it names (R207). -/
def laneLoadFault (installed : Nat → Bool) (crl : Nat) (nodes : List NodeRec) (bonds : List Bond) : Option Nat :=
  match (List.range 720).find? (fun h => installed h && !(bonds.any (·.head == h))) with
  | some h => some h
  | none =>
    match nodes.find? (fun n => n.lanesUsed.any (fun l => laneWythe l != laneWythe n.lowest)) with
    | some n => some n.lowest
    | none =>
      match (nodes.flatMap (fun n => n.heads.map (fun h => (h, n.lowest)))).find? (fun p => headWythe p.1 != laneWythe p.2) with
      | some p => some p.1
      | none => (List.range 80).find? (fun l =>
          let n := (bonds.filter (·.lane == l)).length
          12 < n || !(laneLoadOk n crl))

/-! ## Check 0x0002 of POINTING (R14, R186) -/

def pointingFormatOk (c : Sec) : Bool :=
  ptMapMode c ≤ 1 && c.fld 4 2 30 == 0 && c.zero 8 0x38 && c.zero 0x340 0xC0 &&
  (List.range 12).all (fun b =>
    let o := 0x40 + 64 * b
    c.fld o 114 14 == 0 && c.zero (o + 28) 36 &&
    (List.range 7).all (fun l => (List.range 4).all (fun v => let s := ptSplit c b l v; s.1 + s.2 == l)) &&
    [1, 2, 3, 4, 5, 6].all (fun r => ptWl c b r + ptWr c b r ≤ 256))

end Sys2Proof.Machine
end

