-- ==== Sys2Proof/Machine/Ndeig.lean ====
section
/-! DEFINITION. The Ndeig link as data: the delimiter, the scrambler, stuffing, the 144/128 code, the unit bodies, and the
units the module sends (R273 to R301, R305). -/

namespace Sys2Proof.Machine

open Sys2Proof

/-! ## Delimiter, scrambling and stuffing (R277 to R280) -/

/-- One byte of the CRC-8 of the SMBus packet error code: polynomial 0x07 (R277). -/
def crc8Bits : Nat → Nat → Nat
  | 0, c => c
  | n + 1, c => crc8Bits n (if bitAt c 7 then (2 * c) % 256 ^^^ 7 else (2 * c) % 256)

/-- The CRC-8 of bytes, initial value 0 (R277). -/
def crc8 (bytes : List Nat) : Nat := bytes.foldl (fun c b => crc8Bits 8 (c ^^^ b % 256)) 0

/-- The 64-bit delimiter of a unit (R277). -/
def delimiter (kind blocks seq : Nat) : Nat :=
  0x4E3CB1D5 + kind % 256 * 2 ^ 32 + blocks % 256 * 2 ^ 40 + seq % 256 * 2 ^ 48 +
    crc8 [kind % 256, blocks % 256, seq % 256] * 2 ^ 56

/-- The number of blocks that R276 fixes for a kind. -/
def kindBlocks : Nat → Option Nat
  | 0x01 => some 65 | 0x02 => some 0 | 0x03 => some 1 | 0x04 => some 1 | 0x05 => some 1 | 0x06 => some 1
  | 0x11 => some 1 | 0x12 => some 7 | 0x13 => some 2 | 0x14 => some 7 | _ => none

/-- Whether a delimiter is valid (R277). -/
def delimiterOk (d : Nat) : Bool :=
  popCount 32 (field d 0 32 ^^^ 0x4E3CB1D5) ≤ 1 &&
  field d 56 8 == crc8 [field d 32 8, field d 40 8, field d 48 8] &&
  (kindBlocks (field d 32 8)).all (· == field d 40 8) &&
  (field d 32 8 != 0x07 || (1 ≤ field d 40 8 && field d 40 8 ≤ 48))

/-- The scrambler, and its inverse, over body bits in transmission order (R278). -/
def scrambleGo : List Bool → Nat → List Bool
  | [], _ => []
  | d :: ds, s =>
    let k := bitAt s 57 != bitAt s 38
    (d != k) :: scrambleGo ds ((2 * s + bit k) % 2 ^ 58)

/-- The scrambler seeded from the delimiter's SEQ (R278). -/
def scramble (seq : Nat) (bits : List Bool) : List Bool := scrambleGo bits (seq % 256 * 2 ^ 50 + 0x3555555555555)

/-- Stuffing: after 31 equal bits one opposite bit, which counts toward no run (R279). -/
def stuff : List Bool → Bool → Nat → List Bool
  | [], _, _ => []
  | b :: bs, last, run =>
    let run := if run ≠ 0 ∧ b = last then run + 1 else 1
    if run = 31 then b :: (!b) :: stuff bs b 0 else b :: stuff bs b run

/-- Removal of stuffing; nothing on a stuffing violation (R279). -/
def unstuff : List Bool → Bool → Nat → Option (List Bool)
  | [], _, _ => some []
  | b :: bs, last, run =>
    if run = 31 then (if b = last then none else unstuff bs b 0)
    else (unstuff bs b (if run ≠ 0 ∧ b = last then run + 1 else 1)).map (b :: ·)

/-! ## The 144/128 code (R282) -/

/-- Multiplication by α in GF(16). -/
def gfTimesA (a : Nat) : Nat := if bitAt a 3 then (2 * a) % 16 ^^^ 3 else 2 * a % 16

/-- Multiplication in GF(16) = GF(2)[α]/(α^4 + α + 1). -/
def gfMul (a b : Nat) : Nat :=
  (if bitAt b 0 then a % 16 else 0) ^^^ (if bitAt b 1 then gfTimesA a else 0) ^^^
  (if bitAt b 2 then gfTimesA (gfTimesA a) else 0) ^^^ (if bitAt b 3 then gfTimesA (gfTimesA (gfTimesA a)) else 0)

/-- Q(x, y) = x² ⊕ x·y ⊕ β·y². -/
def codeQ (x y : Nat) : Nat := gfMul x x ^^^ gfMul x y ^^^ gfMul 8 (gfMul y y)

/-- The column of symbol `j`: data symbols 0 to 31, then c_0 to c_3, as a 16-bit number of four symbols. -/
def codeColumn (j : Nat) : List Nat :=
  if j < 32 then
    let p := if j < 14 then j + 2 else j + 3
    [1, p % 16, p / 16, codeQ (p % 16) (p / 16)]
  else match j with
    | 32 => [1, 0, 0, 0]
    | 33 => [1, 1, 0, 1]
    | 34 => [1, 0, 1, 8]
    | _ => [0, 0, 0, 1]

/-- The four components of the xor over symbols of symbol × column. -/
def codeSum (w : Nat) : Nat → Nat × Nat × Nat × Nat
  | 0 => (0, 0, 0, 0)
  | n + 1 =>
    let (a, b, c, d) := codeSum w n
    let e := field w (4 * n) 4
    let h := codeColumn n
    (a ^^^ gfMul e (h.getD 0 0), b ^^^ gfMul e (h.getD 1 0), c ^^^ gfMul e (h.getD 2 0), d ^^^ gfMul e (h.getD 3 0))

/-- The 16 check bits of 128 data bits. -/
def codeCheck (d : Nat) : Nat :=
  let (s0, s1, s2, s3) := codeSum d 32
  (s0 ^^^ s1 ^^^ s2) + 16 * s1 + 256 * s2 + 4096 * (s3 ^^^ s1 ^^^ gfMul 8 s2)

/-- The 144-bit block of 128 data bits. -/
def encodeBlock (d : Nat) : Nat := d % 2 ^ 128 + codeCheck (d % 2 ^ 128) * 2 ^ 128

/-- What the decoder makes of a block. -/
inductive BlockRead where
  | clean (data : Nat)
  | corrected (data : Nat)
  | bad
  deriving DecidableEq, Repr

/-- The decoder of R282. -/
def decodeBlock (w : Nat) : BlockRead :=
  let s := codeSum w 36
  if s = (0, 0, 0, 0) then .clean (w % 2 ^ 128) else
    let hit (j e : Nat) : Bool :=
      let h := codeColumn j
      s == (gfMul e (h.getD 0 0), gfMul e (h.getD 1 0), gfMul e (h.getD 2 0), gfMul e (h.getD 3 0))
    match (List.range 36).findSome? (fun j => (((List.range 16).drop 1).find? (hit j)).map (fun e => (j, e))) with
    | some (j, e) => .corrected ((w ^^^ e * 2 ^ (4 * j)) % 2 ^ 128)
    | none => .bad

/-- A received unit body: the data of its blocks if all decode, the blocks corrected, and the blocks uncorrectable. -/
structure Body where
  data : Option (List Nat) := some []
  corr : Nat := 0
  unc  : Nat := 0
  deriving DecidableEq, Repr

/-- Decodes the blocks of a body in order. -/
def readBody : List Nat → Body
  | [] => {}
  | w :: ws =>
    let r := readBody ws
    match decodeBlock w with
    | .clean d => { r with data := r.data.map (d :: ·) }
    | .corrected d => { r with data := r.data.map (d :: ·), corr := r.corr + 1 }
    | .bad => { r with data := none, unc := r.unc + 1 }

/-! ## Units on the line (R276 to R281) -/

/-- The low bits of a number, the lowest first (R280). -/
def lowBits : Nat → Nat → List Bool
  | 0, _ => []
  | n + 1, w => (w % 2 == 1) :: lowBits n (w / 2)

/-- The number whose bits, the lowest first, are a list. -/
def ofBits (l : List Bool) : Nat := l.foldr (fun b n => bit b + 2 * n) 0

/-- The body bits of a unit before scrambling: its coded blocks, or the 64 zero bits of IDLE (R276, R282). -/
def bodyBits (kind : Nat) (data : List Nat) : List Bool :=
  if kind = 0x02 then List.replicate 64 false else data.flatMap (fun d => lowBits 144 (encodeBlock d))

/-- The bits of a unit, delimiter and scrambled body, before stuffing (R276 to R278, R280). -/
def unitBits (kind seq : Nat) (data : List Nat) : List Bool :=
  lowBits 64 (delimiter kind (if kind = 0x02 then 0 else data.length) seq) ++ scramble seq (bodyBits kind data)

/-- The last bit and the run of equal bits at the end of a stuffed stream (R279). -/
def runEnd : List Bool → Bool → Nat → Bool × Nat
  | [], last, run => (last, run)
  | b :: bs, last, run =>
    let run := if run ≠ 0 ∧ b = last then run + 1 else 1
    runEnd bs b (if run = 31 then 0 else run)

/-- The bits of a unit without stuffing, as R207 reckons them. -/
def unitLen (kind blocks : Nat) : Nat := if kind = 0x02 then 128 else 64 + 144 * blocks

/-- The bits of an IDLE on the line: from SEQ 128 on, its scrambled zero bits take one stuffed bit (R276, R278, R279). -/
def idleLen (seq : Nat) : Nat := 128 + bit (128 ≤ seq % 256)

/-- How many IDLE units follow a unit until at least `gap` bits have gone, and their bits (R276). -/
def idleFit : Nat → Nat → Nat → Nat × Nat
  | 0, _, _ => (0, 0)
  | n + 1, seq, gap =>
    if gap = 0 then (0, 0) else
      let l := idleLen (seq + 1)
      let (k, b) := idleFit n (seq + 1) (gap - l)
      (k + 1, b + l)

/-- IDLE fills a gap: the units and their bits; 256 of them are 32,896 bits (R276). -/
def idleFill (seq gap : Nat) : Nat × Nat :=
  let (k, b) := idleFit 256 seq (gap % 32896)
  (256 * (gap / 32896) + k, 32896 * (gap / 32896) + b)

/-- The IDLE units that a transmitter has sent when it can begin a unit due at `due`, and its state then: a unit in transmission is
never cut (R276). The first of them takes a stuffed bit after its first bit where it follows 30 ones (R279). Times are in line bits,
1/15 ns. -/
def TxLine.idle (due : Nat) (t : TxLine) : Nat × TxLine :=
  let gap := due - t.freeAt
  let owed := bit (t.last && t.run == 30)
  let (k, b) := idleFill t.seq (if gap = 0 then 0 else max 1 (gap - owed))
  if k = 0 then (0, t) else
    let (l, r) := runEnd (unitBits 0x02 ((t.seq + k) % 256) []) false 0
    (k, { t with seq := (t.seq + k) % 256, freeAt := t.freeAt + b + owed, last := l, run := r })

/-- What a transmitter puts on the line for a unit: its SEQ, the bits and their number (R277 to R280). -/
structure OnLine where
  seq  : Nat
  len  : Nat
  bits : Nat

/-- A transmitter sends a unit (R276 to R280, R282). -/
def TxLine.put (kind : Nat) (data : List Nat) (t : TxLine) : TxLine × OnLine :=
  let q := (t.seq + 1) % 256
  let b := unitBits kind q data
  let line := stuff b t.last t.run
  let (l, r) := runEnd b t.last t.run
  ({ t with seq := q, freeAt := t.freeAt + line.length, last := l, run := r }, { seq := q, len := line.length, bits := ofBits line })

/-- A unit waits behind those of its own and of higher priority (R276). -/
def TxLine.add (u : TxUnit) (t : TxLine) : TxLine :=
  { t with queue := t.queue.filter (·.prio ≤ u.prio) ++ u :: t.queue.filter (u.prio < ·.prio) }

/-- The unit that begins at or before `limit`, with the IDLE units before it, and the transmitter at its beginning: the first in the
order of priority of those due then (R276). -/
def TxLine.pick (limit : Nat) (t : TxLine) : Option (TxUnit × Nat × TxLine) :=
  match t.queue.map (·.due) |>.min? with
  | none => none
  | some e =>
    let (k, t') := t.idle e
    if limit < t'.freeAt then none else
      (t.queue.zipIdx.find? (fun p => p.1.due ≤ t'.freeAt)).map (fun p => (p.1, k, { t' with queue := t.queue.eraseIdx p.2 }))

/-- When a transmitter could begin a unit due at `due` behind the waiting units of priority up to `prio` (R241, R276). -/
def TxLine.slot (due prio : Nat) (t : TxLine) : Nat :=
  (t.idle due).2.freeAt + ((t.queue.filter (·.prio ≤ prio)).map (fun u => unitLen u.kind u.data.length)).sum

/-- What a transmitter that begins to send IDLE holds (R302). -/
def TxLine.begun (at15 : Nat) (t : TxLine) : TxLine := { t with freeAt := at15, last := false, run := 0, queue := [] }

/-- The numbers of a body's bits, 144 at a time. -/
def bodyBlocks : Nat → List Bool → List Nat
  | 0, _ => []
  | n + 1, l => ofBits (l.take 144) :: bodyBlocks n (l.drop 144)

/-- What a receiver finds in the bits of a unit. -/
inductive LineRead where
  /-- A stuffing violation (R279). -/
  | violation
  /-- No valid delimiter (R277). -/
  | invalid
  /-- A unit: its kind and its descrambled blocks, none where the body does not end. -/
  | unit (kind : Nat) (blocks : Option (List Nat))
  deriving DecidableEq, Repr

/-- What the bits of one unit without stuffing are (R276 to R278, R280). -/
def readUnit (l : List Bool) : LineRead :=
  let d := ofBits (l.take 64)
  if l.length < 64 ∨ !(delimiterOk d) then .invalid
  else
    let n := field d 40 8
    let body := scramble (field d 48 8) ((l.drop 64).take (144 * n))
    .unit (field d 32 8) (if l.length < 64 + 144 * n then none else some (bodyBlocks n body))

/-- The last bit and the run with which the bits of a unit meet a receiver, `len` of them, whose last arrives at up-time `up`: those of
the unit before where it follows at once, else those of an IDLE, which never ends in a run that could go on (R276, R279). -/
def RxEnd.start (up len : Nat) (x : RxEnd) : Bool × Nat := if 15 * (up - x.at_) < len + 64 then (x.last, x.run) else (false, 0)

/-- A receiver reads the line bits of one unit, `len` of them, the first in bit 0 of `bits` (R276 to R280). -/
def RxEnd.read (up len bits : Nat) (x : RxEnd) : LineRead × RxEnd :=
  let p := x.start up len
  match unstuff (lowBits len bits) p.1 p.2 with
  | none => (.violation, { at_ := up })
  | some l =>
    let e := runEnd l p.1 p.2
    (readUnit l, { last := e.1, run := e.2, at_ := up })

/-- The search and the loss of a receiver's alignment (R279, R281): ALIGNED, consecutive valid delimiters up to 3, consecutive
invalid ones up to 2, stuffing violations. -/
structure RxState where
  aligned : Bool
  good    : Nat
  bad     : Nat
  viol    : Nat
  deriving DecidableEq, Repr

/-- What the bits of a unit do to a receiver's alignment (R279, R281). -/
def RxState.hear (x : RxState) : LineRead → RxState
  | .violation => { x with aligned := false, good := 0, bad := 0, viol := x.viol + 1 }
  | .invalid => { x with aligned := x.aligned && x.bad + 1 < 2, good := 0, bad := min 2 (x.bad + 1) }
  | .unit _ _ => { x with aligned := x.aligned || 3 ≤ x.good + 1, good := min 3 (x.good + 1), bad := 0 }

/-- The body of a unit of a kind, where a receiver that was ALIGNED hears one (R276, R281, R282). -/
def LineRead.body (kind : Nat) : LineRead → Option Body
  | .unit k (some b) => if k = kind then some (readBody b) else none
  | _ => none

/-! ## Unit bodies -/

/-- The data of a LEASE (R293). -/
def leaseBody (op port epoch tLease course : Nat) : Nat :=
  op % 8 + 2 ^ 3 * (port % 2) + 2 ^ 4 * (epoch % 64) + 2 ^ 10 * (tLease % 65536) + 2 ^ 26 * (course % 2048)

/-- The header of a FRAME (R284). -/
def frameHeader (fire head course wave port epoch : Nat) : Nat :=
  fire % 2 ^ 32 + 2 ^ 32 * (head % 1024) + 2 ^ 42 * (course % 2048) + 2 ^ 53 * (wave % 16) + 2 ^ 57 * (port % 2) +
    2 ^ 58 * (epoch % 64)

/-- The payload of a head course from its nozzle slots (R182). -/
def framePayload (codes : List (Nat × Nat)) : Nat := (codes.map (fun p => p.2 % 4 * 4 ^ p.1)).sum

/-- The 64-bit tail of a FRAME (R285). -/
def frameTail (header payload period : Nat) : Nat :=
  crc32c (leBytes 8 header ++ leBytes 1024 payload) + 2 ^ 32 * min 4194303 period

/-- The 65 data words of a FRAME (R283). -/
def frameBlocks (header payload period : Nat) : List Nat :=
  let all := header + payload * 2 ^ 64 + frameTail header payload period * 2 ^ 8256
  (List.range 65).map (fun k => field all (128 * k) 128)

/-- Header, payload and tail of received FRAME data (R283). -/
def frameRead (blocks : List Nat) : Nat × Nat × Nat :=
  let all := (List.range blocks.length).foldl (fun n k => n + blocks.getD k 0 * 2 ^ (128 * k)) 0
  (field all 0 64, field all 64 8192, field all 8256 64)

/-- Whether FCRC matches (R285). -/
def frameCrcOk (header payload tail : Nat) : Bool :=
  field tail 0 32 == crc32c (leBytes 8 header ++ leBytes 1024 payload)

/-- The slots with a non-zero code of half a payload: row of pair 1 or 2 (R182). -/
def rowCodes (payload pair : Nat) : List (Nat × Nat) :=
  (List.range 2048).filterMap (fun j =>
    let c := field payload (4096 * pair + 2 * j) 2
    if c = 0 then none else some (j, c))

/-- The data of a CONFIG block (R305). -/
def configBody (head a b c d : Nat) : Nat :=
  head % 1024 + 2 ^ 16 * (a % 2 ^ 19) + 2 ^ 35 * (b % 2 ^ 19) + 2 ^ 54 * (c % 2 ^ 19) + 2 ^ 73 * (d % 2 ^ 19)

/-- A HELLO as the module reads it (R300). -/
structure Hello where
  nodeId : Nat
  idx    : Nat
  port   : Nat
  lanes  : Nat
  heads  : List Nat
  maxK   : Nat
  proto  : Nat
  tag    : Nat
  deriving DecidableEq, Repr

/-- Entry `i` of the six blocks that follow block 0 of HELLO and TEMPS (R300, R301). -/
def headEntry (data : List Nat) (i : Nat) : Nat := field (data.getD (1 + i / 8) 0) (16 * (i % 8)) 16

def helloRead (data : List Nat) : Hello :=
  let b := data.getD 0 0
  { nodeId := field b 0 32, idx := field b 32 2, port := field b 34 1, lanes := field b 35 3
    heads := (List.range (min 48 (field b 38 6))).map (fun i => headEntry data i % 1024)
    maxK := field b 44 12, proto := field b 56 8, tag := field b 64 16 }

/-- The words of a HELLO (R300). -/
def helloBlocks (h : Hello) : List Nat :=
  (h.nodeId % 2 ^ 32 + 2 ^ 32 * (h.idx % 4) + 2 ^ 34 * (h.port % 2) + 2 ^ 35 * (h.lanes % 8) +
    2 ^ 38 * (h.heads.length % 64) + 2 ^ 44 * (h.maxK % 4096) + 2 ^ 56 * h.proto + 2 ^ 64 * (h.tag % 65536)) ::
  (List.range 6).map (fun k => ((List.range 8).map (fun i => h.heads.getD (8 * k + i) 0 % 1024 * 2 ^ (16 * i))).sum)

/-- A STATUS as the module reads it (R299): the 256 bits of its two blocks. -/
def statusWord (data : List Nat) : Nat := data.getD 0 0 + data.getD 1 0 * 2 ^ 128

/-! ## The LANE_TABLE and NDEIG sections (R274, R305) -/

def ltEn (c : Sec) (lane : Nat) : Bool := c.flag (16 * lane + 8) 0
def ltTxInv (c : Sec) (lane : Nat) : Bool := c.flag (16 * lane + 8) 1
def ltRxInv (c : Sec) (lane : Nat) : Bool := c.flag (16 * lane + 8) 2
def ltAsym (c : Sec) (lane : Nat) : Int := c.sfld (16 * lane + 8) 16 16

/-- The transmit taps of a set, FFE_PRE, FFE_MAIN and FFE_POST (R274). -/
def ltTaps (c : Sec) (lane set : Nat) : List Nat := [0, 4, 8].map (fun b => c.fld (16 * lane + 2 * set) b 4)

/-- What a transmitter drives for a bit between two others, in 0.1 mV differential peak (R275). -/
def driveLevel (taps : List Nat) (before bit_ after : Bool) : Int :=
  let sg (b : Bool) (n : Nat) : Int := if b then n else -n
  333 * (sg bit_ (taps.getD 1 0) - sg after (taps.getD 0 0) - sg before (taps.getD 2 0))

/-- The bits of a line whose polarity is inverted, `len` of them (R274). -/
def invertLine (inv : Bool) (len bits : Nat) : Nat := if inv then 2 ^ len - 1 - bits % 2 ^ len else bits
def ndTLease (c : Sec) : Nat := c.fld 0 0 16
def ndStagger (c : Sec) (g r : Nat) : Nat := c.fld (0x40 + 4 * (4 * g + r)) 0 19

/-- Check 0x0002 of LANE_TABLE (R14, R275). -/
def laneTableFormatOk (c : Sec) : Bool :=
  (List.range 88).all (fun l =>
    let o := 16 * l
    c.fld (o + 8) 3 13 == 0 && c.fld (o + 12) 0 32 == 0 && (ltAsym c l).natAbs ≤ 10000 &&
    (!(ltEn c l) || (List.range 4).all (fun n =>
      let pre := c.fld (o + 2 * n) 0 4
      let main := c.fld (o + 2 * n) 4 4
      let post := c.fld (o + 2 * n) 8 4
      main != 0 && pre + post < main)))

/-- Check 0x0002 of NDEIG against the shadow BAR_GEOMETRY (R14, R305). -/
def ndeigFormatOk (geo c : Sec) : Bool :=
  2000 ≤ ndTLease c && ndTLease c ≤ 50000 && c.fld 2 0 16 == 0 && c.zero 4 0x3C &&
  (List.range 720).all (fun g => (List.range 4).all (fun r =>
    c.fld (0x40 + 4 * (4 * g + r)) 19 13 == 0 && (bgInstalled geo g || ndStagger c g r == 0)))

/-- K_max: the largest STAGGER >> 8 of any row of any installed head of the bars of a mask (R288). -/
def State.kMax (s : State) (mask : Nat) : Nat :=
  (((List.range 720).filter (fun g => s.installed g && bitAt mask (g / 60))).flatMap (fun g =>
    (List.range 4).map (fun r => ndStagger (s.sec SecId.ndeig) g r / 256))).foldl max 0

/-! ## Lanes and leases of the module -/

/-- A lane. -/
def State.lane (s : State) (l : Nat) : Lane := s.ndeig.lanes.getD l {}

/-- Changes a lane. -/
def State.modLane (l : Nat) (f : Lane → Lane) (s : State) : State :=
  { s with ndeig := { s.ndeig with lanes := modAt s.ndeig.lanes l f } }

/-- The module's view of a node's lease. -/
def State.lease (s : State) (id : Nat) : Lease := (s.ndeig.leases.find? (·.nodeId == id)).getD { nodeId := id }

/-- Replaces the module's view of a node's lease. -/
def State.setLease (x : Lease) (s : State) : State :=
  let l := s.ndeig.leases
  { s with ndeig := { s.ndeig with
      leases := if l.any (·.nodeId == x.nodeId) then l.map (fun y => if y.nodeId == x.nodeId then x else y) else l ++ [x] } }

/-- Lanes whose node a HELLO has named and whose transmitter is not electrically idle (R298, R302). -/
def State.lanesOf (s : State) (id : Nat) : List Nat :=
  (List.range 80).filter (fun l =>
    let x := s.lane l
    x.st != .off && x.hello.isSome && x.nodeId == id)

/-- Lanes of a node in UP. -/
def State.upLanesOf (s : State) (id : Nat) : List Nat := (s.lanesOf id).filter (fun l => (s.lane l).st == .up)

/-- Whether a lane carries heads (R306). -/
def State.bonded (s : State) (l : Nat) : Bool := s.point.bonds.any (·.lane == l)

/-- The line time of the present instant (R273). -/
def State.line15 (s : State) : Nat := 15 * s.clock.up

/-- The press time, in 1/15 ns, at a line time, at the present trim (R34, R363). -/
def State.pressAt15 (s : State) (t : Nat) : Nat :=
  let d : Int := (t : Int) - (s.line15 : Nat)
  (15 * (s.now : Int) + d + d * s.trimNow / (trimUnit : Nat)).toNat

/-- A unit falls due on a lane, with its place in the order of priority; an idle transmitter takes none (R276, R302). -/
def State.sendUnit (l prio kind : Nat) (data : List Nat) (s : State) : State :=
  if (s.lane l).st = .off then s
  else s.modLane l (fun x => { x with tx := x.tx.add { prio := prio, kind := kind, data := data, due := s.line15 } })

/-- Sends a LEASE on a list of lanes, REST and CANCEL before all else (R276, R293). -/
def State.sendLease (lanes : List Nat) (op epoch tLease course : Nat) (s : State) : State :=
  lanes.foldl (fun s l =>
    s.sendUnit l (if op = 3 ∨ op = 4 then 1 else 4) 0x03 [leaseBody op (s.lane l).port epoch tLease course]) s

/-- The data of a unit that begins at a line time: TIME carries ARRIVAL, its transmit instant plus d_f (R290). -/
def State.unitData (l : Nat) (u : TxUnit) (start : Nat) (s : State) : List Nat × State :=
  if u.kind ≠ 0x04 then (u.data, s)
  else
    let x := s.lane l
    let n := max 1 x.rtts.length
    let (v, s) := s.roundFree (((s.pressAt15 start * (2000 * n) : Nat) : Int) + x.rtts.sum).toNat (30000 * n)
    ([v % 2 ^ 64], s)

/-- The next unit on a lane begins, if one does at or before a line time (R276). -/
def State.laneBegin (limit l : Nat) (s : State) : State :=
  match (s.lane l).tx.pick limit with
  | none => s
  | some (u, k, t) =>
    let s := if k = 0 then s else s.send (.idle l k t.seq)
    let p := s.unitData l u t.freeAt
    let r := t.put u.kind p.1
    let c := p.2.sec SecId.laneTable
    (p.2.modLane l (fun x => { x with tx := r.1 })).send
      (.lane l u.kind r.2.seq p.1 r.2.len (invertLine (ltTxInv c l) r.2.len r.2.bits) (ltTaps c l (p.2.lane l).eqSet))

/-- The units on the lanes that begin at or before a line time (R276). -/
def State.lanesBegin (limit : Nat) (s : State) : State :=
  if s.ndeig.lanes.all (fun x => x.tx.queue.isEmpty) then s
  else (List.range 80).foldl (fun s l => (List.range (s.lane l).tx.queue.length).foldl (fun s _ => s.laneBegin limit l) s) s

/-- Sends CONFIG for the heads of a node, one block per head, on its first UP lane (R297, R305). -/
def State.sendConfig (id : Nat) (s : State) : State :=
  match s.upLanesOf id with
  | [] => s
  | l :: _ =>
    match (s.lane l).hello with
    | none => s
    | some h =>
      if h.heads.isEmpty then s else
        let c := s.sec SecId.ndeig
        s.sendUnit l 4 0x07 (h.heads.map (fun g =>
          configBody g (ndStagger c g 0) (ndStagger c g 1) (ndStagger c g 2) (ndStagger c g 3)))

/-- Whether a frame still waits for its lane. -/
def Lane.waits (x : Lane) (y : FrameTx) : Bool := x.tx.queue.any (fun u => u.kind == 0x01 && u.head == y.head && u.course == y.course)

/-- A lane's queue keeps only the units that a test keeps; frames that leave it are never sent. -/
def Lane.keepUnits (keep : TxUnit → Bool) (x : Lane) : Lane :=
  let x' := { x with tx := { x.tx with queue := x.tx.queue.filter keep } }
  { x' with frames := x.frames.filter (fun y => !(x.waits y) || x'.waits y) }

/-- LEASE REST on a list of lanes, each in the present epoch of its node (R293, R298). -/
def State.restOn (lanes : List Nat) (s : State) : State :=
  lanes.foldl (fun s l => s.sendLease [l] 3 (s.lease (s.lane l).nodeId).epoch 0 0) s

/-- LEASE REST on every lane of every held node; what those lanes had queued and not begun is dropped, with the frames of Wythe 1 that
still wait for their course record (R27, R298). -/
def State.sendRest (s : State) : State :=
  let ls := (s.ndeig.leases.filter (·.held)).flatMap (fun x => s.lanesOf x.nodeId)
  let drop (x : Lane) : Lane := let x := x.keepUnits (fun _ => false); { x with frames := x.frames.filter (·.sent) }
  let s := (ls.foldl (fun s l => s.modLane l drop) s).restOn ls
  { s with ndeig := { s.ndeig with restLanes := ls } }

/-- Requests a node's lease with the epoch after the one it reports, and again after T_LEASE where no answer comes (R297; log
entry 138). -/
def State.sendAcquire (id port : Nat) (s : State) : State :=
  let x := s.lease id
  let e := (x.nodeEpoch.getD 0 + 1) % 64
  let s := s.setLease { x with epoch := e, port := port, bad := 0, asked := true, retryAt := some (s.clock.up + 1000 * ndTLease (s.sec SecId.ndeig)) }
  s.sendLease ((s.upLanesOf id).take 1) 1 e (ndTLease (s.sec SecId.ndeig)) 0

end Sys2Proof.Machine
end

