-- ==== Sys2Proof/Machine/Ceil.lean ====
section
/-! DEFINITION. Sustainable speeds and the speed ceiling (R72, R128, R131, R176). -/

namespace Sys2Proof.Machine

open Sys2Proof

/-- Raw-equivalent and coded bytes of a fluid's lines admitted over the last 16 lifts, newest first (R127, R131). -/
def Job.measured (j : Job) (w c : Nat) : Nat × Nat :=
  let want := if j.yHalf then 2048 else 4096
  ((j.adm.filter (fun a => a.1 == c && a.2.1 == w)).foldl (fun (p : Nat × Nat × Nat) a =>
    if want ≤ p.1 then p else (p.1 + a.2.2.2.1, p.2.1 + a.2.2.2.1 * j.padded w, p.2.2 + a.2.2.2.2)) (0, 0, 0)).2

/-- The ratio used for a fluid: the measured one while the job prints, else the planning ratio (R131). -/
def Job.ratio (j : Job) (w c : Nat) : Nat × Nat :=
  if !j.ashlar then (1, 1) else
    let m := j.measured w c
    if j.state = 2 ∧ m.2 ≠ 0 then m else (max 16 j.ratio16, 16)

/-- Host bytes per course of a streaming job on a wythe, as a fraction (R131). -/
def Job.hostLoad (j : Job) (w : Nat) : Frac :=
  if j.place w ≠ 3 then {} else
    j.fluids.foldl (fun f c =>
      let r := j.ratio w c
      f.add (Frac.mk' (j.padded w * r.2) ((if j.yHalf then 2 else 1) * r.1))) {}

/-- Whether a job still draws on the host: open and not over. -/
def Job.live (j : Job) : Bool := j.state ≤ 2

/-- The host read limit of a wythe, scaled by the width and rate its link trained at (R131, R472). -/
def State.hostLimit (s : State) (w : Nat) : Option Nat :=
  let sum := (s.jobs.opened.filter Job.live).foldl (fun f j => f.add (j.hostLoad w)) {}
  if sum.n = 0 then none else some (Frac.div (Frac.mk' (49000000000 * (s.fn w).link.lanes * (s.fn w).link.rate) 5120) sum).floor.toNat

/-- The Mortar limit of a wythe for a job: its owned job columns in every channel of the job (R176). -/
def State.mortarLim (s : State) (j : Job) (w : Nat) : Nat :=
  mortarLimit (j.fluids.length * ceilDiv (j.ownedCount w) 4) (s.unitsInService w)

/-- The most heads on one lane of a wythe (R208). -/
def State.nMax (s : State) (w : Nat) : Nat :=
  (((List.range 80).filter (fun l => laneWythe l == w)).map (fun l => (s.point.bonds.filter (·.lane == l)).length)).foldl max 0

/-- The lane limit, a wythe without a bonded head left out (R208). -/
def State.laneLim (s : State) : Option Nat :=
  (([0, 1].filter (fun w => s.nMax w != 0)).map (fun w => laneLimit (s.nMax w))).min?

/-- The highest rate whose stopping distance, with 6 lifts more, fits a ring of `lifts` (R131). -/
def memLimitGo (drive : Sec) (lifts : Nat) : Nat → Nat → Nat
  | 0, v => v
  | n + 1, v =>
    let t := v + 2 ^ n
    memLimitGo drive lifts n (if stopDist drive (Frac.ofInt t) + 1536 ≤ 256 * lifts then t else v)

/-- The memory limit of a streaming job on a wythe (R131). -/
def State.memLimit (s : State) (j : Job) (w : Nat) : Option Nat :=
  if j.place w ≠ 3 then none else some (memLimitGo s.drive (2 ^ (if w = 0 then j.ring0 else j.ring1)) 24 0)

/-- A limit with its CEIL_LIMIT code. -/
abbrev Limit := Nat × Nat

/-- The lowest of a list of limits, the lowest code when equal (R72). -/
def lowest (l : List Limit) : Limit :=
  match l with
  | [] => (0, 0)
  | a :: l => l.foldl (fun m x => if x.1 < m.1 ∨ (x.1 = m.1 ∧ x.2 < m.2) then x else m) a

/-- The limits of R131 for a job on one wythe. -/
def State.wytheLimits (s : State) (j : Job) (w : Nat) : List Limit :=
  [(profileCeil (s.sec SecId.profile), 0)] ++
  (if j.place w = 3 then ((s.hostLimit w).map (fun v => (v, 1))).toList else []) ++
  [(s.mortarLim j w, 2)] ++
  (if s.nMax w = 0 then [] else [(laneLimit (s.nMax w), 3)]) ++
  ((s.memLimit j w).map (fun v => (v, 4))).toList

/-- The sustainable speed of a job: speed, limiting path, and the wythe whose limit sets it, 2 for both (R131, R508). -/
def State.jobSpeed (s : State) (j : Job) : Nat × Nat × Nat :=
  let a := lowest (s.wytheLimits j 0)
  let b := lowest (s.wytheLimits j 1)
  let m := lowest [a, b]
  (m.1, m.2, if a.1 = b.1 then 2 else if a.1 < b.1 then 0 else 1)

/-- The terms of R72 but the gang's. -/
def State.ownTerms (s : State) : List Limit :=
  let p := s.sec SecId.profile
  [(profileCeil p, 0)] ++ (if profUserCeil p = 0 then [] else [(profUserCeil p, 7)]) ++
  s.started.map (fun j => ((s.jobSpeed j).1, (s.jobSpeed j).2.1)) ++ [(s.coping.thermCeil, 5)]

/-- SPEED_CEIL and CEIL_LIMIT (R72). -/
def State.ceilNow (s : State) : Limit :=
  lowest (s.ownTerms ++ (if s.butt.gang then s.butt.ceils.map (fun c => (c.2, 6)) else []))

/-- SPEED_CEIL is brought up to date; a change raises vector 23 (R72). -/
def State.setCeil (s : State) : State :=
  if s.cfg.gen = 0 then s else
    let c := s.ceilNow
    let s' := { s with ident := { s.ident with speedCeil := c.1, ceilLimit := c.2 } }
    if c.1 = s.ident.speedCeil then s' else s'.raise 0 23

/-! ## The throttle step in effect (R411, R413) -/

/-- Changes the thermal block. -/
def State.modCoping (f : Coping → Coping) (s : State) : State := { s with coping := f s.coping }

/-- The Mortar clock of a step, MHz. -/
def mortarMhz (n : Nat) : Nat := if n = 0 then 1000 else if n = 1 then 900 else 800

/-- The thermal ceiling of a step (R411). -/
def thermCeilOf (crl n : Nat) : Nat := if n < 3 then 118110 else crl * (240 - 8 * n - 104) / 120

/-- A step takes effect: at a lift boundary in PRINTING and HOLDING or as they end, and at once in every other state (R413). -/
def State.forceStep (s : State) : State :=
  if s.coping.stepForce = s.coping.step then s else
    let s := s.modCoping (fun x => { x with stepForce := x.step, thermCeil := thermCeilOf s.crl x.step })
    ({ s with mortar := { s.mortar with mhz := mortarMhz s.coping.step } }).setCeil

end Sys2Proof.Machine
end

