-- ==== Sys2Proof/Machine/Dma.lean ====
section
/-! DEFINITION. The DMA channels of both functions and the BAR2 window (R81 to R105). -/

namespace Sys2Proof.Machine

open Sys2Proof

/-! ## Channels -/

/-- A DMA channel of a function. -/
def State.ch (s : State) (f c : Nat) : Dma := (s.fn f).ch.getD c {}

/-- Changes a DMA channel. -/
def State.modCh (f c : Nat) (g : Dma → Dma) (s : State) : State :=
  let x := s.fn f
  s.setFn f { x with ch := modAt x.ch c g }

/-- Descriptors the ring holds (R84). -/
def Dma.slots (d : Dma) : Nat := 2 ^ d.ringExp / 64

/-- A ring size that the map allows (R82). -/
def Dma.expOk (d : Dma) : Bool := 12 ≤ d.ringExp && d.ringExp ≤ 24

/-- The host address of a descriptor (R84). -/
def Dma.descAddr (d : Dma) (i : Nat) : Nat := d.ringBase + 64 * (i % max 1 d.slots)

/-- Read requests in flight on a function, over its channels (R90). -/
def State.inFlight (s : State) (f : Nat) : Nat := ((s.fn f).ch.map (fun d => d.inflight.length)).sum

/-- The wythe's limit of read requests in flight (R90). -/
def State.flightMax (s : State) (f : Nat) : Nat := if (s.fn f).link.extTag then 256 else 32

/-- Reads a descriptor's bytes 0 to 47 (R85). -/
def parseDesc (idx : Nat) (b : List Nat) : Desc :=
  let w := leVal b
  { idx := idx, op := field w 0 8, irq := bitAt w 8, nosnoop := bitAt w 9, circ := bitAt w 10, fence := bitAt w 11
    fluid := field w 16 4, job := field w 24 8, addr := field w 64 64, len := field w 128 32, sizeExp := field w 160 6
    img := field w 192 64, lines := field w 256 24, pxFirst := field w 288 17, pxCount := field w 320 17
    seqOk := field w 32 32 == idx }

/-- Whether a job is bound to a channel (R92). -/
def Job.bound (j : Job) (f c : Nat) : Bool := if f = 0 then j.chan0.getLsbD c else j.chan1.getLsbD c

/-- The fields of a descriptor that must be 0 in a NOP, as byte offset, first bit and width (R85). -/
def nopZero : List (Nat × Nat × Nat) :=
  [(1, 9, 2), (1, 12, 4), (2, 16, 8), (3, 24, 8), (8, 64, 64), (16, 128, 32), (20, 160, 32), (24, 192, 64), (32, 256, 24)]

/-- The fields that must be 0 whatever the operation, from byte 35 on: reserved fields, and the bytes that the module writes (R85; log
entry 106). -/
def lateZero : List (Nat × Nat × Nat) :=
  [(35, 280, 8), (36, 288, 17), (38, 305, 15), (40, 320, 17), (42, 337, 47), (48, 384, 8), (49, 392, 8), (50, 400, 16), (52, 416, 32),
   (56, 448, 64)]

/-- The first field of a descriptor that its map or its own rules refuse: the byte offset (R85, R86, R89). -/
def descFault (d : Desc) (w : Nat) : Option Nat :=
  let set (x : Nat × Nat × Nat) : Bool := field w x.2.1 x.2.2 != 0
  if 2 < d.op then some 0
  else if d.op = 0 then ((nopZero ++ lateZero).find? set).map Prod.fst
  else
    let sizeBad := if d.circ then d.sizeExp < 12 || 32 < d.sizeExp else d.sizeExp != 0
    if set (1, 12, 4) then some 1
    else if (d.op = 1 ∧ 11 < d.fluid) ∨ (d.op = 2 ∧ d.fluid ≠ 0) ∨ set (2, 20, 4) then some 2
    else if d.op = 2 ∧ d.job ≠ 0 then some 3
    else if d.addr % 64 ≠ 0 ∨ (!d.circ ∧ d.len ≠ 0 ∧ d.addr / 2 ^ 32 ≠ (d.addr + d.len - 1) / 2 ^ 32) then some 8
    else if d.len % 64 ≠ 0 ∨ d.len = 0 ∨ (d.circ ∧ !sizeBad ∧ 2 ^ d.sizeExp < d.len) then some 16
    else if sizeBad ∨ set (20, 166, 26) then some 20
    else if d.op = 2 ∧ (d.img % 64 ≠ 0 ∨ (d.lines < 3 ∧ targetSize d.lines < d.img + d.len)) then some 24
    else if (d.op = 1 ∧ d.lines = 0) ∨ (d.op = 2 ∧ 2 < d.lines) then some 32
    else ((lateZero.filter (fun x => d.op = 2 || (x.1 != 36 && x.1 != 40))).find? set).map Prod.fst

/-- The first rule of R93 that a SOURCE descriptor fails, as the byte offset of its field. -/
def State.sourceFault (s : State) (f c : Nat) (d : Desc) : Option Nat :=
  match s.job d.job with
  | none => some 3
  | some j =>
    let span := jobSpan j f
    if !(j.mask.getLsbD d.fluid) then some 2
    else if !(j.bound f c) then some 3
    else if !j.ashlar ∧ d.len ≠ d.lines * paddedLine d.pxCount then some 16
    else if (j.totalLines.any (· < d.img + d.lines)) ∨ (j.endLine.any (· < d.img + d.lines)) ∨
        (s.jobs.lines.any (fun l => l.job == d.job && l.fluid == d.fluid && l.wythe == f && d.img ≤ l.line && l.line < d.img + d.lines))
      then some 24
    else if d.pxFirst ≠ span.1 then some 36
    else if d.pxCount ≠ span.2 then some 40
    else none

/-- What the checks of R86, R87 and R93 make of a fetched descriptor: RESULT and DETAIL of a failure. -/
def State.descVerdict (s : State) (f c : Nat) (d : Desc) (w : Nat) : Option (Nat × Nat) :=
  if !d.seqOk then some (Res.mismatch, 0)
  else match descFault d w with
    | some off => some (Res.badArg, off)
    | none =>
      let st := s.ident.opState
      if d.op = 1 ∧ !s.armed then some (if s.inRest then Res.inRest else Res.badState, st.code)
      else if d.op = 2 ∧ !(s.inRest ∨ st = .ready) then some (Res.badState, st.code)
      else if d.op = 1 then (s.sourceFault f c d).map (fun o => (Res.badArg, o))
      else none

/-- The first source line of a streaming job still needed: on a standby from the lift before the last complete epoch on (R94, R336; log
entry 16). -/
def State.neededLine (s : State) (j : Job) : Nat :=
  let y0 := match j.start with
    | none => 0
    | some st =>
      let l := if s.butt.role = .standby then (s.butt.epoch.getD 0) - 1 else s.lintel.next / 256
      256 * l - st - s.maxI
  (if j.yHalf then y0 / 2 else y0) - 1

/-- Bytes that descriptors in progress for the fluid of a job on a wythe will bring to its chain, but for descriptor `d` of channel `c`. -/
def State.comingBytes (s : State) (f c : Nat) (d : Desc) : Nat :=
  ((s.fn f).ch.zipIdx.map (fun x => ((x.1.descs.filter (fun e =>
    e.op == 1 && e.job == d.job && e.fluid == d.fluid && 0 < e.issued && !(x.2 == c && e.idx == d.idx))).map (·.len)).sum)).sum

/-- Bytes of a ring of strips from the oldest one still needed on (R94, R128). -/
def State.ringUsed (s : State) (j : Job) (c w need : Nat) : Nat :=
  match ((s.jobs.strips.filter (fun x => x.job == j.id && x.fluid == c && x.wythe == w && need < x.line0 + x.lines)).flatMap
      (fun x => x.pieces.map Prod.fst)).min? with
  | some o => j.tail c w - o
  | none => 0

/-- Whether the place of a SOURCE descriptor's data in the job's placement is free (R94): its lines in the ring, and the bytes of its
strips in the ring or the chain; a raw tile has its own place, and what the compressor cannot place waits in staging (R123). -/
def State.destFree (s : State) (f c : Nat) (d : Desc) : Bool :=
  match s.job d.job with
  | none => true
  | some j =>
    let plan := j.fluidPlan f (j.place f) (j.ring f) 1 1
    let room := runsLen (j.chain d.fluid f) ≥ plan || plan ≤ s.chainLimit j d.fluid f
    let bytes := s.comingBytes f c d + d.len
    match j.place f with
    | 3 =>
      let need := s.neededLine j
      d.img + d.lines ≤ need + j.linesHeld 3 (j.ring f) 1 1 && room &&
        (!j.ashlar || s.ringUsed j d.fluid f need + bytes ≤ plan * extentBytes)
    | 1 => ceilDiv (j.tail d.fluid f + bytes) extentBytes ≤ s.chainLimit j d.fluid f
    | 0 => room
    | _ => true

/-- The host address of a byte of a descriptor's data (R89). -/
def Desc.hostAddr (d : Desc) (off : Nat) : Nat :=
  if d.circ then
    let n := 2 ^ d.sizeExp
    d.addr / n * n + (d.addr + off) % n
  else d.addr + off

/-- The size of the request that begins at an offset of a descriptor's data (R90). -/
def Desc.reqLen (d : Desc) (limit off : Nat) : Nat :=
  let a := d.hostAddr off
  let n := min (min (min 4096 limit) (4096 - a % 4096)) (d.len - off)
  if d.circ then min n (2 ^ d.sizeExp - a % 2 ^ d.sizeExp) else n

/-- The requests of a descriptor from an offset on, as offset and bytes; the first argument bounds them (R90). -/
def Desc.requests (d : Desc) (limit : Nat) : Nat → Nat → List (Nat × Nat)
  | 0, _ => []
  | n + 1, off =>
    if d.len ≤ off then [] else
      let k := max 1 (d.reqLen limit off)
      (off, k) :: d.requests limit n (off + k)

/-- The record of an uncorrectable word: the memory, the address and the effect taken (R125). -/
def State.memRecord (w t addr effect : Nat) (s : State) : State := s.emit (srcDma w) 0x0415 0 [3 * w + t, addr, effect]

/-- The number by which that record names a read by a DUMP descriptor or through BAR2 (log entry 18). -/
def effectRead : Nat := 6

/-- Bytes of which nothing is known (log entry 1). -/
def State.freeBytes : Nat → State → List Nat × State
  | 0, s => ([], s)
  | n + 1, s =>
    let (v, s) := s.fresh
    let (l, s) := State.freeBytes n s
    (v % 256 :: l, s)

/-- Module memory to host memory, for one write request of a DUMP. -/
def State.dumpRequest (f : Nat) (d : Desc) (s : State) (r : Nat × Nat) : State :=
  s.hostWrite (d.hostAddr r.1) ((s.mem f (d.lines % 4)).read (d.img + r.1) r.2)

/-- The words of module memory that a request of a DUMP reads, the uncorrectable ones: their addresses (R97). -/
def State.badIn (f : Nat) (d : Desc) (s : State) (r : Nat × Nat) : List Nat :=
  ((List.range (r.2 / 16)).map (fun i => d.img + r.1 + 16 * i)).filter (fun a => s.badWord f (d.lines % 4) a)

/-- One write request of a DUMP (R85, R90). One that reads an uncorrectable word ends the descriptor (R97); where only the word of the
last beat of the last request is bad, the request goes out and its burst is unreliable (R98). The second part is how many bytes went out,
and the end of a descriptor that is over: END, RESULT, DETAIL, RESIDUE and LAST_BEAT. -/
def State.dump (f : Nat) (d : Desc) (s : State) : State × Nat × Option ((Nat × Nat × Nat × Nat) × Bool) :=
  let n := max 1 (d.reqLen (s.fn f).link.mps d.issued)
  match s.badIn f d (d.issued, n) with
  | [] => (s.dumpRequest f d (d.issued, n), n, if d.len ≤ d.issued + n then some ((1, Res.ok, 0, 0), false) else none)
  | a :: _ =>
    let s := s.memRecord f (d.lines % 4) a effectRead
    if a + 16 = d.img + d.len then
      let (b, s) := s.freeBytes n
      (s.hostWrite (d.hostAddr d.issued) b, n, some ((3, Res.hwFault, 4, 0), true))
    else (s, 0, some ((3, Res.hwFault, 4, d.len - d.issued), false))

/-- Fetches the channel's next descriptor and checks it (R84, R86). -/
def State.fetchDesc (f c : Nat) (s : State) : State :=
  let x := s.ch f c
  let i := x.head.toNat
  let b := s.store.host.read (x.descAddr i) 64
  let d := parseDesc i b
  let d := match s.descVerdict f c d (leVal b) with
    | some (r, det) => { d with ended := some (3, r, det, d.len) }
    | none => if d.op = 0 then { d with ended := some (1, Res.ok, 0, 0) } else d
  s.modCh f c (fun x => { x with descs := x.descs ++ [d], head := x.head + 1 })

/-- A descriptor of which nothing is left to issue. -/
def Desc.spent (d : Desc) : Bool := d.ended.isSome || (d.op == 1 && d.issued == d.len)

/-- A descriptor after which a channel issues nothing: it has met an error, or waits for an extent (R83, R97, R123). -/
def Desc.blocks (d : Desc) : Bool := d.stall || d.failOff.isSome || d.ended.any (fun e => e.1 == 3)

/-- The requests in flight that a channel allows itself: MAX_OUTSTANDING in its range (R82, R90; log entry 23). -/
def Dma.limit (x : Dma) : Nat := max 1 (min 256 x.maxOut)

/-- One turn of a channel: issues one write request of a DUMP or one read request of a SOURCE, or fetches (R88, R90, R94); and
whether anything was done. -/
def State.serve (f c : Nat) (s : State) : State × Bool :=
  let x := s.ch f c
  if x.st ≠ .running ∨ x.descs.any Desc.blocks then (s, false) else
    match x.descs.findIdx? (fun d => !d.spent) with
    | some k =>
      match x.descs[k]? with
      | none => (s, false)
      | some d =>
        if d.fence ∧ k ≠ 0 then (s, false)
        else if d.op = 2 then
          let (s, n, e) := s.dump f d
          (s.modCh f c (fun x => { x with
            descs := modAt x.descs k (fun d => { d with issued := d.issued + n, ended := e.map Prod.fst, lastBeat := e.any (·.2) })
            bytes := x.bytes + BitVec.ofNat 64 n }), true)
        else if !(s.destFree f c d) ∨ x.limit ≤ x.inflight.length ∨ s.flightMax f ≤ s.inFlight f then (s, false)
        else
          let n := d.reqLen (s.fn f).link.mrrs d.issued
          (s.modCh f c (fun x => { x with
            descs := modAt x.descs k (fun d => { d with issued := d.issued + n })
            inflight := x.inflight ++ [{ idx := d.idx, off := d.issued, len := n }] }), true)
    | none => if x.head = x.tail then (s, false) else (s.fetchDesc f c, true)

/-- Round-robin service of the host channels of a function until none has anything to do (R90). -/
def State.pumpGo (f : Nat) : Nat → Nat → State → State
  | 0, _, s => s
  | fuel + 1, idle, s =>
    if 14 ≤ idle then s else
      let c := (s.fn f).rr
      let (s, did) := s.serve f c
      let x := s.fn f
      State.pumpGo f fuel (if did then 0 else idle + 1) (s.setFn f { x with rr := (c + 1) % 14 })

/-- Lets a function's channels do what they can. -/
def State.pump (f : Nat) (s : State) : State := s.pumpGo f (2 ^ 64) 0

/-! ## State changes of a channel -/

/-- The channel stops with an error that belongs to no descriptor; its vector fires (R81, R83, R84). -/
def State.chanError (f c : Nat) (result detail : Nat) (s : State) : State :=
  (s.modCh f c (fun x => { x with
      st := .stopped, err := true, result := result, detail := detail, head := x.done, descs := []
      inflight := x.inflight.map (fun r => { r with drop := true }) })).raise f (4 + c)

/-- ENABLE (R83, R99). DESIGN CHOICE (log entry 127): DETAIL of a ring size that the map does not allow is 0. -/
def State.chanEnable (f c : Nat) (s : State) : State :=
  let x := s.ch f c
  match x.st with
  | .idle =>
    if x.expOk then (s.modCh f c (fun x => { x with st := .running })).pump f
    else s.chanError f c Res.badArg 0
  | .stopped => (s.modCh f c (fun x => { x with st := .running, aborted := false, err := false, lastBeat := false })).pump f
  | _ => s

/-- The descriptors that an ABORT leaves a channel: those whose end is decided, up to an error, and the one in progress (R100; log
entry 27). -/
def abortKeeps : List Desc → List Desc
  | [] => []
  | d :: l => match d.ended with
    | none => [d]
    | some e => if e.1 = 3 then [d] else d :: abortKeeps l

/-- The end of an aborted descriptor; one that waited for an extent waits no more (R100, R123). DESIGN CHOICE (log entry 127): DETAIL is
0 where no error occurred. -/
def Desc.aborted (rest : Bool) (d : Desc) : Desc :=
  if d.ended.isSome then d else
    { d with stall := false, ended := some (2,
        if d.failOff.isSome then Res.hwFault else if rest then Res.inRest else Res.ok,
        if d.failOff.isSome then d.failDetail else 0, d.len - d.issued) }

/-- An aborting channel has no request in flight any more: the descriptor in progress ends (R83, R100). -/
def Dma.drained (x : Dma) : Dma :=
  if x.st = .aborting ∧ x.inflight.isEmpty then { x with descs := x.descs.map (Desc.aborted x.stopRest) }
  else if x.st = .draining ∧ x.inflight.isEmpty then { x with st := .idle }
  else x

/-- The extents that the compressor took for a descriptor that does not end DONE go back, but for those of the reservation and those in
use (R95, R123). -/
def State.giveBack (f : Nat) (s : State) (d : Desc) : State :=
  match s.job d.job with
  | none => s
  | some j =>
    if !d.stall then s
    else s.setJob (j.trim f d.fluid (max (ceilDiv (j.tail d.fluid f) extentBytes)
      (if j.returned f then 0 else j.fluidPlan f (j.place f) (j.ring f) 1 1)))

/-- The descriptors of a channel are given up: what they hold in staging and in job space is released (R95, R123). -/
def State.dropStaged (f c : Nat) (s : State) : State := (s.ch f c).descs.foldl (State.giveBack f) s

/-- An aborting channel that has neither a descriptor in progress nor a request in flight stops (R83, R100). -/
def State.abortDone (f c : Nat) (s : State) : State :=
  let x := s.ch f c
  if x.st = .aborting ∧ x.descs.isEmpty ∧ x.inflight.isEmpty then
    (s.modCh f c (fun x => { x with
      st := .stopped, aborted := true, result := if x.stopRest then Res.inRest else Res.ok })).raise f (4 + c)
  else s

/-- ABORT, and entry to REST or FAULT (`rest`), of one channel (R83, R100). -/
def State.chanAbort (f c : Nat) (rest : Bool) (s : State) : State :=
  let x := s.ch f c
  if x.st ≠ .running then s else
    ((s.dropStaged f c).modCh f c (fun x =>
      let keep := (abortKeeps x.descs).map (fun d => { d with stall := false })
      Dma.drained { x with
        st := .aborting, stopRest := rest, descs := keep
        inflight := x.inflight.map (fun r => if keep.any (·.idx == r.idx) then r else { r with drop := true }) })).abortDone f c

/-- DISABLE, and loss of the PCIe link, of one channel: the counts become free values (R101). -/
def State.chanDisable (f c : Nat) (s : State) : State :=
  let x := s.ch f c
  match x.st with
  | .draining => s
  | _ =>
    let (h, s) := s.fresh
    let (d, s) := s.fresh
    let (b, s) := s.fresh
    let (r, s) := s.fresh
    (s.dropStaged f c).modCh f c (fun x => { x with
      st := if x.inflight.isEmpty then .idle else .draining
      descs := [], inflight := x.inflight.map (fun q => { q with drop := true })
      head := BitVec.ofNat 32 h, done := BitVec.ofNat 32 d, bytes := BitVec.ofNat 64 b, residue := BitVec.ofNat 32 r })

/-- Every host channel of both functions is aborted (R100, R308). -/
def State.abortAll (s : State) : State :=
  (List.range 14).foldl (fun s c => (s.chanAbort 0 c true).chanAbort 1 c true) s

/-- Every channel of a function stops as DISABLE stops it (R101, R453). -/
def State.disableAll (f : Nat) (s : State) : State := (List.range 16).foldl (fun s c => s.chanDisable f c) s

/-- Whether the loss of the link ends a descriptor of a channel that is in progress (R97). -/
def Dma.atWork (x : Dma) : Bool := x.descs.any (·.ended.isNone)

/-- What the reset of its function leaves of a channel `x` that lost its link: it drains, its counts are undefined (R83, R101), and it
shows the error of a descriptor that was in progress (R97; log entry 108). -/
def Dma.afterLoss (x : Dma) (work : Bool) (_ : Dma) : Dma :=
  { st := x.st, inflight := x.inflight, head := x.head, done := x.done, bytes := x.bytes, residue := x.residue
    err := work, result := if work then Res.hwFault else 0, detail := if work then 5 else 0 }

/-- A TAIL write (R84). While RING_EXP is outside 12 to 24 no ring is known, and TAIL is taken; a TAIL too far ahead in ABORTING or
DRAINING is ignored and the channel goes on to its end; where it stops the channel, the descriptor in progress gets no status (log
entry 105). -/
def State.tailWrite (f c v : Nat) (s : State) : State :=
  let x := s.ch f c
  let t := BitVec.ofNat 32 v
  if x.expOk && x.slots < (t - x.done).toNat then
    (match x.st with
     | .draining => s
     | .aborting => s
     | _ => s.chanError f c Res.noSpace 1)
  else (s.modCh f c (fun x => { x with tail := t })).pump f

/-- A RING_BASE write (R82). -/
def State.ringBaseWrite (f c v : Nat) (s : State) : State :=
  match (s.ch f c).st with
  | .idle => s.modCh f c (fun x => { x with ringBase := v % 2 ^ 64, tail := 0, head := 0, done := 0, bytes := 0, residue := 0 })
  | .stopped => s.modCh f c (fun x => { x with ringBase := v % 2 ^ 64, tail := 0, head := 0, done := 0, bytes := 0, residue := 0 })
  | _ => s

/-- How the completion of a read request came back (R97). -/
def complCode : Nat → Option Nat
  | 0 => none
  | n => some n

/-- Whether a SOURCE descriptor belongs to an Ashlar job. -/
def State.isAshlar (s : State) (d : Desc) : Bool := (s.job d.job).any (·.ashlar)

/-- Data or an error arrives for a request: an error belongs to the earliest request of its descriptor that fails (R97, R98). -/
def Desc.landed (q : Req) (err : Nat) (beat : Bool) (bytes : List Nat) (d : Desc) : Desc :=
  if err = 0 then { d with got := d.got.write q.off bytes, gotLen := d.gotLen + q.len }
  else if d.failOff.any (· ≤ q.off) then d
  else { d with failOff := some q.off, failDetail := err, lastBeat := beat && q.off + q.len == d.len }

/-- The bursts of a SOURCE descriptor from an offset of its data on are unreliable in HBM: free values in the lines' places, or at the
end of the chain (R98; log entry 1). -/
def State.spoilBurst (f off : Nat) (d : Desc) (s : State) : State :=
  match s.job d.job with
  | none => s
  | some j =>
    if j.place f = 2 then s
    else
      let s := s.growChain j.id d.fluid f (if j.place f = 1 then ceilDiv (j.tail d.fluid f + d.len) extentBytes
        else j.fluidPlan f (j.place f) (j.ring f) 1 1)
      let j := (s.job j.id).getD j
      let chain := j.chain d.fluid f
      let (b, s) := s.freeBytes (d.len - off)
      if j.ashlar then s.chainWrite f chain (j.tail d.fluid f + off) b
      else
        let pad := max 1 (j.padded f)
        (List.range d.lines).foldl (fun (s : State) i =>
          if (i + 1) * pad ≤ off then s
          else
            let a := max off (i * pad)
            s.chainWrite f chain (j.rawOff f (d.img + i) + (a - i * pad)) ((b.drop (a - off)).take ((i + 1) * pad - a))) s

/-- The record of a failed admission (R116). -/
def State.admitRecord (f : Nat) (d : Desc) (e : AdmitFail) (s : State) : State :=
  s.emit (srcDma f) 0x0410 0 [d.job, d.fluid, e.line0, e.px0, e.off]

/-- What the compressor makes of a descriptor whose data is complete: its end, or a stop with its record and vector, once it has taken
every extent that it may have (R121, R123). -/
def State.compress (f c i : Nat) (d : Desc) (j : Job) (s : State) : State :=
  let r := s.compressDesc f d j
  let put (g : Desc → Desc) (s : State) : State := s.modCh f c (fun x => { x with descs := modAt x.descs i g })
  match r.stop, r.bad with
  | some p, _ =>
    let s := s.growChain d.job d.fluid f (s.chainLimit j d.fluid f)
    if d.stall then s
    else ((put (fun d => { d with ended := none, stall := true }) s).emit (srcDma f) 0x0412 0x0012 [d.job, d.fluid, p.1, p.2]).raise 0 23
  | none, some e => put (fun d => { d with stall := false, ended := some (3, e.result, e.detail, 0) }) (s.admitRecord f d e)
  | none, none => put (fun d => { d with stall := false, ended := some (1, Res.ok, 0, 0) }) s

/-- What a running channel decides about one of its descriptors: an error once none of its requests is in flight, and the end of raw
data that has come in whole (R95, R97, R98). -/
def State.judgeDesc (f c i : Nat) (s : State) : State :=
  let x := s.ch f c
  match x.descs[i]? with
  | none => s
  | some d =>
    let put (g : Desc → Desc) (s : State) : State := s.modCh f c (fun x => { x with descs := modAt x.descs i g })
    if d.ended.isSome ∨ d.stall then s
    else match d.failOff with
      | some o =>
        if x.inflight.any (fun q => q.idx == d.idx && !q.drop) then s
        else
          let s := if d.lastBeat && d.op == 1 then s.spoilBurst f o d else s
          put (fun d => { d with ended := some (3, Res.hwFault, d.failDetail, if d.lastBeat then 0 else d.len - o) }) s
      | none =>
        if d.op ≠ 1 ∨ d.gotLen ≠ d.len ∨ s.isAshlar d then s
        else match s.job d.job with
          | some j => if j.place f = 2 then s.compress f c i d j else put (fun d => { d with ended := some (1, Res.ok, 0, 0) }) s
          | none => put (fun d => { d with ended := some (1, Res.ok, 0, 0) }) s

/-- A descriptor of a channel after the completion of a read request `q`, which may be of another or discarded (R97, R100). -/
def State.takes (q : Req) (err : Nat) (beat : Bool) (runMin : Nat) (s : State) (d : Desc) : Desc :=
  if q.drop || d.idx != q.idx then d
  else
    let bytes := (List.range q.len).map (fun o => (s.store.host.get (d.hostAddr (q.off + o))).toNat)
    { d.landed q err beat bytes with runMin := runMin }

/-- The completion of read request `k` of a channel: stored, or discarded; `err` is 0 or the DETAIL of R97, `beat` says that the error
falls on the final data beat, and `runMin` is how the compressor codes the descriptor's data (R90, R95, R97 to R101, R121). -/
def State.complete (f c k err : Nat) (beat : Bool) (runMin : Nat) (s : State) : State :=
  let x := s.ch f c
  match x.inflight[k]? with
  | none => s
  | some q =>
    let s := s.modCh f c (fun x => Dma.drained { x with
      inflight := x.inflight.eraseIdx k, descs := x.descs.map (s.takes q err beat runMin)
      bytes := if q.drop || err != 0 then x.bytes else x.bytes + BitVec.ofNat 64 q.len })
    let s := if (s.ch f c).st = .running then
        (List.range (s.ch f c).descs.length).foldl (fun s i => s.judgeDesc f c i) s else s.abortDone f c
    s.pump f

/-! ## Ending a descriptor (R95, R96) -/

/-- The 16 bytes the module writes back (R85). -/
def statusBytes (e : Nat × Nat × Nat × Nat) (lastBeat : Bool) (stamp : Nat) : List Nat :=
  [e.2.1, e.1 + 4 * bit lastBeat] ++ leBytes 2 e.2.2.1 ++ leBytes 4 e.2.2.2 ++ leBytes 8 stamp

/-- Whether the compressor has no extent for a descriptor that is to end (R123). -/
def State.mustStall (s : State) (f : Nat) (d : Desc) : Bool :=
  match s.job d.job with
  | none => false
  | some j => d.op == 1 && !j.ashlar && j.place f == 2 && (s.compressDesc f d j).stop.isSome

/-- Ends the channel's oldest descriptor if its end is decided, in the order of R96; and whether it ended DONE. The end that stops an
aborting channel waits until no request is in flight (R83). -/
def State.endDesc (f c : Nat) (s : State) : State × Bool :=
  let x := s.ch f c
  match x.descs with
  | [] => (s, false)
  | d :: more =>
    match d.ended with
    | none => (s, false)
    | some e =>
      let stop : Bool := e.1 == 3 || (x.st = .aborting && more.isEmpty)
      if stop ∧ x.st = .aborting ∧ !x.inflight.isEmpty then (s, false)
      else if e.1 = 1 ∧ s.mustStall f d then
        (if x.st = .aborting then s.modCh f c (fun x => { x with descs := modAt x.descs 0 (fun d => Desc.aborted x.stopRest { d with ended := none }) })
         else (s.job d.job).elim s (fun j => s.compress f c 0 d j), false)
      else
      let s := s.hostWrite (x.descAddr d.idx + 48) (statusBytes e d.lastBeat s.now)
      let done := BitVec.ofNat 32 (d.idx + 1)
      let s := if e.1 = 1 ∧ d.op = 1 then s.deliver f d else s
      let s := if stop then s.dropStaged f c else s
      let s := s.modCh f c (fun x => { x with
        done := done, result := e.2.1, detail := e.2.2.1, residue := BitVec.ofNat 32 e.2.2.2, lastBeat := d.lastBeat
        doneStamp := s.now
        st := if stop then .stopped else x.st
        aborted := if stop && e.1 != 3 then true else x.aborted
        err := if e.1 = 3 then true else x.err
        head := if stop then done else x.head
        descs := if stop then [] else more
        inflight := if stop then x.inflight.map (fun r => { r with drop := true }) else x.inflight })
      let s := if (e.1 = 1 ∧ d.irq) ∨ e.1 ≠ 1 ∨ stop then s.raise f (4 + c) else s
      (s.pump f, e.1 == 1)

/-- Admission of an Ashlar descriptor whose data is complete (R116, R118): DONE, or the first failure with its record. -/
def State.admission (f c : Nat) (s : State) : State :=
  let x := s.ch f c
  match x.descs.findIdx? (fun d => d.op == 1 && d.ended.isNone && d.gotLen == d.len && s.isAshlar d) with
  | none => s
  | some i =>
    match x.descs[i]? with
    | none => s
    | some d =>
      if x.st ≠ .running then s else
      match Machine.admitted d.admitReq (d.got.read 0 d.len) with
      | .ok _ =>
        s.modCh f c (fun x => { x with descs := modAt x.descs i (fun d => { d with admitted := true, ended := some (1, Res.ok, 0, 0) }) })
      | .error e =>
        (s.modCh f c (fun x => { x with descs := modAt x.descs i (fun d => { d with ended := some (3, e.result, e.detail, 0) }) })).admitRecord
          f d e

/-- The compressor tries again with the descriptors of a job that wait for an extent, after the record that it resumes (R123). -/
def State.compressResume (job : Nat) (s : State) : State :=
  let waits := [0, 1].flatMap (fun f => (List.range 14).flatMap (fun c =>
    ((s.ch f c).descs.zipIdx.filter (fun p => p.1.stall && p.1.ended.isNone && p.1.job == job && decide (0 < s.freeSpace f))).map
      (fun p => (f, c, p.2))))
  match waits, s.job job with
  | p :: _, some j =>
    let s := s.emit (srcDma p.1) 0x0413 0 [job]
    let s := waits.foldl (fun (s : State) p =>
      match (s.ch p.1 p.2.1).descs[p.2.2]? with
      | none => s
      | some d => s.compress p.1 p.2.1 p.2.2 { d with stall := false } ((s.job job).getD j)) s
    (s.pump 0).pump 1
  | _, _ => s

/-- The most read requests that channel 14 has in flight (R90). -/
def fetchLimit : Nat := 32

/-- Channel 14 of a function reads `n` bytes: as many requests at once as its limit and the wythe's allow, then the next ones, until all
are in; every request completes within the command that asks for the bytes (R81, R90; log entry 128). -/
def State.ownReads (f : Nat) : Nat → Nat → State → State
  | 0, _, s => s
  | fuel + 1, n, s =>
    let k := min n (max 1 (min fetchLimit (s.flightMax f - s.inFlight f)) * min 4096 (s.fn f).link.mrrs)
    if n = 0 then s else State.ownReads f fuel (n - k) (s.modCh f 14 (fun x => { x with bytes := x.bytes + BitVec.ofNat 64 k }))

/-- A fetch or write of the module's own channel 14 or 15 of a function ends: its vector fires (R81). DESIGN CHOICE (log entry 128): ERR,
RESULT and DETAIL keep an error that came before. -/
def State.ownChannel (f c n : Nat) (s : State) : State :=
  (s.modCh f c (fun x => { x with doneStamp := s.now, bytes := x.bytes + BitVec.ofNat 64 n })).raise f (4 + c)

/-- The parts of a bulk table that the two wythes fetch, each over its own function; a wythe that needs none fetches nothing (R19, R62,
R81). -/
def State.ownFetch (n0 n1 : Nat) (s : State) : State :=
  let s := if n0 = 0 then s else (s.ownReads 0 n0 n0).ownChannel 0 14 0
  if n1 = 0 then s else (s.ownReads 1 n1 n1).ownChannel 1 14 0

/-- An error on the module's own channel 14 or 15: its vector fires, and its status shows an error of the link (R81, R97). -/
def State.ownError (f c : Nat) (s : State) : State :=
  let (d, s) := s.fresh
  (s.modCh f c (fun x => { x with doneStamp := s.now, err := true, result := Res.hwFault, detail := 1 + d % 3 })).raise f (4 + c)

/-! ## The BAR2 window (R105) -/

/-- A BAR2 read of `n` bytes: the value and whether the completion is poisoned. -/
def State.bar2Read (s : State) (f off n : Nat) : Nat × Bool :=
  let x := s.fn f
  let a := x.bar2Base + off
  let m := s.mem f x.bar2Target
  let size := targetSize x.bar2Target
  (leVal ((List.range n).map (fun i => if a + i < size then (m.get (a + i)).toNat else 0)),
    (List.range n).any (fun i => a + i < size && s.badWord f x.bar2Target (a + i)))

/-- A BAR2 write: module memory changes, or the write is dropped and counted. -/
def State.bar2Write (f off : Nat) (bytes : List Nat) (s : State) : State :=
  let x := s.fn f
  let a := x.bar2Base + off
  if !x.bar2Wen ∨ s.printHold ∨ targetSize x.bar2Target < a + bytes.length then
    s.setFn f { x with bar2Dropped := satInc (2 ^ 32 - 1) x.bar2Dropped }
  else s.storeWrite f x.bar2Target a bytes

end Sys2Proof.Machine
end

