-- ==== Sys2Proof/Machine/Mbox.lean ====
section
/-! DEFINITION. Mailbox slots, responses and completions (R46 to R57). -/

namespace Sys2Proof.Machine

open Sys2Proof

/-- What a command answers: RESULT, DETAIL, the DATA bytes from byte 16 on, WARN and LATE_MARK (R48, R54). -/
structure Reply where
  result : Nat := 0
  detail : Nat := 0
  data   : List Nat := []
  warn   : Bool := false
  late   : Bool := false
  deriving DecidableEq, Repr

/-- A refusal with a DETAIL. -/
def Reply.fail (result detail : Nat) : Reply := { result := result, detail := detail }

/-- BAD_ARG at a byte offset of the slot (R54, R504). -/
def Reply.badArg (off : Nat) : Reply := Reply.fail Res.badArg off

/-- OK with DATA. -/
def Reply.ok (data : List Nat) : Reply := { data := data }

/-- A mailbox channel. -/
def State.chan (s : State) (c : Nat) : Chan := s.mbox.getD c {}

/-- Changes a mailbox channel. -/
def State.modChan (c : Nat) (f : Chan → Chan) (s : State) : State := { s with mbox := modAt s.mbox c f }

/-- The response a slot holds; after reset every slot reads as R48 says. -/
def Chan.response (x : Chan) (slot : Nat) : Rsp := (assoc slot x.rsp).getD {}

/-- The bytes of a response area (R48). -/
def Rsp.bytes (r : Rsp) : List Nat :=
  leBytes 2 r.verb ++ leBytes 2 r.tag ++
  [bit r.phase + 2 * bit r.readAgain + 4 * bit r.lateMark + 8 * bit r.warn, r.result] ++ leBytes 2 r.detail ++
  leBytes 8 r.stamp ++ (r.data ++ List.replicate 48 0).take 48

/-- Whether a response is ready (R52). -/
def Rsp.ready (r : Rsp) : Bool := r.result != Res.pending

/-- The running command of a channel completes: response, COMPLETE bit, then the interrupt (R52); after a function reset
it completes without writing its response (R454). -/
def State.respond (c : Nat) (r : Reply) (s : State) : State :=
  let x := s.chan c
  match x.queue with
  | [] => s
  | q :: rest =>
    if x.mute then s.modChan c (fun x => { x with queue := rest, order := x.order.drop 1, running := false, mute := false })
    else
      let rsp : Rsp := { verb := q.verb, tag := q.tag, phase := q.phase, lateMark := r.late, warn := r.warn
                         result := r.result, detail := r.detail, stamp := s.now, data := r.data }
      let s := s.modChan c (fun x => { x with
        rsp := assocSet q.slot rsp x.rsp, complete := setBit x.complete q.slot true, queue := rest, order := x.order.drop 1, running := false })
      if x.irqMode = 1 ∨ (x.irqMode = 2 ∧ q.notify) then s.raise 0 c else s

/-- A command in REST or FAULT, or in another state, that does not accept it (R57). -/
def State.wrongState (s : State) : Reply :=
  Reply.fail (if s.inRest then Res.inRest else Res.badState) s.ident.opState.code

/-- A byte of the command area: ARGS begin at byte 8 (R504). -/
def QCmd.byte (q : QCmd) (off : Nat) : Nat := q.args.getD (off - 8) 0

/-- A little-endian field of `n` bytes at a byte of the slot. -/
def QCmd.num (q : QCmd) (off n : Nat) : Nat := leVal ((List.range n).map (fun i => q.byte (off + i)))

/-- The first byte outside the named ranges that is not 0 (R14, R504); `named` lists offset and length. -/
def QCmd.stray (q : QCmd) (named : List (Nat × Nat)) : Option Nat :=
  ((List.range 56).map (· + 8)).find? (fun o => q.byte o != 0 && !(named.any (fun p => p.1 ≤ o && o < p.1 + p.2)))

/-- What is wrong with the header: reserved bits, or more argument bytes than there are (R14, R47). DESIGN CHOICE (log entry 130): ARG_LEN
otherwise counts for nothing, and all 56 argument bytes are read whatever it says. -/
def QCmd.headerFault (q : QCmd) : Option Nat :=
  if q.rsvd5 ≠ 0 then some 4 else if 56 < q.argLen then some 5 else if q.rsvd16 ≠ 0 then some 6 else none

/-- A host address that a verb wants aligned to 64 bytes (R505). -/
def aligned64 (a : Nat) : Bool := a % 64 == 0

end Sys2Proof.Machine
end

