-- ==== Sys2Proof/Machine/Tone.lean ====
section
/-! DEFINITION. The tone stage's arithmetic and the TONE and DENSITY sections (R132 to R145). -/

namespace Sys2Proof.Machine

open Sys2Proof

/-! ## Upsampling (R134, R135) -/

/-- One axis: the covering sample and its neighbour (R134). -/
def upsample1 (s n : Nat) : Nat := (3 * s + n + 2) / 4

/-- Both axes (R134). -/
def upsample2 (s nx ny nxy : Nat) : Nat := (9 * s + 3 * nx + 3 * ny + nxy + 8) / 16

/-- The source index that covers an output index, and the neighbour's, at factor 1 or 2 (R134); -1 is before the first. -/
def coverIdx (half : Bool) (i : Int) : Int × Int :=
  if half then (if i % 2 = 0 then (i / 2, i / 2 - 1) else (i / 2, i / 2 + 1)) else (i, i)

/-! ## The TONE section (R136) -/

def toneTacMax (c : Sec) : Nat := c.fld 0 0 20
def toneTacInclude (c : Sec) : Nat := c.fld 4 0 12
def toneKnee (c : Sec) (ch : Nat) : Nat := c.fld (0x40 + 4 * ch) 0 16
def toneCap (c : Sec) (ch : Nat) : Nat := c.fld (0x42 + 4 * ch) 0 16
def toneCurve (c : Sec) (ch i : Nat) : Nat := c.fld (0x80 + 8192 * ch + 2 * i) 0 16

/-- Interpolation between two curve entries; the upper one is not clamped (R137). -/
def curveInterp (t : Nat) (u : Int) (f : Nat) : Nat :=
  min 65535 ((t : Int) + ((u - t) * f + 8) / 16).toNat

/-- The tone curve of a channel (R137). -/
def toneApply (c : Sec) (ch v : Nat) : Nat :=
  let i := v / 16
  let u : Int := if i < 4095 then toneCurve c ch (i + 1) else 2 * (toneCurve c ch 4095 : Int) - toneCurve c ch 4094
  curveInterp (toneCurve c ch i) u (v % 16)

/-- The limiter's slope (R138). -/
def limSlope (knee cap : Nat) : Nat := (cap - knee) * 65536 / (65535 - knee)

/-- The coverage limiter (R138). -/
def limit (knee cap t : Nat) : Nat := if t ≤ knee then t else knee + (t - knee) * limSlope knee cap / 65536

/-- The column scale from the summed codes of `n` counted serving nozzles (R141). -/
def colScale (n k : Nat) : Nat := if n = 0 then 128 else (k + n / 2) / n

/-- The density scale (R142). -/
def scaleInk (t s : Nat) : Nat := min 65535 ((t * (128 + s) + 128) / 256)

/-- Steps 2 to 4 of R132 on an upsampled value. -/
def inkDemand (c : Sec) (ch v s : Nat) : Nat :=
  scaleInk (limit (toneKnee c ch) (toneCap c ch) (toneApply c ch v)) s

/-! ## The DENSITY section (R145) -/

def densGain (c : Sec) (ch : Nat) : Nat := c.fld (8 * ch) 0 8
def densDeadband (c : Sec) (ch : Nat) : Nat := c.fld (8 * ch + 1) 0 8
def densMaxStep (c : Sec) (ch : Nat) : Nat := c.fld (8 * ch + 2) 0 8
def densLoadMode (c : Sec) : Nat := c.fld 0x60 0 2

/-- Nozzles of one bar. -/
def barNozzles : Nat := 60 * 4 * 2048

/-- The codes of one bar as the section's table gives them (R145). -/
def densTable (c : Sec) (bar : Nat) : SMap :=
  let base := 0x80 + bar * barNozzles
  { dflt := 0, cells := (c.mem.filter (fun p => base ≤ p.1 && p.1 < base + barNozzles)).map (fun p => (p.1 - base, p.2.toNat)) }

/-! ## Stepping and correction (R148, R153) -/

/-- Joins two tables index by index, keeping the canonical form. -/
def SMap.zip (f : Nat → Nat → Nat) (a b : SMap) : SMap :=
  let idx := (b.cells.map (·.1)).foldl (fun acc i => if acc.any (· == i) then acc else acc ++ [i]) (a.cells.map (·.1))
  idx.foldl (fun m i => m.set i (f (a.get i) (b.get i))) { dflt := f a.dflt b.dflt }

/-- One code toward its target (R148). -/
def stepCode (a t : Nat) : Nat := if a < t then a + 1 else if t < a then a - 1 else a

/-- The target change of one applied entry (R153). -/
def densDelta (gain : Nat) (e : Int) (t maxStep : Nat) : Int :=
  let p : Int := gain * e * (128 + t)
  let mag : Int := ((p.natAbs + 524288) / 1048576 : Nat)
  let d : Int := if 0 < p then -mag else mag
  max (-(maxStep : Int)) (min maxStep d)

/-- The new target, and whether it was held at a limit (R153). -/
def densTarget (gain : Nat) (e : Int) (t maxStep : Nat) : Nat × Bool :=
  let v : Int := t + densDelta gain e t maxStep
  if v < 0 then (0, true) else if 255 < v then (255, true) else (v.toNat, false)

/-! ## Row records and seam copies (R147, R154) -/

/-- A row record of R154 that waits for its nozzles to reach their targets. -/
def unsettled : Nat := 2 ^ 64 - 1

/-- Whether two code tables differ in a row (head × 4 + row) of a bar. -/
def rowDiffers (a b : SMap) (row : Nat) : Bool :=
  if a.dflt = b.dflt then
    let look (m n : SMap) : Bool := m.cells.any (fun p => p.1 / 2048 == row && n.get p.1 != p.2)
    look a b || look b a
  else (List.range 2048).any (fun j => a.get (row * 2048 + j) != b.get (row * 2048 + j))

/-- The rows of a bar in which two tables differ. -/
def changedRows (a b : SMap) : List Nat := (List.range 240).filter (rowDiffers a b)

/-- A change of the density copies of both wythes. -/
def Tone.modSeams (f : Nat → ToneSeam → ToneSeam) (t : Tone) : Tone := { t with seam0 := f 0 t.seam0, seam1 := f 1 t.seam1 }

/-- The rows of a bar whose targets have just changed: UPDATES counts, and SETTLE_LIFT is all ones until a lift is fired with the row
at its targets (R154). -/
def Tone.touchRows (bar : Nat) (rows : List Nat) (t : Tone) : Tone :=
  rows.foldl (fun t r => { t with
    updates := t.updates.upd (240 * bar + r) (fun n => (n + 1) % 2 ^ 32)
    settle := t.settle.set (240 * bar + r) unsettled }) t

/-! ## Check 0x0002 of TONE and DENSITY (R14, R136, R145) -/

def toneFormatOk (c : Sec) : Bool :=
  c.fld 0 20 12 == 0 && c.fld 4 12 20 == 0 && c.zero 0x08 0x38 && c.zero 0x70 0x10 && toneTacMax c ≤ 786420 &&
  (List.range 12).all (fun ch => toneKnee c ch ≤ toneCap c ch) &&
  (toneTacMax c == 0 ||
    (((List.range 12).filter (bitAt (toneTacInclude c))).map (toneCap c)).sum ≤ toneTacMax c)

def densityFormatOk (c : Sec) : Bool :=
  (List.range 12).all (fun ch => c.zero (8 * ch + 3) 5 && 1 ≤ densMaxStep c ch && densMaxStep c ch ≤ 64 &&
    (ch < 8 || densGain c ch == 0)) &&
  densLoadMode c ≠ 3 && c.fld 0x60 2 30 == 0 && c.zero 0x64 0x1C

end Sys2Proof.Machine
end

