-- ==== Sys2Proof/Machine/Web.lean ====
section
/-! DEFINITION. Decoding of encoder and hall lines, direction and high-water mark, the divided output, and the checks of
the ENCODER section (R210 to R236). -/

namespace Sys2Proof.Machine

open Sys2Proof

/-- What an accepted change of an encoder's lines amounts to. -/
inductive EncStep where
  | counts (d : Int)
  | illegal
  deriving DecidableEq, Repr

/-- The place of a quadrature state in the forward sequence 0, 2, 3, 1 (R214). -/
def quadPlace : Nat → Nat
  | 0 => 0 | 2 => 1 | 3 => 2 | _ => 3

/-- Quadrature: the step from one state to the next (R214). -/
def quadStep (old new : Nat) : EncStep :=
  match (quadPlace new + 4 - quadPlace old) % 4 with
  | 0 => .counts 0
  | 1 => .counts 1
  | 2 => .illegal
  | _ => .counts (-1)

/-- A change of the two lines in a digital mode; `setup` says that an accepted change of DIR lies within DIR_SETUP
samples (R214, R215). -/
def digitalStep (mode : Nat) (falling : Bool) (a0 b0 a b setup : Bool) : EncStep :=
  match mode with
  | 1 => quadStep (2 * bit a0 + bit b0) (2 * bit a + bit b)
  | 2 =>
    if a0 ≠ a ∧ a = !falling then (if setup ∨ b0 ≠ b then .illegal else .counts (if b then 1 else -1)) else .counts 0
  | 3 =>
    let up := !a0 && a
    let dn := !b0 && b
    if up && dn then .illegal else .counts ((if up then 1 else 0) - (if dn then 1 else 0))
  | _ => .counts 0

/-! ## Filters and the sin/cos angle (R213 to R218) -/

/-- A line through its filter over `n` samples of one level: the sample of the run at which the level is accepted, if it is, and the
samples that the line has then held away from its accepted level `acc` (R213). -/
def lineTake (filter n : Nat) (acc lvl : Bool) (run : Nat) : Option Nat × Nat :=
  if lvl = acc then (none, 0) else if filter ≤ run + n then (some (filter - run), 0) else (none, run + n)

/-- The accepted changes of lines A and B in a run of samples, in their order: the sample of the run, and both levels after it. -/
def lineSteps (a0 b0 a b : Bool) (ta tb : Option Nat) : List (Nat × Bool × Bool) :=
  match ta, tb with
  | none, none => []
  | some i, none => [(i, a, b0)]
  | none, some j => [(j, a0, b)]
  | some i, some j => if i = j then [(i, a, b)] else if i < j then [(i, a, b0), (j, a, b)] else [(j, a0, b), (i, a, b)]

/-- Insertion in a rising list without repeats. -/
def insertPlace (n : Nat) : List Nat → List Nat
  | [] => [n]
  | m :: l => if n < m then n :: m :: l else if n = m then m :: l else m :: insertPlace n l

/-- atan(2^-k) for k = 0 to 31, in 1 / 2^32 of a turn. -/
def atanTable : List Nat :=
  [536870912, 316933406, 167458907, 85004756, 42667331, 21354465, 10679838, 5340245,
   2670163, 1335087, 667544, 333772, 166886, 83443, 41722, 20861,
   10430, 5215, 2608, 1304, 652, 326, 163, 81,
   41, 20, 10, 5, 3, 1, 1, 0]

/-- The rotations of a CORDIC that turns (x, y) onto the positive x axis; the angle turned is added up in `z` (R218). -/
def cordicGo : List Nat → Nat → Int → Int → Int → Int
  | [], _, _, _, z => z
  | t :: ts, k, x, y, z =>
    if y = 0 then z
    else if 0 < y then cordicGo ts (k + 1) (x + y / 2 ^ k) (y - x / 2 ^ k) (z + t)
    else cordicGo ts (k + 1) (x - y / 2 ^ k) (y + x / 2 ^ k) (z - t)

/-- The angle whose sine and cosine stand as `y` to `x`, in 1 / 2^32 of a turn, by CORDIC (R218; log entry 97). -/
def cordic (y x : Int) : Nat :=
  let go (q : Nat) (x y : Int) : Nat := ((q * 2 ^ 30 : Nat) + cordicGo atanTable 0 (x * 2 ^ 32) (y * 2 ^ 32) 0).toNat % 2 ^ 32
  if 0 < x ∧ 0 ≤ y then go 0 x y
  else if x ≤ 0 ∧ 0 < y then go 1 y (-x)
  else if x < 0 ∧ y ≤ 0 then go 2 (-x) (-y)
  else if y < 0 then go 3 (-y) x
  else 0

/-- The change of a 12-bit angle, in -2,048 to 2,047 (R218). -/
def angleStep (old new : Nat) : Int := signed 12 (new + 4096 - old % 4096)

/-- DIR, EXT and HWM after POSITION has become `p` (R221). -/
def Enc.moved (p : Int) (e : Enc) : Enc :=
  let e := { e with pos := p }
  let e :=
    if !e.rev then
      (if e.ext < p then { e with ext := p } else if p ≤ e.ext - 2 then { e with rev := true, ext := p } else e)
    else
      (if p < e.ext then { e with ext := p } else if e.ext + 2 ≤ p then { e with rev := false, ext := p } else e)
  if e.hwm < p then { e with hwm := p } else e

/-- Entries of a list of stamped values that are at most `age` old. -/
def recent {α : Type} (now age : Nat) (l : List (Nat × α)) : List (Nat × α) := l.filter (fun p => now ≤ p.1 + age)

/-- A change of POSITION by `d` counts, INVERT applied, stamped `now` (R211, R212, R221, R223, R235). -/
def Enc.count (now : Nat) (d : Int) (e : Enc) : Enc :=
  let was := e.rev
  let e := e.moved (e.pos + d)
  { e with
    window := (now, d) :: recent now 1000000 e.window
    missFrom := if e.rev then none else if was then some e.pos else e.missFrom }

/-- The status of a pair: 0 A, 1 B, 2 Z. -/
def Enc.pair (k : Nat) (x : Enc) : PairStatus := match k with
  | 0 => x.aStat | 1 => x.bStat | _ => x.zStat

/-- Sets the status of a pair. -/
def Enc.setPair (k : Nat) (st : PairStatus) (x : Enc) : Enc := match k with
  | 0 => { x with aStat := st } | 1 => { x with bStat := st } | _ => { x with zStat := st }

/-- The condition that a pair's voltages in mV meet (R224). -/
def pairClass (v : PairIn) : PairStatus :=
  if v.cm < -7000 ∨ 12000 < v.cm then .commonMode
  else if 1000 ≤ v.vd ∨ v.vd ≤ -1000 then .valid
  else if 200 ≤ v.vd ∧ v.vd ≤ 400 then .opened
  else if -100 < v.vd ∧ v.vd < 100 then .short
  else .marginal

/-- POSITION, HWM and direction as they are set at the end of BOOT and by an ENCODER commit (R211); counting of a missing
index starts (R223), the line levels stay. -/
def Enc.restart (e : Enc) : Enc :=
  { e with pos := 0, hwm := 0, ext := 0, rev := false, window := [], missFrom := some 0, idxLast := none, idxBadRun := 0
           indexPos := 0, zHigh := none, zFlagged := false, zBad := false }

/-- Whether the pins give a status to a pair in the present mode (R224): pair 0 A, 1 B, 2 Z. -/
def pairUsed (c : Sec) (e pair : Nat) : Bool :=
  match encMode c e with
  | 0 => false
  | 4 => pair == 2 && encZEn c e
  | _ => pair < 2 || encZEn c e

/-- Whether an encoder is in use: the position source, or the check encoder (R211). -/
def encInUse (c : Sec) (e : Nat) : Bool := encMode c e != 0 && (encPosSrc c == e || encCheckEn c)

/-! ## The divided output (R230 to R232) -/

/-- The next state of the quadrature output, forward or backward (R231). -/
def outStep (s : Nat) (fwd : Bool) : Nat :=
  match s, fwd with
  | 0, true => 2 | 2, true => 3 | 3, true => 1 | _, true => 0
  | 0, false => 1 | 1, false => 3 | 3, false => 2 | _, false => 0

/-- One count of the divider: the accumulator and the count emitted (R230). -/
def divide (n m : Nat) (acc d : Int) : Int × Int :=
  let acc := acc + d * n
  if (m : Int) ≤ acc then (acc - m, 1) else if acc < 0 then (acc + m, -1) else (acc, 0)

/-- The least spacing of output counts in ns (R232). -/
def outSpacing (c : Sec) : Nat := if outMode c = 2 then 2 * outPulseW c * 10 else 40

/-- A level that a line of ENC_OUT takes at an up-time, where it changes. -/
def lineChange (line t : Nat) (old new : Bool) : List Out := if old = new then [] else [.encOut line t new]

/-- One output count leaves at up-time `t`, `p.1` forward and `p.2` with ENC_OUT_Z high: the states of the divided output, and what its
lines do; in pulse mode A is high for PULSE_W × 10 ns, from 20 ns after B has changed to a new direction (R231; log entry 21). -/
def Web.leave (c : Sec) (t : Nat) (p : Bool × Bool) (w : Web) : Web × List Out :=
  let z := lineChange 2 t w.outZ p.2
  if outMode c = 1 then
    let st := outStep w.outState p.1
    ({ w with outState := st, outZ := p.2 },
      lineChange 0 t (2 ≤ w.outState) (2 ≤ st) ++ lineChange 1 t (w.outState % 2 == 1) (st % 2 == 1) ++ z)
  else
    let up := t + (if (w.outState % 2 == 1) = p.1 then 0 else 20)
    ({ w with outState := bit p.1, outZ := p.2 },
      lineChange 1 t (w.outState % 2 == 1) p.1 ++ z ++ [.encOut 0 up true, .encOut 0 (up + 10 * outPulseW c) false])

/-- The queued counts that may leave by now leave, one spacing apart (R232; log entry 21). -/
def Web.drainGo (c : Sec) (up : Nat) : List (Bool × Bool) → Web → List Out → Web × List Out
  | [], w, o => ({ w with outQueue := [] }, o)
  | p :: q, w, o =>
    if up < w.outAt then ({ w with outQueue := p :: q }, o)
    else
      let r := w.leave c w.outAt p
      Web.drainGo c up q { r.1 with outAt := w.outAt + max 1 (outSpacing c) } (o ++ r.2)

/-- One output count leaves the divider: queued, and gone at once where it may; or discarded and counted (R231, R232). -/
def Web.emitCount (c : Sec) (now : Nat) (up : Bool) (w : Web) (o : List Out) : Web × List Out × Bool :=
  if 64 ≤ w.outQueue.length then ({ w with outDropped := satInc (2 ^ 32 - 1) w.outDropped }, o, true)
  else
    let fwd := up != outInvert c
    let n := if up then w.outCount + 1 else w.outCount - 1
    let z := outZPeriod c != 0 && up && n % (outZPeriod c : Int) == 0
    let w := { w with outCount := n, outAt := if w.outQueue.isEmpty then max w.outAt now else w.outAt }
    let r := Web.drainGo c now (w.outQueue ++ [(fwd, z)]) w o
    (r.1, r.2, false)

/-- The three outputs held low and the queue empty, from an up-time on (R233). -/
def Web.outLow (t : Nat) (w : Web) : Web × List Out :=
  ({ w with outQueue := [], outState := 0, outZ := false },
    lineChange 0 t (2 ≤ w.outState) false ++ lineChange 1 t (w.outState % 2 == 1) false ++ lineChange 2 t w.outZ false)

/-- The counts of one change of POSITION pass the divider one by one: what the pins do, and whether a count was discarded (R230). -/
def Web.divideAll (c : Sec) (now : Nat) (sgn : Int) : Nat → Web → List Out → Bool → Web × List Out × Bool
  | 0, w, o, lost => (w, o, lost)
  | k + 1, w, o, lost =>
    let (acc, e) := divide (outN c) (outM c) w.outAcc sgn
    let w := { w with outAcc := acc }
    if e = 0 then Web.divideAll c now sgn k w o lost
    else
      let r := w.emitCount c now (0 < e) o
      Web.divideAll c now sgn k r.1 r.2.1 (lost || r.2.2)

/-! ## The encoders in the state, and the output as it runs (R211, R230 to R233) -/

/-- An encoder. -/
def State.enc (s : State) (e : Nat) : Enc := if e = 0 then s.web.enc0 else s.web.enc1

/-- Replaces an encoder. -/
def State.setEnc (e : Nat) (x : Enc) (s : State) : State :=
  if e = 0 then { s with web := { s.web with enc0 := x } } else { s with web := { s.web with enc1 := x } }

/-- The ENCODER section in force. -/
def State.esec (s : State) : Sec := s.sec SecId.encoder

/-- Counting runs: the main states after BOOT, on an encoder in use (R211). -/
def State.counting (s : State) (e : Nat) : Bool := s.powered 10 && s.ident.opState != .boot && encInUse s.esec e

/-- Whether an encoder is the position source. -/
def State.isSource (s : State) (e : Nat) : Bool := encPosSrc s.esec == e

/-- Sends several things out, the first first. -/
def State.sendAll (l : List Out) (s : State) : State := { s with out := l.reverse ++ s.out }

/-- The queued counts of ENC_OUT that may leave by now leave (R231, R232). -/
def State.encDrain (s : State) : State :=
  let r := Web.drainGo s.esec s.clock.up s.web.outQueue s.web []
  ({ s with web := r.1 } : State).sendAll r.2

/-- ENC_OUT follows a change of the position source (R230 to R233). -/
def State.encOut (d : Int) (s : State) : State :=
  if outMode s.esec = 0 then s else
    let r := Web.divideAll s.esec s.clock.up (if d < 0 then -1 else 1) d.natAbs s.web [] false
    let s := ({ s with web := r.1 } : State).sendAll r.2.1
    if r.2.2 ∧ s.web.outRep.all (fun t => s.since t 1000000000) then
      ({ s with web := { s.web with outRep := some s.clock.up } }).emit srcWeb 0x1108 0 [s.web.outDropped]
    else s

/-- The check window starts anew (R229). -/
def State.newWindow (s : State) : State :=
  let chk := if encPosSrc s.esec = 0 then s.web.enc1 else s.web.enc0
  { s with web := { s.web with winStart := s.posEnc.pos, winCheck := chk.pos, winTime := s.now } }

/-- ENC_OUT goes low with its queue (R233). -/
def State.encOutLow (s : State) : State :=
  let r := s.web.outLow s.clock.up
  ({ s with web := r.1 } : State).sendAll r.2

/-! ## Hall codes (R227) -/

/-- The place of a legal hall code in the forward sequence 4, 6, 2, 3, 1, 5. -/
def hallPlace : Nat → Option Nat
  | 4 => some 0 | 6 => some 1 | 2 => some 2 | 3 => some 3 | 1 => some 4 | 5 => some 5 | _ => none

/-- What a change of the hall code is. -/
inductive HallStep where
  | boundary (fwd : Bool)
  | illegal
  | skip
  | first
  deriving DecidableEq, Repr

/-- The handling of a change from one code to another (R227). -/
def hallStep (invert : Bool) (old new : Nat) : HallStep :=
  match hallPlace new with
  | none => .illegal
  | some b =>
    match hallPlace old with
    | none => .first
    | some a =>
      match (b + 6 - a) % 6 with
      | 1 => .boundary (!invert)
      | 5 => .boundary invert
      | _ => .skip

/-! ## Check 0x0002 of ENCODER (R14, R217, R219, R232, R234) -/

/-- R_e of an encoder × 100 × 2^48 (R217). -/
def encRate (profile geo c : Sec) (e : Nat) : Nat :=
  let base := 103 * crlOf profile * pitchOf profile geo
  if encPosSrc c = e then base * 65536 else base * encCheckRatio c e

/-- One encoder block. -/
def encBlockOk (profile geo c : Sec) (e : Nat) : Bool :=
  let o := 0x10 + 0x10 * e
  let m := encMode c e
  let z := encZEn c e
  let digital := m == 1 || m == 2 || m == 3
  let chk := encCheckEn c && encPosSrc c != e
  let rate := encRate profile geo c e
  let unit := 100 * 2 ^ 48
  c.fld (o + 3) 0 8 == 0 && c.fld (o + 13) 0 24 == 0 && m ≤ 4 &&
  (m != 0 || (!(encInvert c e) && !z)) &&
  (z || encZGate c e == 0) && (z || encCpr c e == 0) &&
  (if digital || (m == 4 && z) then 1 ≤ encFilter c e else encFilter c e == 0) &&
  (if m = 2 then 1 ≤ encDirSetup c e else encDirSetup c e == 0 && !(encStepEdge c e)) &&
  (if chk then 1 ≤ encCheckTol c e else encCheckRatio c e == 0 && encCheckTol c e == 0) &&
  (!(digital && encInUse c e) ||
    (rate ≤ 25000000 * unit && (encFilter c e + 1) * 5 * rate < 1000000000 * unit)) &&
  (!(m == 4 && encInUse c e) || rate ≤ 4096 * 1000000 * unit)

def encoderFormatOk (profile geo c : Sec) : Bool :=
  let src := encPosSrc c
  let out := encRate profile geo c src
  let unit := 100 * 2 ^ 48
  c.fld 0 2 30 == 0 && c.zero 4 12 && encBlockOk profile geo c 0 && encBlockOk profile geo c 1 &&
  encMode c src != 0 &&
  (!(encCheckEn c) || (encMode c (1 - src) != 0 && encCheckRatio c (1 - src) != 0)) &&
  c.fld 0x30 2 6 == 0 && c.fld 0x32 0 16 == 0 && c.zero 0x3A 6 &&
  (if hallEn c then 1 ≤ hallFilter c && hallCounts c != 0 else !(hallInvert c) && hallFilter c == 0 && hallCounts c == 0) &&
  c.fld 0x40 3 5 == 0 && c.zero 0x4C 4 && c.zero 0x50 0x10 &&
  (match outMode c with
   | 0 => !(outInvert c) && outPulseW c == 0 && outN c == 0 && outM c == 0 && outZPeriod c == 0
   | 1 => outPulseW c == 0 && 1 ≤ outN c && outN c ≤ outM c && out * outN c ≤ 25000000 * unit * outM c
   | 2 => 2 ≤ outPulseW c && 1 ≤ outN c && outN c ≤ outM c && out * outN c * (2 * outPulseW c * 10) ≤ 1000000000 * unit * outM c
   | _ => false)

end Sys2Proof.Machine
end

