-- ==== Sys2Proof/Machine/Rest.lean ====
section
/-! DEFINITION. Causes and latches, the HV_EN gate and the field outputs, and entry to REST and FAULT (R308 to R319),
with the ends that such an entry gives to commits, actions, nozzle changes, jobs and pair roles. -/

namespace Sys2Proof.Machine

open Sys2Proof

/-! ## Pair role and its records (R329, R344, R362) -/

/-- An event record of Buttress, which raises vector 26 (R362). -/
def State.buttRecord (code : Nat) (detail : Int) (data : List Int) (s : State) : State :=
  (s.emit srcButt code detail data).raise 0 26

/-- A pending PAIR.SWAP of a module that is no longer ACTIVE ends: it does not hold the role the command needs (R345, R54). -/
def State.endSwap (s : State) : State :=
  match s.butt.swapPend with
  | none => s
  | some (_, ch, _) =>
    ({ s with butt := { s.butt with swapPend := none, swapOff := none } }).respond ch (Reply.fail Res.notHolder s.butt.role.code)

/-- The pair role changes (R344). -/
def State.setRole (r : PairRole) (s : State) : State :=
  if s.butt.role = r then s else
    let s' := (({ s with butt := { s.butt with role := r } }).alert 5).buttRecord 0x1501 0 [s.butt.role.code, r.code, 0]
    if r = .isolated then s'.endSwap else s'

/-- The side of the pair port: 0 East, 1 West (R349). -/
def State.pairSide (s : State) : Nat := (s.sec SecId.pair).fld 0 0 1

/-- The pair link is UP. -/
def State.pairUp (s : State) : Bool := if s.pairSide = 0 then s.butt.east.up else s.butt.west.up

/-- MIRROR_OK changes, with its reason (R337). -/
def State.mirrorSet (ok : Bool) (reason : Nat) (s : State) : State :=
  if s.butt.mirrorOk = ok then s else
    ({ s with butt := { s.butt with mirrorOk := ok, synced := ok } }).buttRecord 0x1503 0 [bit ok, reason]

/-- MIRROR_OK changes; the partner hears of a mirror that is no longer OK, so that both resynchronise (R327, R337; log entry 143). -/
def State.setMirror (ok : Bool) (reason : Nat) (s : State) : State :=
  if s.butt.mirrorOk = ok then s
  else if !ok ∧ s.hasSec SecId.pair ∧ s.pairUp then (s.mirrorSet ok reason).buttSend (.butt s.pairSide 0x25 [4, reason])
  else s.mirrorSet ok reason

/-- ROLE_OUT (R349). -/
def State.roleOut (s : State) : Bool := s.hasSec SecId.pair && (s.sec SecId.pair).flag 0 2

/-- RELEASE on every node this module holds (R295, R340). -/
def State.releaseAll (s : State) : State :=
  (s.ndeig.leases.filter (·.held)).foldl (fun s x =>
    (s.sendLease (s.lanesOf x.nodeId) 2 x.epoch 0 0).setLease { x with held := false }) s

/-! ## Causes (R312, R316) -/

/-- A filtered field input level (R312). -/
def State.input (s : State) (i : Nat) : Bool := s.plumb.level.getLsbD i

/-- Changes the safety block. -/
def State.modPlumb (f : Plumb → Plumb) (s : State) : State := { s with plumb := f s.plumb }

/-- Since when place `k` has shown `v`, as of now, in a list of dwells. -/
def dwellSince (k v now : Nat) (l : List (Nat × Nat × Nat)) : Nat :=
  match assoc k l with
  | some (x, t) => if x = v then t else now
  | none => now

/-- Place `k` shows `v`: since when, and the state that knows it (R311, R313, R316, R478). -/
def State.dwell (k v : Nat) (s : State) : Nat × State :=
  let t := dwellSince k v s.clock.up s.plumb.dwells
  (t, s.modPlumb (fun p => { p with dwells := assocSet k (v, t) p.dwells }))

/-- WEB_BREAK and JAM as the gate takes them: OPEN is asserted (R312). -/
def State.breakOn (s : State) : Bool := s.input 13 || s.plumb.breakOpen
def State.jamOn (s : State) : Bool := s.input 14 || s.plumb.jamOpen

/-- GP_INi stands at its forbidding level (R321). -/
def State.gpForbids (s : State) (i : Nat) : Bool := s.input (20 + i) == gioActiveHigh (s.sec SecId.generalIo) i

/-- The condition causes present, with their reasons, in ascending bit order (R316). -/
def State.conditions (s : State) : List (Nat × Nat) :=
  let on (b : Bool) (c r : Nat) : List (Nat × Nat) := if b then [(c, r)] else []
  let gio := s.sec SecId.generalIo
  on (!(s.input 15 && s.input 16)) 0 0 ++ on s.plumb.disc 1 0 ++ on s.breakOn 2 0 ++ on s.jamOn 3 0 ++
  on (!s.input 12) 4 0 ++ (s.bars.filter (fun b => !s.input b)).map (fun b => (5, b)) ++
  on (ilGuardEn (s.sec SecId.interlock) && !s.input 17) 6 0 ++ on (!s.input 18) 7 0 ++ on s.plumb.fieldLow 8 0 ++
  on (!s.plumb.thermOk) 23 0 ++
  ((List.range 4).filter (fun i => (gioFunc gio i == 1 || gioFunc gio i == 2) && s.gpForbids i)).map (fun i => (25, i))

/-- A set of bits from a list of bit numbers. -/
def bitsOf (l : List Nat) : BitVec 32 := l.foldl (fun v i => setBit v i true) 0

/-- CAUSE_PRESENT: the conditions, and the event causes of the sample just taken (R316; log entry 28). -/
def State.present (s : State) : BitVec 32 :=
  bitsOf (s.conditions.map (·.1)) ||| (if s.plumb.eventsAt = s.clock.up then s.plumb.events else 0)

/-- Whether a cause latches (R316, R320, R321). -/
def State.causeLatches (s : State) (bit reason : Nat) : Bool :=
  if 4 ≤ bit ∧ bit ≤ 8 then bitAt (ilLatch (s.sec SecId.interlock)) (bit - 4)
  else if bit = 25 then gioFunc (s.sec SecId.generalIo) reason == 2
  else true

/-- Causes that act only in READY, PRINTING and HOLDING (R316). -/
def armedOnly (bit : Nat) : Bool := (4 ≤ bit && bit ≤ 8) || bit == 25

/-- Causes whose removal needs a main-domain reset (R316). -/
def needsReset (bit : Nat) : Bool := [10, 11, 12, 13, 15, 16, 24, 26].contains bit

/-! ## The gate and the outputs (R308, R310, R313) -/

/-- The gate terms that all heads share. -/
def State.gateCommon (s : State) : Bool := s.input 15 && s.input 16 && s.plumb.wdogOk && s.plumb.thermOk

/-- Every gate term of R310 for bar `b` except REQ_b: HV_GATE. -/
def State.gateBar (s : State) (b : Nat) : Bool :=
  s.gateCommon && s.input b && s.input 12 && !s.breakOn && !s.jamOn

/-- REQ_b (R310). -/
def State.reqBar (s : State) (b : Nat) : Bool := s.armed && bitAt (bgBarEn (s.sec SecId.barGeometry)) b && s.present == 0

/-- REQ_L (R392). -/
def State.reqLamp (s : State) : Bool := s.armed && s.present == 0

/-- BOOT, REST and FAULT, in which the outputs are held (R308). -/
def State.held (s : State) : Bool := s.inRest || s.ident.opState == .boot

/-- Whether a pulse runs on an output. -/
def State.pulseOn (s : State) (o : Nat) : Bool := s.acts.pulses.any (·.1 == o)

/-- A camera trigger's pin while it pulses or idles: CAM_INV inverts it (R377). -/
def State.camPin (s : State) (k : Nat) (on : Bool) : Out := .pin (16 + k) (on != (s.sec SecId.time).flag (0x40 + 8 * k) 2)

/-- The level of the ROLE output (R325, R346). -/
def State.roleOn (s : State) : Bool := s.butt.role == .active && s.butt.swapOff.isNone && s.ident.opState != .boot

/-- The commanded level of field output `o` (R308, R310, R256, R270, R321, R325). -/
def State.outCmdBit (s : State) (o : Nat) : Bool :=
  if !s.mainOn || !(s.power.domains.getLsbD 10) then false
  else if o < 12 then s.reqBar o && s.gateBar o
  else if o = 12 then s.reqLamp && s.gateCommon
  else if o = 13 then s.armed
  else if o = 14 then s.held || s.lintel.rejectOn || s.pulseOn 14
  else if o = 15 then
    (if s.roleOut then s.roleOn
     else if s.held && !(gioOutKept (s.sec SecId.generalIo)) then false else s.plumb.gpOut || s.pulseOn 15)
  else false

/-- OUT_CMD (R323). -/
def State.outCmd (s : State) : BitVec 16 :=
  (List.range 16).foldl (fun v o => setBit v o (s.outCmdBit o)) 0

/-- OUT_STATE (R323): as commanded, but for outputs with a fault. -/
def State.outState (s : State) : BitVec 16 := (s.outCmd &&& ~~~s.plumb.stuckOff) ||| s.plumb.stuckOn

/-! ## Handing over (R328, R340) -/

/-- The instant of a head's row of course `c`: the fire time of its carrier plus the fraction of its stagger, where the
carrier has been released (R287, R240). -/
def State.rowInstant (s : State) (g r c : Nat) : Option Nat :=
  let st := ndStagger (s.sec SecId.ndeig) g r
  let k := c + st / 256
  match assoc k s.lintel.base with
  | none => none
  | some t =>
    match (match (if 8 ≤ k then assoc (k - 8) s.lintel.base else none) with
           | some t8 => some (t8 : Int)
           | none => s.tBack k) with
    | none => some t
    | some t8 =>
      some ((barTime t t8 (s.phi k (g / 60))).toNat + (st % 256 * ((t - t8).toNat / 8) + 128) / 256)

/-- The rows that fire at a course: A and C, or B and D, by its parity (R181). -/
def rowsAt (c : Nat) : List Nat := [c % 2, 2 + c % 2]

/-- The instants of all rows of a course; nothing stands for a row whose carrier has not been released. -/
def State.rowInstants (s : State) (c : Nat) : List (Option Nat) :=
  ((List.range 720).filter s.installed).flatMap (fun g => (rowsAt c).map (fun r => s.rowInstant g r c))

/-- F_DONE: the last course whose every row instant lay before now (R328). -/
def State.fDone (s : State) : Nat :=
  let last := s.lintel.next - 1
  (((List.range 2100).map (last - ·)).find? (fun c => (s.rowInstants c).all (fun t => t.any (· < s.now)))).getD 0

/-- ONE_MORE: some row instant of the course after F_DONE lies within 4 µs after now (R328). -/
def State.oneMore (s : State) (c : Nat) : Bool := (s.rowInstants (c + 1)).any (fun t => t.any (fun t => s.now ≤ t && t ≤ s.now + 4000))

/-- HANDOVER on the link, with its cause (R328). -/
def State.sendHandover (fDone : Nat) (oneMore : Bool) (cause : Nat) (s : State) : State :=
  s.buttSend (.butt s.pairSide 0x24 [fDone, bit oneMore, cause])

/-- What entry to REST or FAULT through a list of cause bits does to the pair role (R337, R340). -/
def State.pairAtRest (bits : List Nat) (s : State) : State :=
  match s.butt.role with
  | .active =>
    match bits.find? (fun b => (9 ≤ b && b ≤ 19) || b == 23 || b == 26) with
    | some b =>
      let f := s.fDone
      ((s.sendHandover f (s.oneMore f) b).releaseAll).setRole .isolated
    | none => if bits.contains 22 then s.setRole .isolated else s
  | .standby => s.setMirror false 5
  | _ => s

/-! ## Ends that REST gives (R68, R79, R199) -/

/-- The DATA of an action record (R79). -/
def Act.data (a : Act) (late : Bool) : List Int := [a.id, a.code, bit a.byTime, a.moment, bit late]

/-- Every pending action is cancelled, with a record each (R79). -/
def State.cancelActions (s : State) : State :=
  let s := s.acts.pend.foldl (fun s a => s.emit (srcLintel 0) 0x0502 a.arg (a.data a.late)) s
  { s with acts := { s.acts with pend := [] } }

/-- The density state as it was before the load of a pending lift commit, where one has been made, with the updates accepted since; the
rows whose targets go back have changed again (R68, R145, R146, R154; log entry 53). -/
def Tone.restore (t : Tone) : Tone :=
  match t.kept with
  | none => t
  | some k =>
    (List.range 12).foldl (fun u b => u.touchRows b (changedRows (t.target.getD b ⟨128, []⟩) (k.target.getD b ⟨128, []⟩))) { t with
      active := k.active, target := k.target, before := k.before, highest := k.highest, first := k.first
      seam0 := k.seam0, seam1 := k.seam1, kept := none }

/-- The pending commit that names a lift ends IN_REST with the state entered (R54, R68). -/
def State.endPendRest (o : OpState) (s : State) : State :=
  match s.cfg.pend with
  | none => s
  | some p =>
    ({ s with cfg := { s.cfg with pend := none }, tone := s.tone.restore }).respond p.chan (Reply.fail Res.inRest o.code)

/-- Nozzles of one bar. -/
def barNoz : Nat := 491520

/-- The state of a nozzle by its index over all bars. -/
def State.nozState (s : State) (i : Nat) : Nat := (s.point.states.getD (i / barNoz) ⟨0, []⟩).get (i % barNoz)

/-- A table with what lies outside a part of it taken out. -/
def SMap.only (p : Nat → Bool) (m : SMap) : SMap := { m with cells := m.cells.filter (fun c => p c.1) }

/-- Whether a nozzle of a bar, by its index, belongs to the copies that wythe `w` holds of the other wythe's seam head: its first or
last `n` nozzles of each row (R147, R193). -/
def seamNozzle (w n i : Nat) : Bool :=
  if w = 0 then i / 8192 == 30 && i % 2048 < n else i / 8192 == 29 && 2048 - n ≤ i % 2048

/-- Sets nozzle states in order, with the copies of the other wythe, counting the entries that change one (R193, R196, R199). -/
def State.setNozzles : List (Nat × Nat) → State → State × Nat
  | [], s => (s, 0)
  | (i, v) :: es, s =>
    let ch := bit (s.nozState i != v)
    let put (on : Bool) (l : List SMap) : List SMap := if on then modAt l (i / barNoz) (fun m => m.set (i % barNoz) v) else l
    let s := { s with point := { s.point with
      states := put true s.point.states, seam0 := put (seamNozzle 0 32 (i % barNoz)) s.point.seam0
      seam1 := put (seamNozzle 1 32 (i % barNoz)) s.point.seam1 } }
    let (s, n) := State.setNozzles es s
    (s, n + ch)

/-- Applies an accepted NOZ.MAP, with its record and vector 27 (R199). -/
def State.applyNoz (c : NozChg) (s : State) : State :=
  let (s, n) := s.setNozzles c.entries
  let s := { s with butt := { s.butt with nozChg := if s.butt.role = PairRole.active then s.butt.nozChg ++ c.entries else [] } }
  (s.emit (srcPointing 0) 0x0701 0 [c.lift, n]).raise 0 27

/-- Every pending NOZ.MAP change applies at once (R199). -/
def State.applyAllNoz (s : State) : State :=
  let l := s.point.pend.foldl (fun l c => insertBefore (fun d => c.lift < d.lift) c l) []
  l.foldl (fun s c => s.applyNoz c) { s with point := { s.point with pend := [], past := [] } }

/-- Started jobs end as JOB.ABORT ends them: one not yet printing leaves the queue, one printing is over (log entry 29); their sustainable
speeds count no longer (R72). -/
def State.endJobs (s : State) : State :=
  let end1 (j : Job) : Job :=
    if s.jobs.order.contains j.id then
      match j.state with
      | 1 => { j with state := 4, start := none, boundary := none }
      | 2 => { j with state := 4, endLift := some (ceilDiv s.lintel.next 256) }
      | _ => j
    else j
  State.setCeil { s with jobs := { s.jobs with opened := s.jobs.opened.map end1, order := [], paused := false } }

/-- Lamps at entry to REST or FAULT (R392): a frame whose return has not ended is the ended one (log entry 147). -/
def State.lampsAtRest (s : State) : State :=
  { s with corbel := { s.corbel with
      level := List.replicate 16 0, lit := false, restAt := some (s.clock.up + 100000), ignoreRet := s.corbel.awaited } }

/-- Output calibrations that waited for REST begin, unless the reference is suspect (R420, R422). -/
def State.calAtRest (s : State) : State :=
  let go (c : Cal) : Cal := if c.st = 1 then { c with st := 2, startAt := s.clock.up } else c
  if s.coping.refSuspect then s else s.modCoping (fun x => { x with cal := modAt (modAt x.cal 106 go) 107 go })

/-- Runs of these blocks that are under way stop without a result, and the blocks are pending again: outputs as the module leaves REST, and
the blocks that a suspect reference stops (R420, R422; log entry 141). -/
def State.calStop (bs : List Nat) (s : State) : State :=
  let stop (c : Cal) : Cal := if c.st = 2 then { c with st := 1 } else c
  s.modCoping (fun x => { x with cal := bs.foldl (fun (l : List Cal) b => modAt l b stop) x.cal })

/-- The hold, the release run and the speed command end (R255, R308, R317). -/
def State.motionAtRest (s : State) : State :=
  { s with lintel := { s.lintel with
      hold := { trigger := s.lintel.hold.trigger }, queue := [], runFrom := none, vCmd := {}, atSpeed := false, rejectTo := none } }

/-- The REST actions of R308 and R309, for entry through a list of causes. -/
def State.restActions (o : OpState) (bits : List Nat) (s : State) : State :=
  let s := s.abortAll
  let s := s.sendRest
  let s := s.pairAtRest bits
  let s := s.endPendRest o
  let s := s.cancelActions
  let s := if s.armed then s.applyAllNoz else s
  let s := s.forceStep.endJobs
  let s := s.lampsAtRest
  let s := s.calAtRest
  let m : Int := s.butt.member
  if s.butt.gang then (s.motionAtRest.buttSend (.butt 0 0x26 [8, m])).buttSend (.butt 1 0x26 [8, m]) else s.motionAtRest

/-- Entry to REST or FAULT (R80, R308). -/
def State.enterRest (o : OpState) (bits : List Nat) (s : State) : State := (s.restActions o bits).enter o

/-! ## Registering causes (R316 to R318) -/

/-- What the record of a cause carries beside R324's quantities: the domain that failed, with reason 6 of BOOT (R451). -/
def State.causeExtra (p : Nat × Nat) (s : State) : List Int :=
  if p = (24, 6) then (s.power.failed.take 1).map Int.ofNat else []

/-- One cause's record, in ascending order; the Plumb monitor reports it from Wythe 1 over the Tie (R24, R29, R318, R324). -/
def State.causeRecord (acts : Bool) (p : Nat × Nat) (s : State) : State :=
  (if s.mainOn then s.tieSend 1 tieKmsg [3, p.1, p.2] else s).emit srcPlumbMon 0x1401 0
    ([(p.1 : Int), (p.2 : Int), (bit (acts && s.causeLatches p.1 p.2) : Int), (s.ident.opState.code : Int)] ++ s.causeExtra p)

/-- Insertion by cause bit, then reason. -/
def insertCause (p : Nat × Nat) : List (Nat × Nat) → List (Nat × Nat)
  | [] => [p]
  | q :: l => if p.1 < q.1 ∨ (p.1 = q.1 ∧ p.2 ≤ q.2) then p :: q :: l else q :: insertCause p l

/-- Whether a cause acts in the present state (R316, R317). -/
def State.causeActs (s : State) (bit : Nat) : Bool := !(armedOnly bit) || s.armed

/-- The causes of one sample are registered: records, latches, FIRST_CAUSE, vector 22 and the state; causes that come at
one instant are of one sample (R317, R318). -/
def State.registerCauses (l : List (Nat × Nat)) (s : State) : State :=
  let l : List (Nat × Nat) := l.foldr insertCause []
  let latch := l.filter (fun p => s.causeActs p.1 && s.causeLatches p.1 p.2)
  let acting := l.filter (fun p => s.causeActs p.1)
  let s := l.foldl (fun s p => s.causeRecord (s.causeActs p.1) p) s
  let p := s.plumb
  let held := p.latched
  let same := p.eventsAt == s.clock.up && p.firstStamp == s.now
  let p := { p with
    events := (if p.eventsAt = s.clock.up then p.events else 0) ||| bitsOf (l.map Prod.fst), eventsAt := s.clock.up
    latched := p.latched ||| bitsOf (latch.map Prod.fst)
    latchReason := p.latchReason ++ latch.filter (fun q => !(p.latchReason.contains q))
    mustReset := p.mustReset ||| bitsOf ((latch.map Prod.fst).filter needsReset) }
  let first (q : Nat × Nat) : Plumb := { p with firstCause := some q.1, firstReason := q.2, firstStamp := s.now }
  let p := match p.firstCause, l with
    | none, q :: _ => first q
    | some b, q :: _ => if same && (q.1 < b || (q.1 == b && q.2 < p.firstReason)) then first q else p
    | _, [] => p
  let s := { s with plumb := p }
  let s := if latch.all (fun q => held.getLsbD q.1) then s else (s.alert 0).raiseBoth 22
  if !latch.isEmpty && s.mainOn && s.ident.opState != .fault then
    s.enterRest .fault (latch.map (·.1))
  else if !acting.isEmpty && s.armed then s.enterRest .rest (acting.map (·.1))
  else s

/-- One cause with its reason. -/
def State.cause (bit reason : Nat) (s : State) : State := s.registerCauses [(bit, reason)]

/-- After a change of a condition: causes that newly hold are registered, causes that no longer hold are recorded as
removed (R316, R324). `old` is what held before. -/
def State.recheck (old : List (Nat × Nat)) (s : State) : State :=
  let new := s.conditions
  let gone := ((old.map (·.1)).filter (fun b => !(new.any (·.1 == b)))).eraseDups
  let s := gone.foldl (fun s (b : Nat) => s.emit srcPlumbMon 0x1402 0 [b]) s
  let added := new.filter (fun p => !(old.contains p))
  if added.isEmpty then s else s.registerCauses added

/-! ## STATE.CLEAR (R319) -/

/-- The monitored pairs of the position source: A 0, B 1, Z 2, with their status (R224, R225). -/
def State.sourcePairs (s : State) : List (Nat × PairStatus) :=
  let c := s.sec SecId.encoder
  [(0, s.posEnc.aStat), (1, s.posEnc.bStat), (2, s.posEnc.zStat)].filter (fun p => pairUsed c (encPosSrc c) p.1)

/-- Whether a latched cause has been removed (R316, R225). -/
def State.causeRemoved (s : State) (bit : Nat) : Bool :=
  let reasons := (s.plumb.latchReason.filter (·.1 == bit)).map (·.2)
  if bit = 0 ∨ bit = 1 then s.input 15 && s.input 16
  else if bit = 2 then !s.breakOn
  else if bit = 3 then !s.jamOn
  else if bit = 4 then s.input 12
  else if bit = 5 then s.bars.all s.input
  else if bit = 6 then s.input 17
  else if bit = 7 then s.input 18
  else if bit = 8 then 1920 ≤ s.plumb.vField
  else if bit = 9 then reasons.all (fun o => s.outState.getLsbD o == s.outCmd.getLsbD o)
  else if bit = 14 then s.plumb.tieTrained
  else if bit = 20 then
    !(reasons.contains 2) || (s.sourcePairs.all (fun p => p.2 == .valid))
  else if bit = 23 then s.plumb.thermOk
  else if bit = 25 then reasons.all (fun i => !(s.gpForbids i))
  else if needsReset bit then !(s.plumb.mustReset.getLsbD bit)
  else true

/-- The first latched cause not yet removed (R319). -/
def State.firstUnremoved (s : State) : Option Nat :=
  (List.range 27).find? (fun b => s.plumb.latched.getLsbD b && !(s.causeRemoved b))

end Sys2Proof.Machine
end

