-- ==== Sys2Proof/Machine/Hold.lean ====
section
/-! DEFINITION. Hold triggers and the stop plan, the speed ceiling's trigger, starvation tests, and the conditions of a
resume (R259 to R269). -/

namespace Sys2Proof.Machine

open Sys2Proof

/-- The members of a gang hear of a stop (R356). -/
def State.gangSay (fields : List Int) (s : State) : State :=
  if s.butt.gang then (s.buttSend (.butt 0 0x26 fields)).buttSend (.butt 1 0x26 fields) else s

/-- Changes the hold. -/
def State.modHold (f : Hold → Hold) (s : State) : State :=
  { s with lintel := { s.lintel with hold := f s.lintel.hold } }

/-- Release has ended: the resume course is the first course not released, with the record of R272 (R262). -/
def State.releaseOver (s : State) : State :=
  ({ s with lintel := { s.lintel with
      hold := { s.lintel.hold with ended := true, rc := some s.lintel.next }, runFrom := none } }).emit
    (srcLintel 0) 0x1202 0 [((s.lintel.lastFired.getD 0 : Nat) : Int), s.lintel.lastRate.floor]

/-- Release ends once the next course stands at or beyond the stop course (R262). -/
def State.endRelease (s : State) : State :=
  let h := s.lintel.hold
  if h.phase = .stopping ∧ !h.ended ∧ h.stop.any (· ≤ s.lintel.next) then s.releaseOver else s

/-- The record of a hold trigger: trigger, the next course to be released, the stop course, and for trigger 4 the
unserved reason (R272). -/
def State.holdRecord (code reason : Nat) (s : State) : State :=
  s.emit (srcLintel 0) 0x1201 0 [code, s.lintel.next, (s.lintel.hold.stop.getD s.lintel.next : Nat), reason]

/-- A hold trigger (R261, R262). `own` is its stop course where it is not a planned one. A gang hears of the stop course, or of the
course that is unserved (R356). A standby follows the ACTIVE's holds, and raises PARTNER alone (R331, R339). -/
def State.trigger (code : Nat) (own : Option Nat) (reason : Nat) (s : State) : State :=
  let stop := own.getD s.plannedStop
  let said : List Int := [if code = 4 then 7 else 1, stop]
  if s.butt.role = .standby ∧ code ≠ 6 then s
  else match s.ident.opState with
  | .printing =>
    let s := s.modHold (fun h => { phase := .stopping, trigger := code, stop := some stop, triggers := [code], hwmStop := h.hwmStop })
    let s := { s with lintel := { s.lintel with vCmd := {} } }
    let s := s.holdRecord code reason
    ((s.enter .holding).endRelease).gangSay said
  | .holding =>
    let s :=
      match s.lintel.hold.phase with
      | .stopping =>
        s.modHold (fun h => { h with
          stop := if h.ended then h.stop else some (min (h.stop.getD stop) stop), triggers := h.triggers ++ [code] })
      | .resuming =>
        let s := s.modHold (fun h => { h with phase := .stopping, triggers := h.triggers ++ [code], settleAt := none })
        { s with lintel := { s.lintel with vCmd := {}, tolRun := 0 } }
      | _ => s.modHold (fun h => { h with triggers := h.triggers ++ [code] })
    ((s.holdRecord code reason).endRelease).gangSay said
  | _ => s

/-- In PRINTING a v_top below 1.05 × MIN_FIRE_SPEED fires trigger CEILING (R263). -/
def State.ceilCheck (s : State) : State :=
  if s.ident.opState = .printing ∧ !s.vTopOk then s.trigger 9 none 0 else s

/-- SPEED_CEIL is brought up to date (R72); the row CEILING judges it (R263). -/
def State.updateCeil (s : State) : State := s.setCeil

/-- STARVE_WARN is set, with its record and vector 23, or cleared (R260). -/
def State.starveWarn (h stop : Nat) (s : State) : State :=
  let s' := { s with lintel := { s.lintel with starveWarn := decide (h < 2 * stop + 1024) } }
  if h < 2 * stop + 1024 ∧ s.lintel.starveWarn = false then (s'.emit (srcLintel 0) 0x1207 0 [h, stop]).raise 0 23 else s'

/-- Whether a trigger that fails again has already joined the hold; in RESUMING it acts anew (R262; log entry 98). -/
def State.joined (s : State) (code : Nat) : Bool :=
  s.lintel.hold.triggers.contains code && s.lintel.hold.phase != .resuming

/-- The starvation tests of R260. -/
def State.starvation (s : State) : State :=
  let s := { s with lintel := { s.lintel with horizon := s.horizonNow } }
  match s.lintel.horizon with
  | none => { s with lintel := { s.lintel with starveWarn := false } }
  | some h =>
    let stop := s.sStop
    let s := s.starveWarn h stop
    if stop + 512 ≤ h then s
    else match s.ident.opState with
      | .printing => s.trigger 2 none 0
      | .holding => if s.joined 2 then s else s.trigger 2 none 0
      | _ => s

/-- Whether every node with an installed head has granted this module its lease, or the first head whose node has not
(R60, R297). -/
def State.unheldHead (s : State) : Option Nat :=
  ((List.range 720).filter s.installed).find? (fun g =>
    match s.point.bonds.find? (·.head == g) with
    | none => true
    | some b =>
      match s.point.nodes[b.node]? with
      | none => true
      | some n => !(s.lease n.id).held)

/-- Whether the cause of a trigger has cleared (R265, R343, R358). -/
def State.triggerCleared (s : State) (t : Nat) : Bool :=
  let rc := s.lintel.hold.rc.getD s.lintel.next
  match t with
  | 1 => !s.jobs.paused
  | 2 => s.dCourse.all (fun d => stopDist s.drive (Frac.ofInt s.vTop) + 1536 + rc ≤ d)
  | 6 => !(s.hasSec SecId.pair) || (s.butt.role == .active && s.unheldHead.isNone)
  | 7 => 16 ≤ s.butt.divergeOk
  | _ => true

/-- The web is at rest (R254). -/
def State.webAtRest (s : State) : Bool := 160 ≤ s.lintel.restRun

/-- The lifts that a takeover needs are screened (R343). -/
def State.rescreened (s : State) : Bool :=
  match s.butt.mask, s.lintel.hold.rc with
  | some _, some rc => [rc / 256, rc / 256 + 1].all (fun l => s.mortar.bufs.any (fun b => b.lift == l && b.done0 && b.done1) && s.neighbourLift 0 l && s.neighbourLift 1 l)
  | _, _ => true

/-- The back-up target B for a resume at the present v_r (R264). -/
def State.backupTarget (s : State) : Int :=
  s.xAt ((s.lintel.hold.rc.getD s.lintel.next : Nat) - (backupDist s.drive s.vTop : Nat))

/-- The position source stands at or behind B. -/
def State.behindB (s : State) : Bool := s.lintel.hold.bTarget.any (fun b => fix32 s.posEnc.pos ≤ b)

/-- The conditions of R265 but those on the place of the web (R263, R343). -/
def State.resumeReady (s : State) : Bool :=
  s.lintel.hold.triggers.all s.triggerCleared && s.input 18 && s.present == 0 && s.vTopOk &&
  (!(s.hasSec SecId.pair) || (s.butt.role == .active && s.unheldHead.isNone && s.rescreened))

/-- Every condition of R265 but that on B. -/
def State.resumeClear (s : State) : Bool := s.webAtRest && s.resumeReady

/-- A resume attempt fails at this module (R266, R268): a new stop and back-up, or RESUME_FAIL. -/
def State.retryHold (s : State) : State :=
  let h := s.lintel.hold
  if drRetries s.drive ≤ h.retries + 1 then
    (s.modHold (fun h => { h with retries := h.retries + 1 })).cause 21 0
  else
    let s := s.modHold (fun h => { h with
      phase := .stopping, retries := h.retries + 1, stop := h.rc, triggers := h.triggers ++ [8], settleAt := none, bTarget := none })
    ({ s with lintel := { s.lintel with vCmd := {}, tolRun := 0 } }).holdRecord 8 0

/-- A resume attempt fails, and with it that of every member of a gang (R266, R268, R357). -/
def State.resumeFailed (s : State) : State := (s.retryHold).gangSay [12]

end Sys2Proof.Machine
end

