-- ==== Sys2Proof/Machine/Coping.lean ====
section
/-! DEFINITION. Sensors, temperature bands, power throttling, calibration and the status mirror (R406 to R425). -/

namespace Sys2Proof.Machine

open Sys2Proof

/-! ## The THERMAL section (R408) -/

def thTj (c : Sec) : Nat := c.fld 0 0 8
def thHbm (c : Sec) : Nat := c.fld 1 0 8
def thCalDelta (c : Sec) : Nat := c.fld 2 0 8
def thCalEn (c : Sec) : Bool := c.flag 3 0
def thLane (c : Sec) (k : Nat) : Nat := c.fld (3 + k) 0 8
def thWaveN (c : Sec) (b : Nat) : Nat := c.fld (0x20 + 32 * b) 0 5
def thWaveT (c : Sec) (b k : Nat) : Int := c.sfld (0x20 + 32 * b + 2 * k) 0 16

/-- Check 0x0002 of THERMAL against the shadow BAR_GEOMETRY (R14, R408). -/
def thermalFormatOk (geo c : Sec) : Bool :=
  80 ≤ thTj c && thTj c ≤ 108 && 75 ≤ thHbm c && thHbm c ≤ 95 && 2 ≤ thCalDelta c && thCalDelta c ≤ 40 &&
  c.fld 3 1 7 == 0 && c.fld 7 0 8 == 0 && c.zero 8 0x18 &&
  thLane c 1 + 3 ≤ thLane c 2 && thLane c 2 + 3 ≤ thLane c 3 &&
  (List.range 12).all (fun b =>
    let o := 0x20 + 32 * b
    if bitAt (bgBarEn geo) b then
      let n := thWaveN c b
      1 ≤ n && n ≤ 16 && c.fld o 5 11 == 0 &&
      (List.range 16).all (fun k => k < n || k = 0 || thWaveT c b k == 0) &&
      (List.range 16).all (fun k => k < 1 || n ≤ k + 1 || thWaveT c b k + 48 ≤ thWaveT c b (k + 1))
    else c.zero o 32)

/-- A record of this chapter, which raises vector 25 (R426). -/
def State.copRecord (code : Nat) (detail : Int) (data : List Int) (s : State) : State :=
  (s.emit srcCoping code detail data).raise 0 25

/-- The THERMAL section in force. -/
def State.thsec (s : State) : Sec := s.sec SecId.thermal

/-! ## Sensors (R407) -/

/-- A reading within range, in 1/16 °C. -/
def tempOk (t : Int) : Bool := -640 ≤ t && t ≤ 2400

/-- Whether a reading, after the one before, is valid. -/
def readingValid (before now : Option Int) : Bool :=
  match now with
  | none => false
  | some t => tempOk t && (match before with
    | some b => (t - b).natAbs ≤ 160
    | none => true)

/-- A sensor after one more sample: a reading, or none where no conversion has completed since the last; without one for 20 ms the sensor
fails and shows no reading (R407). -/
def Sensor.read (now : Nat) (r : Option Int) (x : Sensor) : Sensor :=
  match r with
  | none =>
    if x.seenAt.any (fun t => t + 20000000 ≤ now) then { x with temp := none, failed := true, good := 0 }
    else { x with good := 0, seenAt := some (x.seenAt.getD now) }
  | some _ =>
    let ok := readingValid x.temp r
    let n := if ok then x.good + 1 else 0
    let failed := if x.failed then decide (n < 1000) else !ok
    { temp := r, failed := failed, good := if failed then n else 0, seenAt := some now }

/-- The valid reading of a sensor. -/
def State.valid (s : State) (i : Nat) : Option Int :=
  match s.coping.sensors[i]? with
  | none => none
  | some x => if x.failed then none else x.temp

/-- The class of a sensor and its wythe: junction 0–15, HBM 16–19, board otherwise (R406). -/
def sensorClass (i : Nat) : Nat := if i < 16 then 0 else if i < 20 then 1 else 2
def sensorWythe (i : Nat) : Nat := if i < 8 then 0 else if i < 16 then 1 else if i < 18 then 0 else 1

/-- One sensor's reading, with the record of a failure or a recovery (R407). -/
def State.sense (i : Nat) (r : Option Int) (s : State) : State :=
  let x := s.coping.sensors.getD i {}
  let y := x.read s.clock.up r
  let s := s.modCoping (fun c => { c with
    sensors := modAt c.sensors i (fun _ => y)
    failOrder := if y.failed && !x.failed then c.failOrder ++ [(i, s.clock.up)]
      else if x.failed && !y.failed then c.failOrder.filter (·.1 != i) else c.failOrder })
  if x.failed = y.failed then s else s.copRecord 0x1802 0 [i, r.getD (-32768)]

/-! ## Bands (R409, R410) -/

/-- The band after one evaluation at temperature `t`, thresholds in 1/16 °C from band 1 on (R409). -/
def bandNext (th : List Int) (t : Int) (b : Nat) : Nat :=
  let pass (d : Int) (top : Nat) (f : Int → Int → Bool) : Nat :=
    ((List.range (top + 1)).filter (fun k => k = 0 || (match th[k - 1]? with
      | some x => f t (x - d)
      | none => false))).foldl max 0
  let up := pass 0 th.length (fun t x => x ≤ t)
  if b < up then up else pass 32 b (fun t x => x < t)

/-- The highest of a list of valid readings. -/
def State.hottest (s : State) (l : List Nat) : Option Int := (l.filterMap s.valid).max?

/-- The temperature of the lanes of a wythe (R410). -/
def State.laneTemp (s : State) (w : Nat) : Option Int :=
  match s.hottest [8 * w + 4, 8 * w + 5] with
  | some t => some t
  | none => s.hottest ((List.range 8).map (· + 8 * w))

/-- The temperature of a head: its TEMPS value of the last 8 ms (R410). -/
def State.headTempNow (s : State) (g : Nat) : Option Int :=
  match s.ndeig.headTemp.find? (·.1 == g) with
  | some (_, at_, t) => if s.clock.up ≤ at_ + 8000000 && t != -32768 then some t else none
  | none => none

/-- Heads whose waveform bands differ between two tables. -/
def State.movedHeads (s : State) (a b : SMap) : List Nat :=
  ((List.range 720).filter s.installed).filter (fun g => a.get g != b.get g)

/-- Heads have changed band since the last record of that (R410). -/
def Coping.moved (gs : List Nat) (x : Coping) : Coping := { x with waveSince := (x.waveSince ++ gs).eraseDups }

/-- The record of heads that changed band, at most once per second (R410). -/
def State.waveReport (s : State) : State :=
  if !s.coping.waveSince.isEmpty ∧ s.coping.waveRep.all (· + 1000000000 ≤ s.clock.up) then
    (s.modCoping (fun x => { x with waveSince := [], waveRep := some s.clock.up })).copRecord 0x1804 0 [s.coping.waveSince.length]
  else s

/-- A stack whose sensor has failed refreshes at the doubled rate from then on (R410). -/
def State.doubleFailed (s : State) : State :=
  (List.range 4).foldl (fun (s : State) i =>
    if !(s.coping.sensors.getD (16 + i) {}).failed then s else
      let new := !(s.coping.doubleNext.getLsbD i)
      let s := s.modCoping (fun x => { x with double := setBit x.double i true, doubleNext := setBit x.doubleNext i true })
      if new then s.copRecord 0x1803 0 [i, 1] else s) s

/-- Evaluates every band into the bands of the lift to be screened, with the THERMAL section that governs it; without one no lane leaves
set 0 (R275, R408, R410). -/
def State.evalBands (section_ : Option Sec) (s : State) : State :=
  let c := section_.getD {}
  let lane (w b : Nat) : Nat :=
    match s.laneTemp w with
    | none => b
    | some t => if section_.isNone then b else bandNext ([1, 2, 3].map (fun k => 16 * (thLane c k : Int))) t b
  let hbm : BitVec 4 := (List.range 4).foldl (fun (v : BitVec 4) i =>
    let bad := (s.coping.sensors.getD (16 + i) {}).failed
    setBit v i (match s.valid (16 + i) with
      | some t => bandNext [1360] t (bit (v.getLsbD i)) == 1
      | none => bad || v.getLsbD i)) s.coping.doubleNext
  let heads := (List.range 720).filter s.installed
  let wave := heads.foldl (fun (m : SMap) g =>
    let n := thWaveN c (g / 60)
    match s.headTempNow g with
    | none => m.set g (min (m.get g) (n - 1))
    | some t =>
      m.set g (bandNext ((List.range (n - 1)).map (fun k => thWaveT c (g / 60) (k + 1))) t (min (m.get g) (n - 1)))) s.coping.waveNext
  let changed := (List.range 4).filter (fun i => hbm.getLsbD i != s.coping.doubleNext.getLsbD i)
  let moved := s.movedHeads wave s.coping.waveNext
  let s := s.modCoping (fun x =>
    ({ x with waveNext := wave, doubleNext := hbm, eqNext0 := lane 0 x.eqNext0, eqNext1 := lane 1 x.eqNext1 } : Coping).moved moved)
  (changed.foldl (fun s i => s.copRecord 0x1803 0 [i, bit (hbm.getLsbD i)]) s).waveReport

/-- The bands of a lift are evaluated as its screening begins (R408, R409). -/
def State.evalLift (lift : Nat) (s : State) : State := s.evalBands (assoc SecId.thermal (s.setAt (256 * lift)))

/-- The bands of the lift screened come into force (R275, R409). -/
def State.bandsInForce (s : State) : State :=
  let s := s.modCoping (fun x => { x with wave := x.waveNext, double := x.doubleNext, eq0 := x.eqNext0, eq1 := x.eqNext1 })
  { s with ndeig := { s.ndeig with lanes := s.ndeig.lanes.zipIdx.map (fun p =>
      { p.1 with eqSet := if p.2 < 40 then s.coping.eq0 else s.coping.eq1 }) } }

/-- Bands outside the run of lifts act at once (R409). -/
def State.bandsAtOnce (s : State) : State :=
  if s.printHold ∧ s.coping.liftBegan.any (fun t => s.clock.up < t + 10000000) then s
  else (s.evalBands (assoc SecId.thermal s.cfg.force)).bandsInForce

/-! ## Throttling (R411 to R415) -/

/-- The excess of a sensor in 1/16 °C. -/
def State.excess (s : State) (i : Nat) : Option Int :=
  (s.valid i).map (fun t => t - 16 * (if i < 16 then thTj s.thsec else thHbm s.thsec : Nat))

/-- E and the sensor that set it (R412, R414). -/
def State.excessNow (s : State) : Option (Int × Nat) :=
  let best (l : List Nat) : Option (Int × Nat) :=
    l.foldl (fun (a : Option (Int × Nat)) i => match s.excess i, a with
      | some e, some (m, j) => if m < e then some (e, i) else some (m, j)
      | some e, none => some (e, i)
      | none, a => a) none
  s.coping.lostHot.foldl (fun (a : Option (Int × Nat)) x =>
    match best ((List.range 20).filter (fun i => sensorClass i == sensorClass x)), a with
    | some (e, i), some (m, j) => if m < e + 80 then some (e + 80, i) else some (m, j)
    | _, a => a) (best (List.range 20))

/-- Whether every sensor of a class on a wythe has failed. -/
def State.groupLost (s : State) (cls w : Nat) : Bool :=
  ((List.range 20).filter (fun i => sensorClass i == cls && sensorWythe i == w)).all (fun i => (s.coping.sensors.getD i {}).failed)

/-- The step changes, with its record (R413). -/
def State.setStep (n : Nat) (e : Int) (sensor : Nat) (s : State) : State :=
  let s := ((s.modCoping (fun x => { x with step := n, stepAt := some s.clock.up })).copRecord 0x1801 0 [n, e, sensor]).alert 2
  if s.printHold then s else s.forceStep

/-- The groups of sensors that are lost: class and wythe (R415). -/
def State.lostGroups (s : State) : List (Nat × Nat) := [(0, 0), (0, 1), (1, 0), (1, 1)].filter (fun p => s.groupLost p.1 p.2)

/-- The sensors of a group that failed first (R415). -/
def Coping.failedFirst (x : Coping) (p : Nat × Nat) : List Nat :=
  let g := x.failOrder.filter (fun f => sensorClass f.1 == p.1 && sensorWythe f.1 == p.2)
  match g with
  | [] => []
  | (_, t) :: _ => (g.filter (·.2 == t)).map Prod.fst

/-- FROZEN and FORCED follow the failed sensors: one that set E and failed with the step above 0, and the first of a lost group, keep
FROZEN until they recover (R414, R415). -/
def State.sensorsLost (s : State) : State :=
  s.modCoping (fun x =>
    let failed (i : Nat) : Bool := (x.sensors.getD i {}).failed
    let hot := (x.lostHot ++ (if 0 < x.step then x.hotSensor.toList else [])).eraseDups.filter failed
    let first := (x.lostFirst ++ s.lostGroups.flatMap x.failedFirst).eraseDups.filter failed
    { x with lostHot := hot, lostFirst := first, forced := !s.lostGroups.isEmpty, frozen := !hot.isEmpty || !first.isEmpty })

/-- One evaluation of E: the sensor that set it, and since when it has been at -5 °C or below; without a valid sensor it is not (R412;
log entry 140). -/
def State.excessEval (s : State) : State :=
  let e := s.excessNow
  s.modCoping (fun x => { x with
    hotSensor := e.map Prod.snd, coolFrom := if e.any (fun p => p.1 ≤ -80) then some (x.coolFrom.getD s.clock.up) else none })

/-- One evaluation of the throttle (R412, R414, R415). -/
def State.throttleEval (s : State) : State :=
  let up := s.clock.up
  let s := s.sensorsLost.excessEval
  let n := s.coping.step
  if s.coping.forced then (if n = 15 then s else s.setStep 15 0 (s.coping.lostFirst.headD 0))
  else
    match s.excessNow with
    | none => s
    | some (e, i) =>
      if 0 ≤ e ∧ n < 15 ∧ s.coping.stepAt.all (· + 1000000000 ≤ up) then s.setStep (n + 1) e i
      else if s.coping.coolFrom.any (· + 10000000000 ≤ up) ∧ 0 < n ∧ !s.coping.frozen ∧
          s.coping.stepAt.all (· + 10000000000 ≤ up) then s.setStep (n - 1) e i
      else s

/-! ## Calibration (R419 to R422) -/

/-- The wythe of a calibration block of lanes, and whether it is one. -/
def calWythe (b : Nat) : Option Nat :=
  if b < 40 then some 0 else if b < 80 then some 1 else if b < 84 then some 0 else if b < 88 then some 1
  else if b < 96 then some 0 else if b < 104 then some 1 else none

/-- The temperature of a block (R421). -/
def State.calTemp (s : State) (b : Nat) : Option Int :=
  match calWythe b with
  | some w => s.laneTemp w
  | none => s.valid 23

/-- A calibration block's record. -/
def State.calBlock (s : State) (b : Nat) : Cal := s.coping.cal.getD b {}

/-- Whether a block that BOOT calibrates has not run yet (R421). -/
def State.calBoot (s : State) (b : Nat) : Bool := s.power.booting && (s.calBlock b).runs == 0

/-- Whether a pending block may begin: an output only in REST and FAULT, and once in BOOT (R420 to R422). -/
def State.calMayRun (s : State) (b : Nat) : Bool :=
  match calWythe b with
  | some w => ((List.range 104).filter (fun i => calWythe i == some w && (s.calBlock i).st == 2)).length < 8
  | none => !s.coping.refSuspect && (b < 106 || s.inRest || s.calBoot b)

/-- Pending blocks begin as far as they may, and in BOOT those that have not run (R420, R421). -/
def State.calStart (s : State) : State :=
  (List.range 108).foldl (fun s b =>
    if ((s.calBlock b).st = 1 ∨ ((s.calBlock b).st = 0 ∧ s.calBoot b)) ∧ s.calMayRun b then
      s.modCoping (fun x => { x with cal := modAt x.cal b (fun c => { c with st := 2, startAt := s.clock.up }) }) else s) s

/-- A block is queued, unless it is running or pending (R423). -/
def State.calQueue (b : Nat) (s : State) : State :=
  if (s.calBlock b).st = 0 then s.modCoping (fun x => { x with cal := modAt x.cal b (fun c => { c with st := 1 }) }) else s

/-- Temperature triggers (R421). -/
def State.calTriggers (s : State) : State :=
  if !(thCalEn s.thsec) then s.calStart else
    ((List.range 108).foldl (fun s b =>
      match s.calTemp b, (s.calBlock b).lastT with
      | some t, some l => if 16 * thCalDelta s.thsec < (t - l).natAbs then s.calQueue b else s
      | _, _ => s) s).calStart

/-- Whether the quality figure, and of an ADC the mean difference of its cores, is plausible (R419). -/
def calQualityOk (b quality diff : Nat) : Bool :=
  if b < 104 then decide (24 ≤ quality) else if b < 106 then decide (quality ≤ 4 ∧ diff ≤ 4) else decide (quality ≤ 8)

/-- Whether a trim is plausible after the one in use, if any: in the inner 7/8 of its range of 65,536, and moved by at most 1/8 of it
(R419). -/
def calTrimOk (was : Option Nat) (t : Nat) : Bool :=
  4096 ≤ t && t ≤ 61440 && was.all (fun w => ((w : Int) - t).natAbs ≤ 8192)

/-- Whether a run of a block finds `n` trims after `was` in use, none before the first: offset and gain of both channels of an ADC, of an
output, and of a lane receiver some offsets and one phase, as many as at its first run (R419; log entry 141). -/
def calCountOk (b was n : Nat) : Bool :=
  if b < 104 then 3 ≤ n && (was == 0 || was == n) else if b < 106 then n == 4 else n == 2

/-- How long a run of a block lasts, in ns (R419). -/
def calRunTime (b : Nat) : Nat := if b < 104 then 400000 else if b < 106 then 2000000 else 20000000

/-- New trims of a block: of a lane they come into use at a lift boundary in PRINTING and HOLDING, else at once; the cores of an ADC swap
(R420). -/
def Cal.adopt (b : Nat) (later : Bool) (trims : List Nat) (c : Cal) : Cal :=
  if b < 104 ∧ later then { c with due := trims }
  else if b = 104 ∨ b = 105 then { c with trims := trims, spare := c.trims, core := 1 - c.core }
  else { c with trims := trims, due := [] }

/-- The trims of lanes that wait for a lift boundary come into use (R420). -/
def State.calBoundary (s : State) : State :=
  s.modCoping (fun x => { x with cal := x.cal.map (fun c => if c.due.isEmpty then c else { c with trims := c.due, due := [] }) })

/-- The trims that a run measures anew: of an ADC those of the spare core, of a lane those last found (R419, R420). -/
def Cal.measured (b : Nat) (c : Cal) : List Nat :=
  if b = 104 ∨ b = 105 then c.spare else if c.due.isEmpty then c.trims else c.due

/-- A calibration run ends with these trims, quality figure and difference of the ADC cores: plausible, they come into use; else they are
discarded, and the record names the first trim that failed, 255 where none did (R419 to R421, R424). -/
def State.calEnd (b : Nat) (trims : List Nat) (quality diff : Nat) (s : State) : State :=
  let t := s.calTemp b
  let c := s.calBlock b
  let was := c.measured b
  let bad := trims.zipIdx.find? (fun p => !(calTrimOk (was[p.2]?) p.1))
  let plausible := calQualityOk b quality diff && bad.isNone
  let later := s.printHold
  let s := s.modCoping (fun x => { x with cal := modAt x.cal b (fun c =>
    let c := if plausible then c.adopt b later trims else c
    { c with
      lastRun := s.now, runs := c.runs + 1, lastT := t, st := 0
      quality := if plausible then quality else c.quality, rejects := if plausible then c.rejects else satInc 65535 c.rejects }) })
  (if plausible then s else s.copRecord 0x1805 0 [b, quality, match bad with
    | some p => (p.2 : Int)
    | none => 255]).calStart

/-- A calibration run ends, of a block that has run for its time, with as many trims as the block has; not while the reference is suspect,
which stops the blocks measured against it, nor of an output outside REST and FAULT (R419 to R422). -/
def State.calRunEnd (b : Nat) (trims : List Nat) (quality diff : Nat) (s : State) : State :=
  let c := s.calBlock b
  if s.mainOn ∧ c.st = 2 ∧ s.since c.startAt (calRunTime b) ∧ calCountOk b (c.measured b).length trims.length then
    s.calEnd b trims quality diff else s

/-- Whether every block has been calibrated in BOOT, but for those that a suspect reference stops (R421, R422). -/
def State.calibrated (s : State) : Bool :=
  (List.range 108).all (fun b => (s.calBlock b).runs != 0 || (104 ≤ b && s.coping.refSuspect))

/-- The reference is compared with the bandgap: the difference in 0.01 % units (R422). -/
def State.referenceCompare (diff : Int) (s : State) : State :=
  if !s.mainOn then s
  else
    let bad := decide (50 < diff.natAbs)
    let s := s.modCoping (fun x => { x with refSuspect := bad, refDiff := diff })
    let s := if bad then s.calStop [104, 105, 106, 107] else s
    if bad then s.copRecord 0x1807 0 [diff] else s.calStart

/-- Coping's 10 ms sample: the sensors, the power and the diodes; then bands, throttle and calibration triggers (R406 to R412, R421).
With the main domains off the Aux sequencer still reads the hardware diodes (R418, R436; log entry 37). -/
def State.sensorSample (temps : List (Option Int)) (pMeas : Nat) (tj0 tj1 : Option Int) (s : State) : State :=
  if s.ident.opState = .off then s
  else if !s.mainOn then s.modCoping (fun x => { x with tjHw0 := tj0, tjHw1 := tj1 })
  else
    let s := ((temps.take 25).zipIdx.foldl (fun (s : State) p => s.sense p.2 p.1) s).doubleFailed
    let s := s.modCoping (fun x => { x with pMeas := pMeas, tjHw0 := tj0, tjHw1 := tj1 })
    let s := if s.printHold then s else s.calBoundary
    ((s.bandsAtOnce).throttleEval).calTriggers

/-- The 32 bytes of a block record (R424). -/
def Cal.bytes (c : Cal) : List Nat :=
  leBytes 8 c.lastRun ++ leBytes 4 c.runs.toNat ++ leBytes 2 (match c.lastT with
    | some t => wrapInt 16 t
    | none => 0x8000) ++ leBytes 2 c.quality ++ leBytes 2 c.rejects ++ leBytes 14 c.st

/-! ## The status mirror (R425) -/

/-- A temperature as its register shows it. -/
def tempWord (t : Option Int) : Nat :=
  match t with
  | some t => wrapInt 16 t
  | none => 0x8000

/-- The words of the mirror as they stand now: offset from 0x4_0000 and value. -/
def State.mirrorWords (s : State) : List (Nat × Nat) :=
  let x := s.coping
  let temps := (List.range 32).map (fun i => match x.sensors[i]? with
    | some r => tempWord r.temp
    | none => 0x8000)
  [(0x04, x.step + 16 * bit x.frozen + 32 * bit x.forced + 64 * bit x.refSuspect + 2 ^ 16 * (240 - 8 * x.step)),
   (0x08, x.pMeas + 2 ^ 16 * s.mortar.mhz), (0x0C, x.thermCeil),
   (0x10, (x.sensors.zipIdx.map (fun p => bit p.1.failed * 2 ^ p.2)).sum),
   (0x14, x.double.toNat + 2 ^ 8 * (x.shutdowns.filter (fun t => s.clock.up < t + 3600000000000)).length + 2 ^ 16 * bit x.lockout),
   (0x18, tempWord x.tjHw0 + 2 ^ 16 * tempWord x.tjHw1),
   (0x1C, s.power.vMain.toNat % 65536 + 2 ^ 16 * (s.power.vAux.toNat % 65536)),
   (0x20, s.power.vBat.toNat % 65536 + 2 ^ 16 * s.plinth.fwVersion)] ++
  (List.range 16).map (fun i => (0x40 + 4 * i, temps.getD (2 * i) 0 + 2 ^ 16 * temps.getD (2 * i + 1) 0)) ++
  (List.range 90).map (fun i => (0x100 + 4 * i, ((List.range 8).map (fun j => x.wave.get (8 * i + j) % 16 * 16 ^ j)).sum))

/-- The mirror is copied (R425). -/
def State.mirrorCopy (s : State) : State :=
  s.modCoping (fun x => { x with mirrorSeq := x.mirrorSeq + 1, mirror := s.mirrorWords })

end Sys2Proof.Machine
end

