-- ==== Sys2Proof/Machine/Corbel.lean ====
section
/-! DEFINITION. Lamp chains, lamp diagnosis and throttling, and the indicator matrix (R384 to R405). -/

namespace Sys2Proof.Machine

open Sys2Proof

/-! ## The LAMPS and PANEL sections (R390, R399) -/

def lmDrivers (c : Sec) (k : Nat) : Nat := c.fld (4 * k) 0 7
def lmTHi (c : Sec) (k : Nat) : Nat := c.fld (4 * k + 1) 0 8
def lmTOff (c : Sec) (k : Nat) : Nat := c.fld (4 * k + 2) 0 8
def lmTrack (c : Sec) (g : Nat) : Bool := c.flag (0x40 + 4 * g) 0
def lmStopOff (c : Sec) (g : Nat) : Bool := c.flag (0x40 + 4 * g) 1
def lmFloor (c : Sec) (g : Nat) : Nat := c.fld (0x42 + 4 * g) 0 12
def lmGroup (c : Sec) (n : Nat) : Nat := c.fld (0x80 + 4 * n) 0 4
def lmINom (c : Sec) (n : Nat) : Nat := c.fld (0x80 + 4 * n) 4 4
def lmBin (c : Sec) (n : Nat) : Nat := c.fld (0x81 + 4 * n) 0 8
def lmStretch (c : Sec) (n : Nat) : Bool := c.flag (0x82 + 4 * n) 0
def lmInUse (c : Sec) (n : Nat) : Bool := c.flag (0x82 + 4 * n) 1

/-- Check 0x0002 of LAMPS (R14, R390). -/
def lampsFormatOk (c : Sec) : Bool :=
  (List.range 4).all (fun k =>
    let o := 4 * k
    lmDrivers c k ≤ 64 && !(c.flag o 7) && c.fld (o + 3) 0 8 == 0 &&
    20 ≤ lmTHi c k && lmTHi c k ≤ 150 && lmTHi c k + 3 ≤ lmTOff c k && lmTOff c k ≤ 160) &&
  c.zero 0x10 0x30 &&
  (List.range 16).all (fun g => c.fld (0x40 + 4 * g) 2 14 == 0 && lmFloor c g ≤ 4000 && c.fld (0x43 + 4 * g) 4 4 == 0) &&
  (List.range 4096).all (fun n => c.fld (0x82 + 4 * n) 2 14 == 0 && (!(lmInUse c n) || n % 1024 / 16 < lmDrivers c (n / 1024)))

def pnHz (c : Sec) : Nat := c.fld 0 0 11
def pnBlank (c : Sec) : Nat := c.fld 2 0 7
def pnEn (c : Sec) : Bool := c.flag 2 7
def pnCode (c : Sec) (i : Nat) : Nat := c.fld (0x10 + i) 0 8

/-- Check 0x0002 of PANEL (R14, R399). -/
def panelFormatOk (c : Sec) : Bool :=
  200 ≤ pnHz c && pnHz c ≤ 2000 && c.fld 1 3 5 == 0 && 2 ≤ pnBlank c && pnBlank c ≤ 64 && c.fld 3 0 8 == 0 &&
  c.zero 4 12 && pnBlank c * 2 * 16 * pnHz c < 1000000 && (List.range 256).all (fun i => pnCode c i / 64 ≠ 3)

/-! ## Shares (R386, R391, R395) -/

/-- A 272-bit share from ON and I_IDX of 16 channels and the channel probed, with its SCRC. -/
def shareBits (ch : List (Nat × Nat)) (probe : Option Nat) : Nat :=
  let body := (ch.zipIdx.map (fun p => (p.1.1 % 4096 + 4096 * (p.1.2 % 16)) * 2 ^ (16 * p.2))).sum +
    (match probe with
     | some i => (i % 16) * 2 ^ 256 + 2 ^ 260
     | none => 0)
  body + crc8 (leBytes 33 body) * 2 ^ 264

/-- The slots of a bit string on a chain, its least significant bit first: high for 24 of 100 CORB clocks for a 0, for 72 for a 1
(R384, R386). -/
def chainSlots (len bits : Nat) : List Nat := (List.range len).map (fun i => if bits.testBit i then 72 else 24)

/-- Changes the lamp block. -/
def State.modCorbel (f : Corbel → Corbel) (s : State) : State := { s with corbel := f s.corbel }

/-- The LAMPS section in force. -/
def State.lsec (s : State) : Sec := s.sec SecId.lamps

/-- ON and I_IDX of a channel for the frame built now (R391); every lamp stays off until a LAMP.SET (R392). -/
def State.lampField (s : State) (n : Nat) : Nat × Nat :=
  let c := s.lsec
  if !(lmInUse c n) || !s.corbel.lit then (0, 0) else
    let g := lmGroup c n
    let lv := s.corbel.level.getD g 0
    let lv := if lmTrack c g then max (lmFloor c g) (lv * s.lintel.rate / max 1 s.crl) else lv
    let lv := if lmStopOff c g && 160 ≤ s.lintel.restRun then 0 else lv
    let on := min 4000 ((lv * (128 + lmBin c n) + 128) / 256)
    let on := if s.corbel.short.get n = 1 ∨ s.corbel.hot.get (n / 16) = 1 then 0 else on
    (on, if on = 0 then 0 else min (lmINom c n) (s.corbel.limit.get (n / 16)))

/-- The channel of a driver that the frame built now probes: the one whose turn it is, or one whose probe is repeated
(R395). -/
def State.probeOf (s : State) (d : Nat) (f : List (Nat × Nat)) : Option Nat :=
  let c := s.lsec
  let no := s.corbel.frameNo.toNat % 256
  let may (i : Nat) : Bool := let on := (f.getD i (0, 0)).1; 0 < on && on < 80 && lmStretch c (16 * d + i)
  match (List.range 16).find? (fun i => may i && s.corbel.probeBad.get (16 * d + i) == 1) with
  | some i => some i
  | none => if no % 16 = 0 ∧ may (no / 16) then some (no / 16) else none

/-- A frame starts on all four chains (R385, R391). -/
def State.frameStart (s : State) : State :=
  let c := s.lsec
  let idx := (List.range 4).flatMap (fun k => (List.range (lmDrivers c k)).map (fun d => 64 * k + d))
  let built := idx.map (fun d =>
    let f := (List.range 16).map (fun i => s.lampField (16 * d + i))
    (d, f, s.probeOf d f))
  let s := (List.range 4).foldl (fun s k =>
    if lmDrivers c k = 0 then s else
      s.send (.chain k ((built.filter (fun b => b.1 / 64 == k)).flatMap (fun b => chainSlots 272 (shareBits b.2.1 b.2.2))))) s
  let put (m : SMap) (g : Nat × Nat → Nat) : SMap :=
    built.foldl (fun m b => b.2.1.zipIdx.foldl (fun m p => m.set (16 * b.1 + p.2) (g p.1)) m) m
  let probes := built.filterMap (fun b => b.2.2.map (fun i => (b.1, i)))
  s.modCorbel (fun x => { x with
    frameNo := x.frameNo + 1, restAt := none, frameAt := some s.clock.up
    ignoreRet := if x.restAt.isSome then x.ignoreRet else 0
    awaited := (List.range 4).foldl (fun v k => setBit v k (lmDrivers c k != 0)) 0
    probeBad := probes.foldl (fun m p => m.upd (16 * p.1 + p.2) (fun n => if n = 1 then 2 else n)) x.probeBad
    onPrev := x.onSent, onSent := put ⟨0, []⟩ (·.1), iSent := put ⟨0, []⟩ (·.2)
    probePrev := x.probeSent
    probeSent := probes.foldl (fun m p => m.set p.1 (p.2 + 1)) ⟨0, []⟩ })

/-- The chains and the matrix run: in every state except OFF, STANDBY and BOOT (R392, R400). -/
def State.corbelOn (s : State) : Bool := s.powered 10 && s.ident.opState != .boot

/-- The next frame of the schedule, 27.0 ms after the last, which an all-off frame due after REST re-bases (R385, R392). -/
def State.nextFrame (s : State) : State :=
  if s.corbelOn ∧ s.corbel.restAt.isNone ∧ s.corbel.frameAt.all (fun t => s.since t 27000000) then s.frameStart else s

/-- The all-off frame 100 µs after entry to REST or FAULT (R392). -/
def State.restFrame (s : State) : State :=
  if s.corbelOn ∧ s.corbel.restAt.any (fun t => t ≤ s.clock.up) then s.frameStart else s

/-! ## The return (R388, R389, R394 to R396) -/

/-- A diagnosis word whose DCRC holds. -/
def diagOk (w : Nat) : Bool := field w 48 8 == crc8 (leBytes 6 w)

/-- STATUS of a channel whose ON in frame F − 1 was 80 or more, from ST now and in the frame before (R394). -/
def openOrShort (st : Option Nat) (stBefore old : Nat) : Nat :=
  match st with
  | some 0 => 1
  | some 1 => if stBefore = 2 ∨ stBefore = 3 then 2 else old
  | some 2 => if stBefore = 2 ∨ stBefore = 3 then 3 else old
  | _ => old

/-- STATUS of a channel after a frame's return (R394): whether it is latched SHORT, its ON in frame F − 1, ST now and in the frame before
(plus 1, 0 for none), the result of its last probe (plus 1), and the STATUS before. A word missing in 8 frames comes before the cases of
ON (log entry 147). -/
def nextStatus (short : Bool) (on : Nat) (st : Option Nat) (stBefore : Nat) (stretch : Bool) (probe missing old : Nat) : Nat :=
  if short then 3
  else if 8 ≤ missing then 5
  else if on = 0 then 0
  else if 80 ≤ on then openOrShort st stBefore old
  else if !stretch then 4
  else if probe = 0 then old else probe

/-- A channel's STATUS changes, with its record (R394, R405). -/
def State.setLampStatus (n v : Nat) (s : State) : State :=
  let old := s.corbel.status.get n
  if old = v then s else
    (s.modCorbel (fun x => { x with status := x.status.set n v })).emit srcCorbel 0x1701 0 [n, old, v, s.corbel.age.get n]

/-- The report of a probe of channel `n` (R395): the first that is OPEN or SHORT asks for a repeat, the second in succession is the
result. -/
def Corbel.probed (n : Nat) (st : Option Nat) (x : Corbel) : Corbel :=
  if st = some 1 ∨ st = some 2 then
    (if x.probeBad.get n = 0 then { x with probeBad := x.probeBad.set n 1 }
     else { x with probeBad := x.probeBad.set n 0, probe := x.probe.set n (if st = some 1 then 2 else 3) })
  else { x with probeBad := x.probeBad.set n 0, probe := x.probe.set n 1 }

/-- One channel at the end of a frame's return. -/
def State.lampChannel (w : Option Nat) (d i : Nat) (s : State) : State :=
  let n := 16 * d + i
  let c := s.lsec
  if !(lmInUse c n) then s else
    let on := s.corbel.onPrev.get n
    let st := w.map (fun w => field w (2 * i) 2)
    let s := if s.corbel.probePrev.get d == i + 1 && w.any (fun w => bitAt w 41) then s.modCorbel (Corbel.probed n st) else s
    let age := if on != 0 && st.any (· ≤ 2) then 0 else satInc 65535 (s.corbel.age.get n)
    let v := nextStatus (s.corbel.short.get n == 1) on st (s.corbel.stPrev.get n) (lmStretch c n) (s.corbel.probe.get n)
      (s.corbel.missing.get d) (s.corbel.status.get n)
    let s := (s.modCorbel (fun x => { x with age := x.age.set n age })).setLampStatus n v
    s.modCorbel (fun x => { x with
      short := if v = 3 then x.short.set n 1 else x.short
      stPrev := x.stPrev.set n (st.elim 0 (· + 1)) })

/-- A record of a driver with its temperature. -/
def State.driverRecord (code d : Nat) (data : List Int) (s : State) : State :=
  s.emit srcCorbel code 0 (((d / 64 : Nat) : Int) :: ((d % 64 : Nat) : Int) :: data)

/-- LIMIT of a driver changes (R396). -/
def State.setLimit (d v t : Nat) (s : State) : State :=
  ((s.modCorbel (fun x => { x with limit := x.limit.set d v, limitAge := x.limitAge.set d 0 })).driverRecord 0x1704 d
    [v, t]).raise 0 25

/-- OFF_HOT and LIMIT of a driver at temperature `t` in °C + 40, which its records show as `shown` (R396). -/
def State.throttleAt (d t shown : Nat) (s : State) : State :=
  let c := s.lsec
  let k := d / 64
  let hi := lmTHi c k + 40
  let off := lmTOff c k + 40
  let x := s.corbel
  let free : Bool := 64 ≤ x.limitAge.get d
  let l := x.limit.get d
  if off ≤ t then
    (if x.hot.get d = 1 then s else (s.modCorbel (fun x => { x with hot := x.hot.set d 1 })).driverRecord 0x1705 d [shown])
  else if x.hot.get d = 1 ∧ t + 2 ≤ off then (s.modCorbel (fun x => { x with hot := x.hot.set d 0 })).driverRecord 0x1705 d [shown]
  else if hi ≤ t ∧ free then (if l = 0 then s else s.setLimit d (l - 1) shown)
  else if t + 2 ≤ hi ∧ free then (if l = 15 then s else s.setLimit d (l + 1) shown)
  else s

/-- The throttle of a driver after a frame's return: at its temperature, or, without a reading for 8 frames, at LAMP_T_HI, shown as no
reading (R396). -/
def State.throttle (d : Nat) (t : Option Nat) (s : State) : State :=
  match t with
  | some t => s.throttleAt d t t
  | none => if 8 ≤ s.corbel.noTemp.get d then s.throttleAt d (lmTHi s.lsec (d / 64) + 40) 0xFF else s

/-- Adds the changes of one driver's failure counters to those not yet reported. -/
def addFail (l : List (Nat × Nat × Nat)) (d a b : Nat) : List (Nat × Nat × Nat) :=
  if a = 0 ∧ b = 0 then l
  else if l.any (·.1 == d) then l.map (fun p => if p.1 = d then (d, p.2.1 + a, p.2.2 + b) else p) else l ++ [(d, a, b)]

/-- One driver at the end of a frame's return. -/
def State.lampDriver (w : Option Nat) (d : Nat) (s : State) : State :=
  let t := (w.map (fun w => field w 32 8)).filter (· != 255)
  let shareBad := w.any (fun w => !(bitAt w 40))
  let ot := w.any (fun w => bitAt w 42)
  let newOt := ot && s.corbel.drvOt.get d == 0
  let moves (n : Nat) : Bool := n < 65535
  let s := s.modCorbel (fun x => { x with
    missing := x.missing.upd d (fun n => if w.isNone then n + 1 else 0)
    noTemp := x.noTemp.upd d (fun n => if t.isNone then n + 1 else 0)
    diagFails := x.diagFails.upd d (fun n => if w.isNone then satInc 65535 n else n)
    shareFails := x.shareFails.upd d (fun n => if shareBad then satInc 65535 n else n)
    failSince := addFail x.failSince d (bit (shareBad && moves (x.shareFails.get d))) (bit (w.isNone && moves (x.diagFails.get d)))
    drvOt := if w.isNone then x.drvOt else x.drvOt.set d (bit ot)
    temp := match t with
      | some t => x.temp.set d t
      | none => x.temp
    limitAge := x.limitAge.upd d (satInc 64) })
  let s := if newOt then s.driverRecord 0x1705 d [(s.corbel.temp.get d : Nat)] else s
  let s := s.throttle d t
  (List.range 16).foldl (fun s i => s.lampChannel w d i) s

/-- Whether the return of a chain counts in a pair: while the ROLE output is on (R393). -/
def State.chainHeard (s : State) : Bool := !(s.hasSec SecId.pair) || s.roleOn

/-- A channel at the end of a frame whose return does not count: NO_DATA, one frame older, with a SHORT latch kept (R393, R394). -/
def State.lampUnheard (s : State) (n : Nat) : State :=
  if lmInUse s.lsec n then (s.modCorbel (fun x => { x with age := x.age.upd n (satInc 65535) })).setLampStatus n 5 else s

/-- The return of chain `k` is judged present or lost (R389). -/
def State.chainJudge (k : Nat) (whole : Bool) (words : Nat) (s : State) : State :=
  let x := s.corbel
  let bad := if whole then 0 else x.badRet.getD k 0 + 1
  let good := if whole then x.goodRet.getD k 0 + 1 else 0
  let okNow := x.retOk.getLsbD k
  let s := s.modCorbel (fun x => { x with badRet := modAt x.badRet k (fun _ => bad), goodRet := modAt x.goodRet k (fun _ => good) })
  if okNow ∧ 2 ≤ bad then
    (s.modCorbel (fun x => { x with retOk := setBit x.retOk k false })).emit srcCorbel 0x1702 0 [k, words]
  else if !okNow ∧ 2 ≤ good then
    (s.modCorbel (fun x => { x with retOk := setBit x.retOk k true })).emit srcCorbel 0x1702 0 [k, words]
  else s

/-- Share and diagnosis failures of a chain, at most once per second: the lowest driver that has any (R405). -/
def State.failReport (k : Nat) (s : State) : State :=
  let mine := s.corbel.failSince.filter (fun p => p.1 / 64 == k)
  let due := match assoc k s.corbel.failRep with
    | some t => t + 1000000000 ≤ s.clock.up
    | none => true
  match mine with
  | [] => s
  | p :: _ =>
    if !due then s else
      (s.modCorbel (fun x => { x with
        failSince := x.failSince.filter (fun q => q.1 / 64 != k), failRep := assocSet k s.clock.up x.failRep })).driverRecord
        0x1703 p.1 [p.2.1, p.2.2]

/-- The return of a frame of chain `k` ends: the words heard in driver order, and how long after the frame's start the last one ended; a
word whose DCRC fails is missing, and one after 26.9 ms makes the return incomplete (R389). -/
def State.chainReturn (k : Nat) (words : List (Option Nat)) (ended : Nat) (s : State) : State :=
  let n := lmDrivers s.lsec k
  let ended0 := s.corbel.ignoreRet.getLsbD k
  let s := s.modCorbel (fun x => { x with
    ignoreRet := setBit x.ignoreRet k false, awaited := if ended0 then x.awaited else setBit x.awaited k false })
  if ended0 ∨ n = 0 then s
  else if !s.chainHeard then (List.range (16 * n)).foldl (fun (s : State) i => s.lampUnheard (1024 * k + i)) s
  else
    let got := words.filterMap (fun w => w.filter diagOk)
    let whole := decide (ended ≤ 26900000) && n ≤ got.length
    let s := s.chainJudge k whole got.length
    let s := (List.range n).foldl (fun s d => s.lampDriver ((words.getD d none).filter diagOk) (64 * k + d)) s
    s.failReport k

/-! ## An external driver (R387) -/

/-- A driver of a chain, numbered 64 × chain + driver. -/
def State.driver (s : State) (d : Nat) : LampDrv := (assoc d s.corbel.drivers).getD {}

/-- A reset at a driver's input: it latches its share if it has a whole one and SCRC matches, and keeps the one before otherwise. -/
def LampDrv.latch (now : Nat) (share : Option Nat) (x : LampDrv) : LampDrv :=
  match share.filter (fun v => field v 264 8 == crc8 (leBytes 33 v)) with
  | some v =>
    { latched := (List.range 16).map (fun i => (field v (16 * i) 12, field v (16 * i + 12) 4))
      latchedAt := some now, off := false, shareOk := true
      stretch := if bitAt v 260 then some (field v 256 4, now + 100000) else none }
  | none => { x with shareOk := false, stretch := none }

/-- The on-time of a driver's channel, in 25 ns per PWM period: 80 where the first period after the latch stretches it, else the ON of its
share (R387). -/
def LampDrv.onTime (now i : Nat) (x : LampDrv) : Nat :=
  if x.off then 0
  else if x.stretch.any (fun p => p.1 == i && now < p.2) then 80
  else (x.latched.getD i (0, 0)).1

/-- Whether a channel has been stretched, and measured, in a period that has ended (R387). -/
def LampDrv.stretched (now i : Nat) (x : LampDrv) : Bool := x.stretch.any (fun p => p.1 == i && p.2 ≤ now)

/-- The bits a driver reads in the slots at its input: high for less than 0.6 µs is 0 (R384). -/
def readSlots (highs : List Nat) : Nat := (highs.zipIdx.map (fun p => if 600 ≤ p.1 then 2 ^ p.2 else 0)).sum

/-- The diagnosis word of a driver: a channel is measured where its on-time is 2 µs or more, or its stretch was (R387, R388). -/
def LampDrv.diagnosis (now : Nat) (st : List Nat) (temp : Nat) (ot : Bool) (x : LampDrv) : Nat :=
  let seen (i : Nat) : Bool := 80 ≤ x.onTime now i || x.stretched now i
  let sts := (List.range 16).map (fun i => (if seen i then st.getD i 3 else 3) * 4 ^ i)
  let done := (List.range 16).any (fun i => x.stretched now i)
  let body := sts.sum + temp * 2 ^ 32 + bit x.shareOk * 2 ^ 40 + bit done * 2 ^ 41 + bit ot * 2 ^ 42
  body + crc8 (leBytes 6 body) * 2 ^ 48

/-- A stream ends at a driver's input: the driver forwards what follows its share and appends its diagnosis word, and a reset of 50 µs or
more, of 5 µs never, between the two freely, latches its share (R384, R387). -/
def State.driverLatch (d : Nat) (inp : ChainIn) (s : State) : State :=
  let f := s.fresh
  let s := f.2
  if inp.low < 5000 ∨ (inp.low < 50000 ∧ f.1 % 2 = 0) then s else
    let x := s.driver d
    let s := s.send (.driver d (chainSlots (inp.highs.length - 272) (readSlots (inp.highs.drop 272)) ++
      chainSlots 56 (x.diagnosis s.clock.up inp.st inp.temp inp.ot)))
    let share := if 272 ≤ inp.highs.length then some (readSlots (inp.highs.take 272)) else none
    s.modCorbel (fun y => { y with drivers := assocSet d (x.latch s.clock.up share) y.drivers })

/-- A driver that has latched no share for 100 ms switches its channels off (R387). -/
def State.driverTimeout (d : Nat) (s : State) : State :=
  if ((s.driver d).latchedAt).any (fun t => s.since t 100000000) then
    s.modCorbel (fun x => { x with drivers := assocSet d { s.driver d with off := true } x.drivers })
  else s

/-! ## The indicator matrix (R400 to R403) -/

/-- The two pins of a pair: rows 0 to 15, columns 16 to 31 (R403). -/
def pairPins (p : Nat) : Nat × Nat := if p < 15 then (p, p + 1) else if p < 30 then (p + 1, p + 2) else (16, 15)

/-- Whether a matrix pin is held high-impedance. -/
def Panel.pinHeld (x : Panel) (pin : Nat) : Bool :=
  (List.range 31).any (fun p => x.pinLatch.getLsbD p && ((pairPins p).1 == pin || (pairPins p).2 == pin))

/-- The code of an indicator shown now: dark in the second half of its blink period (R400). -/
def shownCode (now v : Nat) : Nat :=
  match v / 64 with
  | 0 => v % 64
  | 1 => if now % 1000000000 < 500000000 then v % 64 else 0
  | _ => if now % 250000000 < 125000000 then v % 64 else 0

/-- A row's codes after the 300 mA rule, and whether it is limited (R401). -/
def limitRow (l : List Nat) : List Nat × Bool :=
  let t := l.sum
  if 787 < t then (l.map (fun v => v * 787 / t), true) else (l, false)

/-- The pin-pair test of a blanking interval: `shorted` says that the pair was detected (R403). -/
def State.pairTest (shorted : Bool) (s : State) : State :=
  let x := s.panel
  let p := x.pair
  let latch := shorted && x.failed.getLsbD p && !(x.pinLatch.getLsbD p)
  let s := { s with panel := { x with
    pair := (p + 1) % 31, failed := setBit x.failed p shorted
    pinLatch := if latch then setBit x.pinLatch p true else x.pinLatch } }
  if latch then s.emit srcCorbel 0x1706 0 [p] else s

/-- A row slot: blanking with its test, then the row's column currents; `ua` is what the columns draw: less than half the set current of
CODE × 24 ÷ 63 mA in 16 consecutive frames marks an indicator OPEN (R400, R401). -/
def State.rowSlot (shorted : Bool) (ua : List Nat) (s : State) : State :=
  let pair := s.panel.pair
  let s := s.pairTest shorted
  let x := s.panel
  let r := x.row
  let codes := (List.range 16).map (fun c => shownCode s.now (x.codes.get (16 * r + c)))
  let (cols, lim) := limitRow codes
  let dark := x.pinHeld r || x.rowLatched.getLsbD r
  let cols := cols.zipIdx.map (fun p => if dark || x.pinHeld (16 + p.2) then 0 else p.1)
  let upd (y : Panel) (c : Nat) : Panel :=
    let i := 16 * r + c
    let bad := 0 < cols.getD c 0 && decide (126 * ua.getD c 0 < 24000 * cols.getD c 0)
    let n := if bad then satInc 16 (y.openRun.get i) else 0
    { y with openRun := y.openRun.set i n, openBits := y.openBits.set i (bit (n == 16)) }
  let y := (List.range 16).foldl upd { x with row := (r + 1) % 16, rowLimited := setBit x.rowLimited r lim }
  ({ s with panel := y }).send (.matrix r (pnBlank (s.sec SecId.panel)) pair cols)

/-- Whether the test of a pin pair detects the resistance between its pins: always below 1 kΩ, never above 10 kΩ, freely between (R403). -/
def State.pairShorted (ohm : Nat) (s : State) : Bool := ohm < 1000 || (ohm ≤ 10000 && s.fresh.1 % 2 == 1)

/-- A row slot of a matrix that is driven, once the slot before has lasted 10^6 ÷ (16 × FRAME_HZ) µs (R399, R400). -/
def State.matrixSlot (ohm : Nat) (ua : List Nat) (s : State) : State :=
  if s.corbelOn ∧ pnEn (s.sec SecId.panel) ∧
      s.panel.slotAt.all (fun t => s.since t (1000000000 / (16 * pnHz (s.sec SecId.panel)))) then
    let s := State.rowSlot (s.pairShorted ohm) ua s.fresh.2
    { s with panel := { s.panel with slotAt := some s.clock.up } }
  else s

/-- A row switch carries more than 350 mA for 10 µs: it is switched off and latched off (R401). -/
def State.rowOvercurrent (r ma : Nat) (s : State) : State :=
  if !s.corbelOn then s
  else
    let d := s.dwell (112 + r) (if 350 < ma then 1 else 0)
    let s := d.2
    if ma ≤ 350 ∨ s.clock.up < d.1 + 10000 ∨ s.panel.rowLatched.getLsbD r then s
    else State.emit srcCorbel 0x1707 0 [r] { s with panel := { s.panel with rowLatched := setBit s.panel.rowLatched r true } }

end Sys2Proof.Machine
end

