-- ==== Sys2Proof/Machine/Servo.lean ====
section
/-! DEFINITION. Press time: the TIME section, the PTP data sets, offset samples, the servo and its steps
(R363 to R381). -/

namespace Sys2Proof.Machine

open Sys2Proof

/-! ## The TIME section (R381) -/

def tmPhaseSrc (c : Sec) : Nat := c.fld 0 0 2
def tmFreqSrc (c : Sec) : Bool := c.flag 0 2
def tmPpsMonitor (c : Sec) : Bool := c.flag 0 3
def tmBoundary (c : Sec) : Bool := c.flag 0 4
def tmSlaveOnly (c : Sec) : Bool := c.flag 0 5
def tmDomain (c : Sec) : Nat := c.fld 1 0 8
def tmPrio1 (c : Sec) : Nat := c.fld 2 0 8
def tmPrio2 (c : Sec) : Nat := c.fld 3 0 8
def tmUdp (c : Sec) : Bool := c.flag 4 0
def tmP2p (c : Sec) : Bool := c.flag 4 1
def tmLogAnnounce (c : Sec) : Int := c.sfld 7 0 8
def tmAnnTimeout (c : Sec) : Nat := c.fld 9 0 4
def tmStepLimit (c : Sec) : Nat := if c.fld 9 4 20 = 0 then 1000 else c.fld 9 4 20
def tmPpsOutMs (c : Sec) : Nat := c.fld 0x0C 0 10
def tmPpsErrLim (c : Sec) : Nat := c.fld 0x0E 0 16
def tmIpv4 (c : Sec) (p : Nat) : Nat := c.fld (0x10 + 0x10 * p) 0 32
def tmTxLat (c : Sec) (p : Nat) : Nat := c.fld (0x1C + 0x10 * p) 0 12
def tmRxLat (c : Sec) (p : Nat) : Nat := c.fld (0x1C + 0x10 * p) 12 12
def tmAsym (c : Sec) (p : Nat) : Int := c.sfld (0x30 + 2 * p) 0 16
def tmCamMode (c : Sec) (k : Nat) : Nat := c.fld (0x40 + 8 * k) 0 2
def tmCamInv (c : Sec) (k : Nat) : Bool := c.flag (0x40 + 8 * k) 2
def tmCamW (c : Sec) (k : Nat) : Nat := c.fld (0x41 + 8 * k) 0 12
def tmCamPeriod (c : Sec) (k : Nat) : Nat := c.fld (0x44 + 8 * k) 0 32

/-- Check 0x0002 of TIME, with the shadow PROFILE for CRL (R14, R381). -/
def timeFormatOk (profile c : Sec) : Bool :=
  let inR (lo hi v : Int) : Bool := lo ≤ v && v ≤ hi
  tmPhaseSrc c ≤ 2 && !(tmPpsMonitor c && tmPhaseSrc c == 2) && c.fld 0 6 2 == 0 && tmDomain c ≤ 127 &&
  !(c.flag 4 3) && 1 ≤ c.fld 4 4 12 && c.fld 4 4 12 ≤ 4094 &&
  inR (-7) 1 (c.sfld 6 0 8) && inR (-3) 4 (c.sfld 7 0 8) && inR (-7) 4 (c.sfld 8 0 8) &&
  inR 2 10 (tmAnnTimeout c) && (c.fld 9 4 20 == 0 || inR 100 1000000 (c.fld 9 4 20)) &&
  inR 1 500 (tmPpsOutMs c) && c.fld 0x0D 2 6 == 0 && 10 ≤ tmPpsErrLim c &&
  [0, 1].all (fun p =>
    c.fld (0x15 + 0x10 * p) 0 24 == 0 && c.fld (0x1F + 0x10 * p) 0 8 == 0 &&
    inR 8 30 (c.fld (0x14 + 0x10 * p) 0 8) &&
    inR (-10000) 10000 (tmAsym c p)) &&
  c.zero 0x34 12 && !(tmUdp c && tmIpv4 c 0 == 0) &&
  (List.range 4).all (fun k =>
    c.fld (0x40 + 8 * k) 3 5 == 0 && c.fld (0x42 + 8 * k) 4 12 == 0 && tmCamMode c k ≤ 2 && 1 ≤ tmCamW c k &&
    (match tmCamMode c k with
     | 1 => 1 ≤ tmCamPeriod c k && tmCamW c k * 10 * (103 * crlOf profile) < 100 * 1000000000 * tmCamPeriod c k
     | 2 => 1000 ≤ tmCamPeriod c k && tmCamPeriod c k % 2 == 0 && tmCamW c k * 10 < tmCamPeriod c k
     | _ => true))

/-! ## Ports and the best master (R365, R375) -/

/-- The TIME section in force. -/
def State.tsec (s : State) : Sec := s.sec SecId.time

/-- A port. -/
def State.port (s : State) (p : Nat) : Port := if p = 0 then s.time.port0 else s.time.port1

/-- The camera pins whose CAM_INV a new TIME section changes take their levels (R377). -/
def State.camLevels (old : Sec) (s : State) : State :=
  ((List.range 4).filter (fun k => tmCamInv old k != tmCamInv s.tsec k)).foldl (fun (s : State) k =>
    s.send (s.camPin k (s.pulseOn (16 + k)))) s

/-- Changes a port. -/
def State.modPort (p : Nat) (f : Port → Port) (s : State) : State :=
  if p = 0 then { s with time := { s.time with port0 := f s.time.port0 } }
  else { s with time := { s.time with port1 := f s.time.port1 } }

/-- The order of the default best master clock algorithm: identical grandmasters compare by steps removed, others by
priority1, class, accuracy, variance, priority2 and identity (IEEE 1588-2019, which R365 names; log entry 31). -/
def betterMaster (a b : List Nat) : Bool :=
  let key (l : List Nat) := if a.getD 5 0 = b.getD 5 0 then [l.getD 6 0, l.getD 7 0] else l.take 6
  let rec lt : List Nat → List Nat → Bool
    | x :: xs, y :: ys => x < y || (x == y && lt xs ys)
    | _, _ => false
  lt (key a) (key b)

/-- The module's own data set (R365): clockClass 248, or 255 when only a slave; in the order of an Announce, with no UTC offset known
(log entry 31). -/
def State.ownClock (s : State) : List Nat :=
  let c := s.tsec
  [tmPrio1 c, if tmSlaveOnly c then 255 else 248, 0xFE, 0xFFFF, tmPrio2 c, s.ident.serial, 0, s.ident.serial, 0, 0]

/-- The portState of a port from what it hears (IEEE 1588 codes: 2 FAULTY, 4 LISTENING, 6 MASTER, 7 PASSIVE, 9 SLAVE;
log entry 31). -/
def State.decidePort (s : State) (p : Nat) : Nat :=
  let x := s.port p
  let c := s.tsec
  if !x.link then 2
  else if !(tmBoundary c) && p != s.time.ptpPort then 4
  else if x.announce.isEmpty then (if tmSlaveOnly c then 4 else 6)
  else if betterMaster x.announce s.ownClock then
    (let o := s.port (1 - p)
     if tmBoundary c && !o.announce.isEmpty && betterMaster o.announce x.announce then 7 else 9)
  else if tmSlaveOnly c then 4 else 6

/-- The port that is slave, if any: the parent port. -/
def State.parentPort (s : State) : Option Nat := [0, 1].find? (fun p => (s.port p).state == 9)

/-- The data set that the module reports, and announces as master: the parent's, one step further off, or its own without one (R365,
R375). -/
def State.dataSet (s : State) : List Nat :=
  match s.parentPort with
  | none => s.ownClock
  | some p =>
    let a := (s.port p).announce
    a.take 6 ++ [a.getD 6 0 + 1, s.ident.serial] ++ a.drop 8

/-! ## Servo states (R368 to R370) -/

/-- A record of this chapter that raises vector 24 (R383). -/
def State.timeRecord (code : Nat) (detail : Int) (data : List Int) (s : State) : State :=
  (s.emit srcTime code detail data).raise 0 24

/-- Changes the time block. -/
def State.modTime (f : Time → Time) (s : State) : State := { s with time := f s.time }

/-- The mean of a list, rounded to nearest (log entry 32). -/
def meanOf (l : List Int) : Int := if l.isEmpty then 0 else roundDiv l.sum l.length

/-- The frequency trim is where it is, and runs from there to a goal, or stays (R363; log entry 144). -/
def State.trimTo (goal : Option Int) (s : State) : State :=
  let x := s.trimNow
  s.modTime (fun t => { t with trim := x, trimAt := s.clock.up, trimGoal := goal })

/-- The servo enters a state; a change writes its record (R368). In HOLDOVER the trim runs to the mean of the last 64 samples and is then
frozen; on leaving it the trim stays where it is (R363). -/
def State.servoTo (st : Servo) (reason : Nat) (s : State) : State :=
  let old := s.time.servo
  let s := if old = st then s else s.trimTo (if st = .holdover ∧ !s.time.trims.isEmpty then some (meanOf s.time.trims) else none)
  let s := s.modTime (fun t => { t with servo := st, reason := reason, samples := [], inRun := 0, outRun := 0 })
  if old = st then s else s.timeRecord 0x1601 0 [old.code, st.code, reason]

/-- A step is refused (R370): the servo is in HOLDOVER, where the run of good samples counts from the first refusal on (R368). -/
def State.refuseStep (mean : Int) (s : State) : State :=
  let first := !s.time.stepPending
  let s := s.modTime (fun t => { t with
    stepPending := true, stepOffset := mean, stepSeq := t.stepSeq + 1, refused := satInc 65535 t.refused
    samples := [], inRun := if first then 0 else t.inRun
    stepReq := if t.stepReq.any (fun r => r.2.2.1 == 0) then none else t.stepReq })
  let s := s.timeRecord 0x1602 mean [mean, s.time.stepSeq.toNat, s.time.gmId]
  if s.time.servo = .holdover then s else s.servoTo .holdover s.time.reason

/-- The bound of the frequency trim in 1/16 ppb: ±50 ppm, or ±1 ppm with FREQ_SRC 1 (R363, R380). -/
def State.trimBound (s : State) : Nat := if tmFreqSrc s.tsec then 16000 else 800000

/-- With FREQ_SRC 1 and no good CLK_IN10M the PLL holds its last frequency (R380). -/
def State.trimHeld (s : State) : Bool := tmFreqSrc s.tsec && !s.time.ref10

/-- A number within ± a bound. -/
def clampTo (lim : Nat) (v : Int) : Int := max (-(lim : Int)) (min (lim : Int) v)

/-- The frequency trim after a sample: a value the spec does not state, within its bound and at most 10 ppm per second from the last
(R363; log entry 1); the last one while the PLL holds it (R380). -/
def State.steer (s : State) : State :=
  let most := min 1600000 (trimReach (s.clock.up - s.time.trimAt))
  let now := s.trimNow
  let (v, s) := s.fresh
  let x : Int := if s.trimHeld then now else
    max (now - (most : Nat)) (min (now + (most : Nat)) (clampTo s.trimBound (now + ((v % (2 * most + 1) : Nat) : Int) - (most : Nat))))
  s.modTime (fun t => { t with trim := x, trims := (x :: t.trims).take 64, trimAt := s.clock.up, trimGoal := none })

/-- A step is put off to the next 125,000 ns boundary: its size, or the press time to set, and what asked for it (R371). -/
def State.askStep (r : Int × Option Nat × Nat × Nat × Nat) (s : State) : State := s.modTime (fun t => { t with stepReq := some r })

/-- A sample in ACQUIRING (R368). -/
def State.acquireSample (o : Int) (limit : Nat) (s : State) : State :=
  let s := s.modTime (fun t => { t with
    samples := o :: t.samples, inRun := if o.natAbs < 100 then t.inRun + 1 else 0 })
  let s := s.steer
  if 16 ≤ s.time.inRun then s.servoTo .locked 0
  else if s.time.samples.length < 8 then s
  else
    let m := meanOf s.time.samples
    let s := s.modTime (fun t => { t with samples := [] })
    if !s.time.valid ∧ !s.printHold then s.askStep (-m, none, 0, 0, 0)
    else if limit < m.natAbs then s.refuseStep m
    else s

/-- A sample in LOCKED (R368): single outliers are discarded. -/
def State.lockedSample (o : Int) (limit : Nat) (s : State) : State :=
  if o.natAbs ≤ limit then (s.modTime (fun t => { t with outRun := 0, samples := [] })).steer
  else
    let s := s.modTime (fun t => { t with outRun := t.outRun + 1, samples := o :: t.samples })
    if s.time.outRun < 4 then s else s.refuseStep (meanOf s.time.samples)

/-- The samples that one evaluation in HOLDOVER takes: 64 stable ones after a path change, 8 after a change or loss of the master; a
HOLDOVER of no reason, after a refusal, has none (R368). -/
def State.evalDue (s : State) : Bool :=
  match s.time.reason with
  | 0 => false
  | 2 => 64 ≤ s.time.stable
  | _ => 8 ≤ s.time.samples.length

/-- A sample in HOLDOVER (R368, R369). While STEP_PENDING stands, a mean within the limit ends nothing: the run of 16 does (log entry
145). -/
def State.holdoverSample (o d : Int) (limit : Nat) (s : State) : State :=
  let stable := (d - s.time.stableRef).natAbs ≤ 200
  let s := s.modTime (fun t => { t with
    inRun := if o.natAbs ≤ limit then t.inRun + 1 else 0
    stable := if stable then t.stable + 1 else 0
    samples := if t.reason == 2 && !stable then [] else (o :: t.samples).take 8 })
  if s.time.stepPending ∧ 16 ≤ s.time.inRun then (s.modTime (fun t => { t with stepPending := false })).servoTo .acquiring 0
  else if !s.evalDue then s
  else
    let m := meanOf s.time.samples
    let s := s.modTime (fun t => { t with stable := 0, samples := [] })
    if limit < m.natAbs then s.refuseStep m
    else if s.time.stepPending then s
    else s.servoTo .acquiring 0

/-- One offset sample in the servo's state; `d` is its path delay (R367, R368). -/
def State.servoSample (o d : Int) (s : State) : State :=
  let limit := tmStepLimit s.tsec
  let s := s.modTime (fun t => { t with offset := max (-2147483648) (min 2147483647 o) })
  match s.time.servo with
  | .free => s
  | .acquiring => s.acquireSample o limit
  | .locked => s.lockedSample o limit
  | .holdover => s.holdoverSample o d limit

/-- Whether a path delay is a path change: more than 200 ns off any of the 8 before it (R368, R369). -/
def State.pathJump (s : State) (d : Int) : Bool :=
  (s.time.servo == .locked || s.time.servo == .acquiring) && s.time.delays.any (fun x => 200 < (d - x).natAbs)

/-- A path delay to the parent has been measured (R367, R369). -/
def State.pathMeasured (d : Int) (s : State) : State :=
  let old := s.time.delays.headD 0
  let jump := s.pathJump d
  let s := s.modTime (fun t => { t with pathDelay := d, delays := (d :: t.delays).take 8 })
  if jump then
    ((s.modTime (fun t => { t with stable := 0, stableRef := d, delays := [d] })).timeRecord 0x1604 0 [old, d]).servoTo .holdover 2
  else s

/-- The source is lost (R368). -/
def State.servoLost (s : State) : State :=
  match s.time.servo with
  | .locked => s.servoTo .holdover 3
  | .acquiring => s.servoTo .holdover 3
  | _ => s

/-- The servo is reset by a TIME commit; press time is kept, and a trim outside the bound of the new section runs into it (R363, R368,
R380). -/
def State.servoReset (s : State) : State :=
  let s := (s.modTime (fun t => { t with delays := [], stable := 0, stepPending := false, trims := [] })).servoTo .free 0
  s.trimTo (some (clampTo s.trimBound s.trimNow))

/-- The port states, the parent and the grandmaster are judged again after what a port heard or lost (R365, R368). -/
def State.masterJudged (s : State) : State :=
  let was := s.parentPort
  let gm := s.time.gmId
  let s0 := s
  let s := (s.modPort 0 (fun x => { x with state := s0.decidePort 0 })).modPort 1 (fun x => { x with state := s0.decidePort 1 })
  let now := s.parentPort
  let id := if now.isSome ∨ (s.port 0).state = 6 ∨ (s.port 1).state = 6 then s.dataSet.getD 5 0 else gm
  let s := s.modTime (fun t => { t with gmId := id, delays := if was = now then t.delays else [] })
  if tmPhaseSrc s.tsec ≠ 1 then s
  else match s.time.servo with
    | .free => if now.isSome then s.servoTo .acquiring 0 else s
    | .locked => if was ≠ now ∨ gm ≠ id then s.servoTo .holdover 1 else s
    | _ => s

/-! ## Exchanges (R366, R367) -/

/-- The port is the servo's source: its parent is on it, with PHASE_SRC 1. -/
def State.servoPort (s : State) (p : Nat) : Bool := tmPhaseSrc s.tsec == 1 && s.parentPort == some p

/-- t1 and t2 of a Sync are known: a P2P sample once the port's peer delay has been measured, or the first half of an E2E one (R367). -/
def State.syncDone (p : Nat) (t1 t2 : Int) (s : State) : State :=
  let s := s.modPort p (fun x => { x with sync := none, ds := some (t1, t2) })
  match (s.port p).peerDelay with
  | none => s
  | some d => if tmP2p s.tsec && s.servoPort p then s.servoSample ((t2 - t1) - d - tmAsym s.tsec p / 2) d else s

/-- An E2E exchange is complete: its path delay, and its sample unless the delay is a path change (R367, R369). -/
def State.delayDone (p : Nat) (t3 t4 : Int) (s : State) : State :=
  match (s.port p).ds with
  | none => s
  | some (t1, t2) =>
    let d := ((t2 - t1) + (t4 - t3)) / 2
    let s := s.modPort p (fun x => { x with reqT3 := none })
    if tmP2p s.tsec || !(s.servoPort p) then s
    else if s.pathJump d then s.pathMeasured d
    else (s.pathMeasured d).servoSample (((t2 - t1) - (t4 - t3) - tmAsym s.tsec p) / 2) d

/-! ## Applying a step (R371) -/

/-- A stamp that moves with press time. -/
def shiftAt (d : Int) (t : Nat) : Nat := ((t : Int) + d).toNat

/-- Stamped values that move with press time. -/
def shiftStamps {α : Type} (d : Int) (l : List (Nat × α)) : List (Nat × α) := l.map (fun p => (shiftAt d p.1, p.2))

/-- The stamps that an encoder keeps move with press time. -/
def Enc.shifted (d : Int) (x : Enc) : Enc :=
  { x with window := shiftStamps d x.window, radii := shiftStamps d x.radii, illStamps := x.illStamps.map (shiftAt d) }

/-- The stamps that the web inputs keep move with press time. -/
def Web.shifted (d : Int) (w : Web) : Web :=
  { w with
    enc0 := w.enc0.shifted d, enc1 := w.enc1.shifted d, winTime := shiftAt d w.winTime
    hall := { w.hall with bound := w.hall.bound.map (fun p => (p.1, p.2.1, shiftAt d p.2.2)) } }

/-- A step of `d` ns takes effect, asked for by verb `verb` (0: the automatic first step). -/
def State.applyStep (d : Int) (verb : Nat) (s : State) : State :=
  let s := { s with
    clock := { s.clock with press := (((s.clock.press : Int) + d) % (2 ^ 64 : Nat)).toNat }
    lintel := { s.lintel with
      samples := shiftStamps d s.lintel.samples
      cycleAt := shiftAt d s.lintel.cycleAt
      liftAt := s.lintel.liftAt.map (fun (p : Nat × Nat) => (p.1, shiftAt d p.2)) }
    web := s.web.shifted d }
  let s := ((List.range 80).filter (fun l => (s.lane l).st == .up)).foldl (fun s l =>
    s.sendUnit l 3 0x04 [0]) s
  (s.modTime (fun t => { t with steps := satInc 65535 t.steps, stepReq := none })).timeRecord 0x1603 d [d, verb]

end Sys2Proof.Machine
end

