-- ==== Sys2Proof/Machine/Check.lean ====
section
/-! DEFINITION. Section lengths, the checks of CFG.CHECK in its two passes, job reservations and the configuration digest
(R61, R63, R128, R130, R245, R322, R351). -/

namespace Sys2Proof.Machine

open Sys2Proof

/-- The length of each section in bytes (R61, and the rule that lays each section out); MORTAR's is its largest (R511). -/
def secLen : Nat → Nat
  | 0x01 => 8 | 0x02 => 128 | 0x03 => 64 | 0x04 => 80 | 0x05 => 64 | 0x06 => 96 | 0x07 => 98432 | 0x08 => 5898368
  | 0x09 => 37749248 | 0x0A => 1475584 | 0x0B => 1408 | 0x0C => 11584 | 0x0D => 16 | 0x0E => 16512 | 0x0F => 272
  | 0x10 => 416 | 0x11 => 96 | 0x12 => 32 | 0x13 => 16 | 0x14 => 16 | _ => 0

/-- The least length of MORTAR, and the one it has before its first CFG.STAGE (R511). -/
def mortarMin : Nat := 0x200

/-- A section before its first CFG.STAGE. -/
def freshSec (id : Nat) : Sec := { len := if id = SecId.mortar then mortarMin else secLen id }

/-- A section of the shadow set; one never staged reads as all zeros. -/
def State.shadow (s : State) (id : Nat) : Sec := (assoc id s.cfg.shadow).getD (freshSec id)

/-! ## Check 0x0002 of the short sections (R14) -/

def profileFormatOk (c : Sec) : Bool := c.fld 0 2 6 == 0 && c.fld 7 0 8 == 0

def barGeometryFormatOk (c : Sec) : Bool :=
  c.fld 8 12 4 == 0 && c.fld 8 18 14 == 0 && c.fld 0x0F 0 8 == 0 && c.zero 0x74 12 &&
  (bgSheets c || (bgSheetPitch c == 0 && bgRejectDist c == 0))

def barDelayFormatOk (c : Sec) : Bool := c.zero 0x30 0x10

/-- QUOIN: its reserved bits and its ranges (R248). -/
def quoinFormatOk (c : Sec) : Bool :=
  c.fld 0 14 18 == 0 && c.fld 0x0B 0 8 == 0 && c.fld 0x0F 0 8 == 0 && c.fld 0x46 0 16 == 0 && c.zero 0x48 8 &&
  1 ≤ qnMissMax c && 1 ≤ qnFilter c && 256 ≤ qnPitch c && qnPhase c < qnPitch c && 1 ≤ qnWin c && 4 * qnWin c ≤ qnPitch c

/-- DRIVE, with the shadow PROFILE for CRL and the course pitch (R253). -/
def driveFormatOk (profile c : Sec) : Bool :=
  c.fld 3 1 7 == 0 && c.fld 7 0 8 == 0 && c.fld 0x0B 0 8 == 0 && c.fld 0x0F 0 8 == 0 && c.fld 0x13 0 8 == 0 &&
  c.fld 0x17 4 4 == 0 && c.fld 0x1B 1 7 == 0 && c.fld 0x20 14 18 == 0 && c.fld 0x26 0 16 == 0 && c.zero 0x28 0x18 &&
  drTarget c ≤ 118110 && drAccel c != 0 && drDecel c != 0 && 1 ≤ drBackup c && 2 * drBackup c ≤ crlOf profile &&
  1 ≤ drTol c && drTol c ≤ 100 && 1 ≤ drRetries c && crlOf profile ≤ drRefFull c && drTrimLimit c ≤ 10000 &&
  (if profRes600 profile then 1969 else 3937) ≤ drMinFire c

def pairFormatOk (c : Sec) : Bool :=
  c.fld 0 4 4 == 0 && c.fld 2 0 16 == 0 && c.zero 8 24 && 1 ≤ c.fld 1 0 8 && c.fld 1 0 8 ≤ 24

def gangFormatOk (c : Sec) : Bool :=
  c.fld 0 5 27 == 0 && c.fld 7 0 8 == 0 && c.zero 0x0C 4 && 2 ≤ c.fld 0 2 3 && c.fld 0 2 3 ≤ 4 &&
  c.fld 0 0 2 < c.fld 0 2 3

/-- Whether a shadow section passes check 0x0002; INTERLOCK and GENERAL_IO are judged by check 0x0004 (R14, R322). -/
def State.formatOk (s : State) (id : Nat) : Bool :=
  let c := s.shadow id
  let p := s.shadow SecId.profile
  let geo := s.shadow SecId.barGeometry
  !c.bad &&
  match id with
  | 0x01 => profileFormatOk c
  | 0x02 => barGeometryFormatOk c
  | 0x03 => barDelayFormatOk c
  | 0x04 => quoinFormatOk c
  | 0x05 => driveFormatOk p c
  | 0x06 => encoderFormatOk p geo c
  | 0x07 => toneFormatOk c
  | 0x08 => densityFormatOk c
  | 0x09 => mortarFormatOk c
  | 0x0A => pointingFormatOk c
  | 0x0B => laneTableFormatOk c
  | 0x0C => ndeigFormatOk geo c
  | 0x0E => lampsFormatOk c
  | 0x0F => panelFormatOk c
  | 0x10 => thermalFormatOk geo c
  | 0x11 => timeFormatOk p c
  | 0x12 => pairFormatOk c
  | 0x13 => gangFormatOk c
  | _ => true

/-! ## Check 0x0003: bar geometry (R245) -/

def geometryOk (geo delay quoin force : Sec) (printHold : Bool) : Bool :=
  let bars := bgBars geo
  let all := List.range 12
  let orders := bars.map (bgOrder geo)
  let maxDelay := (bars.map (bdDelay delay)).foldl max 0
  bgPitch geo != 0 && bgBarEn geo != 0 &&
  all.all (fun b => if bitAt (bgBarEn geo) b then bgHeads geo b != 0 && 512 ≤ bdDelay delay b
    else bgHeads geo b == 0 && bgOrder geo b == 0 && bdDelay delay b == 0) &&
  (List.range bars.length).all orders.contains &&
  bars.all (fun a => bars.all (fun b => bgOrder geo a ≥ bgOrder geo b || bdDelay delay a < bdDelay delay b)) &&
  (!(bgSheets geo) || (256 ≤ bgSheetPitch geo && maxDelay + 1024 ≤ 256 * bgRejectDist geo)) &&
  all.all (fun i => !(qnEn quoin i) || bdDelay delay i + 1024 ≤ qnDist quoin i) &&
  (!printHold || bars.all (fun b => bdDelay delay b / 256 == bdDelay force b / 256))

/-! ## Check 0x0004: interlock mapping (R322) -/

def interlockOk (geo il gio : Sec) : Bool :=
  il.fld 0 11 5 == 0 && il.fld 0 21 11 == 0 && il.zero 4 12 && gio.fld 0 12 4 == 0 && gio.fld 0 25 7 == 0 && gio.zero 4 12 &&
  10 ≤ ilEstopDisc il && ilEstopDisc il ≤ 500 && 1 ≤ gioFilter gio &&
  (List.range 4).all (fun i => gioFunc gio i != 3) && (!(bgSheets geo) || bitAt (ilLatch il) 0)

/-! ## Check 0x0005: lane load (R207, R305) -/

/-- The lane or head that fails the lane-load check under a set of sections; nothing where it passes. -/
def State.laneLoad (s : State) (geo profile ndeig : Sec) : Option Nat :=
  match laneLoadFault (bgInstalled geo) (crlOf profile) s.point.nodes s.point.bonds with
  | some x => some x
  | none => (s.point.nodes.flatMap (fun n => n.heads.map (fun h => (h, n.maxK)))).findSome? (fun p =>
      if (List.range 4).any (fun r => p.2 < ndStagger ndeig p.1 r / 256) then some p.1 else none)

/-- The check against the sections in force (R203). -/
def State.laneLoadNow (s : State) : Option Nat :=
  s.laneLoad (s.sec SecId.barGeometry) (s.sec SecId.profile) (s.sec SecId.ndeig)

/-! ## Check 0x0006: Mortar capacity (R176 to R178) -/

/-- Columns of `lo` to `hi` that the installed heads of a bar cover (R4, R17). -/
def ownedCols (heads lo hi : Nat) : Nat :=
  ((List.range 60).foldl (fun (p : Nat × Nat) k =>
    if bitAt heads k then
      let a := max (max (k * 2016) p.2) lo
      let b := min (k * 2016 + 2048) (hi + 1)
      (p.1 + (b - a), max p.2 b)
    else p) (0, lo)).1

/-- The Mortar limit of a wythe when every bar of BAR_GEOMETRY is one channel of a job. -/
def State.geoLimit (s : State) (geo : Sec) (w : Nat) : Nat :=
  let span := if w = 0 then (0, 60495) else (60496, 120991)
  mortarLimit ((bgBars geo).map (fun b => ceilDiv (ownedCols (bgHeads geo b) span.1 span.2) 4)).sum (s.unitsInService w)

/-- The lower Mortar limit, where it fails against CRL ÷ 4. -/
def State.capacityFault (s : State) (geo profile : Sec) : Option (Nat × Nat) :=
  let l := min (s.geoLimit geo 0) (s.geoLimit geo 1)
  if 4 * l < crlOf profile then some (l, ceilDiv (crlOf profile) 4) else none

/-! ## Check 0x0007 (R130) -/

/-- Extents that the reservations of all open jobs need on a wythe under a BAR_GEOMETRY and a PROFILE section: what a complete resident
tile has kept of its reservation, at an unchanged RES_MODE, and otherwise what a job's plan reserves (R128, R129; log entry 34). -/
def State.reserved (s : State) (geo profile : Sec) (w : Nat) : Nat :=
  let num := if profRes600 profile && !s.res600 then 2 else 1
  let den := if s.res600 && !(profRes600 profile) then 2 else 1
  (s.jobs.opened.map (fun j =>
    let done := num = den && j.returned w
    ((j.fluids.filter (bitAt (bgBarEn geo))).map (fun c =>
      if done then runsLen (j.chain c w) else j.fluidPlan w (j.place w) (j.ring w) num den)).sum)).sum

/-- The first wythe whose job space does not hold the open jobs: extents needed and the limit. -/
def State.fitFault (s : State) (geo profile : Sec) : Option (Nat × Nat) :=
  let a := s.reserved geo profile 0
  let b := s.reserved geo profile 1
  if jobSpace < a then some (a, jobSpace) else if jobSpace < b then some (b, jobSpace) else none

/-! ## CFG.CHECK (R63) -/

/-- One failure: check code, section, measured figure and limit. -/
structure CheckFail where
  code     : Nat
  section_ : Nat
  measured : Nat := 0
  limit    : Nat := 0
  deriving DecidableEq, Repr

/-- Pass 1: each section in ascending id. -/
def State.checkSections (s : State) : List CheckFail :=
  allSections.flatMap (fun id =>
    match assoc id s.cfg.shadow with
    | none => if requiredSections.contains id then [{ code := 1, section_ := id }] else []
    | some c =>
      (if s.formatOk id then [] else [{ code := 2, section_ := id }]) ++
      (if s.printHold && idleSections.contains id && !((assoc id s.cfg.force).any c.same) then [{ code := 10, section_ := id }]
       else []))

/-- Pass 2: the cross-section checks in the order of R63. -/
def State.checkCross (s : State) : List CheckFail :=
  let p := s.shadow SecId.profile
  let geo := s.shadow SecId.barGeometry
  let nd := s.shadow SecId.ndeig
  let one (ok : Bool) (c : CheckFail) : List CheckFail := if ok then [] else [c]
  one (geometryOk geo (s.shadow SecId.barDelay) (s.shadow SecId.quoin) (s.sec SecId.barDelay) s.printHold) { code := 3, section_ := 0 } ++
  one (interlockOk geo (s.shadow SecId.interlock) (s.shadow SecId.generalIo)) { code := 4, section_ := 0 } ++
  (match (if s.point.discTable.any (s.shadow SecId.laneTable).same then s.laneLoad geo p nd else none) with
   | some x => [{ code := 5, section_ := 0, measured := x }]
   | none => []) ++
  (match s.capacityFault geo p with
   | some x => [{ code := 6, section_ := 0, measured := x.1, limit := x.2 }]
   | none => []) ++
  (match s.fitFault geo p with
   | some x => [{ code := 7, section_ := 0, measured := x.1, limit := x.2 }]
   | none => []) ++
  one (10000 ≤ profFRowMax p && profFRowMax p ≤ 64000 && profUserCeil p ≤ 118110) { code := 8, section_ := 1 } ++
  one (!((assoc SecId.pair s.cfg.shadow).isSome && ((assoc SecId.gang s.cfg.shadow).isSome ||
    (List.range 720).any (fun g => (List.range 4).any (fun r => 65536 ≤ ndStagger nd g r))))) { code := 9, section_ := 0 }

/-- Every failure of the shadow set, in the order of R63. -/
def State.checkFails (s : State) : List CheckFail := s.checkSections ++ s.checkCross

/-! ## The digest (R351) -/

/-- One byte of CRC-64/ECMA-182. -/
def crc64Bits : Nat → Nat → Nat
  | 0, c => c
  | n + 1, c => crc64Bits n (if bitAt c 63 then 2 * c % 2 ^ 64 ^^^ 0x42F0E1EBA9EA3693 else 2 * c % 2 ^ 64)

/-- CRC-64/ECMA-182 of bytes, from a value on. -/
def crc64 (bytes : List Nat) (c : Nat) : Nat := bytes.foldl (fun c b => crc64Bits 8 (c ^^^ b % 256 * 2 ^ 56)) c

/-- A section's share of a digest, with a byte range cleared. -/
def digestSec (id : Nat) (x : Sec) (clear : List (Nat × Nat)) (c : Nat) : Nat :=
  let byte (i : Nat) : Nat := if clear.any (fun p => p.1 ≤ i && i < p.1 + p.2) then 0 else (x.mem.get i).toNat
  crc64 ((List.range x.len).map byte) (crc64 (id :: leBytes 4 x.len) c)

/-- The pair digest (R351). -/
def State.pairDigest (s : State) : Nat :=
  (allSections.filter (fun i => i != SecId.laneTable && i != SecId.pair)).foldl (fun c i =>
    match assoc i s.cfg.force with
    | some x => digestSec i x [] c
    | none => c) 0

/-- The gang digest (R351): the HEADS bits of BAR_GEOMETRY, and MEMBER in GANG's first byte, are cleared within their bytes. -/
def gangDigestOf (set : List (Nat × Sec)) : Nat :=
  (allSections.filter (fun i => !([SecId.laneTable, SecId.ndeig, SecId.lamps, SecId.panel, SecId.thermal].contains i))).foldl (fun c i =>
    match assoc i set with
    | none => c
    | some x =>
      if i = SecId.density then digestSec i x [(0x80, x.len)] c
      else if i = SecId.pointing then digestSec i x [(0x400, x.len)] c
      else if i = SecId.barGeometry then
        digestSec i { x with mem := (List.range 12).foldl (fun m b =>
          (m.write (0x10 + 8 * b) (List.replicate 7 0)).set (0x17 + 8 * b) (m.get (0x17 + 8 * b) &&& 0xF0)) x.mem } [] c
      else if i = SecId.gang then digestSec i { x with mem := x.mem.set 0 (x.mem.get 0 &&& 0xFC) } [(4, 3), (8, 4)] c
      else digestSec i x [] c) 0

/-- The gang digest of the committed sections (R351). -/
def State.gangDigest (s : State) : Nat := gangDigestOf s.cfg.force

end Sys2Proof.Machine
end

