-- ==== Sys2Proof/Machine/Apply.lean ====
section
/-! DEFINITION. What a commit does when it takes effect, the ends of a pending commit, the nozzle states of a lift, and
the density state's loads and steps (R64 to R69, R145 to R150, R184, R187, R197, R252). -/

namespace Sys2Proof.Machine

open Sys2Proof

/-! ## Density codes (R145 to R154) -/

/-- Changes the density state. -/
def State.modTone (f : Tone → Tone) (s : State) : State := { s with tone := f s.tone }

/-- A wythe's copies of a bar from a table (R147). -/
def ToneSeam.load (w bar : Nat) (table : SMap) (both : Bool) (x : ToneSeam) : ToneSeam :=
  let own := table.only (seamNozzle w 16)
  { x with target := modAt x.target bar (fun _ => own), active := if both then modAt x.active bar (fun _ => own) else x.active }

/-- Sets the codes of one bar from a table: targets, and active codes too when `both`, with the copies of both wythes and the records of
the rows whose targets change (R145, R147, R154). -/
def Tone.loadBar (bar : Nat) (table : SMap) (both : Bool) (t : Tone) : Tone :=
  let old := t.target.getD bar ⟨128, []⟩
  let t := { t with
    target := modAt t.target bar (fun _ => table), active := if both then modAt t.active bar (fun _ => table) else t.active }
  (t.modSeams (fun w => ToneSeam.load w bar table both)).touchRows bar (changedRows old table)

/-- New targets of a bar reach the copies that a wythe holds (R147). -/
def ToneSeam.retarget (w bar : Nat) (chg : List (Nat × Nat)) (x : ToneSeam) : ToneSeam :=
  { x with target := modAt x.target bar (fun m => (chg.filter (fun p => seamNozzle w 16 p.1)).foldl (fun (m : SMap) (p : Nat × Nat) => m.set p.1 p.2) m) }

/-- Targets of a bar change, nozzle by nozzle, with the copies of both wythes and the records of the rows (R147, R153, R154). -/
def Tone.retarget (bar : Nat) (chg : List (Nat × Nat)) (rows : List Nat) (t : Tone) : Tone :=
  (({ t with target := modAt t.target bar (fun m => chg.foldl (fun (m : SMap) (p : Nat × Nat) => m.set p.1 p.2) m) }).modSeams
    (fun w => ToneSeam.retarget w bar chg)).touchRows bar rows

/-- The entries of a list by bar, each bar's with the indexes inside it and the rows they lie in. -/
def byBar (es : List (Nat × Nat)) (bar : Nat) : List (Nat × Nat) × List Nat :=
  let l := (es.filter (fun p => p.1 / barNozzles == bar)).map (fun p => (p.1 % barNozzles, p.2))
  (l, (l.map (fun p => p.1 / 2048)).eraseDups)

/-- Target changes by index over all bars, with the seam copies and the row records (R147, R154, R334). -/
def Tone.retargetAll (es : List (Nat × Nat)) (t : Tone) : Tone :=
  (List.range 12).foldl (fun t b => let c := byBar es b; t.retarget b c.1 c.2) t

/-- Targets change in what a load for a pending commit has replaced too, so that they stand where the commit ends (R146, R68). -/
def ToneKept.retarget (bar : Nat) (chg : List (Nat × Nat)) (k : ToneKept) : ToneKept :=
  { k with
    target := modAt k.target bar (fun m => chg.foldl (fun (m : SMap) (p : Nat × Nat) => m.set p.1 p.2) m)
    seam0 := k.seam0.retarget 0 bar chg, seam1 := k.seam1.retarget 1 bar chg }

/-- Every code from a full copy of the state, of the highest lift screened and of the lift before, with the copies of both wythes and the
records of the rows whose targets change (R147, R148, R154, R337). -/
def Tone.adopt (highest : Option Nat) (active before target : List SMap) (t : Tone) : Tone :=
  let part (w : Nat) (l : List SMap) : List SMap := l.map (SMap.only (seamNozzle w 16))
  let n := { t with active := active, before := before, target := target, highest := highest }.modSeams
    (fun w x => { x with active := part w active, before := part w before, target := part w target })
  (List.range 12).foldl (fun u b => u.touchRows b (changedRows (t.target.getD b ⟨128, []⟩) (target.getD b ⟨128, []⟩))) n

/-- The load actions of a DENSITY section that a commit carries touched, at a lift or at once; the record gives the
applied lift, all ones where the commit is applied at once (R66, R145, R150). -/
def State.loadDensity (c : Sec) (at_ : Option Nat) (s : State) : State :=
  let mode := densLoadMode c
  let applied := at_.getD (2 ^ 64 - 1)
  if s.tone.first = false then
    let table (b : Nat) : SMap := if mode = 0 then ⟨128, []⟩ else densTable c b
    (s.modTone (fun t => { (List.range 12).foldl (fun t b => t.loadBar b (table b) true) t with first := true })).emit
      (srcKeystone 0) 0x0602 0 [applied]
  else if mode = 1 ∨ mode = 2 then
    (s.modTone (fun t => (List.range 12).foldl (fun t b => t.loadBar b (densTable c b) (mode == 2)) t)).emit
      (srcKeystone 0) 0x0602 0 [applied]
  else s

/-- The codes of every bar one step further, but for frozen channels (R148, R157). -/
def stepCodes (freeze : BitVec 12) (active target : List SMap) : List SMap :=
  active.zipIdx.map (fun p => if freeze.getLsbD p.2 then p.1 else SMap.zip stepCode p.1 (target.getD p.2 ⟨128, []⟩))

/-- Active codes, and the copies of both wythes, step one code toward their targets for a lift higher than any screened before
(R148, R149). -/
def State.densStep (lift : Nat) (s : State) : State :=
  if s.tone.highest.any (lift ≤ ·) then s else
    s.modTone (fun t =>
      ({ t with active := stepCodes t.freeze t.active t.target, highest := some lift, stepMask := t.freeze }).modSeams (fun _ x =>
        { x with active := stepCodes t.freeze x.active x.target, before := x.active }))

/-- A row whose nozzles all fire at their targets in a lift that is fired has settled at that lift (R154). -/
def Tone.settleAt (lift : Nat) (codes : Nat → SMap) (t : Tone) : Tone :=
  let done := (t.settle.cells.filter (fun p => p.2 == unsettled &&
    !(rowDiffers (codes (p.1 / 240)) (t.target.getD (p.1 / 240) ⟨128, []⟩) (p.1 % 240)))).map (·.1)
  { t with settle := done.foldl (fun m i => m.set i lift) t.settle, fired := some lift }

/-- What a DENSITY load for a pending lift commit will replace (R68). -/
def Tone.keep (t : Tone) : ToneKept :=
  { active := t.active, target := t.target, before := t.before, highest := t.highest, first := t.first, seam0 := t.seam0
    seam1 := t.seam1 }

/-- The pending commit's DENSITY load, when screening of its lift begins (R145). -/
def State.loadPending (lift : Nat) (s : State) : State :=
  match s.cfg.pend with
  | none => s
  | some p =>
    if p.lift = lift ∧ !p.loaded then
      let s := if p.touched.contains SecId.density
        then (s.modTone (fun t => { t with kept := some t.keep })).loadDensity ((assoc SecId.density p.secs).getD {}) (some lift) else s
      { s with cfg := { s.cfg with pend := some { p with loaded := true } } }
    else s

/-- Density state as screening of a lift begins: a commit's codes, then the steps; the codes of the lift before are kept
(R145, R148). -/
def State.densBegin (lift : Nat) (s : State) : State :=
  if s.tone.highest.any (lift ≤ ·) then s else
    let old := s.tone.active
    ((s.loadPending lift).densStep lift).modTone (fun t => { t with before := old })

/-- The active codes of a bar with which a lift is screened (R148). -/
def State.codesFor (s : State) (lift bar : Nat) : SMap :=
  (if s.tone.highest.any (lift < ·) then s.tone.before else s.tone.active).getD bar ⟨128, []⟩

/-- The load of a commit that ends is taken back, and its lift begins again with the codes of the set in force (R31, R68). -/
def State.unload (lift : Nat) (s : State) : State :=
  if s.tone.kept.isNone then s else (s.modTone Tone.restore).densBegin lift

/-- Rows settle as the first course of a lift is fired (R154). -/
def State.settleRows (lift : Nat) (s : State) : State :=
  if s.tone.fired = some lift then s else s.modTone (fun t => t.settleAt lift (s.codesFor lift))

/-! ## Gang neighbours (R352, R355) -/

/-- Whether a column lies in the 32 columns shared with the neighbour on a side (R352). -/
def overlapCol (side x : Nat) : Bool := if side = 0 then x < 32 else westCol ≤ x

/-- The copy of a neighbour's overlap nozzles of a bar that governs a lift (R355). -/
def State.seamCopy (s : State) (side bar lift : Nat) : Option SeamCopy :=
  s.butt.copies.find? (fun c => c.side == side && c.bar == bar && c.lift ≤ lift)

/-! ## Nozzle states (R184, R187, R196 to R199) -/

/-- The states that a POINTING section sets when a commit carries it touched; nothing where it changes none (R187). -/
def State.pointingStates (s : State) (c : Sec) : Option (List SMap) :=
  if ptMapMode c = 1 then some ((List.range 12).map (ptTable c))
  else if s.point.first then none else some (List.replicate 12 ⟨0, []⟩)

/-- Changes a list of state tables entry by entry. -/
def putStates (l : List SMap) (es : List (Nat × Nat)) : List SMap :=
  es.foldl (fun l e => modAt l (e.1 / barNoz) (fun m => m.set (e.1 % barNoz) e.2)) l

/-- A change of nozzle states that is to come: its lift, and what it makes of the states. -/
abbrev StateChange := Nat × (List SMap → List SMap)

/-- Puts a change behind those of its lift and of earlier ones. -/
def insertChange (c : StateChange) : List StateChange → List StateChange
  | [] => [c]
  | d :: l => if c.1 < d.1 then c :: d :: l else d :: insertChange c l

/-- The changes to come by lift; at one lift the commit, then the NOZ.MAP commands in the order accepted (R196, R198). -/
def State.stateChanges (s : State) : List StateChange :=
  let commit : List StateChange := match s.cfg.pend with
    | some p =>
      if p.touched.contains SecId.pointing
      then [(p.lift, fun l => (s.pointingStates ((assoc SecId.pointing p.secs).getD {})).getD l)] else []
    | none => []
  s.point.pend.foldl (fun l c => insertChange (c.lift, fun m => putStates m c.entries) l) commit

/-- The nozzle states that govern the courses of a lift: those of the past where they have changed since, else as far as commits and
NOZ.MAP commands accepted by now say (R184, R196, R198). -/
def State.statesFor (s : State) (lift : Nat) : List SMap :=
  match pastAt lift s.point.past with
  | some l => l
  | none => (s.stateChanges.filter (fun c => c.1 ≤ lift)).foldl (fun l c => c.2 l) s.point.states

/-- The states change by `f` from a lift on: those before are kept for the courses before, and the change reaches what is kept for
later ones (R184). -/
def State.pastFrom (lift : Nat) (f : List SMap → List SMap) (s : State) : State :=
  let p := s.point.past
  let old := (pastAt lift p).getD s.point.states
  let past := (p.filter (lift < ·.1)).map (fun x => (x.1, f x.2)) ++
    (if p.any (·.1 == lift) then [] else [(lift, old)]) ++ p.filter (·.1 ≤ lift)
  { s with point := { s.point with past := past.take 16 } }

/-- The load action of a POINTING section that a commit carries touched, at a lift or at once (R187, R193). -/
def State.loadPointing (c : Sec) (at_ : Option Nat) (s : State) : State :=
  match s.pointingStates c with
  | none => { s with point := { s.point with first := true } }
  | some l =>
    let s := match at_ with
      | some n => s.pastFrom n (fun _ => l)
      | none => { s with point := { s.point with past := [] } }
    { s with point := { s.point with
        first := true, states := l, seam0 := l.map (SMap.only (seamNozzle 0 32)), seam1 := l.map (SMap.only (seamNozzle 1 32)) } }

/-- A commit whose POINTING section goes before the NOZ.MAP commands of its lift (R198). -/
def State.pointingFirst (s : State) : Option Nat :=
  (s.cfg.pend.filter (fun p => p.touched.contains SecId.pointing)).map (·.lift)

/-- Every NOZ.MAP whose lift has come applies, lift after lift, those of one lift in the order accepted, and none before a commit of
the same or an earlier lift that is still to load (R198, R199). -/
def State.applyNozTo (lift : Nat) (s : State) : State :=
  let go (c : NozChg) : Bool := c.lift ≤ lift && s.pointingFirst.all (c.lift < ·)
  let due := (s.point.pend.filter go).foldl (fun l c => insertBefore (fun d => c.lift < d.lift) c l) []
  due.foldl (fun s c => (s.pastFrom c.lift (fun l => putStates l c.entries)).applyNoz c) { s with point := { s.point with pend := s.point.pend.filter (fun c => !(go c)) } }

/-! ## Trims (R250, R252) -/

/-- The range of a bar's trim from its delay (R250). -/
def trimMin (delay : Nat) : Int := -512 - (delay % 256 : Nat)
def trimMax (delay : Nat) : Int := 511 - (delay % 256 : Nat)
def clampTrim (delay : Nat) (t : Int) : Int := max (trimMin delay) (min (trimMax delay) t)

/-! ## Taking effect (R66 to R69) -/

/-- A module leaves the role STANDBY: the target changes and the freeze mask that its ACTIVE forwarded and no epoch has brought take effect
(R332, R334; log entry 143). -/
def State.takeChanges (s : State) : State :=
  if s.butt.role ≠ .standby then s else
    let s := s.modTone (fun t =>
      let t := t.retargetAll (s.butt.densChg.map Prod.snd)
      { t with freeze := (s.butt.freezeChg.map Prod.snd).getD t.freeze })
    { s with butt := { s.butt with densChg := [], freezeChg := none } }

/-- The lanes of a Buttress port whose LANE_TABLE entry enables them (R274). -/
def buttLanes (c : Sec) (side : Nat) : BitVec 4 :=
  (List.range 4).foldl (fun (v : BitVec 4) k => setBit v k (c.flag (16 * (80 + 4 * side + k) + 8) 0)) 0

/-- A Buttress port with these lanes enabled; the others leave it (R274, R326). -/
def BLink.enable (on : Bool) (m : BitVec 4) (x : BLink) : BLink :=
  let on := on && m != 0
  let keep (v : BitVec 4) : BitVec 4 := if on then v &&& m else 0
  { x with enabled := on, aligned := keep x.aligned, heard := keep x.heard, said := keep x.said, lanes := keep x.lanes
           up := x.up && 2 ≤ popCount 4 (keep x.lanes).toNat }

/-- The record of a link that has gone UP or DOWN since `was` (R326, R362). -/
def State.linkRecord (side : Nat) (was x : BLink) (s : State) : State :=
  if was.up = x.up then s else s.buttRecord 0x1502 0 [side, x.lanes.toNat]

/-- Lanes switch on and off with LANE_EN (R302). -/
def State.laneEnables (s : State) : State :=
  let c := s.sec SecId.laneTable
  (List.range 80).foldl (fun s l =>
    s.modLane l (fun x =>
      if ltEn c l then (if x.st = .off then { x with st := .down, since := s.clock.up, tx := x.tx.begun s.line15 } else x)
      else { x with st := .off, aligned := false, rxGood := 0, rxBad := 0, frames := [], tx := { x.tx with queue := [] } })) s

/-! ## ENCODER commits and encoder faults (R211, R224, R225, R233, R236) -/

/-- The last element of a list, changed, moves up before the first one that it has to precede. -/
def lastUp {α : Type} (p : α → Bool) (f : α → α) (l : List α) : List α :=
  match l.getLast? with
  | some x => insertBefore p (f x) l.dropLast
  | none => []

/-- The record of an ENC_FAULT reason, stamped with the sample on which it was found; it precedes those of later samples, and of higher
reasons found in the same sample (R236). -/
def State.encRecord (e r : Nat) (s : State) : State :=
  let x := s.enc e
  let at_ := s.web.judged.getD s.now
  let after (v : Ev) : Bool := v.code == 0x1102 && (at_ < v.stamp || (v.stamp == at_ && decide ((r : Int) < v.data.getD 1 0)))
  let stamped (v : Ev) : Ev := { v with stamp := at_ }
  let t := s.emit srcWeb 0x1102 0 [e, r, x.pos, x.hwm]
  let q := if s.plinth.queue.length < t.plinth.queue.length
    then lastUp (fun p => after p.2) (fun p => (p.1, stamped p.2)) t.plinth.queue else t.plinth.queue
  let w := if s.ring.wait.length < t.ring.wait.length then lastUp after stamped t.ring.wait else t.ring.wait
  { t with plinth := { t.plinth with queue := q }, ring := { t.ring with wait := w } }

/-- ENC_FAULT: a record for each reason, and the cause (R236). -/
def State.encFault (e : Nat) (reasons : List Nat) (s : State) : State :=
  (reasons.foldl (fun s r => s.encRecord e r) s).registerCauses (reasons.map (fun r => (20, r)))

/-- The pairs that the mode no longer uses become UNUSED (R224). -/
def State.unusePairs (e : Nat) (s : State) : State :=
  [0, 1, 2].foldl (fun s k =>
    let x := s.enc e
    if (encInUse s.esec e && pairUsed s.esec e k) || x.pair k == .unused then s
    else (s.setEnc e { x.setPair k .unused with dwell := modAt x.dwell k (fun _ => (.unused, 0)) }).emit srcWeb 0x1103 0
      [e, k, (x.pair k).code, 5]) s

/-- A pair that already has a fault status faults on the position source that a commit names, and ends checking on the check encoder
(R225). -/
def State.pairsJudged (s : State) : State :=
  let src := encPosSrc s.esec
  let bad (e : Nat) : Bool := [0, 1, 2].any (fun k => (s.enc e).pair k != .unused && (s.enc e).pair k != .valid)
  let s := if encCheckEn s.esec && bad (1 - src) then { s with web := { s.web with chkOff := true } } else s
  if bad src then s.encFault src [2] else s

/-- What an ENCODER commit does: POSITION, HWM and direction of both encoders restart, and with them the check window, the open hall
sector, the divider and the samples of the prediction; the cycle of the speed loop goes on over the jump of POSITION (R211, R227,
R229, R230, R233, R254). `pos` is POSITION of the position source before. -/
def State.encoderRestart (pos : Int) (s : State) : State :=
  let s : State := { s with
    web := { s.web with
      enc0 := s.web.enc0.restart, enc1 := s.web.enc1.restart, winStart := 0, winCheck := 0, winTime := s.now, chkBad := 0
      outAcc := 0, hall := { s.web.hall with bound := none } }
    lintel := { s.lintel with cyclePos := s.lintel.cyclePos - pos, samples := [] }
    quoin := { s.quoin with markRun := List.replicate 13 0 } }
  ((s.encOutLow.unusePairs 0).unusePairs 1)

/-- The effects of sections that differ from, or are new beside, those in force before (R203, R237, R252, R305, R329,
R368, R400). `old` is the set before and `pos` POSITION before; the new set already stands in force. -/
def State.sectionEffects (old : List (Nat × Sec)) (touched : List Nat) (n0 : Nat) (pos : Int) (s : State) : State :=
  let was (id : Nat) : Sec := (assoc id old).getD {}
  let changed (id : Nat) : Bool := !((assoc id old).any (s.sec id).same)
  let t (id : Nat) : Bool := touched.contains id
  -- encoders restart and the grid is re-based
  let s := if changed SecId.encoder then s.encoderRestart pos else s
  let s := if changed SecId.encoder || bgPitch (was SecId.barGeometry) != bgPitch (s.sec SecId.barGeometry) ||
      profRes600 (was SecId.profile) != s.res600
    then { s with lintel := { s.lintel with n0 := n0, origin := fix32 s.posEnc.hwm, runFrom := none } } else s
  -- trims
  let s := if t SecId.barGeometry then
      { s with quoin := { s.quoin with
          trim := List.replicate 12 0, prev := List.replicate 12 0, target := List.replicate 12 0
          settle := List.replicate 12 (some s.presentLift), fixed := [], pendT := [] } }
    else s
  let s := if changed SecId.barDelay then
      let clamp (p : Int × Nat) : Int :=
        let d := bdDelay (s.sec SecId.barDelay) p.2
        if d % 256 = bdDelay (was SecId.barDelay) p.2 % 256 then p.1 else clampTrim d p.1
      let target := s.quoin.target.zipIdx.map clamp
      { s with quoin := { s.quoin with
          target := target
          settle := s.quoin.settle.zipIdx.map (fun p =>
            let t := target.getD p.2 0
            if t = s.quoin.target.getD p.2 0 then p.1 else if t = s.quoin.trim.getD p.2 0 then some s.presentLift else none) } }
    else s
  -- lanes, discovery and CONFIG
  let s := s.laneEnables
  let s := if s.point.discTable.any (s.sec SecId.laneTable).same then s
    else { s with point := { s.point with discDue := some s.clock.up } }
  let s := if changed SecId.ndeig then
      (s.ndeig.leases.filter (·.held)).foldl (fun s x => s.sendConfig x.nodeId) s else s
  -- time, panel, bands
  let s := if t SecId.time then (s.servoReset.masterJudged).camLevels (was SecId.time) else s
  let s := if t SecId.panel then
      { s with panel := { s.panel with codes := (List.range 256).foldl (fun m i => m.set i (pnCode (s.sec SecId.panel) i)) s.panel.codes } }
    else s
  let s := if changed SecId.thermal then
      s.modCoping (fun x =>
        let clip (m : SMap) : SMap := { m with cells := m.cells.filterMap (fun p =>
          let v := min p.2 (thWaveN s.thsec (p.1 / 60) - 1)
          if v = m.dflt then none else some (p.1, v)) }
        ({ x with wave := clip x.wave, waveNext := clip x.waveNext } : Coping).moved (s.movedHeads (clip x.waveNext) x.waveNext))
    else s
  let s := s.modCoping (fun x => { x with thermCeil := thermCeilOf s.crl x.stepForce })
  -- pair and gang
  let s := if s.hasSec SecId.pair && s.butt.role == .none then s.setRole .isolated else s
  let g := s.sec SecId.gang
  let c := s.sec SecId.laneTable
  let east := s.butt.east.enable ((s.hasSec SecId.pair && s.pairSide == 0) || (s.hasSec SecId.gang && g.fld 0 0 2 != 0)) (buttLanes c 0)
  let west := s.butt.west.enable
    ((s.hasSec SecId.pair && s.pairSide == 1) || (s.hasSec SecId.gang && g.fld 0 0 2 + 1 < g.fld 0 2 3)) (buttLanes c 1)
  let s := (s.linkRecord 0 s.butt.east east).linkRecord 1 s.butt.west west
  { s with butt := { s.butt with
      member := if s.hasSec SecId.gang then g.fld 0 0 2 else s.butt.member
      east := east
      west := west } }

/-- A carried set takes effect: at once (`none`), or at the first course of a lift (R66, R69). -/
def State.applySet (p : Pend) (lift : Option Nat) (s : State) : State :=
  let old := s.cfg.force
  let n0 := s.unreached
  let pos := s.posEnc.pos
  let held := s.conditions
  let past := match lift with
    | some l => ((l, old) :: s.cfg.prev.filter (·.1 < l)).take 16
    | none => []
  let s := { s with cfg := { s.cfg with
      force := p.secs, prev := past, gen := p.gen, applied := lift, pend := none, touched := [], shadow := p.secs } }
  let s := if p.touched.contains SecId.density ∧ !p.loaded then
      s.loadDensity ((assoc SecId.density p.secs).getD {}) lift else s
  let s := s.modTone (fun t => { t with kept := none })
  let s := if p.touched.contains SecId.pointing then s.loadPointing ((assoc SecId.pointing p.secs).getD {}) lift else s
  let s := ((s.sectionEffects old p.touched n0 pos).recheck held).updateCeil
  if (assoc SecId.encoder old).any (s.sec SecId.encoder).same then s else s.pairsJudged

/-- The DATA of a completed CFG.COMMIT (R506). -/
def commitData (lift : Option Nat) (gen : Nat) : List Nat :=
  match lift with
  | some l => leBytes 8 l ++ leBytes 8 (256 * l) ++ leBytes 8 gen
  | none => List.replicate 16 255 ++ leBytes 8 gen

/-- The pending commit completes at the first course of its lift, or at entry to READY (`none`), and answers (R66, R68, R332). -/
def State.completePend (lift : Option Nat) (s : State) : State :=
  match s.cfg.pend with
  | none => s
  | some p =>
    let s := s.applySet p lift
    s.respond p.chan { data := commitData lift p.gen, late := p.late, warn := lift.isNone || p.noAck
                       detail := if lift.isNone then 0x0303 else if p.noAck then 0x0901 else 0 }

/-- The pending commit ends without effect (R68). -/
def State.endPend (result detail : Nat) (s : State) : State :=
  match s.cfg.pend with
  | none => s
  | some p => (({ s with cfg := { s.cfg with pend := none } }).unload p.lift).respond p.chan (Reply.fail result detail)

end Sys2Proof.Machine
end

