-- ==== Sys2Proof/Machine/Screen.lean ====
section
/-! DEFINITION. What Mortar screens: source samples, the tone stage and the levels of a firing lift (R22, R132 to R142,
R119, R158 to R175). -/

namespace Sys2Proof.Machine

open Sys2Proof

/-! ## Source samples (R93, R134, R135) -/

/-- The samples of a source line of a fluid on a wythe, with the strips decoded for it. -/
def State.srcLine (s : State) (dec : List Decoded) (j : Job) (ch w q : Nat) : Array Nat := (s.samplesOf j dec ch w q).toArray

/-- The source line that stands for line `q`: round the tile of a repeat job, held at a stream's first and last line. -/
def Job.lineAt (j : Job) (q : Int) : Nat :=
  if j.repeats then (q % (max 1 (j.linesOf j.tile) : Nat)).toNat
  else match j.totalLines with
    | some t => (max 0 (min q ((t : Int) - 1))).toNat
    | none => q.toNat

/-- Columns of a module. -/
def moduleCols : Nat := 120992

/-- The wythe that owns a column (R17). -/
def colWythe (x : Nat) : Nat := if x < 60496 then 0 else 1

/-- A sample of a line by source pixel, counted from the job's first column and held at the job's first and last pixel (R135). -/
def pixelAt (j : Job) (w : Nat) (line : Array Nat) (p : Int) : Nat :=
  line.getD ((max 0 (min p (j.pixelOf (j.cols.2 - 1)))).toNat - (jobSpan j w).1) 0

/-- The upsampled value of a column from the covering line and its neighbour (R134). -/
def upsampled (j : Job) (w : Nat) (own next : Array Nat) (x : Nat) : Nat :=
  let c := coverIdx j.xHalf (x - j.cols.1)
  let a := pixelAt j w own c.1
  let b := pixelAt j w own c.2
  match j.xHalf, j.yHalf with
  | false, false => a
  | true, false => upsample1 a b
  | false, true => upsample1 a (pixelAt j w next c.1)
  | true, true => upsample2 a b (pixelAt j w next c.1) (pixelAt j w next c.2)

/-! ## Column scales (R141) -/

/-- The codes of the serving nozzles of a column for a firing course. -/
def State.servingCodes (s : State) (states codes : SMap) (bar f x : Nat) : List Nat :=
  ((coverHeads x).filter (fun h => s.installed (60 * bar + h))).flatMap (fun h =>
    [1, 2].filterMap (fun pair =>
      let i := nozIdx h (firingRow pair f) (x - h * 2016)
      if states.get i ≤ 1 then some (codes.get i) else none))

/-- The codes of a neighbour's serving nozzles of a column for a firing course, from the copies (R141, R355). -/
def State.copiedCodes (s : State) (side bar f x : Nat) : List Nat :=
  if s.neighbour side ∧ overlapCol side x then
    match s.seamCopy side bar (f / 256) with
    | none => []
    | some c => [1, 2].filterMap (fun pair =>
        let i := copyIdx (firingRow pair f) (if side = 0 then x else x - westCol)
        if c.states.get i ≤ 1 then some (c.codes.get i) else none)
  else []

/-- The column scale S: the serving nozzles of the module and, in the overlap of two gang members, of the neighbour
(R141, R355). -/
def State.scaleAt (s : State) (states codes : SMap) (bar f x : Nat) : Nat :=
  let l := s.servingCodes states codes bar f x ++ s.copiedCodes 0 bar f x ++ s.copiedCodes 1 bar f x
  colScale l.length l.sum

/-! ## Levels of a lift (R158 to R169) -/

/-- The web column of module column 0: a gang member's offset (R159). -/
def State.colOffset (s : State) : Nat := if s.butt.gang then (s.sec SecId.gang).fld 4 0 24 else 0

/-- The columns of a job's image on the module, first and one past the last (R160). -/
def Job.onModule (j : Job) : Nat × Nat := (j.cols.1.toNat, min moduleCols j.cols.2.toNat)

/-- The ink demand of every job column of a bar's image course `y`, fired at `f` (R132, R133, R160). -/
def State.demand (s : State) (dec : List Decoded) (j : Job) (bar f y : Nat) : List Nat :=
  let tone := s.secAt f SecId.tone
  let states := (s.statesFor (f / 256)).getD bar ⟨0, []⟩
  let codes := s.codesFor (f / 256) bar
  let c := coverIdx j.yHalf y
  let l0 := (s.srcLine dec j bar 0 (j.lineAt c.1), s.srcLine dec j bar 0 (j.lineAt c.2))
  let l1 := (s.srcLine dec j bar 1 (j.lineAt c.1), s.srcLine dec j bar 1 (j.lineAt c.2))
  let (a, b) := j.onModule
  (List.range (b - a)).map (fun i =>
    let x := a + i
    let w := colWythe x
    let l := if w = 0 then l0 else l1
    inkDemand tone bar (upsampled j w l.1 l.2 x) (s.scaleAt states codes bar f x))

/-- Values of columns `a` to `b - 1` as a row of the module, 0 in every other column (R160). -/
def fullRow {α : Type} [OfNat α 0] (a b : Nat) (l : List α) : List α := List.replicate a 0 ++ l ++ List.replicate (moduleCols - b) 0

/-- The accumulator row with which an image course begins on a channel: zeros, as the empty list, in threshold mode and at a job's first
image course (R169). -/
def State.rowFor (s : State) (bar f y : Nat) (acc : List Int) : List Int :=
  if mortMode (s.secAt f SecId.mortar) bar = 1 ∧ y ≠ 0 then acc else []

/-- Screens one course of one bar: the accumulator row is taken, the levels and the next row come out, over the columns of the module
(R160, R164, R166, R168). -/
def State.screenCourse (s : State) (dec : List Decoded) (j : Job) (bar f y : Nat) (acc : List Int) : DiffOut :=
  let c := s.secAt f SecId.mortar
  let v := s.demand dec j bar f y
  let (a, b) := j.onModule
  let row := s.rowFor bar f y acc
  let o : DiffOut :=
    if mortMode c bar = 1 then
      diffCourse c bar (s.colOffset + a) a y v (if row.isEmpty then List.replicate (b - a) 0 else (row.drop a).take (b - a))
    else { levels := thrCourse c bar y (s.colOffset + a) v }
  { o with levels := fullRow a b o.levels, next := if o.next.isEmpty then [] else fullRow a b o.next }

/-- What screening a bar's share of a lift yields: rows, each with the errors of its columns at the seam, and the next accumulator
row. -/
structure BarOut where
  rows : List (Row × List (Nat × Int)) := []
  acc  : List Int := []
  sat0 : Nat := 0
  sat1 : Nat := 0

/-- The courses of a lift on one bar, in firing order. -/
def State.screenBar (s : State) (dec : List Decoded) (bar : Nat) : List Nat → BarOut → BarOut
  | [], o => o
  | f :: fs, o =>
    match s.jobAt f bar with
    | none => s.screenBar dec bar fs o
    | some (j, y) =>
      if !(j.mask.getLsbD bar) then s.screenBar dec bar fs o
      else
        let r := s.screenCourse dec j bar f y o.acc
        s.screenBar dec bar fs
          { rows := o.rows ++ [({ ch := bar, course := f, img := y, job := j.id, levels := r.levels }, r.edge)]
            acc := r.next, sat0 := o.sat0 + r.sat0, sat1 := o.sat1 + r.sat1 }

/-- The first image course of a lift on a channel, with its firing course. -/
def State.firstImage (s : State) (lift ch : Nat) : Option (Nat × Nat) :=
  (liftCourses lift).findSome? (fun f => ((s.jobAt f ch).filter (fun p => p.1.mask.getLsbD ch)).map (fun p => (f, p.2)))

/-- The accumulator row that the lift before leaves a channel: the recorded one where the lift was screened before (R174). -/
def State.leftRow (s : State) (lift ch : Nat) : List Int :=
  match s.mortar.entry.find? (fun e => e.1 == lift && e.2.1 == ch) with
  | some e => e.2.2
  | none => (assoc ch s.mortar.acc).getD []

/-- The accumulator row at the first image course of a lift on a channel, by the set that governs that course; zeros, as the empty list,
in threshold mode, where the job begins with that course, and without an image course (R169, R174). -/
def State.startRow (s : State) (lift ch : Nat) : List Int :=
  match s.firstImage lift ch with
  | none => []
  | some (f, y) => s.rowFor ch f y (s.leftRow lift ch)

/-- Whether every source line that a lift needs has been received (R94, R260). -/
def State.liftFed (s : State) (lift : Nat) : Bool :=
  s.bars.all (fun b => (List.range 256).all (fun i =>
    match s.jobAt (256 * lift + i) b with
    | none => true
    | some (j, y) => !(j.mask.getLsbD b) || (j.needs y).all (fun q => s.hasLine j b 0 q && s.hasLine j b 1 q)))

/-- The pipeline's decode of every strip that a bar needs for a lift (R119). -/
def State.decodeLift (s : State) (lift bar : Nat) : List Decoded :=
  (s.started.filter (fun j => j.mask.getLsbD bar)).flatMap (fun j =>
    let lines := ((liftCourses lift).flatMap (fun f => ((s.imageCourse j f bar).map j.needs).getD [])).eraseDups
    [0, 1].flatMap (fun w => s.decodeAll j (s.stripsFor j bar w lines)))

/-- Changes the screening state. -/
def State.modMortar (f : Mortar → Mortar) (s : State) : State := { s with mortar := f s.mortar }

/-! ## The seam exchange (R18, R29, R172) -/

/-- What a wythe sends for one course at the seam, as 888 bits: for each channel the levels of its 16 seam columns, 3 bits each, then for
each channel the errors of its two edge columns, 13 bits each (R18, R29, R172; log entry 116). -/
def seamBits (from_ : Nat) (rows : List (Row × List (Nat × Int))) : Nat :=
  let chan (c : Nat) : Option (Row × List (Nat × Int)) := rows.find? (fun r => r.1.ch == c)
  let levels (c : Nat) : List Nat := match chan c with
    | some r => (r.1.levels.drop (60480 + 16 * from_)).take 16
    | none => List.replicate 16 0
  let errors (c : Nat) : List Int := [60494 + 2 * from_, 60495 + 2 * from_].map (fun x => ((chan c).bind (fun r => assoc x r.2)).getD 0)
  let lv : Nat := ((List.range 12).flatMap levels).foldr (fun v n => v % 8 + 8 * n) 0
  let er : Nat := ((List.range 12).flatMap errors).foldr (fun v n => wrapInt 13 v + 8192 * n) 0
  lv + 2 ^ 576 * er

/-- Both wythes send their seam words of every course of a lift, in 7 blocks each (R29, R172). -/
def State.sendSeamWords (lift : Nat) (rows : List (Row × List (Nat × Int))) (s : State) : State :=
  let blocks (w : Nat) : List (List Int) := (liftCourses lift).flatMap (fun f =>
    let bits := seamBits w (rows.filter (fun r => r.1.course == f))
    (List.range 7).map (fun k => [f, k, bits / 2 ^ (128 * k) % 2 ^ 128].map Int.ofNat))
  (s.tieSendAll 0 tieSeam (blocks 0)).tieSendAll 1 tieSeam (blocks 1)

/-! ## Screening (R22, R171) -/

/-- Whether a job has an image course on a channel in a lift. -/
def State.inLift (s : State) (j : Job) (lift c : Nat) : Bool :=
  j.mask.getLsbD c && (liftCourses lift).any (fun f => (s.imageCourse j f c).isSome)

/-- Adds a span of columns to disjoint ones, joined with those that it meets. -/
def addSpan (p : Nat × Nat) (l : List (Nat × Nat)) : List (Nat × Nat) :=
  let meets (q : Nat × Nat) : Bool := q.1 ≤ p.2 && p.1 ≤ q.2
  let u := (l.filter meets).foldl (fun (m : Nat × Nat) q => (min m.1 q.1, max m.2 q.2)) p
  u :: l.filter (fun q => !(meets q))

/-- The bands of a wythe for the screening of a lift, over the columns of the jobs that it carries (R28, R171). -/
def State.bandsFor (s : State) (lift w : Nat) : List (Nat × Nat × Nat × Nat) :=
  let spans (c : Nat) : List (Nat × Nat) := ((s.started.filter (fun j => s.inLift j lift c)).map (fun j => j.owned w)).foldr addSpan []
  dealBands (s.bars.flatMap (fun c => (spans c).flatMap (fun p => bandsOf c 32 p.1 p.2))) ((s.unitsOf w).map (fun u => (u, 0)))

/-- The bands of the lift to be screened are assigned at a lift boundary (R28, R171). -/
def State.assignBands (lift : Nat) (s : State) : State :=
  s.modMortar (fun m => { m with bands0 := s.bandsFor lift 0, bands1 := s.bandsFor lift 1 })

/-- Screens every level of a lift into its level lift buffer (R22, R158, R174, R175). -/
def State.screenLift (lift : Nat) (dec : Nat → List Decoded) (s : State) : State :=
  let left := s.bars.map (fun b => (b, s.leftRow lift b))
  let outs := left.map (fun p => (p.1, s.screenBar (dec p.1) p.1 (liftCourses lift) { acc := p.2 }))
  let rows := outs.flatMap (·.2.rows)
  (s.modMortar (fun m => { m with
    bufs := (m.bufs.filter (fun b => b.lift != lift && lift ≤ b.lift + 1)) ++ [{ lift := lift, rows := rows.map Prod.fst }]
    acc := outs.map (fun o => (o.1, o.2.acc))
    entry := (m.entry.filter (fun e => e.1 != lift && lift ≤ e.1 + 1)) ++ left.map (fun p => (lift, p.1, p.2))
    sat0 := m.sat0 + (outs.map (·.2.sat0)).sum, sat1 := m.sat1 + (outs.map (·.2.sat1)).sum })).sendSeamWords lift rows

/-- A level lift buffer. -/
def State.buf (s : State) (lift : Nat) : Option LiftBuf := s.mortar.bufs.find? (·.lift == lift)

/-- Changes a level lift buffer. -/
def State.modBuf (lift : Nat) (f : LiftBuf → LiftBuf) (s : State) : State :=
  s.modMortar (fun m => { m with bufs := m.bufs.map (fun b => if b.lift = lift then f b else b) })

/-- Screening of a level lift buffer is complete on a wythe. -/
def LiftBuf.done (w : Nat) (b : LiftBuf) : Bool := if w = 0 then b.done0 else b.done1

/-- Whether nothing of a lift stands before the next one: a wythe has screened it, or it has no image course (R171). -/
def State.liftPast (s : State) (w lift : Nat) : Bool :=
  s.mortar.bufs.any (fun b => b.lift == lift && b.done w) ||
  !(s.started.any (fun j => s.bars.any (s.inLift j lift)))

/-- The lifts that Mortar can screen, in their order: the one that fires and the next, for which a buffer is free (R22, R171); after a
takeover also those before, from the lift of its epoch (R342); while a resume on sheets is under way also those up to its first lift
(R269). -/
def State.mayScreen (s : State) (w lift : Nat) : Bool :=
  let f := s.presentLift
  let lo := min f (s.mortar.rescreen.getD f)
  let hi := max (f + 1) ((s.lintel.rejectTo.getD 0) / 256)
  lo ≤ lift && lift ≤ hi && !(s.mortar.bufs.any (fun b => b.lift == lift && b.done w)) &&
    (lift == lo || s.liftPast w (lift - 1))

/-- Wythe 1 sends the lift token of a lift that is complete, its neighbour's levels included, and in a gang the other members have it too
(R22, R29, R327, R355). -/
def State.sendToken (lift : Nat) (s : State) : State :=
  if s.mortar.bufs.any (fun b => b.lift == lift && b.done1) && s.neighbourLift 1 lift then
    let s := s.tieSend 1 tieSync [2, lift]
    let say : Out := .butt 0 0x26 [3, lift]
    if s.butt.gang then (s.buttSend say).buttSend (.butt 1 0x26 [3, lift]) else s
  else s

/-- Screening of a lift is complete on a wythe; the levels appear with the first wythe to finish, and Wythe 1 sends its lift token
(R22, R29). Nothing is complete while source lines are missing; a strip that fails its decode stops the module (R119). -/
def State.liftScreened (w lift : Nat) (s : State) : State :=
  if !(s.mayScreen w lift) ∨ !(s.liftFed lift) then s
  else
    let done (s : State) : State :=
      let s := s.modBuf lift (fun b => if w = 0 then { b with done0 := true } else { b with done1 := true })
      if w = 0 then s else s.sendToken lift
    if (s.buf lift).isSome then done s
    else
      let s := if s.presentLift < lift then s.densBegin lift else s
      let dec := s.bars.map (fun b => (b, s.decodeLift lift b))
      match (dec.flatMap Prod.snd).find? (fun p => p.2.isNone) with
      | some p => s.cause 16 p.1.wythe
      | none => done (s.screenLift lift (fun b => (assoc b dec).getD []))

/-- The pairs of a list's elements, in their order. -/
def pairsOf {α : Type} : List α → List (α × α)
  | [] => []
  | a :: l => l.map (fun b => (a, b)) ++ pairsOf l

/-- What a wythe screens twice in a lift: the two units, the channel and first column of the band, and the image course; bands, courses
and pairs of units in service follow one another from lift to lift (R179; log entry 137). -/
def State.auditOf (s : State) (w lift : Nat) : Option (Nat × Nat × Nat × Nat × Nat) :=
  let k := if w = 0 then s.mortar.audits0 else s.mortar.audits1
  let units := pairsOf (s.unitsOf w)
  let bands := s.bandsFor lift w
  match units[k % max 1 units.length]?, bands[k % max 1 bands.length]? with
  | some u, some b =>
    let imgs := (liftCourses lift).filterMap (fun f => (s.jobAt f b.2.1).map Prod.snd)
    (imgs[k % max 1 imgs.length]?).map (fun y => (u.1, u.2, b.2.1, b.2.2.1, y))
  | _, _ => none

/-- An audit mismatch: both units are fenced, with the record and cause MORTAR_AUDIT (R179). -/
def State.auditFail (w a b ch col img : Nat) (s : State) : State :=
  let s := s.modMortar (fun m =>
    if w = 0 then { m with fenced0 := setBit (setBit m.fenced0 a true) b true }
    else { m with fenced1 := setBit (setBit m.fenced1 a true) b true })
  ((s.emit (srcMortar w) 0x1002 0 [a, b, ch, col, img]).updateCeil).cause 18 0

end Sys2Proof.Machine
end

