-- ==== Sys2Proof/Machine/Course.lean ====
section
/-! DEFINITION. Release and firing of courses, lift boundaries, the speed loop, the hold phases and scheduled actions
(R74 to R79, R237 to R272). -/

namespace Sys2Proof.Machine

open Sys2Proof

/-- Changes the course timing state. -/
def State.modLintel (f : Lintel → Lintel) (s : State) : State := { s with lintel := f s.lintel }

/-! ## Job starts (R74, R75, R257) -/

/-- The last course of a job, K_max beyond its last firing course (R74, R288). -/
def State.jobEnd (s : State) (j : Job) : Option Nat := (s.lastCourse j).map (· + s.kMax j.mask.toNat)

/-- The boundary a queued job would begin at now, after a job that ends at `prev`; a boundary that it already had stays open to it
although screening of its lift has begun (R74, R75). -/
def State.startAt (s : State) (j : Job) (prev : Option Nat) : Nat :=
  let first := 256 * s.earliestLift
  max (max (j.boundary.getD 0) (match prev with
    | some e => 256 * (e / 256 + 1)
    | none => 0)) (match j.start with
    | some o => min o first
    | none => first)

/-- Queued jobs get the boundary they begin at, in the order started, as far as the ends before them are known: those without one
where `ready`, and those that have one where the jobs before them are judged `again`. -/
def State.fixStartsGo (again ready : Bool) : List Nat → Option Nat → State → State
  | [], _, s => s
  | id :: ids, prev, s =>
    match s.job id with
    | none => State.fixStartsGo again ready ids prev s
    | some j =>
      let s := if (if j.start.isNone then ready else again && j.state == 1)
        then s.setJob { j with start := some (s.startAt j prev) } else s
      match (s.job id).bind s.jobEnd with
      | some e => State.fixStartsGo again ready ids (some e) s
      | none => s

/-- The boundaries are counted only from a cycle with the web at the speed commanded (R257, R263). -/
def State.startsOpen (s : State) : Bool := s.lintel.atSpeed && s.vTopOk

/-- Queued jobs without a boundary get one (R257). -/
def State.fixStarts (s : State) : State := if s.startsOpen then s.fixStartsGo false true s.jobs.order none else s

/-- The starts of queued jobs are judged again, after a change of a job before them (R74). -/
def State.refixStarts (s : State) : State := s.fixStartsGo true s.startsOpen s.jobs.order none

/-! ## Serving a course (R241) -/

/-- Targets that a gang formed for a lift are taken over (R359). -/
def Quoin.takePending (lift : Nat) (q : Quoin) : Quoin :=
  let due : List (Nat × Nat × Int) := q.pendT.filter (fun p => p.1 ≤ lift)
  { q with
    target := due.foldl (fun (l : List Int) (p : Nat × Nat × Int) => modAt l p.2.1 (fun _ => p.2.2)) q.target
    settle := due.foldl (fun (l : List (Option Nat)) (p : Nat × Nat × Int) => modAt l p.2.1 (fun _ => none)) q.settle
    pendT := q.pendT.filter (fun p => lift < p.1) }

/-- Every trim is 0 from a lift on (R248). -/
def Quoin.zeroed (lift : Nat) (q : Quoin) : Quoin :=
  let none_ := List.replicate 12 (0 : Int)
  { q with
    trim := none_, prev := none_, target := none_, pendT := []
    settle := List.replicate 12 (some lift), fixed := (lift, none_, none_) :: q.fixed.take 15 }

/-- Registration trims step when the first course of a lift is first released: a frozen bar keeps its own, every other moves toward
its target (R249 to R252); without a sensor in use all are 0 (R248). A lift released again keeps the trims fixed for it (R251). -/
def State.stepTrims (f : Nat) (s : State) : State :=
  if s.quoin.fixed.any (fun p => f / 256 ≤ p.1) then s
  else if (s.secAt f SecId.quoin).fld 0 0 13 = 0 then { s with quoin := s.quoin.zeroed (f / 256) }
  else
    let q := s.quoin.takePending (f / 256)
    let d (b : Nat) : Nat := bdDelay (s.secAt f SecId.barDelay) b
    let next : List Int := q.trim.zipIdx.map (fun p =>
      let t := clampTrim (d p.2) (q.target.getD p.2 0)
      clampTrim (d p.2) (if q.frozen.getLsbD p.2 then p.1 else p.1 + max (-64) (min 64 (t - p.1))))
    { s with quoin := { q with
        prev := q.trim, trim := next, fixed := (f / 256, q.trim, next) :: q.fixed.take 15
        settle := q.settle.zipIdx.map (fun p =>
          if p.1.isNone && next.getD p.2 0 == q.target.getD p.2 0 then some (f / 256) else p.1) } }

/-- The heads of a lane in SLOT order. -/
def State.laneHeads (s : State) (l : Nat) : List Nat :=
  (List.range 12).filterMap (fun k => (s.point.bonds.find? (fun b => b.lane == l && b.slot == k)).map (·.head))

/-- The frames of a course on a lane, without their payloads, with the ends of their transmission (R241). -/
def State.lanePlan (s : State) (f : Nat) (tf t8 : Int) (l : Nat) : List FrameTx :=
  let start := s.pressAt15 ((s.lane l).tx.slot s.line15 2)
  (s.laneHeads l).zipIdx.map (fun p =>
    { course := f, head := p.1, fire := (barTime tf t8 (s.phi f (p.1 / 60))).toNat, period := ((tf - t8) / 8).toNat
      wave := s.coping.wave.get p.1 % 16, endAt := start + 9424 * (p.2 + 1) })

/-- Every frame of a list ends at least 6 µs before its fire time. -/
def leadOk (l : List FrameTx) : Bool := l.all (fun x => x.endAt + 90000 ≤ 15 * x.fire)

/-- The first unserved reason of a course (R241, R355). -/
def State.unserved (s : State) (f : Nat) (plans : List (Nat × List FrameTx)) : Option Nat :=
  match s.buf (f / 256) with
  | none => some 1
  | some b =>
    if !b.done0 || !(s.neighbourLift 0 (f / 256)) then some 1
    else if !b.token || !(s.neighbourLift 1 (f / 256)) then some 2
    else if !(plans.all (fun p => leadOk p.2)) then some 3
    else if s.lintel.rc.lt (Frac.ofInt (drMinFire s.drive)) then some 4
    else none

/-- A rejected sheet's courses carry all-zero payloads (R269). -/
def State.rejectedAt (s : State) (j : Job) (y : Nat) : Bool :=
  s.sheets && s.lintel.rejected.contains (j.key, j.start.getD 0, y / max 1 (bgSheetPitch (s.sec SecId.barGeometry)))

/-- The level of a column at a firing course: the neighbour's where the neighbour owns the column, else the module's own
(R352, R355). -/
def State.levelAt (s : State) (bar f x own : Nat) : Nat :=
  let got (side i : Nat) : Nat := ((s.butt.seam.find? (fun p => p.1 == side && p.2.1 == f)).bind (fun p => p.2.2[16 * bar + i]?)).getD 0
  if s.neighbour 0 ∧ x < 16 then got 0 x
  else if s.neighbour 1 ∧ westCol + 16 ≤ x then got 1 (x - (westCol + 16))
  else own

/-- The states of a neighbour's overlap nozzles at a lift, all DISABLED before any copy has arrived; none where no member joins
(R355). -/
def State.copiedStates (s : State) (side bar lift : Nat) : Option SMap :=
  if s.neighbour side then some (((s.seamCopy side bar lift).map (·.states)).getD ⟨3, []⟩) else none

/-- What Pointing builds for a head at a firing course; nothing where no drops are fired (R182, R190, R194). -/
def State.headOut (s : State) (f g : Nat) : Option HeadOut :=
  let b := g / 60
  match s.jobAt f b with
  | none => none
  | some (j, y) =>
    if !(j.mask.getLsbD b) || s.rejectedAt j y then none
    else match s.buf (f / 256) with
      | none => none
      | some lb =>
        (lb.rows.find? (fun r => r.ch == b && r.course == f)).map (fun r =>
          let lv := r.levels.toArray
          buildHead { bar := b, sec := s.secAt f SecId.pointing, states := (s.statesFor (f / 256)).getD b ⟨0, []⟩
                      inst := fun h => s.installed (60 * b + h), f := f, y := y, xOff := s.colOffset
                      level := fun x => s.levelAt b f x (lv.getD x 0), cols := j.onModule
                      east := s.copiedStates 0 b (f / 256), west := s.copiedStates 1 b (f / 256) } (g % 60) 2048)

/-- Adds to the quanta counters of a head (R192, R201). -/
def State.countQuanta (g : Nat) (o : HeadOut) (s : State) : State :=
  let up (m : SMap) (n : Nat) : SMap := if n = 0 then m else m.upd g (fun v => (v + n) % 2 ^ 64)
  { s with point := { s.point with
      sameCol := up s.point.sameCol o.sameCol, otherHead := up s.point.otherHead o.otherHead
      neighbour := up s.point.neighbour o.neighbour, lost := up s.point.lost o.lost
      lostSince := if o.lost = 0 then s.point.lostSince else s.point.lostSince.upd g (· + o.lost) } }

/-- Queues one frame on its lane (R276, R283 to R285). -/
def State.sendFrame (l : Nat) (x : FrameTx) (s : State) : State :=
  let lane := s.lane l
  let h := frameHeader x.fire x.head x.course x.wave lane.port (s.lease lane.nodeId).epoch
  s.modLane l (fun y => { y with tx := y.tx.add {
    prio := 2, kind := 0x01, data := frameBlocks h (framePayload x.payload) x.period, due := s.line15
    head := x.head, course := x.course } })

/-- The codes left in a frame of the courses that a takeover masks: no code of a pair whose carrier lies at or before the
last course that may have fired (R342). -/
def State.masked (s : State) (f g : Nat) (codes : List (Nat × Nat)) : List (Nat × Nat) :=
  match s.butt.mask with
  | none => codes
  | some (rc, fm) =>
    if f < rc ∨ fm < f then codes
    else
      let gone (pair : Nat) : Bool := f + ndStagger (s.sec SecId.ndeig) g (firingRow pair f) / 256 ≤ fm
      codes.filter (fun p => !(gone (if p.1 < 2048 then 1 else 2)))

/-- Builds and counts the frames of one lane, and keeps them until their fire times pass. The frames of Wythe 0 are sent; those of Wythe
1 wait for the course record (R27). -/
def State.sendPlan (f : Nat) (p : Nat × List FrameTx) (s : State) : State :=
  let l := p.1
  let s := s.modLane l (fun y => { y with frames := y.frames.filter (fun q => s.now ≤ q.fire) })
  let s := p.2.foldl (fun s x =>
    let o : Option HeadOut := s.headOut f x.head
    let x := { x with payload := s.masked f x.head ((o.map HeadOut.codes).getD []), sent := laneWythe l == 0 }
    let s := match o with
      | some o => s.countQuanta x.head o
      | none => s
    (if x.sent then s.sendFrame l x else s).modLane l (fun y => { y with frames := y.frames ++ [x] })) s
  s

/-- Wythe 1 fires its heads from a course record: the frames that waited for it go out with its fire time, and none in REST or FAULT
(R27, R298). -/
def State.fireRecord (f : Nat) (tf t8 : Int) (s : State) : State :=
  if s.inRest then s else
  ((List.range 80).filter (fun l => laneWythe l == 1)).foldl (fun s l =>
    let re (x : FrameTx) : FrameTx :=
      { x with sent := true, fire := (barTime tf t8 (s.phi f (x.head / 60))).toNat, period := ((tf - t8) / 8).toNat }
    let mine (x : FrameTx) : Bool := x.course == f && !x.sent
    let due := (s.lane l).frames.filter mine
    let s := s.modLane l (fun y => { y with frames := y.frames.map (fun x => if mine x then re x else x) })
    due.foldl (fun s x => s.sendFrame l (re x)) s) s

/-- Quanta of a course for the heads that no lane carries, which place none, are counted too (R184, R192). -/
def State.countOthers (f : Nat) (s : State) : State :=
  (s.bars.flatMap (fun b => (List.range 60).map (60 * b + ·))).foldl (fun s g =>
    if s.point.bonds.any (·.head == g) then s
    else match s.headOut f g with
      | some o => s.countQuanta g o
      | none => s) s

/-- The lanes that carry heads, with a course's frames. -/
def State.plans (s : State) (f : Nat) (tf t8 : Int) : List (Nat × List FrameTx) :=
  ((List.range 80).filter s.bonded).map (fun l => (l, s.lanePlan f tf t8 l))

/-! ## The mirror, as the ACTIVE sends it (R333; log entry 35) -/

/-- The bytes of a list of 16-bit values. -/
def bytes16 (l : List Int) : List Nat := l.flatMap (fun v => leBytes 2 (wrapInt 16 v))

/-- The items of an epoch that are not screening rows; the freeze mask and the target changes are those of the instant at which its lift
began to fire (R333; log entry 136). -/
def State.epochItems (s : State) (lift : Nat) : List (Nat × List Nat) :=
  let c := 256 * lift
  [(2, leBytes 8 c ++ leBytes 16 (wrapInt 128 (s.xAt c)) ++ leBytes 8 ((assoc c s.lintel.base).getD 0)),
   (3, (List.range 12).flatMap (fun b => leBytes 2 (wrapInt 16 (s.quoin.trim.getD b 0)) ++
      leBytes 2 (wrapInt 16 (s.quoin.target.getD b 0)) ++ leBytes 4 0 ++
      leBytes 8 ((s.quoin.settle.getD b none).getD (2 ^ 64 - 1)))),
   (4, leBytes 2 s.tone.stepMask.toNat ++ List.replicate 14 0 ++ (List.range 12).flatMap (fun b =>
      leBytes 4 (crc32c ((List.range barNozzles).map (s.codesFor lift b).get))) ++
      (s.butt.densChg.filter (fun p => p.1 ≤ lift + 1)).flatMap (fun p => leBytes 3 p.2.1 ++ [p.2.2])),
   (5, s.butt.nozChg.flatMap (fun p => leBytes 3 p.1 ++ [p.2])),
   (6, s.started.flatMap (fun j => [1, j.id] ++ leBytes 8 (j.start.getD (2 ^ 64 - 1))) ++
      (s.jobs.opened.filter (fun j => 3 ≤ j.state)).flatMap (fun j => [2, j.id]) ++
      (s.acts.done.take 128).flatMap (fun p => 3 :: leBytes 4 p.1))]

/-- The lift-entry rows of an epoch as bytes, for columns `a` to `b - 1`. -/
def State.entryBytes (s : State) (lift a b : Nat) : List Nat :=
  (List.range 12).flatMap (fun ch =>
    let r := s.startRow lift ch
    bytes16 (((r ++ List.replicate (moduleCols - r.length) 0).drop a).take (b - a)))

/-- MIRROR units of one item: 1,024 bytes each. -/
def mirrorUnits (lift item : Nat) : Nat → Nat → List Nat → List (List Int)
  | 0, _, _ => []
  | n + 1, off, bytes =>
    if bytes.isEmpty then [] else
      ([lift, item, off] ++ bytes.take 1024).map Int.ofNat :: mirrorUnits lift item n (off + 1024) (bytes.drop 1024)

/-- The mirror state of the wythe without the pair port crosses the Tie: its half of the lift-entry rows, and from Wythe 0 the other
items (R20, R29, R333). -/
def State.pairCross (lift : Nat) (s : State) : State :=
  let units (p : Nat × List Nat) : List (List Int) := mirrorUnits lift p.1 4096 0 p.2
  if s.pairSide = 0 then s.tieSendAll 1 tiePair (units (1, s.entryBytes lift 60496 moduleCols))
  else s.tieSendAll 0 tiePair (((1, s.entryBytes lift 0 60496) :: s.epochItems lift).flatMap units)

/-- The ACTIVE sends the MIRROR units of an epoch while its lift fires (R333; log entry 122). -/
def State.sendMirror (lift : Nat) (s : State) : State :=
  let s := s.pairCross lift
  let items := (1, s.entryBytes lift 0 moduleCols) :: s.epochItems lift
  let units := items.flatMap (fun p => mirrorUnits lift p.1 4096 0 p.2)
  let s : State := units.foldl (fun (s : State) u => s.buttSend (.butt s.pairSide 0x21 u)) s
  { s with butt := { s.butt with
      densChg := s.butt.densChg.filter (fun p => lift + 1 < p.1), nozChg := [], mirrored := some (lift, units.length, crc32c (items.flatMap Prod.snd)) } }

/-- The ACTIVE ends an epoch once the last course of its lift has been released: EPOCH_END with the number of its MIRROR units and
their CRC (R328, R333, R337). -/
def State.sendEpoch (lift : Nat) (s : State) : State :=
  match s.butt.mirrored with
  | none => s
  | some (l, n, crc) =>
    if l ≠ lift then s else
      let s : State := s.buttSend (.butt s.pairSide 0x22 [(lift : Int), (n : Int), (crc : Int)])
      let s : State := { s with butt := { s.butt with epoch := some lift } }
      if s.pairUp ∧ s.butt.partnerRole = .standby ∧ s.butt.synced then s.setMirror true 0 else s

/-- A hold of the gang: trigger GANG with its reason; reasons 4 and 5 end the started jobs at rest (R356, R359). -/
def State.gangHold (reason : Nat) (own : Option Nat) (s : State) : State :=
  let s := if s.ident.opState = .printing ∨ (s.ident.opState = .holding ∧ !(s.joined 7))
    then s.trigger 7 own reason else s
  if 4 ≤ reason then s.modHold (fun h => { h with aborting := true }) else s

/-- A divergence of the gang: record, and the count of good offsets starts anew (R358). -/
def State.diverge (reason member : Nat) (ns : Int) (s : State) : State :=
  let s := s.buttRecord 0x1509 0 [reason, member, ns]
  ({ s with butt := { s.butt with divergeOk := 0 } }).gangHold reason none

/-- A member's own base fire time of a lift's first course against the one that member 0 has announced (R358). -/
def State.fireCompare (f own : Nat) (s : State) : State :=
  match assoc f s.butt.fires with
  | none => s
  | some t =>
    let s := { s with butt := { s.butt with fires := s.butt.fires.filter (f < ·.1) } }
    if s.butt.gang ∧ 100 < ((own : Int) - t).natAbs then s.diverge 2 s.butt.member ((own : Int) - t) else s

/-- The record of a course goes to Wythe 1: its number, its fire time and the flag word (R27). -/
def State.sendRecord (f : Nat) (tf : Int) (s : State) : State :=
  s.tieSend 0 tieSync [0, f, tf % 4294967296, (Config.courseFlags f % 4294967296 : Nat)]

/-- A course is released: the frames of Wythe 0 go out, and the course record to Wythe 1, which takes no base time from before the release
run (R27, R239, R240). -/
def State.releaseCourse (f : Nat) (tf t8 : Int) (plans : List (Nat × List FrameTx)) (s : State) : State :=
  let s := (plans.foldl (fun s p => s.sendPlan f p) s).countOthers f
  let s := s.modLintel (fun x => { x with
    recBase := if x.runFrom.isNone then [] else x.recBase
    next := f + 1, lastFired := some f, lastRate := x.rc, runFrom := some (x.runFrom.getD f), base := ((f, tf.toNat) :: x.base).take 2200
    queue := x.queue ++ [{ course := f, fire := tf.toNat, period8 := (tf - t8).toNat }] })
  let s := { s with jobs := { s.jobs with opened := s.jobs.opened.map (fun j =>
    match s.firstCourse j with
    | some a => if a ≤ f && (s.jobEnd j).all (f ≤ ·) && s.jobs.order.contains j.id then { j with lastReleased := some f } else j
    | none => j) } }
  let s := s.sendRecord f tf
  let s := if f % 256 ≠ 0 then s else if s.butt.gang ∧ s.butt.member = 0 then s.gangSay [6, f, tf] else s.fireCompare f tf.toNat
  if s.hasSec SecId.pair && s.butt.role == .active then
    let s := ({ s with butt := { s.butt with progress := some f } }).buttSend (.butt s.pairSide 0x23 [f, tf % 4294967296])
    if f % 256 = 254 then s.sendMirror (f / 256) else if f % 256 = 255 then s.sendEpoch (f / 256) else s
  else s

/-! ## Courses passed over in READY (R241) -/

/-- The record of courses passed over, at most once per second. -/
def State.passReport (s : State) : State :=
  match s.lintel.passed with
  | none => s
  | some (a, b, r) =>
    if s.lintel.passRep.all (· + 1000000000 ≤ s.clock.up) then
      (s.modLintel (fun x => { x with passed := none, passRep := some s.clock.up })).emit (srcLintel 0) 0x120C 0 [a, b, r]
    else s

/-- A course is passed over in READY: its record goes to Wythe 1, which has no frame to fire from it (R27, R241; log entry 119); a job that
began there moves to the next lift boundary, as if JOB.START had named it, the jobs behind it follow, and the lifts that they now take
part in are screened again (R241, R74). -/
def State.passOver (f r : Nat) (tf : Int) (s : State) : State :=
  let s := s.sendRecord f tf
  let moved (j : Job) : Bool := s.jobs.order.contains j.id && s.firstCourse j == some f
  let late := s.jobs.opened.filter moved
  let ids := late.map (·.id)
  let lifts := late.map (fun j => j.start.getD 0 / 256 + 1)
  let next (j : Job) : Option Nat := j.start.map (fun x => 256 * (x / 256 + 1))
  let s := { s with jobs := { s.jobs with opened := s.jobs.opened.map (fun j =>
    if moved j then { j with start := next j, boundary := next j } else j) } }
  let s := if ids.isEmpty then s else
    (s.modMortar (fun m => { m with bufs := m.bufs.filter (fun b =>
      lifts.all (b.lift < ·) && b.rows.all (fun r => !(ids.contains r.job))) })).refixStarts
  s.modLintel (fun x => { x with
    next := f + 1
    passed := match x.passed with
      | none => some (f, f, r)
      | some (a, _, r0) => some (a, f, r0) })

/-! ## Sheets (R269, R270) -/

/-- Sheets that some installed bar would carry on a firing course of `lo` to `hi - 1` are rejected, each with its record. -/
def State.rejectSheets (lo hi : Nat) (s : State) : State :=
  let sp := max 1 (bgSheetPitch (s.sec SecId.barGeometry))
  let found := s.started.flatMap (fun j => match j.start with
    | none => []
    | some st => s.bars.flatMap (fun b =>
        let i := st + barI (bdDelay (s.sec SecId.barDelay) b)
        (List.range (hi - lo)).filterMap (fun k =>
          let f := lo + k
          if i ≤ f ∧ j.courses.all (f - i < ·) ∧ j.endLift.all (fun l => f < 256 * l) ∧ j.cut.all (f < ·) then some (j.id, j.key, st, (f - i) / sp) else none)))
  found.foldl (fun s p =>
    if s.lintel.rejected.contains p.2 then s
    else (s.modLintel (fun x => { x with rejected := x.rejected ++ [p.2], sheets := x.sheets + 1 })).emit (srcLintel 0) 0x120A 0
      [p.1, p.2.2.2]) s

/-- Whether the position source has reached, or is predicted to have reached, a position (R258). -/
def State.passedNow (s : State) (z : Int) : Bool :=
  z ≤ fix32 s.posEnc.hwm || (match s.tPred z with
    | some t => t ≤ s.now
    | none => false)

/-- Whether a rejected sheet stands at the gate (R270). -/
def State.rejectLevel (s : State) : Bool :=
  let geo := s.sec SecId.barGeometry
  s.sheets && s.lintel.rejected.any (fun p =>
    let at_ (k : Nat) : Bool := s.passedNow (s.xAt ((p.2.1 + k * bgSheetPitch geo + bgRejectDist geo : Nat) : Int))
    at_ p.2.2 && !(at_ (p.2.2 + 1)))

/-! ## COURSE_RELEASE (R239 to R242, R262, R266, R269) -/

/-- No head has six released frames whose fire time has not passed (R242). -/
def State.framesOpen (s : State) : Bool :=
  (List.range 80).all (fun l => (s.lane l).frames.all (fun x =>
    ((s.lane l).frames.filter (fun y => y.head == x.head && s.now ≤ y.fire)).length < 6))

/-- A course judged at its release: base times, frames, and the first reason why it is unserved. -/
structure Judged where
  s      : State
  tf     : Int
  t8     : Int
  plans  : List (Nat × List FrameTx)
  reason : Option Nat

/-- Judges a course whose release falls due. -/
def State.judge (s : State) (f : Nat) : Option Judged :=
  match s.tPred (s.xAt f) with
  | none => none
  | some tf =>
    let s := s.stepTrims f
    let t8 := (s.tBack f).getD tf
    let plans := s.plans f tf t8
    some { s := s, tf := tf, t8 := t8, plans := plans, reason := s.unserved f plans }

/-- The tests of R266 on speed: settled at v_r, and within tolerance for 8 cycles. -/
def State.settled (s : State) : Bool :=
  s.lintel.hold.settleAt.any (fun t => t + 1000000 * drSettle s.drive ≤ s.now) && 8 ≤ s.lintel.tolRun

/-- A resume reaches its first course: PRINTING again, with the record of R272 (R268). -/
def State.resumed (f : Nat) (s : State) : State :=
  let n := s.lintel.hold.retries + 1
  let s := s.modHold (fun h => { h with phase := .none, stop := none, rc := none, bTarget := none, sheetR := none })
  let s := s.modLintel (fun x => { x with rejectTo := none })
  (s.emit (srcLintel 0) 0x1204 0 [f, s.lintel.rc.floor, n]).enter .printing

/-- Every member of a gang has announced SETTLED (R357). -/
def State.allSettled (s : State) : Bool :=
  !s.butt.gang || (List.range ((s.sec SecId.gang).fld 0 2 3)).all s.butt.settled.contains

/-- Release falls due in RESUMING on a web: RC, or a failed attempt (R266). -/
def State.resumeWeb (f : Nat) (s : State) : State :=
  match s.judge f with
  | none => s
  | some j =>
    if s.settled && s.allSettled && j.reason.isNone then (j.s.releaseCourse f j.tf j.t8 j.plans).resumed f else s.resumeFailed

/-- An attempt fails on sheets: R becomes the next lift boundary and the sheets between are rejected (R269, R270). -/
def State.retrySheet (r : Nat) (s : State) : State :=
  let s := (s.modHold (fun h => { h with retries := h.retries + 1, sheetR := some (r + 256) })).rejectSheets r (r + 256)
  let s := s.modLintel (fun x => { x with rejectTo := some (r + 256) })
  if drRetries s.drive ≤ s.lintel.hold.retries then s.cause 21 0 else s

/-- Another member of the gang fails the attempt (R357); outside RESUMING it is a stop as any other (R356). -/
def State.gangRetry (s : State) : State :=
  if s.ident.opState ≠ .holding ∨ s.lintel.hold.phase ≠ .resuming then s.gangHold 0 none
  else match s.lintel.hold.sheetR with
    | some r => s.retrySheet r
    | none => s.retryHold

/-- Release of R falls due in RESUMING on sheets (R269). -/
def State.resumeSheet (r : Nat) (s : State) : State :=
  match s.judge r with
  | none => s
  | some j =>
    if s.settled && s.allSettled && j.reason.isNone then
      ((j.s.modLintel (fun x => { x with recPrev := none })).releaseCourse r j.tf j.t8 j.plans).resumed r
    else (s.retrySheet r).gangSay [12]

/-- Whether a pending swap may run in the present state: NOW or AT_READY in READY, or NOW in REST, and HOLD in BACKED (R345). -/
def State.swapPlace (s : State) (mode : Nat) : Bool :=
  if mode = 2 then s.ident.opState == .holding && s.lintel.hold.phase == .backed
  else s.ident.opState == .ready || (mode == 0 && s.ident.opState == .rest)

/-- A swap runs: the ACTIVE releases no further course (R346). -/
def State.swapping (s : State) : Bool := s.butt.swapOff.isSome || s.butt.swapPend.any (fun p => s.swapPlace p.1)

/-- On a standby a course falls due on the grid: it counts the course and sends nothing (R331). -/
def State.standbyCourse (s : State) : State :=
  let f := s.lintel.next
  if !s.armed ∨ !(s.releaseDue (s.xAt f)) then s
  else match s.tPred (s.xAt f) with
    | none => s
    | some tf => s.modLintel (fun x => { x with
        next := f + 1, runFrom := some (x.runFrom.getD f), base := ((f, tf.toNat) :: x.base).take 2200 })

/-- The ACTIVE of a pair releases a course only once every frame of the course before it has ended on every lane (R328). -/
def State.stillSending (s : State) : Bool :=
  s.butt.role == .active && (List.range 80).any (fun l => (s.lane l).frames.any (fun y => y.course + 1 == s.lintel.next && 15 * s.now < y.endAt))

/-- What the release of the next course does (R239). -/
def State.releaseNext (s : State) : State :=
  if s.butt.role = .standby then s.standbyCourse
  else if !s.framesOpen ∨ s.swapping ∨ s.stillSending then s else
    let f := s.lintel.next
    let due := s.releaseDue (s.xAt f)
    let h := s.lintel.hold
    match s.ident.opState with
    | .ready =>
      if !due then s.passReport else
        match s.judge f with
        | none => s
        | some j => match j.reason with
          | none => (j.s.releaseCourse f j.tf j.t8 j.plans).passReport
          | some r => s.passOver f r j.tf
    | .printing =>
      if !due then s else
        match s.judge f with
        | none => s
        | some j => match j.reason with
          | none => j.s.releaseCourse f j.tf j.t8 j.plans
          | some r => s.trigger 4 (some f) r
    | .holding =>
      match h.phase with
      | .stopping =>
        if h.ended ∨ !due then s
        else if h.stop.all (· ≤ f) then s.endRelease
        else match s.judge f with
          | none => s
          | some j => match j.reason with
            | none => (j.s.releaseCourse f j.tf j.t8 j.plans).endRelease
            | some r => s.trigger 4 (some f) r
      | .resuming =>
        if s.sheets then
          (match h.sheetR with
           | none => s
           | some r => if s.releaseDue (s.xAt r) then s.resumeSheet r else s)
        else if due then s.resumeWeb f else s
      | _ => s
    | _ => s

/-- A pending lift commit whose token has not reached Wythe 1 by course 256 × L − 128 ends: both wythes keep the old set, and what has
been screened of its lift is screened again under it (R31, R68). -/
def State.tokenDeadline (s : State) : State :=
  match s.cfg.pend with
  | none => s
  | some p =>
    if p.token ∨ s.lintel.next + 128 ≤ 256 * p.lift + 1 then s
    else (s.modMortar (fun m => { m with bufs := m.bufs.filter (fun b => b.lift < p.lift) })).endPend Res.late 0x0303

/-- The release of the next course (R239), which closes the time of a commit token (R31). -/
def State.courseRelease (s : State) : State := s.releaseNext.tokenDeadline

/-! ## COURSE_FIRE (R66, R74, R80) -/

/-- PRINTING or HOLDING ends in READY: a pending commit applies, then every nozzle change (R68, R80, R198, R199); release begins a
new run with the first course neither reached nor released (R238, R240). -/
def State.toReady (s : State) : State :=
  let s := s.modHold (fun h => { h with
    phase := .none, stop := none, rc := none, bTarget := none, sheetR := none, hwmStop := none, aborting := false })
  let n := max s.lintel.next s.unreached
  let s := s.modLintel (fun x => { x with
    next := n, runFrom := none, atSpeed := false, recPrev := if n = x.next then x.recPrev else none })
  ((s.enter .ready).forceStep.completePend none).applyAllNoz

/-- Started jobs whose last course has been fired end, and their sustainable speeds count no longer (R72, R74). -/
def State.endFired (c : Nat) (s : State) : State :=
  let ended (j : Job) : Bool := s.jobs.order.contains j.id && (s.jobEnd j).any (· ≤ c)
  if !(s.jobs.opened.any ended) then s
  else State.updateCeil { s with jobs := { s.jobs with
      order := s.jobs.order.filter (fun id => !((s.job id).any ended))
      opened := s.jobs.opened.map (fun j => if ended j then { j with state := if j.endLift.isSome then 4 else 3 } else j) } }

/-- A pending commit completes when a course at or beyond the first of its lift is fired, if its token came in time
and, in a pair or gang, the other modules acknowledged it in time (R31, R66, R332, R354). -/
def State.commitFired (c : Nat) (s : State) : State :=
  match s.cfg.pend with
  | none => s
  | some p =>
    if c < 256 * p.lift then s
    else if p.token ∧ !(s.butt.fwd.any (fun x => x.keep && x.ch == p.chan && x.slot == p.slot)) then
      (s.completePend (some p.lift)).applyNozTo (c / 256)
    else (s.endPend Res.late 0x0303).applyNozTo (c / 256)

/-- Jobs whose first course has been fired print; the module enters PRINTING (R74, R80). -/
def State.startFired (c : Nat) (s : State) : State :=
  let starts (j : Job) : Bool := s.jobs.order.contains j.id && j.state == 1 && (s.firstCourse j).any (· ≤ c)
  let any := s.jobs.opened.any starts
  let s := { s with jobs := { s.jobs with opened := s.jobs.opened.map (fun j => if starts j then { j with state := 2 } else j) } }
  let s := if any then { s with tone := { s.tone with noted := [] }, quoin := { s.quoin with noted := [] } } else s
  if any ∧ s.ident.opState = .ready then
    -- a commit that changes an idle section ends (R68)
    let s := match s.cfg.pend with
      | some p => if p.idle then s.endPend Res.badState 5 else s
      | none => s
    s.enter .printing
  else s

/-- A released course reaches its fire time. -/
def State.courseFire (s : State) : State :=
  match s.lintel.queue with
  | [] => s
  | r :: rest =>
    if s.now < r.fire ∨ !s.armed then s else
      let s := s.modLintel (fun x => { x with queue := rest })
      let s := ((s.settleRows (r.course / 256)).commitFired r.course)
      let s := (s.startFired r.course).endFired r.course
      if s.ident.opState = .printing ∧ s.jobs.order.isEmpty then s.toReady else s

/-! ## LIFT_BOUNDARY (R22, R28, R131, R148, R259, R260) -/

/-- The lift that starts firing at a lift boundary: that of the next course to be released, which is the boundary course
itself where the row comes at the boundary. -/
def State.startingLift (s : State) : Nat := s.lintel.next / 256

/-- A job joins the queue at a start boundary (R74). -/
def State.enqueue (j : Job) (boundary : Nat) (s : State) : State :=
  ({ s with jobs := { s.jobs with order := s.jobs.order ++ [j.id] } }).setJob
    { j with state := 1, boundary := some boundary, start := none }

/-- The lift that begins at the lift boundary at or after a course action (R77). -/
def Act.boundaryLift (a : Act) : Nat := (a.moment + (if a.frac = 0 then 0 else 1) + 255) / 256

/-- A JOB_START action whose lift boundary comes within two lifts queues its job ahead, while R65 still accepts that lift, so that the
lift is screened with it (R77, R75; log entry 99). -/
def State.anticipate (s : State) : State :=
  s.acts.pend.foldl (fun s a =>
    if a.code ≠ 7 ∨ a.byTime ∨ a.late ∨ a.queued ∨ s.presentLift + 2 < a.boundaryLift ∨ !(s.liftOpen a.boundaryLift) then s
    else match s.job a.arg with
      | none => s
      | some j =>
        if j.state ≠ 0 then s
        else
          let s := { s with acts := { s.acts with pend := s.acts.pend.map (fun (b : Act) => if b.id = a.id then { b with queued := true } else b) } }
          (s.enqueue j (256 * a.boundaryLift)).fixStarts.updateCeil) s

/-- A JOB_START action is withdrawn: a job queued ahead of it leaves the queue again (R79). -/
def State.unqueue (a : Act) (s : State) : State :=
  match s.job a.arg with
  | none => s
  | some j =>
    if !a.queued ∨ j.state ≠ 1 then s
    else
      let s := { s with jobs := { s.jobs with order := s.jobs.order.filter (· != j.id) } }
      (s.setJob { j with state := 0, start := none, boundary := none }).refixStarts.updateCeil

/-- One action runs, late or not, with its record (R77 to R79). A JOB_START whose job is not open, or is not in STATE 0, starts
nothing (log entry 99). -/
def State.runAction (late : Bool) (a : Act) (s : State) : State :=
  let w := field a.arg 8 24 * 1000
  let s := match a.code with
    | 2 => { s with plumb := { s.plumb with gpOut := true } }
    | 3 => { s with plumb := { s.plumb with gpOut := false } }
    | 4 => { s with acts := { s.acts with pulses := s.acts.pulses ++ [(15, s.clock.up + w)] } }
    | 5 => ({ s with acts := { s.acts with pulses := s.acts.pulses ++ [(16 + a.arg % 4, s.clock.up + w)] } }).send (s.camPin (a.arg % 4) true)
    | 6 => { s with acts := { s.acts with pulses := s.acts.pulses ++ [(14, s.clock.up + field a.arg 8 24 * 1000)] } }
    | 7 => match s.job a.arg with
      | some j =>
        if j.state = 0 ∧ !a.queued then
          (s.enqueue j (max (256 * s.earliestLift) (if a.byTime then 0 else 256 * a.boundaryLift))).fixStarts.updateCeil
        else s
      | none => s
    | _ => s
  let s := { s with acts := { s.acts with
    pend := s.acts.pend.filter (·.id != a.id), done := ((a.id, s.now) :: s.acts.done).take 1024 } }
  s.emit (srcLintel 0) 0x0501 a.arg (a.data late)

/-- Actions accepted late under AT_ONCE run at the lift boundary (R78). -/
def State.lateActions (s : State) : State :=
  (s.acts.pend.filter (·.late)).foldl (fun s a => s.runAction true a) s

/-- The overspeed test on r_lift, in the cycle after HWM has reached the first course of a lift (R259). -/
def State.liftSpeed (s : State) : State :=
  if !(s.lintel.liftAt.any (fun p => s.now ≤ p.2 + 125000)) || !(Frac.lt (Frac.mk' (103 * s.crl) 100) s.lintel.rLift) then s
  else match s.ident.opState with
    | .printing => s.trigger 3 none 0
    | .holding => if s.joined 3 then s else s.trigger 3 none 0
    | _ => s

/-- The own nozzles of a bar in the overlap on a side, for the courses of a lift: states, then codes (R352, R355). -/
def State.ownCopy (s : State) (side bar lift : Nat) : List Nat :=
  let head := if side = 0 then 0 else 59
  let at_ (i : Nat) : Nat := nozIdx head (i / 32) (if side = 0 then i % 32 else 2016 + i % 32)
  let states := (s.statesFor lift).getD bar ⟨0, []⟩
  (List.range 128).map (fun i => if s.installed (60 * bar + head) then states.get (at_ i) else 3) ++
    (List.range 128).map (fun i => (s.codesFor lift bar).get (at_ i))

/-- The copy held of a neighbour's overlap nozzles of a bar for a lift, in the same order (R355). -/
def State.heldCopy (s : State) (side bar lift : Nat) : List Nat :=
  match s.seamCopy side bar lift with
  | some c => (List.range 128).map c.states.get ++ (List.range 128).map c.codes.get
  | none => []

/-- In a gang the neighbours receive the CRC-32C of the copies in use at the lift that begins, and the copies for the next one
(R355). -/
def State.sendCopies (lift : Nat) (s : State) : State :=
  [0, 1].foldl (fun s side =>
    if s.neighbour side then
      let crc := crc32c ((List.range 12).flatMap (fun b => s.heldCopy side b lift))
      let s := s.buttSend (.butt side 0x28 [(256 * lift : Nat), (crc : Int)])
      (List.range 12).foldl (fun s b => s.buttSend (.butt side 0x28 ((256 * (lift + 1) :: b :: s.ownCopy side b (lift + 1)).map Int.ofNat))) s
    else s) s

/-- The values of the overlap nozzles at the seam, `n` of H29 and `n` of H30 in each row of each bar, from their tables (R147, R193). -/
def seamValues (n : Nat) (h29 h30 : List SMap) : List Nat :=
  (List.range 12).flatMap (fun b => (List.range 4).flatMap (fun r => (List.range n).flatMap (fun i =>
    [(h29.getD b ⟨0, []⟩).get (nozIdx 29 r (2048 - n + i)), (h30.getD b ⟨0, []⟩).get (nozIdx 30 r i)])))

/-- The density codes and the nozzle states that a wythe uses at the seam: its own, and its copies of the other wythe's (R149, R193). -/
def State.seamUsed (s : State) (w : Nat) : List Nat × List Nat :=
  let t := s.tone
  let p := s.point
  if w = 0 then (seamValues 16 t.active t.seam0.active, seamValues 32 p.states p.seam0)
  else (seamValues 16 t.seam1.active t.active, seamValues 32 p.seam1 p.states)

/-- A fault of the hardware has changed an entry of a wythe's copies. -/
def State.upset (u : SeamUpset) (s : State) : State :=
  let put (l : List SMap) : List SMap := modAt l u.bar (fun m => m.set u.idx u.value)
  if u.states then
    { s with point := if u.w = 0 then { s.point with seam0 := put s.point.seam0 } else { s.point with seam1 := put s.point.seam1 } }
  else s.modTone (fun t => t.modSeams (fun w x => if w = u.w then { x with active := put x.active } else x))

/-- The Keystones exchange the CRC-32C of the density codes and of the nozzle states that they use at the seam; a difference stops the
module (R149, R193, R316). -/
def State.seamExchange (s : State) : State :=
  let a := s.seamUsed 0
  let b := s.seamUsed 1
  let s := (s.tieSend 0 tieKmsg [2, crc32c a.1, crc32c a.2]).tieSend 1 tieKmsg [2, crc32c b.1, crc32c b.2]
  let bad := (if crc32c a.1 = crc32c b.1 then [] else [(17, 1)]) ++ (if crc32c a.2 = crc32c b.2 then [] else [(17, 2)])
  if bad.isEmpty then s else s.registerCauses bad

/-- Each wythe sends a status record in class CTRL: OP_STATE and the lift (R29; log entry 118). -/
def State.tieStatus (lift : Nat) (s : State) : State :=
  (s.tieSend 0 tieCtrl [3, s.ident.opState.code, lift]).tieSend 1 tieCtrl [3, s.ident.opState.code, lift]

/-- A lift starts firing; on a standby the densities and nozzle changes come with the epochs (R331, R334). `upsets` says which seam copies the hardware has spoilt since the last boundary (R22, R149, R171). -/
def State.liftBoundary (upsets : List SeamUpset) (s : State) : State :=
  if !s.armed then s else
    let l := s.startingLift
    let s := s.modMortar (fun m => { m with bufs := m.bufs.filter (fun b => l ≤ b.lift), rescreen := none })
    let s := if s.butt.role = .standby then s else ((s.anticipate.applyNozTo l).densBegin (l + 1)).assignBands (l + 1)
    let s := (s.bandsInForce.evalLift (l + 1)).forceStep.calBoundary
    let s := s.modCoping (fun x => { x with liftBegan := some s.clock.up })
    let s := (s.gangSay [4, s.butt.member, (lowest s.ownTerms).1]).sendCopies l
    let s := ((s.updateCeil).lateActions).starvation
    ((upsets.foldl (fun s u => s.upset u) s).tieStatus l).seamExchange

/-! ## The speed loop (R254 to R257, R259) -/

/-- The ramp moves toward the command, by `up` while its size rises and `down` while it falls; a reversal passes 0. -/
def rampStep (v cmd up down : Frac) : Frac :=
  let zero : Frac := {}
  if zero.lt v then
    (if v.le cmd then Frac.min cmd (v.add up) else Frac.max (Frac.max zero cmd) (v.sub down))
  else if v.lt zero then
    (if cmd.le v then Frac.max cmd (v.sub up) else Frac.min (Frac.min zero cmd) (v.add down))
  else if zero.lt cmd then Frac.min cmd up
  else Frac.max cmd up.neg

/-- A quantity limited to ± a bound. -/
def Frac.clip (x b : Frac) : Frac := Frac.max b.neg (Frac.min b x)

/-- The courses that the ramp's own steps of 125 µs cover from a speed down to 0 at DECEL, the first step taken at once, so
that the web comes to rest at or behind B (R254, R264). -/
def brakeDist (v : Frac) (decel : Nat) : Frac :=
  let d : Int := max 1 decel
  let n : Int := 8000 * v.n.natAbs / (v.d * d)
  Frac.mk' (16000 * n * v.n.natAbs - d * n * (n + 1) * v.d) (128000000 * v.d)

/-- v_cmd of the cycle; a resume does not go beyond a SPEED_CEIL that has fallen since it began (R72, R255, R256, R264, R268). -/
def State.speedCommand (s : State) : Frac :=
  let top := Frac.ofInt s.vTop
  match s.ident.opState with
  | .ready => if s.started.isEmpty && !(drIdleRun s.drive) then {} else top
  | .printing => top
  | .holding =>
    match s.lintel.hold.phase with
    | .resuming => Frac.ofInt (min s.lintel.hold.vr s.ident.speedCeil)
    | .reversing =>
      if s.lintel.vCmd.n = 0 ∨ !s.input 19 ∨ s.pc = 0 then {} else
        let left := Frac.mk' (fix32 s.posEnc.pos - s.lintel.hold.bTarget.getD 0) s.pc
        if left.le (brakeDist s.lintel.vRamp (drDecel s.drive)) then {} else Frac.ofInt (-(drBackup s.drive : Int))
    | _ => {}
  | _ => {}

/-- Overspeed is set at once; its clearing is counted (R259). -/
def State.overspeed (s : State) : State :=
  let rc := s.lintel.rc
  if Frac.lt (Frac.ofInt s.crl) rc then
    let was := s.lintel.clamp
    let s := s.modLintel (fun x => { x with lowRun := 0, clamp := true, overWarn := true })
    if was then s else (s.emit (srcLintel 0) 0x1206 0 [1, rc.floor]).raise 0 23
  else s.modLintel (fun x => { x with lowRun := if rc.le (Frac.mk' (99 * s.crl) 100) then x.lowRun + 1 else 0 })

/-- Steps 1 to 5 of R254; on a standby v_ramp is r_c and the outputs stay at 0 V (R331). -/
def State.loopCycle (s : State) : State :=
  let d := s.drive
  let pos := s.posEnc.pos
  let len := s.now - s.lintel.cycleAt
  let rc : Frac := if s.pc = 0 ∨ len = 0 then {} else Frac.mk' (fix32 (pos - s.lintel.cyclePos) * 1000000000) (s.pc * len)
  let still := decide (1000 * (rc.n.natAbs : Int) < s.crl * rc.d)
  let s := s.modLintel (fun x => { x with
    rc := rc, cyclePos := pos, cycleAt := s.now, restRun := if still then satInc 160 x.restRun else 0 })
  let s := s.overspeed
  let cmd := s.speedCommand
  let cmd := if cmd.n < 0 ∧ !s.input 19 then {} else cmd
  let old := s.lintel.vRamp
  let v := if s.butt.role = .standby then rc else if s.lintel.clamp then old else
    rampStep old cmd (Frac.mk' (drAccel d) 8000) (Frac.mk' (drDecel d) 8000)
  let err := v.sub rc
  let lim := Frac.ofInt (drTrimLimit d * 1000)
  let t := if drInvert d then s.lintel.aout1.neg else s.lintel.aout1
  let atLimit := if 0 < err.n then lim.le t else t.le lim.neg
  let lag := s.lintel.lag.add (err.div (Frac.ofInt 8000))
  let lag := if (s.lintel.clamp || atLimit) && s.lintel.lag.abs.lt lag.abs then s.lintel.lag else lag
  let lag := if cmd.n = 0 ∧ v.n = 0 ∧ 160 ≤ s.lintel.restRun then {} else lag
  let full := Frac.ofInt 10000000
  let ref := (full.mul v).div (Frac.ofInt (drRefFull d))
  let ref := if s.lintel.clamp then Frac.min ref ((full.mul (Frac.ofInt s.crl)).div (Frac.ofInt (drRefFull d))) else ref
  let trim := ((Frac.mul (Frac.ofInt (drKp d)) err).add (Frac.mul (Frac.ofInt (drKi d)) lag)).clip lim
  let sg (x : Frac) : Frac :=
    if s.butt.role = .standby then {} else let y := x.clip full; if drInvert d then y.neg else y
  s.modLintel (fun x => { x with
    vCmd := cmd, vRamp := v, accel := (v.sub old).mul (Frac.ofInt 8000), lag := lag, aout0 := sg ref, aout1 := sg trim })

/-- |r_c − v| ≤ RESUME_TOL × 0.1 % × v (R257, R266). -/
def State.inTol (s : State) (v : Frac) : Bool :=
  (s.lintel.rc.sub v).abs.le (v.abs.mul (Frac.mk' (drTol s.drive) 1000))

/-- What a cycle means for starts and resumes (R257, R266). -/
def State.cycleTests (s : State) : State :=
  let x := s.lintel
  if s.butt.role = .standby then s
  else match s.ident.opState with
  | .holding =>
    if x.hold.phase = .resuming then
      let vr := Frac.ofInt x.hold.vr
      let s := s.modLintel (fun x => { x with tolRun := if s.inTol vr then satInc 8 x.tolRun else 0 })
      let s := if x.vRamp = vr ∧ x.hold.settleAt.isNone then s.modHold (fun h => { h with settleAt := some s.now }) else s
      let s := if s.butt.gang ∧ s.settled ∧ s.resumeReady ∧ !(s.butt.settled.contains s.butt.member) then
        ({ s with butt := { s.butt with settled := s.butt.member :: s.butt.settled } }).gangSay [2, s.butt.member] else s
      if !s.sheets ∧ s.xAt s.lintel.next ≤ fix32 s.posEnc.pos then s.resumeFailed else s
    else s
  | .ready =>
    (s.modLintel (fun y => { y with
      atSpeed := 0 < x.vCmd.n && x.vRamp == x.vCmd && s.inTol x.vCmd && s.vTopOk })).fixStarts
  | .printing => (s.modLintel (fun x => { x with atSpeed := true })).fixStarts
  | _ => s

/-- One speed-loop cycle; in BOOT both outputs are held at 0 V (R255); a cycle that a step of press time has cut below 62.5 µs is
merged into the next (R371). -/
def State.speedCycle (s : State) : State :=
  if !s.mainOn ∨ s.now % 125000 ≠ 0 ∨ s.now < s.lintel.cycleAt + 62500 then s
  else if s.ident.opState = .boot then s.modLintel (fun x => { x with
    vCmd := {}, vRamp := {}, accel := {}, lag := {}, aout0 := {}, aout1 := {}, cyclePos := s.posEnc.pos, cycleAt := s.now })
  else s.loopCycle.cycleTests.liftSpeed.passReport

/-- Overspeed clears after 8 cycles at or below 0.99 × CRL (R259). -/
def State.overspeedClear (s : State) : State :=
  if s.lintel.clamp && 8 ≤ s.lintel.lowRun then
    (s.modLintel (fun x => { x with clamp := false, overWarn := false, lowRun := 0 })).emit (srcLintel 0) 0x1206 0
      [0, s.lintel.rc.floor]
  else s

/-! ## Hold phases (R264, R265, R268) -/

/-- The back-up to the target that the hold keeps is commanded, or waits for DRIVE_REVERSE_OK (R264, R268). -/
def State.reverse (s : State) : State :=
  if s.input 19 then
    (s.modHold (fun h => { h with phase := .reversing })).modLintel (fun x => { x with vCmd := Frac.ofInt (-(drBackup s.drive : Int)) })
  else (s.modHold (fun h => { h with phase := .reverseWait })).emit (srcLintel 0) 0x120B 0 [(s.lintel.hold.rc.getD s.lintel.next : Nat)]

/-- A back-up to the target of the present v_r (R264). -/
def State.beginReverse (s : State) : State :=
  (s.modHold (fun h => { h with bTarget := some s.backupTarget, vr := s.vTop })).reverse

/-- The course at a position, rounded down. -/
def State.courseOf (s : State) (y : Int) : Int := if s.pc = 0 then 0 else (s.lintel.n0 : Int) - 1 + (y - s.lintel.origin) / s.pc

/-- The web has come to rest (R268). -/
def State.atRest (s : State) : State :=
  if s.ident.opState ≠ .holding ∨ !s.webAtRest ∨ s.butt.role = .standby then s
  else
    let h := s.lintel.hold
    let s := if h.aborting then s.endJobs else s
    if s.started.isEmpty then
      (if h.phase = .stopping ∧ !h.ended then s.releaseOver else s).toReady
    else match h.phase with
      | .stopping =>
        let s := if h.ended then s else s.releaseOver
        if s.sheets then s.modHold (fun h => { h with phase := .waiting })
        else if h.bTarget.isSome then s.reverse else s.beginReverse
      | .reversing =>
        if s.behindB then
          (s.modHold (fun h => { h with phase := .backed })).emit (srcLintel 0) 0x1203 0
            [s.courseOf (h.bTarget.getD 0), s.courseOf (fix32 s.posEnc.pos)]
        else if s.input 19 then s.modLintel (fun x => { x with vCmd := Frac.ofInt (-(drBackup s.drive : Int)) })
        else s
      | _ => s

/-- DRIVE_REVERSE_OK has changed (R256, R268). -/
def State.reverseOkChanged (s : State) : State :=
  if s.ident.opState ≠ .holding ∨ s.butt.role = .standby then s else
    match s.lintel.hold.phase, s.input 19 with
    | .reverseWait, true =>
      (s.modHold (fun h => { h with phase := .reversing })).modLintel (fun x => { x with vCmd := Frac.ofInt (-(drBackup s.drive : Int)) })
    | .reversing, false =>
      (s.modHold (fun h => { h with phase := .reverseWait })).modLintel (fun x => { x with vCmd := {} })
    | _, _ => s

/-- The ramp to v_r begins (R265, R266, R269). -/
def State.startResume (s : State) : State :=
  let rc := s.lintel.hold.rc.getD s.lintel.next
  let r := (max rc s.unreached + 255) / 256 * 256
  let s := { s with butt := { s.butt with settled := [] } }
  let s := s.modHold (fun h => { h with
    phase := .resuming, vr := s.vTop, hwmStop := some s.posEnc.hwm, settleAt := none
    sheetR := if s.sheets then some (max r (h.sheetR.getD r)) else none })
  let s := s.modLintel (fun x => { x with vCmd := Frac.ofInt s.vTop, tolRun := 0, rejectTo := x.hold.sheetR })
  if s.sheets then s.rejectSheets rc (s.lintel.hold.sheetR.getD r) else s

/-- A resume begins when every condition of R265 holds. -/
def State.resumeBegin (s : State) : State :=
  if s.ident.opState ≠ .holding ∨ s.started.isEmpty ∨ !s.resumeClear ∨ s.butt.role = .standby then s
  else match s.lintel.hold.phase with
    | .waiting => s.startResume
    | .backed =>
      if s.lintel.hold.bTarget.any (s.backupTarget < ·) ∧ !(fix32 s.posEnc.pos ≤ s.backupTarget) then s.beginReverse
      else if s.behindB then s.startResume else s
    | _ => s

/-! ## Actions (R77, R79, R258, R376) -/

/-- A course action whose position has been reached runs once (R258). -/
def State.actionAtCourse (id : Nat) (s : State) : State :=
  match s.acts.pend.find? (fun a => a.id == id && !a.byTime && !a.late) with
  | none => s
  | some a => if s.passedNow (s.xAt a.moment + (a.frac * s.pc : Nat) / 256) then s.runAction false a else s

/-- Insertion in ascending event id (R376, R509). -/
def insertAct (a : Act) : List Act → List Act
  | [] => [a]
  | b :: l => if a.id < b.id then a :: b :: l else b :: insertAct a l

/-- A time action whose press time has come runs once, after those of the same time with smaller event ids (R376). -/
def State.actionAtTime (id : Nat) (s : State) : State :=
  let l := s.acts.pend.filter (fun a => a.byTime && !a.late)
  match l.find? (fun a => a.id == id) with
  | none => s
  | some a =>
    if s.now < a.moment then s
    else ((l.filter (fun b => b.moment == a.moment && b.id ≤ id)).foldr insertAct []).foldl (fun (s : State) b => s.runAction false b) s

/-- An output pulse has run its width (R77). -/
def State.pulseEnd (o : Nat) (s : State) : State :=
  if s.acts.pulses.any (fun p => p.1 == o && p.2 ≤ s.clock.up) then
    let s := { s with acts := { s.acts with pulses := s.acts.pulses.filter (fun p => !(p.1 == o && p.2 ≤ s.clock.up)) } }
    if o < 16 ∨ s.pulseOn o then s else s.send (s.camPin (o - 16) false)
  else s

end Sys2Proof.Machine
end

