-- ==== Sys2Proof/Machine/Lanes.lean ====
section
/-! DEFINITION. Ndeig lanes at the module: bring-up, loss, discovery and re-bonding, leases, and what STATUS and TEMPS tell
(R202 to R209, R290, R291, R297 to R307). -/

namespace Sys2Proof.Machine

open Sys2Proof

/-! ## Records and conduct -/

/-- The lowest lane that a HELLO has named for a node, whose sequencer its records carry (R440). -/
def State.nodeSrc (s : State) (id : Nat) : Nat :=
  srcLane (((List.range 80).find? (fun l => (s.lane l).hello.isSome && (s.lane l).nodeId == id)).getD 0)

/-- A lease event of a node (R307). -/
def State.leaseRecord (id port epoch result : Nat) (s : State) : State :=
  s.emit (s.nodeSrc id) 0x1305 0 [id, port, epoch, result]

/-- Whether this module acquires and renews leases: every main state after BOOT, and in a pair the ACTIVE alone
(R297, R341). -/
def State.conducts (s : State) : Bool :=
  s.mainOn && s.ident.opState != .boot && (!(s.hasSec SecId.pair) || s.butt.role == .active)

/-- A port through which this module may acquire: port A, and in a pair whichever reaches the node (R297, R341). -/
def State.mayUse (s : State) (port : Nat) : Bool := port == 0 || s.hasSec SecId.pair

/-- The lane's state changes. -/
def State.laneTo (l : Nat) (st : LaneState) (s : State) : State :=
  s.modLane l (fun x => { x with st := st, since := s.clock.up })

/-- Whether a lane carries heads in service: since a loss it has had no discovery (R302). -/
def State.mayCarry (s : State) (l : Nat) : Bool := (s.lane l).st == .up && !(s.lane l).barred

/-- Bring-up fails: the lane returns to DOWN with its record (R302, R307). -/
def State.bringUpFail (l reason : Nat) (s : State) : State :=
  (s.emit (srcLane l) 0x1301 0 [l, (s.lane l).st.code, reason]).laneTo l .down

/-! ## Discovery and the bond (R203 to R206) -/

/-- The lanes discovery reads: enabled and UP. -/
def State.seenLanes (s : State) : List Nat :=
  (List.range 80).filter (fun l => ltEn (s.sec SecId.laneTable) l && (s.lane l).st == .up && (s.lane l).hello.isSome)

/-- The node record of the node on a lane (R204). -/
def State.nodeRecord (s : State) (l : Nat) : NodeRec :=
  let h := (s.lane l).hello.getD {}
  let mine := s.seenLanes.filter (fun k => (s.lane k).nodeId == (s.lane l).nodeId)
  { id := (s.lane l).nodeId, laneCount := h.laneCount, heads := h.heads, maxK := h.maxK
    lanes := (List.range 4).map (fun k =>
      if k < h.laneCount then (mine.find? (fun x => (s.lane x).nodeLane == k)).getD 0x7F else 0x7F) }

/-- The node records, in the order of each node's lowest lane. -/
def State.scanNodes (s : State) : List NodeRec :=
  (s.seenLanes.filter (fun l => s.seenLanes.all (fun k => (s.lane k).nodeId != (s.lane l).nodeId || l ≤ k))).map s.nodeRecord

/-- A new bond replaces the old one, with its record; a lane lost before may carry heads again (R203, R302). -/
def State.replaceBond (nodes : List NodeRec) (bonds : List Bond) (built : Bool) (s : State) : State :=
  let s := { s with ndeig := { s.ndeig with lanes := s.ndeig.lanes.map (fun (x : Lane) => { x with barred := false }) } }
  (({ s with point := { s.point with nodes := nodes, bonds := bonds, passed := built } }).emit (srcKeystone 0) 0x0801 0
    []).updateCeil

/-- Topology discovery (R203). `command` says that DISCOVER asked for it; it leaves a commit's own discovery due. The second part is
the lane or head that fails the lane-load check. -/
def State.discover (command : Bool) (s : State) : State × Option Nat :=
  let nodes := s.scanNodes
  let b := buildBond s.installed nodes
  let s' := { s with point := { s.point with nodes := nodes, bonds := b.1 } }
  let fault := if b.2 then s'.laneLoadNow else some ((s'.laneLoadNow).getD 0)
  let s := { s with point := { s.point with discTable := some (s.sec SecId.laneTable), discDue := if command then s.point.discDue else none } }
  if s.ident.opState = .ready ∧ command ∧ fault.isSome then (s, fault)
  else
    let s := s.replaceBond nodes b.1 b.2
    (if s.ident.opState = .ready ∧ fault.isSome then s.cause 19 1 else s, fault)

/-- The discovery that a commit waits for: once every enabled lane is UP, or after 200 ms (R203). -/
def State.discovery (s : State) : State :=
  match s.point.discDue with
  | none => s
  | some t =>
    if (List.range 80).all (fun l => !(ltEn (s.sec SecId.laneTable) l) || (s.lane l).st == .up) ∨ s.since t 200000000 then
      (s.discover false).1
    else s

/-! ## Loss of a lane (R209, R303, R304) -/

/-- The lowest slot of a lane that no head holds (R209). -/
def freeSlot (bonds : List Bond) (l : Nat) : Option Nat :=
  (List.range 12).find? (fun k => !(bonds.any (fun b => b.lane == l && b.slot == k)))

/-- Moves the heads of a lost lane to surviving lanes of their nodes; a head without room stays unbonded (R209). -/
def State.rebondHeads (s : State) : List Bond → List Bond → List Bond
  | [], bs => bs
  | b :: l, bs =>
    let lanes := match s.point.nodes[b.node]? with
      | some n => n.lanesUsed.filter s.mayCarry
      | none => []
    match bestLane lanes bs with
    | none => s.rebondHeads l bs
    | some k =>
      match freeSlot bs k with
      | none => s.rebondHeads l bs
      | some t => s.rebondHeads l (bs ++ [{ b with lane := k, slot := t }])

/-- The re-bond of a lost lane's heads: record, lane-load check, and the cause where it fails (R209). -/
def State.rebond (l : Nat) (s : State) : State :=
  let moved := (List.range 720).filterMap (fun g => s.point.bonds.find? (fun b => b.head == g && b.lane == l))
  let bonds := s.rebondHeads moved (s.point.bonds.filter (·.lane != l))
  let s := ({ s with point := { s.point with bonds := bonds } }).emit (srcKeystone 0) 0x0802 0 [l, moved.length]
  let ok := s.laneLoadNow.isNone
  let s := s.updateCeil
  if ok then s else s.cause 19 2

/-- The re-sent frames that a lane takes, in the order given, with their ends, and the course of the first that cannot end 6 µs before
its fire time (R304). `free` is the line time at which the lane can begin them, as press time. -/
def resentFrames : List FrameTx → Nat → List FrameTx × Option Nat
  | [], _ => ([], none)
  | y :: ys, free =>
    let (l, c) := resentFrames ys (free + 9424)
    ({ y with endAt := free + 9424 } :: l, if 15 * y.fire < free + 9424 + 90000 then some y.course else c)

/-- Queues frames again on a lane, ahead of every frame that waits there (R304). The second part is the course of the first re-sent
frame that would end too late. -/
def State.requeue (l : Nat) (old : List FrameTx) (s : State) : State × Option Nat :=
  let (new, c) := resentFrames old (s.pressAt15 ((s.lane l).tx.slot s.line15 1))
  let waiting := (s.lane l).tx.queue.filter (1 < ·.prio)
  let s := s.modLane l (fun x => { x with frames := x.frames ++ new, tx := { x.tx with queue := x.tx.queue.filter (·.prio ≤ 1) } })
  let s := (new.filter (·.sent)).foldl (fun s y => s.sendFrame l y) s
  (s.modLane l (fun x => { x with tx := { x.tx with queue := x.tx.queue ++ waiting } }), c)

/-- Insertion of frames by course, then slot. -/
def insertFrame (slot : Nat → Nat) (y : FrameTx) : List FrameTx → List FrameTx
  | [] => [y]
  | z :: l => if y.course < z.course ∨ (y.course = z.course ∧ slot y.head ≤ slot z.head) then y :: z :: l
    else z :: insertFrame slot y l

/-- The lanes of every held node (R304). -/
def State.heldLanes (s : State) : List Nat :=
  (s.ndeig.leases.filter (·.held)).flatMap (fun x => s.lanesOf x.nodeId)

/-- CANCEL from course `c0` on every lane of every held node: frames not yet begun leave the queues (R293, R296, R304). -/
def State.cancelFrom (c0 : Nat) (s : State) : State :=
  s.heldLanes.foldl (fun s l =>
    (s.modLane l (fun x =>
      let x := x.keepUnits (fun u => u.kind != 0x01 || u.course < c0)
      { x with frames := x.frames.filter (·.course < c0) })).sendLease [l] 4
      (s.lease (s.lane l).nodeId).epoch 0 (c0 % 2048)) s

/-- Release goes back to a course: those at or after it count as not released (R262, R304). -/
def State.withdraw (c0 : Nat) (s : State) : State :=
  if s.lintel.next ≤ c0 then s else
    s.modLintel (fun x => { x with
      next := c0, queue := x.queue.filter (·.course < c0), base := x.base.filter (·.1 < c0)
      lastFired := if c0 = 0 then none else some (c0 - 1), recBase := x.recBase.filter (·.1 < c0)
      recPrev := match x.recPrev with
        | some p => if p.1 < c0 then some p else x.recBase.find? (fun q => q.1 + 1 == c0)
        | none => none })

/-- The lowest course at or after `c` whose frames, on every lane, fire at least 3 µs after a CANCEL ends there (R304). -/
def State.cancelCourse (s : State) (c : Nat) : Nat :=
  let bad (k : Nat) : Bool := s.heldLanes.any (fun l =>
    (s.lane l).frames.any (fun y => y.course == k &&
      15 * y.fire < s.pressAt15 ((s.lane l).tx.slot s.line15 1) + unitLen 0x03 1 + 45000))
  (((List.range 64).map (· + c)).find? (fun k => !(bad k))).getD (c + 64)

/-- What R304 does where a re-sent frame of course `c` would be late: CANCEL, and the hold of an unserved course. -/
def State.missedCourses (l c : Nat) (s : State) : State :=
  let c0 := s.cancelCourse c
  let s := (s.cancelFrom c0).withdraw c0
  let s := if c < c0 then s.emit (srcLane l) 0x1304 0 [l, c, (c0 : Int) - 1] else s
  s.trigger 4 (some c0) 3

/-- Re-sends what a lost lane had sent and has not fired, on the new bond (R304). -/
def State.resend (l : Nat) (old : List FrameTx) (s : State) : State :=
  let slot (g : Nat) : Nat := ((s.point.bonds.find? (·.head == g)).map (·.slot)).getD 0
  let laneOf (g : Nat) : Option Nat := (s.point.bonds.find? (·.head == g)).map (·.lane)
  let (s, late) := (List.range 80).foldl (fun (p : State × Option Nat) k =>
    let mine := (old.filter (fun y => laneOf y.head == some k)).foldr (insertFrame slot) []
    if mine.isEmpty then p else
      let r := p.1.requeue k mine
      (r.1, match p.2, r.2 with
        | some a, some b => some (min a b)
        | none, x => x
        | x, none => x)) (s, none)
  match late with
  | none => s
  | some c => s.missedCourses l c

/-- An ACQUIRE that waits on a lane now lost is no longer under way (R297, R302). -/
def State.acquireDropped (l : Nat) (s : State) : State :=
  let x := s.lane l
  if x.tx.queue.any (fun u => u.kind == 0x03 && u.data.any (fun d => d % 8 == 1))
  then s.setLease { s.lease x.nodeId with asked := false } else s

/-- A lane in UP is declared lost (R302 to R304, R209). -/
def State.laneLost (l cond : Nat) (s : State) : State :=
  if (s.lane l).st ≠ .up then s else
    let old := (s.lane l).frames.filter (fun y => s.now < y.fire)
    let carried := s.bonded l
    let s := s.acquireDropped l
    let s := (s.modLane l (fun x => { x with
      losses := satInc 65535 x.losses, frames := [], barred := true
      tx := { x.tx with queue := x.tx.queue.filter (·.prio == 1) } })).laneTo l .lost
    let s := s.emit (srcLane l) 0x1302 0 [l, cond]
    if !carried then s else
      let s := if s.ident.opState = .printing then s.trigger 5 none 0 else s
      let s := s.rebond l
      if s.printHold then s.resend l old else s

/-! ## Reception (R276, R282, R303, R306) -/

/-- A receiver becomes ALIGNED: a lane in DOWN sends DISCOVER. -/
def State.rxAligned (l : Nat) (s : State) : State :=
  let s := s.modLane l (fun x => { x with aligned := true, rxBad := 0 })
  if (s.lane l).st = .down then (s.laneTo l .ident).sendUnit l 4 0x06 [(s.lane l).echoTag] else s

/-- A receiver becomes UNALIGNED: IDENT and DELAY return to DOWN. -/
def State.rxUnaligned (l : Nat) (s : State) : State :=
  let s := s.modLane l (fun x => { x with aligned := false, unalignedAt := s.clock.up, rxGood := 0 })
  if (s.lane l).st = .ident ∨ (s.lane l).st = .delay then s.laneTo l .down else s

/-- The bits of a unit reach a lane's receiver (R279, R281); a lane in DOWN whose receiver they leave ALIGNED goes to IDENT (R302). -/
def State.laneHear (l : Nat) (r : LineRead) (s : State) : State :=
  let x := s.lane l
  let y := RxState.hear { aligned := x.aligned, good := x.rxGood, bad := x.rxBad, viol := x.violations } r
  let s := if y.aligned then (if x.aligned ∧ x.st ≠ .down then s else s.rxAligned l)
    else if x.aligned then s.rxUnaligned l else s
  s.modLane l (fun x => { x with rxGood := y.good, rxBad := y.bad, violations := y.viol })

/-- A unit is received on a lane: the line bits, the first in bit 0 of `bits`. Corrected and uncorrectable blocks are counted, and 16
uncorrectable ones within 1 ms lose the lane. A unit that begins while the receiver is UNALIGNED is lost. -/
def State.laneRx (l kind len bits : Nat) (s : State) : State × Option (List Nat) :=
  if (s.lane l).st = .off then (s, none)
  else
    let was := (s.lane l).aligned
    let (r, e) := (s.lane l).rxEnd.read s.clock.up len (invertLine (ltRxInv (s.sec SecId.laneTable) l) len bits)
    let s := (s.modLane l (fun x => { x with rxEnd := e })).laneHear l r
    if !was then (s, none) else
    match r.body kind with
    | none => (s, none)
    | some b =>
      let s := s.modLane l (fun x => { x with
        rxCorr := satAdd (2 ^ 32 - 1) x.rxCorr b.corr, rxUnc := satAdd (2 ^ 32 - 1) x.rxUnc b.unc
        uncAt := (x.uncAt ++ List.replicate b.unc s.clock.up).filter (fun t => s.clock.up < t + 1000000) })
      if 16 ≤ (s.lane l).uncAt.length ∧ (s.lane l).st = .up then (s.laneLost l 4, none) else (s, b.data)

/-! ## Bring-up (R302) -/

/-- An ECHO goes out with the next TAG (R291). -/
def State.sendEcho (l : Nat) (s : State) : State :=
  (s.sendUnit l 4 0x05 [(s.lane l).echoTag]).modLane l (fun x => { x with echoTag := (x.echoTag + 1) % 65536 })

/-- A HELLO in IDENT or UP (R300, R302, R303). -/
def State.helloUnit (l len bits : Nat) (s : State) : State :=
  let (s, d) := s.laneRx l 0x12 len bits
  match d with
  | none => s
  | some data =>
    let h := helloRead data
    match (s.lane l).st with
    | .ident =>
      if h.proto ≠ 1 then s.bringUpFail l 2
      else
        let s := s.modLane l (fun x => { x with
          nodeId := h.nodeId, nodeLane := h.idx, port := h.port, rtts := []
          hello := some { id := h.nodeId, laneCount := h.lanes, lanes := [], heads := h.heads, maxK := h.maxK } })
        (List.range 16).foldl (fun s _ => s.sendEcho l) (s.laneTo l .delay)
    | .up => if h.nodeId ≠ (s.lane l).nodeId ∨ h.idx ≠ (s.lane l).nodeLane then s.laneLost l 5 else s
    | _ => s

/-- DELAY_F from the last samples, in 1/16 ns (R291, R306). -/
def State.setDelay (l : Nat) (s : State) : State :=
  let r := (s.lane l).rtts
  let (v, s) := s.roundFree (16 * r.sum.toNat) (30000 * max 1 r.length)
  s.modLane l (fun x => { x with delayF := min 65535 v })

/-- The first lane of a node's port is UP and the node has reported its EPOCH: the module acquires it (R297). -/
def State.firstAcquire (l : Nat) (s : State) : State :=
  let x := s.lane l
  let le := s.lease x.nodeId
  if s.conducts && s.mayUse x.port && !le.held && !le.asked then s.sendAcquire x.nodeId x.port else s

/-- An ECHO_REPLY with its measured RTT in ps (R291, R302). -/
def State.echoReply (l len bits rtt : Nat) (s : State) : State :=
  let (s, d) := s.laneRx l 0x11 len bits
  match d with
  | none => s
  | some data =>
    let x := s.lane l
    let b := data.getD 0 0
    if 16 ≤ (x.echoTag + 65535 - field b 0 16) % 65536 ∨ (x.st ≠ .delay ∧ x.st ≠ .up) then s else
      let v : Int := 15 * rtt - 1000 * (field b 16 24 : Nat) + 15 * ltAsym (s.sec SecId.laneTable) l
      let s := (s.modLane l (fun x => { x with rtts := (v :: x.rtts).take 16 })).setDelay l
      if x.st = .up ∨ (s.lane l).rtts.length < 16 then s
      else if 480000000 < (s.lane l).rtts.sum then s.bringUpFail l 3
      else
        let s := (s.laneTo l .up).modLane l (fun x => { x with lastStatus := s.clock.up, farUnc := none, farUncAt := [], uncAt := [] })
        if (s.lease x.nodeId).nodeEpoch.isSome then s.firstAcquire l else s

/-- No HELLO within 1 ms (R302). -/
def State.identTimeout (l : Nat) (s : State) : State :=
  if (s.lane l).st = .ident ∧ s.since (s.lane l).since 1000000 then s.bringUpFail l 1 else s

/-- Echo replies still missing after 1 ms (R302). -/
def State.delayTimeout (l : Nat) (s : State) : State :=
  if (s.lane l).st = .delay ∧ s.since (s.lane l).since 1000000 then s.bringUpFail l 4 else s

/-- 10 ms in LOST (R302). -/
def State.lostTimeout (l : Nat) (s : State) : State :=
  if (s.lane l).st = .lost ∧ s.since (s.lane l).since 10000000 then s.laneTo l .down else s

/-- No valid STATUS for 100 µs (R303). -/
def State.statusTimeout (l : Nat) (s : State) : State :=
  if (s.lane l).st = .up ∧ s.since (s.lane l).lastStatus 100000 then s.laneLost l 2 else s

/-- UNALIGNED for 2 µs (R303). -/
def State.unalignedTimeout (l : Nat) (s : State) : State :=
  if (s.lane l).st = .up ∧ !(s.lane l).aligned ∧ s.since (s.lane l).unalignedAt 2000 then s.laneLost l 1 else s

/-! ## Takeover and swap (R338 to R346) -/

/-- The bytes of a pair mirror item in a bank, in ascending offset (R333, R334). -/
def bankItem (bank : List (Nat × Nat × List Nat)) (item : Nat) : Mem :=
  (bank.filter (·.1 == item)).foldl (fun m p => m.write p.2.1 p.2.2) []

/-- The lift-entry rows of an epoch, a 16-bit value per column, channel after channel (R333; log entry 35). -/
def entryRows (lift : Nat) (m : Mem) : List (Nat × Nat × List Int) :=
  (List.range 12).map (fun c => (lift, c, (List.range moduleCols).map (fun x => signed 16 (m.le (2 * (c * moduleCols + x)) 2))))

/-- The highest complete epoch that begins at or before a course, with its bank (R342). -/
def State.epochFor (s : State) (rc : Nat) : Option (Nat × List (Nat × Nat × List Nat)) :=
  let b := s.butt
  let c := ([(b.whole0, b.bankLift0, b.bank0), (b.whole1, b.bankLift1, b.bank1)].filterMap (fun p =>
    if p.1 then p.2.1.map (fun l => (l, p.2.2)) else none)).filter (fun p => 256 * p.1 ≤ rc)
  c.foldl (fun m p => match m with
    | none => some p
    | some q => if q.1 < p.1 then some p else m) none

/-- The courses of a takeover: the last that may have fired, and the resume course (R342); before any PROGRESS none was released. -/
def State.takeoverCourses (s : State) : Nat × Nat :=
  let fm := match s.butt.handover with
    | some (f, more) => f + bit more
    | none => s.butt.progress.getD (s.lintel.next - 1)
  (fm, fm + 1 - s.kMax 0xFFF)

/-- The entries of a job table: kind and id, of a started job its start course too (R333; log entry 35). -/
def jobEntries : Nat → List Nat → List (Nat × Nat × Nat)
  | 0, _ => []
  | n + 1, l => match l with
    | 1 :: id :: r => (1, id, leVal (r.take 8)) :: jobEntries n (r.drop 8)
    | 2 :: id :: r => (2, id, 0) :: jobEntries n r
    | 3 :: r => (3, leVal (r.take 4), 0) :: jobEntries n (r.drop 4)
    | _ => []

/-- The job table of the last epoch takes effect at a takeover: started jobs and their start courses, ended jobs, and the actions that
have run (R333, R334, R342). -/
def State.replayJobs (s : State) : State :=
  (jobEntries s.butt.jobTable.length s.butt.jobTable).foldl (fun (s : State) e =>
    match e with
    | (1, id, c) =>
      { s with jobs := { s.jobs with
          order := if (s.job id).isSome && !(s.jobs.order.contains id) then s.jobs.order ++ [id] else s.jobs.order
          opened := s.jobs.opened.map (fun j =>
            if j.id == id && j.state < 3 && c != 2 ^ 64 - 1 then { j with state := max 1 j.state, start := some c } else j) } }
    | (2, id, _) =>
      { s with jobs := { s.jobs with
          order := s.jobs.order.filter (· != id)
          opened := s.jobs.opened.map (fun j => if j.id == id && j.state < 3 then { j with state := 3 } else j) } }
    | (_, id, _) => { s with acts := { s.acts with pend := s.acts.pend.filter (·.id != id) } }) s

/-- A takeover's grants are complete: ACTIVE, and HOLDING through trigger PARTNER (R341, R342). -/
def State.takenOver (s : State) : State :=
  let (fm, rc) := s.takeoverCourses
  let ep := s.epochFor rc
  let had := s.butt.handover.isSome
  let s := ({ s with butt := { s.butt with takeovers := satInc 65535 s.butt.takeovers, mask := some (rc, fm), handover := none } }).replayJobs
  let s := s.modLintel (fun x => { x with next := rc, queue := [], runFrom := none, recPrev := none })
  let s := match ep with
    | some (l, bank) => s.modMortar (fun m => { m with bufs := [], entry := entryRows l (bankItem bank 1), rescreen := some l })
    | none => s
  let s := s.modHold (fun _ => { phase := .stopping, trigger := 6, stop := some rc, triggers := [6] })
  let s := ((s.modLintel (fun x => { x with vCmd := {} })).holdRecord 6 0).enter .holding
  s.releaseOver.buttRecord 0x1504 0 [fm, rc, ((ep.map Prod.fst).getD 0 : Nat), bit had]

/-- An acquire of a takeover or swap has been granted by every node (R341, R346). -/
def State.acquireDone (s : State) : State :=
  if s.butt.acqAt.isNone ∨ s.unheldHead.isSome then s else
    let swap := s.butt.acqSwap
    let s := (({ s with butt := { s.butt with acqAt := none, acqSwap := false } }).takeChanges).setRole .active
    if swap then
      { s with butt := { s.butt with
          handover := none
          swapAt := some (s.clock.up, if s.ident.opState == .holding then 2 else 0, ((s.butt.handover.map Prod.fst).getD 0) + 1) } }
    else if s.armed then s.takenOver
    else { s with butt := { s.butt with takeovers := satInc 65535 s.butt.takeovers, handover := none } }

/-- What STATUS tells a standby after a link loss: a renewal clears MIRROR_OK; leases that then expire are not taken
over (R339). -/
def State.renewalSeen (l left : Nat) (s : State) : State :=
  let link := if s.pairSide = 0 then s.butt.east else s.butt.west
  let before := s.butt.lastLeft.find? (·.1 == l)
  let s := { s with butt := { s.butt with lastLeft := (l, left, s.clock.up) :: s.butt.lastLeft.filter (·.1 != l) } }
  if s.butt.role ≠ .standby ∨ link.up then s
  else if s.since link.downAt 100001 ∧ !s.butt.renewed ∧
      before.any (fun p => p.2.1 + 5 < left + (s.clock.up - p.2.2) / 10000) then
    ({ s with butt := { s.butt with renewed := true } }).setMirror false 6
  else if s.butt.renewed ∧ s.ndeig.leases.all (·.free) then
    (({ s with butt := { s.butt with renewed := false } }).buttRecord 0x1505 0 [1, 0]).trigger 6 none 0
  else s

/-! ## STATUS and TEMPS (R297, R299, R301, R303, R307) -/

/-- The module's view of the lease after a STATUS (R297). -/
def State.leaseStatus (id w : Nat) (s : State) : State :=
  let x := s.lease id
  let lease := field w 36 2
  let ep := field w 38 6
  let res := field w 44 3
  let ours := lease == x.port + 1 && ep == x.epoch
  let s := s.setLease { x with
    free := lease == 0, left := field w 64 16, leftAt := s.clock.up, nodeEpoch := some ep, bad := if ours then 0 else x.bad + 1 }
  let s := if bitAt w 47 then s.leaseRecord id (field w 34 1) ep 0 else s
  let x := s.lease id
  if x.asked then
    if ours then
      ((s.setLease { x with held := true, asked := false }).leaseRecord id x.port ep 1).sendConfig id |>.acquireDone
    else if 2 ≤ res then
      (s.setLease { x with asked := false, retryAt := some (s.clock.up + 1000 * ndTLease (s.sec SecId.ndeig)) }).leaseRecord id
        x.port x.epoch res
    else s
  else if x.held ∧ 2 ≤ x.bad then
    let s := s.setLease { x with held := false, retryAt := some s.clock.up }
    if s.armed then s.cause 22 0 else s
  else s

/-- The counters of a node moved: at most one record per second (R307). -/
def State.nodeCounts (id w : Nat) (s : State) : State :=
  let x := s.lease id
  let now := [field w 112 16, field w 96 16, field w 128 16, field w 144 16]
  if x.counts.isEmpty then s.setLease { x with counts := now }
  else if now = x.counts ∨ !(x.lossRep.all (fun t => s.since t 1000000000)) then s
  else
    let d : List Int := (now.zip x.counts).map (fun p => (((p.1 + 65536 - p.2) % 65536 : Nat) : Int))
    (s.setLease { x with counts := now, lossRep := some s.clock.up }).emit (s.nodeSrc id) 0x1303 0 ((id : Int) :: d)

/-- Time error and head fault of a node (R307). -/
def State.nodeHealth (id w : Nat) (s : State) : State :=
  let te := signed 16 (field w 192 16)
  let x := s.lease id
  let s := if 50 < te.natAbs ∧ x.errRep.all (fun t => s.since t 1000000000) then
      (s.setLease { x with errRep := some s.clock.up }).emit (s.nodeSrc id) 0x1306 0 [id, te] else s
  let x := s.lease id
  let s' := s.setLease { x with headFault := bitAt w 49 }
  if bitAt w 49 ∧ !x.headFault then (s'.emit (s.nodeSrc id) 0x1307 0 [id, field w 208 10]).raise 0 27 else s'

/-- A STATUS (R299), which tells the node's EPOCH from the time that HELLO has named the node: identity, alignment, errors of the forward direction, lease and health, in that order. -/
def State.statusUnit (l len bits : Nat) (s : State) : State :=
  let (s, d) := s.laneRx l 0x13 len bits
  match d with
  | none => s
  | some data =>
    let w := statusWord data
    let x := s.lane l
    if x.st = .delay ∧ field w 0 32 = x.nodeId then s.setLease { s.lease x.nodeId with nodeEpoch := some (field w 38 6) }
    else if x.st ≠ .up then s
    else if field w 0 32 ≠ x.nodeId ∨ field w 32 2 ≠ x.nodeLane then s.laneLost l 5
    else
      let unc := field w 176 16
      let s := s.modLane l (fun x => { x with
        lastStatus := s.clock.up, farUnc := some unc
        farUncAt := ((s.clock.up, (unc + 65536 - x.farUnc.getD unc) % 65536) :: x.farUncAt).filter (fun p => s.clock.up < p.1 + 1000000) })
      if !(bitAt w ((if field w 34 1 = 0 then 52 else 56) + x.nodeLane)) then s.laneLost l 3
      else if 16 ≤ (((s.lane l).farUncAt.map (·.2)).sum) then s.laneLost l 4
      else
        let s := s.renewalSeen l (field w 64 16)
        let known := (s.lease x.nodeId).nodeEpoch.isSome
        let s := ((s.leaseStatus x.nodeId w).nodeCounts x.nodeId w).nodeHealth x.nodeId w
        if known then s else s.firstAcquire l

/-- A TEMPS unit: temperatures in HELLO order (R301). -/
def State.tempsUnit (l len bits : Nat) (s : State) : State :=
  let (s, d) := s.laneRx l 0x14 len bits
  match d with
  | none => s
  | some data =>
    let heads := ((s.lane l).hello.map (·.heads)).getD []
    let new := heads.zipIdx.map (fun p => (p.1, s.clock.up, signed 16 (headEntry data p.2)))
    { s with ndeig := { s.ndeig with headTemp := new ++ s.ndeig.headTemp.filter (fun q => !(heads.contains q.1)) } }

/-! ## Units sent on their schedule (R290, R291, R297, R298, R302) -/

/-- TIME on a lane in UP; ARRIVAL is written as it begins (R290). -/
def State.timeSend (l : Nat) (s : State) : State := if (s.lane l).st = .up then s.sendUnit l 3 0x04 [0] else s

def State.echoSend (l : Nat) (s : State) : State := if (s.lane l).st = .up then s.sendEcho l else s

def State.discoverSend (l : Nat) (s : State) : State :=
  if (s.lane l).st = .ident then s.sendUnit l 4 0x06 [(s.lane l).echoTag] else s

/-- LEASE RENEW on every UP lane of a held node (R297). -/
def State.renewSend (id : Nat) (s : State) : State :=
  let x := s.lease id
  if s.conducts && x.held then s.sendLease (s.upLanesOf id) 0 x.epoch 0 0 else s

/-- An ACQUIRE that was refused, or that no STATUS has answered, is repeated (R297; log entry 138). -/
def State.acquireRetry (id : Nat) (s : State) : State :=
  let x := s.lease id
  if s.conducts && !x.held && x.retryAt.any (· ≤ s.clock.up) && !(s.upLanesOf id).isEmpty then
    s.sendAcquire id x.port else s

/-- LEASE REST again, on the same lanes, while REST or FAULT lasts (R298). -/
def State.restSend (s : State) : State :=
  if s.inRest then s.restOn (s.ndeig.restLanes.filter (fun l => (s.lane l).st != .off)) else s

end Sys2Proof.Machine
end

