-- ==== Sys2Proof/Machine/WebIn.lean ====
section
/-! DEFINITION. What the web inputs' samples do: counts, courses reached, wiring and index faults, hall sectors, check
windows, sensor supplies (R211 to R236, R259, R478), and registration marks (R248 to R252). -/

namespace Sys2Proof.Machine

open Sys2Proof

/-- An index error: counted and recorded (R222, R223). -/
def State.indexError (e kind : Nat) (s : State) : State :=
  let x := s.enc e
  (s.setEnc e { x with indexErr := satInc (2 ^ 32 - 1) x.indexErr }).emit srcWeb 0x1104 0 [kind, x.pos]

/-- An index event with an error: two in a row are ENC_FAULT reason 5 (R222). -/
def State.indexBad (e kind : Nat) (s : State) : State :=
  let s := s.indexError e kind
  let x := s.enc e
  if x.zBad then s else
    let s := s.setEnc e { x with zBad := true, idxBadRun := x.idxBadRun + 1 }
    if 2 ≤ x.idxBadRun + 1 then s.encFault e [5] else s

/-! ## Counts (R211, R221, R230, R239, R259) -/

/-- HWM reaching the first course of a lift, at press time `t`, sets r_lift (R259). `old` is HWM before the change. -/
def State.liftReached (old : Int) (t : Nat) (s : State) : State :=
  if s.pc = 0 then s else
    let lift (h : Int) : Int := ((s.lintel.n0 : Int) - 1 + (fix32 h - s.lintel.origin) / s.pc) / 256
    let b := lift s.posEnc.hwm
    if b ≤ lift old then s else
      match s.lintel.liftAt with
      | some (l, t0) =>
        if (l : Int) + 1 = b ∧ t0 < t then
          let d := t - t0
          let (r, s) := s.roundFree 256000000000 d
          s.modLintel (fun x => { x with liftAt := some (b.toNat, t), rLift := Frac.mk' 256000000000 d, rate := min 16777215 r })
        else s.modLintel (fun x => { x with liftAt := some (b.toNat, t) })
      | none => s.modLintel (fun x => { x with liftAt := some (b.toNat, t) })

/-- The stamp that Lintel takes of a change of the position source at press time `t`: the raised HWM, or, from a resume on and while
HWM has not passed the HWM reached before the stop, POSITION moving forward (R239, R266). -/
def State.sampleOf (old x : Enc) (t : Nat) (s : State) : Option (Nat × Int) :=
  if s.lintel.hold.hwmStop.any (x.hwm ≤ ·) then (if x.rev then none else some (t, x.pos))
  else if old.hwm < x.hwm then some (t, x.hwm) else none

/-- The samples that a standby keeps: those of the last 20 ms, and those of the courses of the last two and a half lifts, for the T of an
epoch (R335). -/
def State.longSamples (s : State) : List (Nat × Int) :=
  s.lintel.samples.filter (fun p => s.now ≤ p.1 + 20000000 || fix32 (s.posEnc.pos - p.2) ≤ (640 * s.pc : Nat))

/-- What Lintel and the outputs take from a change of the position source by `d` counts at press time `t`; `old` is the encoder
before. -/
def State.sourceMoved (old : Enc) (d : Int) (t : Nat) (s : State) : State :=
  let x := s.posEnc
  let s := match s.sampleOf old x t with
    | none => s
    | some p => s.modLintel (fun l => { l with
        samples := p :: (if s.butt.role = PairRole.standby then s.longSamples else recent s.now 2000000 l.samples) })
  let s := if old.hwm < x.hwm then s.liftReached old.hwm t else s
  let s := s.encOut d
  if old.rev = x.rev then s else s.newWindow

/-- POSITION changes by `d` raw counts at press time `t` (R211, R212, R221, R222). -/
def State.applyCount (e : Nat) (d : Int) (t : Nat) (s : State) : State :=
  if d = 0 then s else
    let d := if encInvert s.esec e then -d else d
    let old := s.enc e
    let s := s.setEnc e (old.count t d)
    let s := if s.isSource e then s.sourceMoved old d t else s
    match (s.enc e).zHigh with
    | some p =>
      if encZEn s.esec e ∧ 4 < ((s.enc e).pos - p).natAbs ∧ !(s.enc e).zFlagged then
        (s.setEnc e { s.enc e with zFlagged := true }).indexBad e 2
      else s
    | none => s

/-- An ILLEGAL_TRANSITION at press time `t`: counted; the 17th within 10 ms is ENC_FAULT reason 1 (R216). -/
def State.illegalStep (e t : Nat) (s : State) : State :=
  let x := s.enc e
  let burst := x.illStamps.length = 16 ∧ x.illStamps.all (fun u => t < u + 10000000)
  let s := s.setEnc e { x with
    illegal := satInc (2 ^ 32 - 1) x.illegal, illSince := x.illSince + 1, illStamps := (t :: x.illStamps).take 16 }
  if burst then s.encFault e [1] else s

/-- An accepted change of lines A and B to new levels at press time `t`; `setup` says that an accepted change of DIR lies within
DIR_SETUP samples (R214 to R216). -/
def State.lineStep (e : Nat) (a b setup : Bool) (t : Nat) (s : State) : State :=
  let x := s.enc e
  let st := digitalStep (encMode s.esec e) (encStepEdge s.esec e) x.a x.b a b setup
  let s := s.setEnc e { x with a := a, b := b }
  match st with
  | .illegal => s.illegalStep e t
  | .counts d => s.applyCount e d t

/-- The radius record (R220). -/
def State.radiusReport (e : Nat) (s : State) : State :=
  let x := s.enc e
  if x.radRep.all (fun u => s.since u 1000000000) then
    (s.setEnc e { x with radRep := some s.clock.up, radLo := 0, radHi := 0 }).emit srcWeb 0x1105 0 [x.radLo, x.radHi]
  else s

/-- ENC_FAULT for a run of `n` bad samples, sectors or windows, which faults at its `limit`; a run that goes on faults again only once
STATE.CLEAR has cleared the latch (R220, R228, R229; log entry 98). -/
def State.runFault (e reason n limit : Nat) (s : State) : State :=
  if n = limit ∨ (limit < n ∧ !(s.plumb.latchReason.contains (20, reason))) then s.encFault e [reason] else s

/-- Corrected voltages of the sin and cos pairs, in µV (R218; log entry 97). -/
def State.adcVolts (s : State) (e : Nat) (p : Int × Int) : Int × Int :=
  let c := s.coping.cal.getD (104 + e) {}
  (Config.adcMicrovolts e c.core c.trims false p.1, Config.adcMicrovolts e c.core c.trims true p.2)

/-- A sample of the ADC on the sin and cos pairs: the radius by its window, then the angle and the counts that it gives
(R218 to R220). -/
def State.adcIn (e : Nat) (p : Int × Int) (s : State) : State :=
  if !(s.counting e) ∨ encMode s.esec e ≠ 4 then s else
    let v := s.adcVolts e p
    let r2 := (v.1 * v.1 + v.2 * v.2).toNat
    let r := isqrt r2
    let (a, s) := s.roundFree (cordic v.1 v.2) (2 ^ 20)
    let ang := a % 4096
    let x := s.enc e
    let out := r2 < 350000 ^ 2 ∨ 650000 ^ 2 < r2
    let s := s.setEnc e { x with
      angle := ang, radii := (s.now, r) :: recent s.now 1000000 x.radii, radBad := if out then x.radBad + 1 else 0
      radLo := if x.radHi = 0 then r else min x.radLo r, radHi := max x.radHi r }
    if out then s.runFault e 3 (x.radBad + 1) 4
    else
      let s := if r2 < 400000 ^ 2 ∨ 600000 ^ 2 < r2 then s.radiusReport e else s
      let d := angleStep x.angle ang
      if 1024 < d.natAbs then s.encFault e [4] else s.applyCount e d s.now

/-! ## Index (R222, R223) -/

/-- The accepted level of line Z changes. -/
def State.indexEdge (e : Nat) (high : Bool) (s : State) : State :=
  if !(s.counting e) ∨ !(encZEn s.esec e) then s else
    let x := s.enc e
    if !high then
      s.setEnc e { x with zHigh := none, zFlagged := false, zBad := false, idxBadRun := if x.zBad then x.idxBadRun else 0 }
    else if x.zHigh.isSome then s
    else
      let s := s.setEnc e { x with zHigh := some x.pos, zFlagged := false, zBad := false }
      let state := if encMode s.esec e = 4 then x.angle / 1024 else 2 * bit x.a + bit x.b
      if state ≠ encZGate s.esec e then s.indexBad e 1
      else
        let cpr := encCpr s.esec e
        let y := s.enc e
        let s := s.setEnc e { y with
          indexPos := x.pos, idxLast := some (x.pos, !x.rev), missFrom := if x.rev then y.missFrom else some x.pos }
        match x.idxLast with
        | some (p, fwd) =>
          if !x.rev ∧ fwd ∧ cpr ≠ 0 ∧ 1 < ((x.pos - p).natAbs - (cpr : Int)).natAbs then s.indexBad e 3 else s
        | none => s

/-- The press time of the first of the last `n` samples, which are 5 ns apart (R212, R213). -/
def State.stampAgo (n : Nat) (s : State) : Nat := (s.clock.press % 2 ^ 64 - 5 * n) / 2 * 2

/-- What is judged on sample `i` of a run (R212, R236). -/
def State.onSample (i : Nat) (f : State → State) (s : State) : State :=
  let at_ := (s.now + 5 * i) % 2 ^ 64 / 2 * 2
  let t := f { s with web := { s.web with judged := some at_ } }
  { t with web := { t.web with judged := none } }

/-- Lines A, B and Z hold new levels for a run of samples: each passes its filter, and what is accepted acts in the order of the
samples, a change of A or B before a change of Z (R213 to R216, R222). While counting does not run the levels are only followed. -/
def State.linesIn (e : Nat) (p : Pins) (s : State) : State :=
  let x := s.enc e
  if !(s.counting e) then
    s.setEnc e { x with a := p.a, b := p.b, z := p.z, aRun := 0, bRun := 0, zRun := 0, dirAge := 256 }
  else
    let f := encFilter s.esec e
    let sincos := encMode s.esec e == 4
    let ta := if sincos then (none, 0) else lineTake f p.n x.a p.a x.aRun
    let tb := if sincos then (none, 0) else lineTake f p.n x.b p.b x.bRun
    let tz := if encZEn s.esec e then lineTake f p.n x.z p.z x.zRun else (none, 0)
    let steps := lineSteps x.a x.b p.a p.b ta.1 tb.1
    let near (i : Nat) : Bool := match tb.1 with
      | some j => if j ≤ i then i ≤ j + encDirSetup s.esec e else x.dirAge + i ≤ encDirSetup s.esec e
      | none => x.dirAge + i ≤ encDirSetup s.esec e
    let s := s.setEnc e { x with
      aRun := ta.2, bRun := tb.2, zRun := tz.2, z := if tz.1.isSome || !(encZEn s.esec e) then p.z else x.z
      dirAge := match tb.1 with
        | some j => p.n - j
        | none => min 256 (x.dirAge + p.n) }
    let go (s : State) (q : Nat × Bool × Bool) : State :=
      s.onSample q.1 (fun s => s.lineStep e q.2.1 q.2.2 (near q.1) (s.stampAgo (f - q.1)))
    match tz.1 with
    | none => steps.foldl go s
    | some k =>
      (steps.filter (fun q => k < q.1)).foldl go (((steps.filter (fun q => q.1 ≤ k)).foldl go s).onSample k (fun s => s.indexEdge e p.z))

/-- Forward travel without an index (R223). -/
def State.missingIndex (e : Nat) (s : State) : State :=
  let cpr := encCpr s.esec e
  let x := s.enc e
  if !(s.counting e) ∨ !(encZEn s.esec e) ∨ cpr = 0 then s
  else if x.missFrom.any (fun p => p + 2 * cpr + 2 ≤ x.pos) then
    let s := (s.setEnc e { x with missFrom := some x.pos }).indexError e 4
    if s.isSource e then s.encFault e [6] else { s with web := { s.web with chkOff := true } }
  else s

/-! ## Pair status (R224, R225) -/

/-- A pair's new status takes effect: a fault status is ENC_FAULT on the position source and ends checking on the check encoder
(R224, R225). -/
def State.pairFault (e : Nat) (st : PairStatus) (s : State) : State :=
  if st = .valid ∨ st = .unused then s
  else if s.isSource e then s.encFault e [2]
  else { s with web := { s.web with chkOff := true } }

/-- The window comparators see voltages on a pair of an encoder: the condition that has held for 2 µs is its status (R224, R225). -/
def State.pairStatus (e k : Nat) (v : PairIn) (s : State) : State :=
  let x := s.enc e
  if !(s.counting e && pairUsed s.esec e k) then s else
    let st := pairClass v
    let d := x.dwell.getD k (.unused, 0)
    if d.1 ≠ st then s.setEnc e { x with dwell := modAt x.dwell k (fun _ => (st, s.clock.up)) }
    else if s.clock.up < d.2 + 2000 ∨ x.pair k = st then s
    else
      ((s.setEnc e (x.setPair k st)).emit srcWeb 0x1103 0 [e, k, (x.pair k).code, st.code]).pairFault e st

/-! ## Hall sectors and check windows (R227 to R229) -/

/-- Whether a travel of `c` counts in `dt` ns lies above 10 % of CRL × P_c. -/
def State.fastEnough (s : State) (c dt : Nat) : Bool := s.crl * s.pc * dt < c * 10000000000 * 4294967296

/-- Counts what the tests of a completed sector found: `bad` a sector out of tolerance, `rev` one against the encoder (R228). -/
def State.hallNote (bad rev : Bool) (s : State) : State :=
  let h := s.web.hall
  let h := { h with badRun := if bad then h.badRun + 1 else 0, revRun := if rev then h.revRun + 1 else 0 }
  let s := { s with web := { s.web with hall := h } }
  let s := if (bad || rev) && h.devRep.all (fun t => s.since t 1000000000) then
      ({ s with web := { s.web with hall := { h with devRep := some s.clock.up } } }).emit srcWeb 0x1107 0 [h.dev] else s
  if h.badRun < 8 ∧ h.revRun < 2 then s
  else if h.badRun = 8 ∨ h.revRun = 2 ∨ !(s.plumb.latchReason.contains (20, 7)) then s.encFault (encPosSrc s.esec) [7] else s

/-- Whether a sector of `c` counts is out of tolerance of the nominal `hc` (R228). -/
def hallOff (c hc : Nat) : Bool := decide (hc < 20 * ((c : Int) * 65536 - hc).natAbs)

/-- Judges a completed sector of `c` counts against the nominal `hc`, where the web is fast enough (R228). -/
def State.hallJudge (c dt hc : Nat) (fwd : Bool) (s : State) : State :=
  if s.fastEnough c dt then s.hallNote (hallOff c hc) (fwd == s.posEnc.rev)
  else { s with web := { s.web with hall := { s.web.hall with badRun := 0, revRun := 0 } } }

/-- HALL_DEV takes the quotient `num` / `d`, rounded as a free value has it where it is not whole (R228; log entry 22). -/
def State.hallDev (num : Int) (d : Nat) (s : State) : State :=
  let (q, s) := if num % d = 0 then (0, s) else s.fresh
  { s with web := { s.web with hall := { s.web.hall with dev := sat16 (num / d + q % 2) } } }

/-- A measured sector of `c` counts in `dt` ns (R228). -/
def State.hallSector (c dt : Nat) (fwd : Bool) (s : State) : State :=
  let hc := hallCounts s.esec
  State.hallJudge c dt hc fwd (State.hallDev (1000 * ((c : Int) * 65536 - hc)) (max 1 hc) s)

/-- The filtered hall code changes, at press time `t` (R227). -/
def State.hallChange (code t : Nat) (s : State) : State :=
  if code = s.web.hall.code then s else
    let h := s.web.hall
    let p := s.posEnc.pos
    let h' := { h with code := code }
    match hallStep (hallInvert s.esec) h.code code with
    | .first => { s with web := { s.web with hall := { h' with bound := none } } }
    | .illegal =>
      { s with web := { s.web with hall := { h' with bound := none, illegal := satInc (2 ^ 32 - 1) h.illegal, illSince := h.illSince + 1 } } }
    | .skip =>
      { s with web := { s.web with hall := { h' with bound := none, skips := satInc (2 ^ 32 - 1) h.skips, skipSince := h.skipSince + 1 } } }
    | .boundary fwd =>
      let s := { s with web := { s.web with hall := { h' with bound := some (p, fwd, t) } } }
      match h.bound with
      | some (q, f, u) => if f = fwd then s.hallSector (p - q).natAbs (t - u) fwd else s
      | none => s

/-- The hall lines hold a new code for a run of samples: each line passes its filter, and the accepted codes act in the order of the
samples (R227). While counting does not run the code is only followed. -/
def State.hallIn (p : HallRun) (s : State) : State :=
  if !(s.powered 10) ∨ !(hallEn s.esec) then s
  else if s.ident.opState = .boot then { s with web := { s.web with hall := { s.web.hall with code := p.code, runs := [0, 0, 0] } } }
  else
    let h := s.web.hall
    let f := 200 * hallFilter s.esec
    let take (k : Nat) : Option Nat × Nat := lineTake f p.n (bitAt h.code k) (bitAt p.code k) (h.runs.getD k 0)
    let at_ := [(take 0).1, (take 1).1, (take 2).1].foldr (fun o l => o.elim l (fun i => insertPlace i l)) []
    let code (i : Nat) : Nat :=
      ([0, 1, 2].map (fun k => if (take k).1.any (· ≤ i) then 2 ^ k * bit (bitAt p.code k) else 2 ^ k * bit (bitAt h.code k))).sum
    let s := { s with web := { s.web with hall := { h with runs := [(take 0).2, (take 1).2, (take 2).2] } } }
    at_.foldl (fun s i => s.hallChange (code i) (s.stampAgo (f - i))) s

/-- The hall record, at most once per second (R227). -/
def State.hallReport (s : State) : State :=
  let h := s.web.hall
  if h.illSince + h.skipSince ≠ 0 ∧ h.rep.all (fun t => s.since t 1000000000) then
    ({ s with web := { s.web with hall := { h with illSince := 0, skipSince := 0, rep := some s.clock.up } } }).emit srcWeb 0x1106 0
      [h.illSince, h.skipSince]
  else s

/-- The record of illegal transitions, at most once per second per encoder (R216). -/
def State.illegalReport (e : Nat) (s : State) : State :=
  let x := s.enc e
  if x.illSince ≠ 0 ∧ x.illRep.all (fun t => s.since t 1000000000) then
    (s.setEnc e { x with illSince := 0, illRep := some s.clock.up }).emit srcWeb 0x1101 0 [x.illSince]
  else s

/-- A check window ends (R229; log entry 25). -/
def State.checkWindow (s : State) : State :=
  let src := encPosSrc s.esec
  let chk := 1 - src
  let d := s.posEnc.pos - s.web.winStart
  if !(s.counting src) ∨ !(encCheckEn s.esec) ∨ s.web.chkOff ∨ d.natAbs < 65536 then s else
    let c := (s.enc chk).pos - s.web.winCheck
    let c := if d < 0 then -c else c
    let fast := s.fastEnough d.natAbs (s.now - s.web.winTime)
    let off := decide (4294967296 * (encCheckTol s.esec chk : Int) < 1000 * ((c * encCheckRatio s.esec chk - 4294967296).natAbs : Int))
    let run := if fast && off then s.web.chkBad + 1 else 0
    let s := ({ s with web := { s.web with chkBad := run } }).newWindow
    if !fast then s else if c < 0 then s.encFault chk [8] else s.runFault chk 8 run 3

/-! ## Registration marks (R248 to R252, R359) -/

/-- The QUOIN section in force. -/
def State.qsec (s : State) : Sec := s.sec SecId.quoin

/-- The image courses of the marks of the jobs that print or have printed, from a course on: the first of each job
(R249). -/
def State.nextMarks (s : State) (from_ : Nat) : List Nat :=
  let pitch := max 1 (qnPitch s.qsec)
  s.jobs.opened.filterMap (fun j =>
    match j.start with
    | none => none
    | some st =>
      let m0 := st + qnPhase s.qsec
      let m := if from_ ≤ m0 then m0 else m0 + (from_ - m0 + pitch - 1) / pitch * pitch
      if 2 ≤ j.state ∧ j.courses.all (fun n => m < st + n) then some m else none)

/-- The mark a sensor awaits next. -/
def State.awaited (s : State) (k : Nat) : Option Nat := (s.nextMarks (s.quoin.nextMark.getD k 0)).min?

/-- E of a mark at a sensor, in 1/256 course. -/
def State.markAt (s : State) (k m : Nat) : Int := 256 * (m : Int) + qnDist s.qsec k

/-- The first mark of a sensor, not matched or missed before, whose window an edge at coordinate `c` lies in (R249). -/
def State.markFor (s : State) (k : Nat) (c : Int) : Option Nat :=
  let win := 256 * qnWin s.qsec
  let low := ((c - win - qnDist s.qsec k + 255) / 256).toNat
  ((s.nextMarks (max low (s.quoin.nextMark.getD k 0))).filter (fun m => (c - s.markAt k m).natAbs ≤ win)).min?

/-- Changes the registration state. -/
def State.modQuoin (f : Quoin → Quoin) (s : State) : State := { s with quoin := f s.quoin }

/-- Bars that a sensor can freeze: its own, or all for sensor 12. -/
def State.barsOf (s : State) (k : Nat) : List Nat := if k = 12 then s.bars else [k]

/-- A bar freezes or is released, with its record (R249, R272). -/
def State.freezeBar (b : Nat) (on : Bool) (misses : Nat) (s : State) : State :=
  if s.quoin.frozen.getLsbD b = on then s else
    (s.modQuoin (fun q => { q with frozen := setBit q.frozen b on })).emit (srcLintel 0) 0x1208 0 [b, bit on, misses]

/-- A bar's target is set, and waits for its lift in a gang (R250, R359). -/
def State.setTarget (b : Nat) (t : Int) (s : State) : State :=
  if s.butt.gang then
    let l := s.presentLift + 2
    (s.modQuoin (fun q => { q with pendT := q.pendT ++ [(l, b, t)] })).gangSay [5, l, b, t]
  else
    s.modQuoin (fun q => { q with
      target := modAt q.target b (fun _ => t)
      settle := modAt q.settle b (fun _ => if q.trim.getD b 0 = t then some s.presentLift else none) })

/-- The error of a bar for a mark steers its target (R250). -/
def State.steerBar (b m : Nat) (s : State) : State :=
  let q := s.qsec
  let c (k : Nat) : Option Int := (s.quoin.matched.find? (fun p => p.1 == k && p.2.1 == m)).map (·.2.2)
  let ref := if qnEn q 12 then (c 12).map (· - s.markAt 12 m) else some 0
  match c b, ref with
  | some cb, some r =>
    let e := (cb - s.markAt b m) - r
    let delay := bdDelay (s.sec SecId.barDelay) b
    let fired := m + barI delay
    let told := (s.quoin.settle.getD b none).any (fun l => l ≤ fired / 256)
    if !(s.bars.contains b) ∨ s.quoin.frozen.getLsbD b ∨ e.natAbs < qnDeadband q ∨ !told then s
    else
      let t := s.quoin.target.getD b 0 - ((qnGain q : Int) * e + 128) / 256
      let t' := clampTrim delay t
      let s := if s.quoin.target.getD b 0 = t' then s else s.setTarget b t'
      if t ≠ t' ∧ !(s.quoin.noted.contains b) then
        (s.modQuoin (fun x => { x with noted := b :: x.noted })).emit (srcLintel 0) 0x1209 0 [b, t']
      else s
  | _, _ => s

/-- A measurement: an accepted mark edge of a sensor, at the position at which its stable run began (R249, R250). -/
def State.markEdge (k : Nat) (p : Int) (s : State) : State :=
  let c := s.coord p
  match s.markFor k c with
  | none => s.modQuoin (fun q => { q with strays := q.strays + 1 })
  | some m =>
    let s := s.modQuoin (fun q => { q with
      matched := ((k, m, c) :: q.matched).take 416, nextMark := modAt q.nextMark k (fun _ => m + 1)
      misses := modAt q.misses k (fun _ => 0), hits := modAt q.hits k (· + 1) })
    let free (b : Nat) : Bool := [b, 12].all (fun i => !(qnEn s.qsec i) || 2 ≤ s.quoin.hits.getD i 0)
    let s := ((s.barsOf k).filter free).foldl (fun s b => s.freezeBar b false 0) s
    (s.barsOf k).foldl (fun s b => s.steerBar b m) s

/-- A mark input holds a level for a run of samples: an accepted edge of the sense in use is a measurement if, where its stable run
began, the module was PRINTING with the position source at its HWM (R213, R249). -/
def State.markIn (r : MarkRun) (s : State) : State :=
  let q := s.quoin
  let run := q.markRun.getD r.k 0
  let acc := q.mark.getLsbD r.k
  if !(qnEn s.qsec r.k) ∨ (s.butt.gang ∧ s.butt.member ≠ 0) then
    s.modQuoin (fun q => { q with mark := setBit q.mark r.k r.level, markRun := modAt q.markRun r.k (fun _ => 0) })
  else
    let here := if s.ident.opState = .printing ∧ s.posEnc.pos = s.posEnc.hwm then some s.posEnc.pos else none
    let from_ := if run = 0 then here else q.markAt.getD r.k none
    let t := lineTake (20 * qnFilter s.qsec) r.n acc r.level run
    let s := s.modQuoin (fun q => { q with
      mark := if t.1.isSome then setBit q.mark r.k r.level else q.mark
      markRun := modAt q.markRun r.k (fun _ => t.2), markAt := modAt q.markAt r.k (fun _ => from_) })
    match t.1, from_ with
    | some _, some p => if r.level = !(qnFalling s.qsec) then s.markEdge r.k p else s
    | _, _ => s

/-- A mark window closes without a match, in a hold too, where no edge is a measurement (R249). -/
def State.markMiss (k : Nat) (s : State) : State :=
  if !(qnEn s.qsec k) ∨ !s.printHold ∨ (s.butt.gang ∧ s.butt.member ≠ 0) then s else
    match s.awaited k with
    | none => s
    | some m =>
      if s.coord s.posEnc.hwm ≤ s.markAt k m + 256 * qnWin s.qsec then s
      else
        let n := s.quoin.misses.getD k 0 + 1
        let s := s.modQuoin (fun q => { q with
          misses := modAt q.misses k (fun _ => n), hits := modAt q.hits k (fun _ => 0)
          nextMark := modAt q.nextMark k (fun _ => m + 1) })
        if qnMissMax s.qsec ≤ n then (s.barsOf k).foldl (fun s b => s.freezeBar b true n) s else s

end Sys2Proof.Machine
end

