-- ==== Sys2Proof/Machine/Buttress.lean ====
section
/-! DEFINITION. Buttress: links, the mirror as a standby takes it, formation, takeover, swaps, gangs and the heartbeat
(R326 to R362). -/

namespace Sys2Proof.Machine

open Sys2Proof

/-! ## Links (R326, R327) -/

/-- A Buttress port: 0 East, 1 West. -/
def State.blink (s : State) (side : Nat) : BLink := if side = 0 then s.butt.east else s.butt.west

/-- Changes a Buttress port. -/
def State.modBlink (side : Nat) (f : BLink → BLink) (s : State) : State :=
  if side = 0 then { s with butt := { s.butt with east := f s.butt.east } } else { s with butt := { s.butt with west := f s.butt.west } }

/-- Changes the pair and gang state. -/
def State.modButt (f : Butt → Butt) (s : State) : State := { s with butt := f s.butt }

/-- A port with its UP lanes: those ALIGNED on which BEAT units have passed in both directions; with 2 of them the link is UP (R326). -/
def BLink.judged (now : Nat) (x : BLink) : BLink :=
  let l := x.aligned &&& x.heard &&& x.said
  let up := x.enabled && 2 ≤ popCount 4 l.toNat
  { x with lanes := l, up := up, downAt := if x.up && !up then now else x.downAt }

/-- The address the heartbeat goes to (R349, R350, R360). -/
def State.hbAddr (s : State) : Nat :=
  if s.hasSec SecId.pair then (s.sec SecId.pair).fld 4 0 32 else (s.sec SecId.gang).fld 8 0 32

/-- A link is UP with at least 2 of its lanes UP (R326); going UP, a missing heartbeat is a disagreement (R360), going DOWN, the gang stops
and the pair watches the leases (R339, R359). -/
def State.linkJudge (side : Nat) (s : State) : State :=
  let x := s.blink side
  let y := x.judged s.clock.up
  let s := (s.modBlink side (fun _ => y)).linkRecord side x y
  if x.up = y.up then s
  else if y.up then
    if s.hasSec SecId.pair ∧ s.hbAddr ≠ 0 ∧ !s.butt.hbOk then s.buttRecord 0x150A 0 [0, 1] else s
  else if s.butt.gang then (s.gangHold 5 none).gangSay [11, s.butt.member]
  else if side = s.pairSide then s.modButt (fun b => { b with lastLeft := [], renewed := false }) else s

/-- Receivers of these lanes are ALIGNED from now on (R326). -/
def State.linkUp (side lanes : Nat) (s : State) : State :=
  if !s.mainOn ∨ !(s.blink side).enabled then s
  else
    let m := BitVec.ofNat 4 lanes &&& buttLanes (s.sec SecId.laneTable) side
    (s.modBlink side (fun x => { x with aligned := x.aligned ||| m })).linkJudge side

/-- Only receivers of these lanes are still ALIGNED; or no BEAT has arrived for 20 µs, and a lane is UP again after its next BEAT (R326; log
entry 143). -/
def State.linkDown (side lanes : Nat) (s : State) : State :=
  let m := BitVec.ofNat 4 lanes
  let silent := s.since (s.blink side).lastBeat 20000
  (s.modBlink side (fun x => { x with
    aligned := x.aligned &&& m, said := x.said &&& m, heard := if silent then 0 else x.heard &&& m })).linkJudge side

/-- The lanes of a port on which a BEAT is due: those enabled on which none has left for 10 µs (R327). -/
def State.beatLanes (s : State) (side : Nat) : List Nat :=
  (List.range 4).filter (fun k => (buttLanes (s.sec SecId.laneTable) side).getLsbD k &&
    (assoc k (s.blink side).beatAt).all (fun t => s.since t 10000))

/-- BEAT leaves on every lane on which one is due (R326, R327). -/
def State.beatSend (side : Nat) (s : State) : State :=
  if !s.mainOn ∨ !(s.blink side).enabled then s else
    let due := s.beatLanes side
    let s := due.foldl (fun (s : State) (k : Nat) => s.buttSend (.butt side 0x20 [(k : Int), s.butt.role.code, s.ident.opState.code,
      s.lintel.hold.phase.code, s.presentLift, s.ident.stateSeq.toNat, s.butt.sinceSwap])) s
    (s.modBlink side (fun x => due.foldl (fun (x : BLink) (k : Nat) => { x with
      beatAt := assocSet k s.clock.up x.beatAt, said := if x.aligned.getLsbD k then setBit x.said k true else x.said }) x)).linkJudge side

/-- A standby in an armed state follows the ACTIVE's (R331); from PRINTING or HOLDING to READY, its own pending commit and its own
pending nozzle changes apply at once (R68, R199; log entry 121). -/
def State.follow (op phase : Nat) (s : State) : State :=
  if s.butt.role ≠ .standby ∨ !s.armed ∨ op < 4 ∨ 6 < op then s
  else
    let t := (s.enter (OpState.ofCode op)).modHold (fun h => { h with phase := HoldPhase.ofCode phase })
    if s.printHold ∧ OpState.ofCode op = .ready then (t.completePend none).applyAllNoz else t

/-- A planned swap is complete: the counts start anew, and the command that asked for it is answered (R346, R347). -/
def State.swapComplete (s : State) : State :=
  let pend := s.butt.swapPend
  let s := s.modButt (fun b => { b with
    swapAt := none, swapPend := none, swaps := satInc 65535 b.swaps, sinceSwap := 0, unproven := false })
  match pend with
  | some (_, ch, _) => s.respond ch {}
  | none => s

/-- BEAT arrives on a lane that is ALIGNED (R326, R331, R344). An ACTIVE that has given its role away takes the swap as complete once the
new ACTIVE counts SINCE_SWAP anew, 100 ms after the change (R346; log entry 125). -/
def State.beat (side role op phase : Nat) (r : BeatIn) (s : State) : State :=
  if !(s.blink side).enabled ∨ !((s.blink side).aligned.getLsbD r.lane) then s else
    let s := (s.modBlink side (fun x => { x with lastBeat := s.clock.up, heard := setBit x.heard r.lane true })).linkJudge side
    if !(s.hasSec SecId.pair) ∨ side ≠ s.pairSide then s
    else
      let s := s.modButt (fun b => { b with
        partnerRole := PairRole.ofCode role, partnerState := OpState.ofCode op, partnerSeq := r.seq, partnerLift := r.lift
        partnerSince := r.since })
      let s := if s.butt.role = .standby ∧ role = 1 ∧ r.since = 0 ∧ s.butt.swapAt.any (fun p => s.since p.1 100000000) then s.swapComplete
        else s
      if s.butt.role = .active ∧ s.butt.swapOff.isSome ∧ role = 1 then
        let mode := (s.butt.swapPend.map Prod.fst).getD 0
        let rc := s.lintel.hold.rc.getD s.lintel.next
        (s.modButt (fun b => { b with swapOff := none, swapAt := some (s.clock.up, mode, rc) })).setRole .standby
      else s.follow op phase

/-! ## Epochs (R333 to R337) -/

/-- The bank of an epoch. -/
def State.bankOf (s : State) (lift : Nat) : List (Nat × Nat × List Nat) :=
  if lift % 2 = 0 then (if s.butt.bankLift0 = some lift then s.butt.bank0 else [])
  else (if s.butt.bankLift1 = some lift then s.butt.bank1 else [])

/-- Insertion of mirror units by item, then offset. -/
def insertUnit (u : Nat × Nat × List Nat) : List (Nat × Nat × List Nat) → List (Nat × Nat × List Nat)
  | [] => [u]
  | v :: l => if u.1 < v.1 ∨ (u.1 = v.1 ∧ u.2.1 ≤ v.2.1) then u :: v :: l else v :: insertUnit u l

/-- The bytes an item has in a bank. -/
def itemLen (bank : List (Nat × Nat × List Nat)) (item : Nat) : Nat :=
  ((bank.filter (·.1 == item)).map (fun p => p.2.1 + p.2.2.length)).foldl max 0

/-- Entries of 3 bytes of index and 1 byte of value. -/
def indexEntries (m : Mem) (off n : Nat) : List (Nat × Nat) :=
  (List.range n).map (fun i => (m.le (off + 4 * i) 3, (m.get (off + 4 * i + 3)).toNat))

/-- The position of the source at a press time, between its stamped samples (R335). -/
def State.posAt (s : State) (t : Nat) : Int :=
  let l := s.lintel.samples
  match l.reverse.find? (fun p => t < p.1), l.find? (fun p => p.1 ≤ t) with
  | some k, some j => fix32 j.2 + fix32 (k.2 - j.2) * (t - j.1 : Nat) / (k.1 - j.1 : Nat)
  | _, _ => fix32 s.posEnc.pos

/-- The grid of the ACTIVE is adopted at the first epoch, and measured again at every later one (R335). -/
def State.gridCheck (m : Mem) (s : State) : State :=
  let c := m.le 0 8
  let delta := signed 128 (m.le 8 16) - s.posAt (m.le 24 8)
  match s.butt.grid with
  | none =>
    let s := s.modLintel (fun x => { x with n0 := c + 1, origin := signed 128 (m.le 8 16) - delta, runFrom := none })
    s.modButt (fun b => { b with grid := some delta })
  | some d => if fix32 2 < ((delta - d).natAbs : Int) then s.setMirror false 2 else s

/-- Sets a code in one of the density tables, by index over all bars. -/
def setCode (l : List SMap) (p : Nat × Nat) : List SMap := modAt l (p.1 / barNoz) (fun m => m.set (p.1 % barNoz) p.2)

/-- The nozzle changes of an epoch govern from its lift on; the forwarded commands that brought them wait no longer (R184, R334). -/
def State.epochNozzles (lift : Nat) (es : List (Nat × Nat)) (s : State) : State :=
  let s := ((s.pastFrom lift (fun l => putStates l es)).setNozzles es).1
  { s with point := { s.point with pend := s.point.pend.filter (lift < ·.lift) } }

/-- A standby applies a complete epoch: its copy of the codes steps with the targets of the epochs before, as the ACTIVE's codes did, is
compared, and then takes the new targets (R334, R335; log entry 136). -/
def State.applyEpoch (lift : Nat) (s : State) : State :=
  let bank := s.bankOf lift
  let s := s.gridCheck (bankItem bank 2)
  let q := bankItem bank 3
  let s := s.modQuoin (fun x => { x with
    trim := (List.range 12).map (fun b => signed 16 (q.le (16 * b) 2))
    target := (List.range 12).map (fun b => signed 16 (q.le (16 * b + 2) 2))
    settle := (List.range 12).map (fun b => let v := q.le (16 * b + 8) 8; if v = 2 ^ 64 - 1 then none else some v) })
  let d := bankItem bank 4
  let s := (s.densBegin lift).settleRows lift
  let ok := (List.range 12).all (fun b => d.le (16 + 4 * b) 4 == crc32c ((List.range barNoz).map (s.codesFor lift b).get))
  let s := s.modTone (fun t =>
    { t.retargetAll (indexEntries d 64 ((itemLen bank 4 - 64) / 4)) with freeze := BitVec.ofNat 12 (d.le 0 2) })
  let s := s.epochNozzles lift (indexEntries (bankItem bank 5) 0 (itemLen bank 5 / 4))
  let s := s.modButt (fun b => { b with
    epoch := some lift, jobTable := (bankItem bank 6).read 0 (itemLen bank 6)
    whole0 := b.whole0 || lift % 2 == 0, whole1 := b.whole1 || lift % 2 == 1
    densChg := b.densChg.filter (fun p => lift + 1 < p.1), freezeChg := b.freezeChg.filter (fun p => lift + 1 < p.1) })
  if !ok then s.setMirror false 2 else if s.butt.synced then s.setMirror true 0 else s

/-- An epoch is complete, and applied, once its EPOCH_END has arrived and UNITS and ECRC match (R334). -/
def State.tryEpoch (lift : Nat) (s : State) : State :=
  match (if lift % 2 = 0 then s.butt.end0 else s.butt.end1) with
  | none => s
  | some (units, ecrc) =>
    let bank := s.bankOf lift
    let data := (bank.foldr insertUnit []).flatMap (·.2.2)
    if bank.length % 65536 = units ∧ crc32c data = ecrc ∧ s.butt.epoch ≠ some lift then s.applyEpoch lift else s

/-- The bank of an epoch, emptied where it held another one (R334). -/
def Butt.openBank (lift : Nat) (b : Butt) : Butt :=
  if lift % 2 = 0 then (if b.bankLift0 = some lift then b else { b with bankLift0 := some lift, bank0 := [], end0 := none, whole0 := false })
  else if b.bankLift1 = some lift then b else { b with bankLift1 := some lift, bank1 := [], end1 := none, whole1 := false }

/-- MIRROR arrives at a standby: it is written into bank L mod 2 (R334). -/
def State.mirrorUnit (lift item off : Nat) (bytes : List Nat) (s : State) : State :=
  if s.butt.role ≠ .standby then s
  else
    let put (l : List (Nat × Nat × List Nat)) := l.filter (fun u => u.1 != item || u.2.1 != off) ++ [(item, off, bytes)]
    (s.modButt (fun b =>
      let b := b.openBank lift
      if lift % 2 = 0 then { b with bank0 := put b.bank0 } else { b with bank1 := put b.bank1 })).tryEpoch lift

/-- EPOCH_END arrives (R334). -/
def State.epochEnd (lift units ecrc : Nat) (s : State) : State :=
  if s.butt.role ≠ .standby then s
  else
    (s.modButt (fun b =>
      let b := b.openBank lift
      if lift % 2 = 0 then { b with end0 := some (units, ecrc) } else { b with end1 := some (units, ecrc) })).tryEpoch lift

/-- PROGRESS arrives (R328, R334); the first course of its lift ends a commit forwarded to the standby, which loads its codes as the
ACTIVE did when it began to screen that lift (R145, R332; log entry 121). -/
def State.progressUnit (course : Nat) (s : State) : State :=
  if s.butt.role ≠ .standby then s else
    let s := s.modButt (fun b => { b with progress := some course })
    let s := (if s.cfg.pend.any (fun p => 256 * p.lift ≤ course && !p.loaded) then s.densBegin (course / 256) else s).commitFired course
    if s.butt.mirrorOk ∧ 512 ≤ course ∧ !(s.butt.epoch.any (course / 256 - 2 ≤ ·)) then s.setMirror false 1 else s

/-- Sections that a pair does not share: LANE_TABLE and PAIR (R351). -/
def unshared (id : Nat) : Bool := id == SecId.laneTable || id == SecId.pair

/-- The committed sections of the ACTIVE take the place of the standby's where they differ (R337). -/
def State.adoptConfig (secs : List (Nat × List Nat)) (s : State) : State :=
  let new := secs.map (fun p => (p.1, ({ len := p.2.length, mem := (Mem.write [] 0 p.2) } : Sec)))
  let keep := s.cfg.force.filter (fun p => unshared p.1)
  let touched := (new.filter (fun p => !((assoc p.1 s.cfg.force).any (Sec.same p.2)))).map Prod.fst
  let same := touched.isEmpty && (s.cfg.force.filter (fun p => !(unshared p.1))).length == new.length
  if same then s
  else s.applySet { chan := 4, lift := 0, gen := s.cfg.gen, secs := keep.foldl (fun l p => assocSet p.1 p.2 l) new, touched := touched } none

/-- The state copy of a resynchronisation arrives: the configuration, whose digest is checked, then the state (R337; log entry 136). -/
def State.copyIn (c : CopyIn) (s : State) : State :=
  let s := if s.butt.role = .standby then s.adoptConfig c.secs else s
  if s.butt.role ≠ .standby ∨ c.digest ≠ s.pairDigest then s else
    let codes (l : List (Nat × Nat)) : List SMap := l.foldl setCode (List.replicate 12 ⟨128, []⟩)
    let l := c.states.foldl setCode (List.replicate 12 ⟨0, []⟩)
    let s := { s with point := { s.point with
      states := l, past := [], seam0 := l.map (SMap.only (seamNozzle 0 32)), seam1 := l.map (SMap.only (seamNozzle 1 32)) } }
    let s := s.modTone (Tone.adopt c.highest (codes c.active) (codes c.before) (codes c.target))
    let s := s.modQuoin (fun q => { q with
      trim := (c.trims ++ q.trim.drop c.trims.length).take 12, target := (c.targets ++ q.target.drop c.targets.length).take 12
      settle := (c.settle ++ q.settle.drop c.settle.length).take 12 })
    s.modButt (fun b => { b with jobTable := c.jobs, synced := true, grid := none })

/-- The values of tables that differ from `dflt`, by index over all bars. -/
def allCells (dflt : Nat) (l : List SMap) : List (Nat × Nat) :=
  l.zipIdx.flatMap (fun p =>
    if p.1.dflt = dflt then p.1.cells.map (fun c => (p.2 * barNoz + c.1, c.2))
    else ((List.range barNoz).map (fun i => (p.2 * barNoz + i, p.1.get i))).filter (fun c => c.2 != dflt))

/-- The ACTIVE sends the standby a full state copy: the committed configuration, every nozzle state, every active and target code, the
Quoin state and the job table (R337; log entry 136). -/
def State.resync (s : State) : State :=
  if s.butt.role ≠ .active ∨ s.butt.mirrorOk ∨ !s.pairUp ∨ s.butt.partnerRole ≠ .standby ∨ (s.butt.partnerState.code < 3 ∨ s.butt.partnerState = .fault)
  then s else
    let flat (l : List (Nat × Nat)) : List Int := (l.length : Int) :: l.flatMap (fun p => [(p.1 : Int), (p.2 : Int)])
    let secs := s.cfg.force.filter (fun p => !(unshared p.1))
    let bytes : List Int := (secs.length : Int) :: secs.flatMap (fun p =>
      [(p.1 : Int), (p.2.len : Int)] ++ (p.2.mem.read 0 p.2.len).map Int.ofNat)
    let jobs := ((s.epochItems (s.lintel.next / 256)).flatMap (fun p => if p.1 = 6 then p.2 else [])).map Int.ofNat
    let lift (l : Option Nat) : Int := ((l.getD (2 ^ 64 - 1) : Nat) : Int)
    (s.buttSend (.butt s.pairSide 0x25 ([2, (s.pairDigest : Int)] ++ bytes ++ flat (allCells 0 s.point.states) ++ [lift s.tone.highest] ++
      flat (allCells 128 s.tone.active) ++ flat (allCells 128 s.tone.before) ++ flat (allCells 128 s.tone.target) ++ s.quoin.trim ++
      s.quoin.target ++ s.quoin.settle.map lift ++ jobs))).modButt (fun b => { b with synced := true })

/-! ## Formation, takeover and swaps (R329 to R347) -/

/-- Nodes that carry an installed head. -/
def State.headNodes (s : State) : List Nat :=
  ((s.point.nodes.filter (fun n => n.heads.any s.installed)).map (·.id))

/-- ACQUIRE on every node with an installed head (R341). -/
def State.acquireAll (s : State) : State :=
  s.headNodes.foldl (fun s id =>
    match (s.upLanesOf id).head? with
    | none => s
    | some l => s.sendAcquire id (s.lane l).port) s

/-- The comparison of R353 for a pair: 1 digest, 2 firmware, 3 time; nothing where all match (R330). -/
def State.pairMismatch (s : State) (digest fw : Nat) (offset : Int) : Option Nat :=
  if digest ≠ s.pairDigest then some 1
  else if fw ≠ s.ident.fwVersion then some 2
  else if 50 < offset.natAbs then some 3
  else none

/-- A mirror with nothing in it (R333, R335). -/
def Butt.freshMirror (b : Butt) : Butt :=
  { b with synced := false, grid := none, epoch := none, bankLift0 := none, bankLift1 := none, whole0 := false, whole1 := false
           densChg := [], freezeChg := none }

/-- What the link tells of the partner: its digest, firmware, time offset and PREFER (R330, R348). -/
def State.partnerTold (p : PInfo) (s : State) : State := if s.pairUp then s.modButt (fun b => { b with partnerInfo := p }) else s

/-- Formation (R330, R344). The operands are the partner's digest, firmware, PREFER and time offset. -/
def State.formPair (digest fw : Nat) (offset : Int) (prefer : Bool) (s : State) : State × Option Nat :=
  let own := (s.sec SecId.pair).flag 0 1
  if !(s.hasSec SecId.pair) ∨ s.butt.role ≠ .isolated ∨ s.butt.partnerRole ≠ .isolated ∨ !s.pairUp ∨
      !(s.ident.opState == .rest || s.ident.opState == .ready) ∨
      !(s.butt.partnerState == .rest || s.butt.partnerState == .ready) ∨ s.ndeig.leases.any (·.held) then (s, none)
  else
    match s.pairMismatch digest fw offset with
    | some d => (s.buttRecord 0x1501 0 [s.butt.role.code, s.butt.role.code, d], some d)
    | none =>
      if own = prefer then (s, none)
      else
        let s := s.modButt (fun b => { b.freshMirror with synced := true })
        if own then ((s.setRole .active).acquireAll, none) else (s.setRole .standby, none)

/-- Whether a standby may take over (R338). -/
def State.mayTakeOver (s : State) : Bool :=
  s.butt.role == .standby && s.armed && s.present == 0 && s.butt.mirrorOk &&
  (s.epochFor s.takeoverCourses.2).isSome && (!s.pairUp || s.butt.handover.isSome) &&
  s.headNodes.all (fun id => (s.lease id).free) && !s.headNodes.isEmpty

/-- TAKEOVER: every node is acquired at once (R338, R341, R360). -/
def State.takeover (s : State) : State :=
  if !s.mayTakeOver ∨ s.butt.acqAt.isSome then s else
    let s := if s.butt.hbOk then s.buttRecord 0x150A 0 [1, bit s.pairUp] else s
    (s.modButt (fun b => { b with acqAt := some s.clock.up, acqSwap := false })).acquireAll

/-- HANDOVER arrives; CAUSE 31 offers a swap (R340, R346). -/
def State.handoverUnit (fDone : Nat) (oneMore : Bool) (cause : Nat) (s : State) : State :=
  if s.butt.role ≠ .standby then s else
    let s := s.modButt (fun b => { b with handover := some (fDone, oneMore) })
    if cause ≠ 31 then s else
      let s := s.modLintel (fun x => { x with next := fDone + 1, queue := [], recPrev := none })
      let s := if s.ident.opState = .holding then s.modHold (fun h => { h with rc := some (fDone + 1), ended := true }) else s
      (s.modButt (fun b => { b with acqAt := some s.clock.up, acqSwap := true })).acquireAll

/-- An acquire has not been granted by every node within 2 ms (R341, R346). -/
def State.acquireTimeout (s : State) : State :=
  if s.butt.acqAt.any (fun t => s.since t 2000000) then
    let n := (s.ndeig.leases.filter (·.held)).length
    let s := (s.releaseAll).takeChanges.modButt (fun b => { b with acqAt := none, acqSwap := false, handover := none })
    (s.setRole .isolated).buttRecord 0x1505 0 [2, n]
  else if s.butt.role = .active ∧ s.butt.swapOff.any (fun t => s.since t 2000000) then
    let mode := (s.butt.swapPend.map Prod.fst).getD 0
    let pend := s.butt.swapPend
    let rc := s.lintel.hold.rc.getD s.lintel.next
    let s := (s.modButt (fun b => { b with
      swapOff := none, swapPend := none, mask := if mode = 2 then some (rc, rc - 1) else b.mask })).acquireAll
    match pend with
    | some (_, ch, _) => s.respond ch (Reply.fail Res.hwFault 0)
    | none => s
  else s

/-- The partner is a STANDBY with MIRROR_OK (R345, R361). -/
def State.partnerReady (s : State) : Bool := s.pairUp && s.butt.partnerRole == .standby && s.butt.mirrorOk

/-- Every released row has fired (R346). -/
def State.allFired (s : State) : Bool :=
  s.lintel.queue.isEmpty && (List.range 80).all (fun l => (s.lane l).frames.all (·.fire < s.now))

/-- A swap runs: HANDOVER, RELEASE, the ROLE output off (R346). -/
def State.beginSwap (s : State) : State :=
  let rc := if s.ident.opState = .holding then s.lintel.hold.rc.getD s.lintel.next else s.lintel.next
  ((s.sendHandover (rc - 1) false 31).releaseAll).modButt (fun b => { b with swapOff := some s.clock.up })

/-- A pending swap runs at READY, and a HOLD swap in BACKED, once every released row has fired (R345, R346). -/
def State.swapWhenReady (s : State) : State :=
  match s.butt.swapPend with
  | none => s
  | some (mode, _, _) =>
    if s.butt.role = .active ∧ s.butt.swapOff.isNone ∧ s.swapPlace mode ∧ s.partnerReady ∧ s.allFired then s.beginSwap else s

/-- SWAP_INTERVAL has passed: a NOW swap at READY with no started job, which no mailbox channel awaits (R347). -/
def State.autoSwap (s : State) : State :=
  let c := s.sec SecId.pair
  if s.butt.role = .active ∧ c.flag 0 3 ∧ c.fld 1 0 8 * 3600 ≤ s.butt.sinceSwap ∧ s.ident.opState = .ready ∧ s.started.isEmpty ∧
      s.butt.swapPend.isNone ∧ s.butt.swapOff.isNone ∧ s.butt.swapAt.isNone ∧ s.partnerReady then
    (s.modButt (fun b => { b with swapPend := some (0, 4, 0) })).swapWhenReady
  else s

/-- A second of PRINTING (R347). -/
def State.sinceSwapTick (s : State) : State :=
  if !(s.hasSec SecId.pair) ∨ s.ident.opState ≠ .printing then s else
    let n := satInc (2 ^ 32 - 1) s.butt.sinceSwap
    let s := s.modButt (fun b => { b with sinceSwap := n })
    if 259200 ≤ n ∧ !s.butt.unproven then (s.modButt (fun b => { b with unproven := true })).buttRecord 0x1507 0 [n] else s

/-- Every engine has reported alive, and none is stalled (R315, R346). -/
def State.enginesAlive (s : State) : Bool :=
  s.plumb.stalled.isEmpty && watchedEngines.all (fun e => s.plumb.beats.any (fun x => x.1 == e && s.clock.up < x.2.2 + 5000000))

/-- A swap is complete once the new ACTIVE holds every lease and all its engines have been alive for 100 ms since; the new ACTIVE writes the
record (R346; log entry 125). -/
def State.swapDone (s : State) : State :=
  match s.butt.swapAt with
  | none => s
  | some (t, mode, rc) =>
    if s.butt.role ≠ .active ∨ s.unheldHead.isSome ∨ !s.enginesAlive ∨ !(s.since t 100000000) then s
    else (s.buttRecord 0x1506 0 [mode, rc]).swapComplete

/-- What a forwarded command answers once every acknowledgement is in: the first answer in member order that is not OK (R332,
R354). -/
def Fwd.reply (f : Fwd) : Reply :=
  let own : Reply := { result := f.result, detail := f.detail, data := f.data, warn := f.warn, late := f.late }
  match f.acks with
  | [] => own
  | a :: l =>
    let x := l.foldl (fun (x : Nat × Nat × Nat) y => if y.1 < x.1 then y else x) a
    Reply.fail x.2.1 x.2.2

/-- Whether an acknowledgement is of a forwarded command. -/
def Fwd.is (ch slot : Nat) (f : Fwd) : Bool := f.ch == ch && f.slot == slot

/-- Every acknowledgement of a forwarded command is in. A CFG.COMMIT goes on waiting for its lift, unless the acknowledgement came too
late for it or is a refusal (R332, R354). -/
def State.ackDone (f : Fwd) (s : State) : State :=
  let s := s.modButt (fun b => { b with fwd := b.fwd.filter (fun g => !(g.is f.ch f.slot)) })
  if !f.keep then s.respond f.ch f.reply
  else match s.cfg.pend with
    | none => s
    | some _ => if f.acks.isEmpty then s else s.endPend f.reply.result f.reply.detail

/-- A command forwarded to the partner is not acknowledged, for its link, its time or its answer: the mirror is no longer OK, and the
command completes with WARN (R332, R337). -/
def State.ackFailed (f : Fwd) (s : State) : State :=
  let s := (s.setMirror false 3).modButt (fun b => { b with fwd := b.fwd.filter (fun g => !(g.is f.ch f.slot)) })
  if f.keep then { s with cfg := { s.cfg with pend := s.cfg.pend.map (fun p => { p with noAck := true }) } }
  else s.respond f.ch { f.reply with warn := true, detail := 0x0901 }

/-- A forwarded command is acknowledged (R332, R354): by the partner, whose LATE ends a commit on both, and whose other refusals are no
acknowledgement (log entry 143); or by a gang member with its answer; for CFG.CHECK the gang
digests must agree. -/
def State.ackIn (ch slot member result detail digest : Nat) (s : State) : State :=
  match s.butt.fwd.find? (Fwd.is ch slot) with
  | none => s
  | some f =>
    if f.need.isEmpty then
      if result = 0 then s.ackDone f
      else if f.keep ∧ result = Res.late then s.ackDone { f with acks := [(member, result, detail)] }
      else s.ackFailed f
    else
      let bad := f.check && result == 0 && digest != gangDigestOf s.cfg.shadow
      let acks := if bad then f.acks ++ [(member, Res.checkFail, 0x0009)]
        else if result = 0 then f.acks else f.acks ++ [(member, result, detail)]
      let f := { f with acks := acks, need := f.need.filter (· != member) }
      if f.need.isEmpty then s.ackDone f
      else s.modButt (fun b => { b with fwd := b.fwd.map (fun g => if g.is ch slot then f else g) })

/-- A command forwarded to the partner is not acknowledged within 1 ms (R332, R337). -/
def State.ackTimeout (ch slot : Nat) (s : State) : State :=
  match s.butt.fwd.find? (fun f => f.is ch slot && f.need.isEmpty && s.since f.at_ 1000000) with
  | none => s
  | some f => s.ackFailed f

/-! ## Gangs (R352 to R359) -/

/-- The side a unit came from, passed along the chain (R356). -/
def State.gangPass (side : Nat) (fields : List Int) (s : State) : State :=
  if s.butt.gang then s.buttSend (.butt (1 - side) 0x26 fields) else s

/-- A stop course announced in the gang bounds that of the hold (R356). -/
def State.stopAt (c : Nat) (s : State) : State :=
  s.modHold (fun h => if h.phase = .stopping && !h.ended then { h with stop := some (min (h.stop.getD c) c) } else h)

/-- GSYNC arrives from a side (R356 to R359). -/
def State.gsync (side : Nat) (m : GMsg) (s : State) : State :=
  if !s.butt.gang then
    if m = .form ∧ s.hasSec SecId.gang then
      (({ s with butt := { s.butt with gang := true } }).gangPass side [9]).buttRecord 0x1508 0 [0, s.butt.member]
    else s
  else
    match m with
    | .form => s
    | .dissolve => (s.gangPass side [10]).modButt (fun b => { b with gang := false })
    | .commitToken l =>
      let ok (p : Pend) : Bool := p.lift == l && s.lintel.next + 128 ≤ 256 * l
      (s.gangPass side [0, l]) |> fun s => { s with cfg := { s.cfg with pend := s.cfg.pend.map (fun p => if ok p then { p with token := true } else p) } }
    | .stop c =>
      let s := (s.gangPass side [1, c]).modButt (fun b => { b with stops := c :: b.stops })
      ((s.gangHold 0 none).stopAt c).endRelease
    | .unserved c =>
      let s := (((s.gangPass side [7, c]).cancelFrom c).withdraw c).gangHold 0 (some c)
      (s.stopAt c).endRelease
    | .retry => (s.gangPass side [12]).gangRetry
    | .liftToken l => s.gangPass side [3, l]
    | .settled k => (s.gangPass side [2, k]).modButt (fun b => { b with settled := if b.settled.contains k then b.settled else k :: b.settled })
    | .ceiling k v => ((s.gangPass side [4, k, v]).modButt (fun b => { b with ceils := assocSet k v b.ceils })).updateCeil
    | .target l b t => (s.gangPass side [5, l, b, t]).modQuoin (fun q => { q with pendT := q.pendT ++ [(l, b, t)] })
    | .fire c t =>
      let s := (s.gangPass side [6, c, t]).modButt (fun b => { b with fires := ((c, t) :: b.fires).take 8 })
      match assoc c s.lintel.base with
      | some own => s.fireCompare c own
      | none => s
    | .linkDown k => (s.gangPass side [11, k]).gangHold 5 none
    | .rest k => (s.gangPass side [8, k]).gangHold 4 none

/-- This module's own offset to member 0: that of its East neighbour chained to its own, or 0 at member 0 (R352, R358). -/
def State.chainOffset (s : State) : Int := if s.butt.member = 0 then 0 else (assoc s.butt.member s.butt.chain).getD 0

/-- The offsets to member 0 that a member tells its neighbour on a side: its own, and those of the members beyond it (R358, R361). -/
def State.chainTold (s : State) (side : Nat) : List (Nat × Int) :=
  (s.butt.member, s.chainOffset) :: s.butt.chain.filter (fun p => if side = 0 then s.butt.member < p.1 else p.1 < s.butt.member)

/-- The offsets in ns of other modules against this one: those measured to its neighbours, and in a gang, through member 0, those of every
member that the chain has told (R358, R361). -/
def State.allOffsets (s : State) : List (Nat × Int) :=
  if s.hasSec SecId.pair then s.butt.offsets
  else s.butt.offsets ++ (s.butt.chain.filter (·.1 != s.butt.member)).map (fun p => (p.1, s.chainOffset - p.2))

/-- The neighbour's press time less ours, in ns: what it says, and the return delay of the echo corrected by the ASYM of the lane's
LANE_TABLE entry, 80 to 83 East and 84 to 87 West (R291, R358; log entry 22). -/
def State.echoOffset (side : Nat) (e : GEcho) (s : State) : Int × State :=
  let n : Int := 15 * e.rtt - 1000 * e.turn - 15 * ltAsym (s.sec SecId.laneTable) (80 + 4 * side + e.lane % 4)
  let up := if n % 30000 = 0 then (0, s) else s.fresh
  ((e.stamp : Int) + n / 30000 + ((up.1 % 2 : Nat) : Int) - s.now, up.2)

/-- TIME_OFFSET: the offset of the largest size among those measured (R361). -/
def largestOffset (l : List (Nat × Int)) : Int := l.foldl (fun m p => if m.natAbs < p.2.natAbs then p.2 else m) 0

/-- What an answer to GTIME leaves: the offset to the neighbour, the offsets it tells, with this member's own, chained to member 0 through
the East port, and TIME_OFFSET (R358, R361). -/
def State.offsetKept (side : Nat) (own : Int) (e : GEcho) (s : State) : State :=
  let s := s.modButt (fun b =>
    let told := e.chain.foldl (fun (l : List (Nat × Int)) p => assocSet p.1 p.2 l) b.chain
    let next := if side = 0 then (assoc (b.member - 1) e.chain).map (fun c => (b.member, own + c)) else none
    { b with
      offsets := assocSet side own b.offsets
      chain := if b.member = 0 then assocSet 0 0 told else match next with
        | some p => assocSet p.1 p.2 told
        | none => told })
  s.modButt (fun b => { b with offset := largestOffset s.allOffsets })

/-- What a measured offset does: beyond 100 ns the mirror of a pair ends, and a gang that prints diverges (R337, R358). -/
def State.offsetJudged (offset : Int) (s : State) : State :=
  if s.hasSec SecId.pair then
    if 100 < offset.natAbs ∧ (s.butt.role = .standby ∨ s.butt.role = .active) then s.setMirror false 4 else s
  else if s.hasSec SecId.gang then
    let s := s.modButt (fun b => { b with
      divergeOk := if 16 ≤ b.divergeOk then 16 else if offset.natAbs ≤ 50 then b.divergeOk + 1 else 0 })
    if s.butt.gang ∧ 100 < offset.natAbs ∧ s.ident.opState = .printing then s.diverge 1 s.butt.member offset else s
  else s

/-- GTIME arrives: a request is answered; an answer gives the offset to the neighbour (R337, R358). -/
def State.gtime (side : Nat) (request : Bool) (e : GEcho) (s : State) : State :=
  if request then s.buttSend (.butt side 0x27 ([1, (s.now : Int)] ++ (s.chainTold side).flatMap (fun p => [(p.1 : Int), p.2])))
  else
    let (own, s) := s.echoOffset side e
    let s := s.offsetKept side own e
    s.offsetJudged (if s.butt.gang ∧ side = 0 then s.chainOffset else own)

/-- Neighbours start an offset measurement (R358). -/
def State.offsetMeasure (s : State) : State :=
  [0, 1].foldl (fun s side => if (s.blink side).up then s.buttSend (.butt side 0x27 [0, s.now]) else s) s

/-- A table from the list of its values. -/
def SMap.ofValues (dflt : Nat) (l : List Nat) : SMap :=
  { dflt := dflt, cells := (l.zipIdx.map (fun p => (p.2, p.1))).filter (fun p => p.2 != dflt) }

/-- What a seam unit brings: the overlap levels of a course or, with a body of 257 numbers, a copy of one bar's nozzle states and
density codes from the course's lift on (R355, log entry 59). -/
def seamTake (side course : Nat) (body : List Nat) (b : Butt) : Butt :=
  match body with
  | bar :: rest =>
    if rest.length = 256 then
      { b with copies := ({ side := side, bar := bar, lift := course / 256, states := .ofValues 3 ((rest.take 128).map (· % 4))
                            codes := .ofValues 128 ((rest.drop 128).map (· % 256)) } :: b.copies).take 768 }
    else { b with seam := ((side, course, body) :: b.seam).take 2048 }
  | [] => { b with seam := ((side, course, []) :: b.seam).take 2048 }

/-- A neighbour's overlap levels or a copy of its overlap nozzles arrive; or, in its place, the CRC-32C of the copies that it holds of
ours for a lift, which must be that of our own values (R355). -/
def State.gseam (side course : Nat) (levels : List Nat) (crc : Option Nat) (s : State) : State :=
  if !s.butt.gang then s else
    let own := crc32c ((List.range 12).flatMap (fun b => s.ownCopy side b (course / 256)))
    let was := s.neighbourLift 1 (course / 256)
    let s := if crc.isNone then s.modButt (seamTake side course levels) else s
    let s := if was then s else s.sendToken (course / 256)
    if crc.all (· == own) then s else (s.buttRecord 0x150B 0 [side, course / 256]).gangHold 3 none

/-- The levels of the 16 owned overlap columns of a course, for the neighbour on a side (R352, R355). -/
def State.seamLevels (s : State) (side f : Nat) : List Nat :=
  let x0 := if side = 0 then 16 else 120960
  (List.range 12).flatMap (fun ch =>
    match (s.buf (f / 256)).bind (fun b => b.rows.find? (fun r => r.ch == ch && r.course == f)) with
    | some r => (r.levels.drop x0).take 16
    | none => List.replicate 16 0)

/-- A complete lift's overlap levels go to the neighbour beside the wythe that has screened it, East of Wythe 0 (R355). -/
def State.sendSeam (side lift : Nat) (s : State) : State :=
  if !s.butt.gang ∨ !(s.blink side).up then s else
    (List.range 256).foldl (fun s i => s.buttSend (.butt side 0x28 ((256 * lift + i : Nat) :: (s.seamLevels side (256 * lift + i)).map Int.ofNat))) s

/-- A wythe has screened a lift: the neighbour beside it has its levels, and the audit of the lift is judged (R22, R179, R355). -/
def State.screened (w lift : Nat) (mismatch : Bool) (s : State) : State :=
  let t := s.liftScreened w lift
  if s.mortar.bufs.any (fun b => b.lift == lift && b.done w) || !(t.mortar.bufs.any (fun b => b.lift == lift && b.done w)) then t
  else
    let audit := s.auditOf w lift
    let t := (t.sendSeam w lift).modMortar (fun m => if w = 0 then { m with audits0 := m.audits0 + 1 } else { m with audits1 := m.audits1 + 1 })
    match audit with
    | some (a, b, ch, col, img) => if mismatch then t.auditFail w a b ch col img else t
    | none => t

/-! ## Heartbeat (R360) -/

def State.heartbeatSend (s : State) : State :=
  if !s.mainOn ∨ s.hbAddr = 0 then s else
    s.send (.eth (if s.time.port0.link then 0 else 1) 40812
      [s.hbAddr, s.butt.role.code, s.ident.opState.code, s.ident.stateSeq.toNat, (s.butt.progress.getD (2 ^ 64 - 1) : Nat), s.butt.sinceSwap])

/-- A datagram arrives, in a gang at member 0 from the member that it names (R360). -/
def State.heartbeatIn (member : Nat) (fields : List Nat) (s : State) : State :=
  if !s.mainOn then s else s.modButt (fun b => { b with hbOk := true, hbAt := s.clock.up, members := assocSet member (s.clock.up, fields) b.members })

/-- A module from which no datagram has come for 20 ms is absent; HB_OK is cleared once every one is, or in a gang any (R360; log entry
143). -/
def State.hbTimeout (s : State) : State :=
  let quiet := s.butt.members.any (fun m => s.since m.2.1 20000000)
  let s' := s.modButt (fun b => { b with members := b.members.filter (fun m => !(s.since m.2.1 20000000)) })
  if s.butt.hbOk ∧ (s.since s.butt.hbAt 20000000 ∨ (quiet ∧ s.hasSec SecId.gang)) then
    let s := s'.modButt (fun b => { b with hbOk := false })
    if s.pairUp then s.buttRecord 0x150A 0 [0, 1] else s
  else s'

end Sys2Proof.Machine
end

