-- ==== Sys2Proof/Machine/Power.lean ====
section
/-! DEFINITION. Supplies, power domains, resets and BOOT (R446 to R461). -/

namespace Sys2Proof.Machine

open Sys2Proof

/-- Changes the power unit. -/
def State.modPower (f : Power → Power) (s : State) : State := { s with power := f s.power }

/-- Changes the Plinth. -/
def State.modPlinth (f : Plinth → Plinth) (s : State) : State := { s with plinth := f s.plinth }

/-- A record of the Aux sequencer (R462). -/
def State.auxRecord (code : Nat) (data : List Int) (s : State) : State := s.emit srcAux code 0 data

/-! ## Resets (R453, R454) -/

/-- The link and pair status that PAIR keeps while the main domains are off (R430). -/
def State.pairBytes (s : State) : List Nat :=
  [s.butt.role.code, bit s.butt.unproven, bit s.butt.mirrorOk, bit s.butt.hbOk, bit s.butt.east.up, bit s.butt.west.up,
   bit s.butt.gang, s.butt.member]

/-- The main-domain reset: every field of D2 to D11 takes its reset value; D0, D1, the press outside the module, the
host's memory and the node boards stay (R453). -/
def State.mainReset (s : State) : State :=
  let d : State := {}
  { d with
    clock := { press := 0, rtc := s.clock.rtc, up := s.clock.up }
    ident := { d.ident with step := s.ident.step, serial := s.ident.serial, fwVersion := s.ident.fwVersion
                            bootImage := s.ident.bootImage }
    fn0 := { d.fn0 with link := s.fn0.link }
    fn1 := { d.fn1 with link := s.fn1.link }
    store := { d.store with host := s.store.host }
    nodes := s.nodes
    plumb := { d.plumb with latched := s.plumb.latched, latchReason := s.plumb.latchReason
                            mustReset := s.plumb.mustReset &&& 0x1000000 }
    butt := { d.butt with sinceSwap := s.butt.sinceSwap }
    corbel := { d.corbel with drivers := s.corbel.drivers }
    coping := { d.coping with tjHw0 := s.coping.tjHw0, tjHw1 := s.coping.tjHw1, shutdowns := s.coping.shutdowns
                              shutAt := s.coping.shutAt, lockout := s.coping.lockout }
    plinth := s.plinth
    power := { s.power with bootFail := none, resetDue := none, booting := true, bootAt := s.clock.up, failed := [] }
    freeCtr := s.freeCtr
    out := s.out
    pending := s.pending }

/-- The main-domain reset seen by the Plinth as a change of the operating state (R432). -/
def State.reboot (s : State) : State := s.mainReset.alert 1

/-- The module enters STANDBY with the main domains off, the PCIe links with them (R80, R446, R452). -/
def State.mainsOff (s : State) : State :=
  let was := s.ident.opState
  let pair := s.pairBytes
  let s := s.mainReset
  let down (x : Fn) : Fn := { x with link := { x.link with up := false } }
  let s : State := { s with ident := { s.ident with opState := .standby, prevState := was }, fn0 := down s.fn0, fn1 := down s.fn1 }
  ((s.modPower (fun p => { p with domains := 0x003, seqStep := 0, booting := false })).modPlinth
    (fun p => { p with lastPair := pair })).alert 1

/-- A function reset: DISABLE on every channel, then the function's blocks at their reset values; on Wythe 0 the
mailboxes and the event ring too (R454). -/
def State.functionReset (f : Nat) (s : State) : State :=
  let s := s.disableAll f
  let link := (s.fn f).link
  let s := s.setFn f { link := link }
  if f ≠ 0 then s else
    let clear (c : Chan) : Chan :=
      { area := c.area, queue := if c.running then c.queue.take 1 else [], order := if c.running then c.order.take 1 else []
        running := c.running, mute := c.running }
    { s with mbox := s.mbox.map clear, ring := {} }

/-- Loss of the PCIe link of a function: its channels stop, and the function is reset (R97, R101, R453; log entry 108). -/
def State.linkLost (f : Nat) (s : State) : State :=
  let work := (s.fn f).ch.map Dma.atWork
  let left := (s.disableAll f).fn f
  (List.range 16).foldl (fun (s : State) c => s.modCh f c ((left.ch.getD c {}).afterLoss (work.getD c false))) (s.functionReset f)

/-- A non-latching entry to REST (R80, R435, R449). -/
def State.toRest (s : State) : State := if s.armed then s.enterRest .rest [] else s

/-! ## D1 (R447, R453) -/

/-- D1 and all that it holds is lost; the module is OFF (R80, R447). -/
def State.auxLost (s : State) : State :=
  let s := if s.mainOn then s.mainsOff else s
  let drop (x : Fw) (p : Plinth) : Plinth :=
    if x.target = 0 then
      (if x.slot = 0 then { p with imgA := { p.imgA with valid := false } } else { p with imgB := { p.imgB with valid := false } })
    else (if x.slot = 0 then { p with plA := { p.plA with valid := false } } else { p with plB := { p.plB with valid := false } })
  let p := match s.plinth.fw with
    | some x => drop x s.plinth
    | none => s.plinth
  { s with
    ident := { s.ident with prevState := s.ident.opState, opState := .off }
    plumb := { s.plumb with latched := 0, latchReason := [], mustReset := 0 }
    coping := { s.coping with shutdowns := [], shutAt := none, lockout := false, tjHw0 := none, tjHw1 := none }
    plinth := { p with fw := none, queue := [], dropNow := 0, spi := ({} : Plinth).spi, smbus := {}, held := none, alertPend := 0, alertReleased := false, lastOff := false }
    power := { s.power with domains := 0x001, seqStep := 0, booting := false, waitBus := none, dwells := [] } }

/-- D1 is powered from OFF: the Aux reset; the Plinth starts on its selected slot, and the module is in STANDBY (R80). -/
def State.auxStart (s : State) : State :=
  if s.ident.opState ≠ .off then s else
    let p := s.plinth
    let run := if p.plNext = 0 then (if p.plA.valid then 0 else p.plRun) else (if p.plB.valid then 1 else p.plRun)
    let s : State := { s with
      ident := { s.ident with prevState := .off, opState := .standby }
      plinth := { p with plRun := run }
      power := { s.power with domains := 0x003, batRep := false } }
    let s := s.alert 1
    if s.plinth.reinitDue then
      ((s.modPlinth (fun p => { p with reinit := true, reinitDue := false })).emit srcPlinth 0x1906 0 []).alert 3
    else s

/-- D0 loses all supply (R437, R453): only in OFF with VBAT absent. -/
def State.keepReset (s : State) : State :=
  if s.ident.opState ≠ .off then s else
    { s with
      clock := { s.clock with rtc := 0 }
      butt := { s.butt with sinceSwap := 0 }
      plinth := { s.plinth with log := [], nextSeq := 0, wraps := 0, dropped := 0, tamper := 0, reinitDue := true
                                refreshUnknown := true }
      power := { s.power with batOk := false, vBat := 0 } }

/-! ## Supplies (R447 to R449) -/

/-- The field supply's cause condition changes; it stands while D10 has failed (R316, R451). -/
def State.setField (mv : Int) (low : Bool) (s : State) : State :=
  let old := s.conditions
  (State.recheck old { s with plumb := { s.plumb with vField := mv / 10, fieldLow := low || s.power.failed.contains 10 } })

/-- Main loss: REST without a latched cause, and 150 µs later, in which units go out on the lanes, D2 to D11 off together (R449). -/
def State.mainLoss (s : State) : State := if s.mainOn then (s.toRest.lanesBegin (s.line15 + 15 * 150000)).mainsOff else
  s.modPower (fun p => { p with seqStep := 0, waitBus := none })

/-- An image session ends, its slot valid or invalid, with its record and ALERT source (R442, R445). -/
def State.fwEnd (ok : Bool) (result : Nat) (s : State) : State :=
  match s.plinth.fw with
  | none => s
  | some x =>
    let mark (i : Image) (ver : Nat) : Image := { i with valid := ok, version := if ok then ver else i.version, confirmed := false }
    let p := s.plinth
    let p := if x.target = 0 then
        (if x.slot = 0 then { p with imgA := mark p.imgA (p.imgA.content.le 4 4) } else { p with imgB := mark p.imgB (p.imgB.content.le 4 4) })
      else (if x.slot = 0 then { p with plA := mark p.plA p.plA.version } else { p with plB := mark p.plB p.plB.version })
    (State.emit srcPlinth 0x1903 0 [x.target, x.slot, result] { s with plinth := { p with fw := none } }).alert 6

/-- A supply has crossed, or cleared, a threshold (R448): input 0 V_MAIN, 1 V_AUX, 2 V_FIELD, 3 VBAT; kind 1 under, 2 over,
3 reversed, 4 cleared. In OFF nothing is monitored; V_MAIN or V_AUX then powers D1. -/
def State.supplyCrossed (input kind : Nat) (mv : Int) (s : State) : State :=
  let on := s.ident.opState != .off
  let once := input == 3 && kind == 1
  let s := if on && !(once && s.power.batRep) then s.auxRecord 0x1A01 [input, kind, mv] else s
  match input with
  | 0 =>
    if kind = 4 then
      (s.modPower (fun p => { p with mainOk := true, vMain := mv
                                     mainGoodAt := if 35000 ≤ mv then some s.clock.up else none })).auxStart
    else
      let s := s.modPower (fun p => { p with mainOk := false, vMain := mv, mainGoodAt := none })
      if !on then s else if s.power.auxOk then s.mainLoss else s.mainLoss.auxLost
  | 1 =>
    if kind = 4 then (s.modPower (fun p => { p with auxOk := true, vAux := mv })).auxStart
    else
      let s := s.modPower (fun p => { p with auxOk := false, vAux := mv })
      if !on then s else if s.power.mainOk then s.fwEnd false Res.hwFault else s.auxLost
  | 2 =>
    if !s.mainOn then s
    else if kind = 3 then s.setField mv true
    else if kind = 4 then s.setField mv (mv < 19200)
    else s.setField mv s.plumb.fieldLow
  | _ => s.modPower (fun p => { p with vBat := mv, batOk := kind == 4, batRep := p.batRep || once })

/-- A supply's voltage changes without a threshold crossed (R448, R449). -/
def State.supplyLevel (input : Nat) (mv : Int) (s : State) : State :=
  match input with
  | 0 => s.modPower (fun p => { p with
      vMain := mv, mainGoodAt := if p.mainOk && 35000 ≤ mv then some (p.mainGoodAt.getD s.clock.up) else none })
  | 1 => s.modPower (fun p => { p with vAux := mv })
  | 2 => if s.mainOn then s.setField mv s.plumb.fieldLow else s
  | _ => s.modPower (fun p => { p with vBat := mv })

/-- The kind of threshold at which a supply's voltage stands: it is crossed once the kind has stood for the dwell of 20 µs (R448). -/
def State.supply (input kind : Nat) (mv : Int) (s : State) : State :=
  let t := match assoc input s.power.dwells with
    | some (x, t) => if x = kind then t else s.clock.up
    | none => s.clock.up
  let on := s.ident.opState != .off
  let cross := !on || s.power.kinds.getD input 4 != kind
  let s := s.modPower (fun p => { p with dwells := assocSet input (kind, t) p.dwells })
  if !cross then s.supplyLevel input mv
  else if on ∧ s.clock.up < t + 20000 then s
  else (s.modPower (fun p => { p with kinds := modAt p.kinds input (fun _ => kind) })).supplyCrossed input kind mv

/-! ## Sequencing (R450, R451) -/

/-- The domains of a step of R450. -/
def stepDomains : Nat → List Nat
  | 2 => [2, 3] | 3 => [8, 9] | 4 => [6, 7] | 5 => [4, 5] | 6 => [10, 11] | _ => []

/-- The main domains a domain needs (R446). -/
def domainNeeds : Nat → List Nat
  | 4 => [2] | 5 => [3] | 6 => [2] | 7 => [3] | 8 => [2] | 9 => [3] | 10 => [2, 3] | 11 => [2] | _ => []

/-- Main sequencing is requested (R450 step 1). -/
def State.startSequence (s : State) : State :=
  s.modPower (fun p => { p with seqStep := 1, failed := [], stepAt := s.clock.up })

/-- Answers on a side-band bus: what its reads return from now on, the response frame, on SPI with its CRC-8, or a 6-byte PENDING frame
(R428, R429). -/
def State.answer (bus op tag flags result detail : Nat) (payload : List Nat) (s : State) : State :=
  let body := if result = Res.pending then [] else payload
  let frame := [op % 256, tag % 256, body.length, result % 256] ++ leBytes 2 detail ++ body
  let b : ZBus := { op := op, tag := tag, flags := flags, result := result, detail := detail, payload := payload
                    frame := if bus = 0 then frame ++ [crc8 frame] else frame }
  s.modPlinth (fun p => if bus = 0 then { p with spi := b } else { p with smbus := b })

/-- The POWER_ON that waits is answered (R433). -/
def State.answerPowerOn (result detail : Nat) (s : State) : State :=
  match s.power.waitBus with
  | none => s
  | some bus =>
    let z := if bus = 0 then s.plinth.spi else s.plinth.smbus
    (s.modPower (fun p => { p with waitBus := none })).answer bus z.op z.tag 0 result detail []

/-- The domains of the step in progress report power-good; D2 and D3 begin BOOT (R450). -/
def State.powerGood (s : State) : State :=
  let n := s.power.seqStep
  if n = 0 ∨ 6 ≤ n then s else
    let up (p : Power) : Power :=
      let good := (stepDomains (n + 1)).filter (fun d => !(p.failed.contains d) && (domainNeeds d).all (fun e => p.domains.getLsbD e))
      { p with domains := good.foldl (fun (v : BitVec 12) d => setBit v d true) p.domains, seqStep := n + 1
               stepAt := s.clock.up }
    if n = 1 then
      ((if s.ident.opState == .standby then s.reboot else s).modPower up).answerPowerOn Res.ok 0
    else s.modPower up

/-- A domain is switched off with every domain that needs it (R446, R451). -/
def State.domainOff (d : Nat) (s : State) : State :=
  s.modPower (fun p =>
    let off := d :: (List.range 12).filter (fun e => (domainNeeds e).contains d)
    { p with failed := d :: p.failed, domains := off.foldl (fun (v : BitVec 12) e => setBit v e false) p.domains })

/-- A domain of the step in progress has not reported power-good within 10 ms (R451). -/
def State.powerMissed (d : Nat) (s : State) : State :=
  let n := s.power.seqStep
  if n = 0 ∨ 6 ≤ n ∨ !((stepDomains (n + 1)).contains d) ∨ !(s.since s.power.stepAt 10000000) then s
  else
    let s := s.auxRecord 0x1A04 [d, s.ident.opState.code]
    if n = 1 then
      let s := if s.mainOn then s.mainsOff else s.modPower (fun p => { p with seqStep := 0 })
      s.answerPowerOn Res.hwFault 4
    else
      ((s.domainOff d).modPower (fun p => { p with bootFail := some 6 })).cause 24 6

/-- The engines that a domain serves, of which one stalls first without it: those of its wythe but the Plumb monitor (R24, R446). -/
def domainEngines (d : Nat) : List Nat := watchedEngines.filter (fun e => engineWythe e == (if [3, 5, 7].contains d then 1 else 0))

/-- A domain loses power-good after sequencing (R451). Which of its engines ENGINE_STALL then names is a free value: no rule says it. -/
def State.powerLost (d : Nat) (s : State) : State :=
  if !s.mainOn || s.power.seqStep < 6 || !(s.power.domains.getLsbD d) || d < 2 then s
  else
    let s := (s.auxRecord 0x1A04 [d, s.ident.opState.code]).domainOff d
    if s.ident.opState = .boot then (s.modPower (fun p => { p with bootFail := some 6 })).cause 24 6
    else if d = 10 then
      let old := s.conditions
      State.recheck old { s with plumb := { s.plumb with fieldLow := true } }
    else if d = 8 ∨ d = 9 then s.cause 15 0
    else
      let f := s.fresh
      f.2.cause 12 ((domainEngines d).getD (f.1 % 7) 0)

/-! ## BOOT (R457 to R461) -/

/-- A main image slot. -/
def Plinth.img (p : Plinth) (k : Nat) : Image := if k = 0 then p.imgA else p.imgB

/-- Changes a main image slot. -/
def Plinth.modImg (k : Nat) (f : Image → Image) (p : Plinth) : Plinth :=
  if k = 0 then { p with imgA := f p.imgA } else { p with imgB := f p.imgB }

/-- The slot the boot ROM chooses, and whether it is the override of R456 (R458). -/
def State.chosenImage (s : State) : Nat × Bool :=
  match s.plinth.imgOverride with
  | some k => (k, true)
  | none => (s.plinth.mainNext, false)

/-- BOOT fails with a reason of R459; a failed trial is remembered (R458). -/
def State.bootFailed (reason : Nat) (s : State) : State :=
  let trial := s.plinth.imgOverride.isNone && !((s.plinth.img s.plinth.mainNext).confirmed)
  let s := s.modPlinth (fun p => { p with trialBad := p.trialBad || trial, imgOverride := none })
  (s.modPower (fun p => { p with bootFail := some reason, booting := false })).cause 24 reason

/-- The image that runs, after the trial and load rules of R458; the records of its fallbacks. -/
def State.loadImage (crcA crcB : Bool) (s : State) : State × Option Nat :=
  let good (s : State) (k : Nat) : Bool := (s.plinth.img k).valid && (if k = 0 then crcA else crcB)
  let c := s.chosenImage
  -- the trial ended: the next BOOT uses the other image
  let s : State :=
    if s.plinth.trialBad && !c.2 then
      let o := 1 - c.1
      let s := s.modPlinth (fun p => { p with trialBad := false })
      if (s.plinth.img o).valid then
        (s.modPlinth (fun p => { p with mainNext := o })).auxRecord 0x1A02 [c.1, o, 24] else s
    else s
  let k := if c.2 then c.1 else s.plinth.mainNext
  if good s k then (s, some k)
  else if good s (1 - k) then (s.auxRecord 0x1A02 [k, 1 - k, 2], some (1 - k))
  else (s, none)

/-- The Mortar units a self-test fences, with a record each (R178). -/
def State.fence (w : Nat) (units : List Nat) (s : State) : State :=
  let s := units.foldl (fun s (u : Nat) => s.emit (srcMortar w) 0x1001 0 [w, u]) s
  let v : BitVec 28 := units.foldl (fun (v : BitVec 28) u => setBit v u true) 0
  { s with mortar := if w = 0 then { s.mortar with fenced0 := v } else { s.mortar with fenced1 := v } }

/-- The boot steps are done with image `k`: units that failed their self-test are fenced, a trial image (`trial`) is confirmed or marked
bad, and the engines are watched (R178, R459, R461). -/
def State.bootReady (k : Nat) (trial : Bool) (fence0 fence1 : List Nat) (s : State) : State :=
  let s := (s.fence 0 fence0).fence 1 fence1
  let bad := s.power.bootFail.isSome
  let s := s.modPlinth (fun p => { (if trial && !bad then p.modImg k (fun i => { i with confirmed := true }) else p) with
                                   imgOverride := none, trialBad := p.trialBad || (bad && trial && !(p.img k).confirmed) })
  let s := s.modPower (fun p => { p with booting := false })
  let s := s.modPlumb (fun p => { p with mustReset := if bad then p.mustReset else setBit p.mustReset 24 false })
  s.rebase.modPlumb (fun p => { p with beats := watchedEngines.map (fun e => (e, 0, s.clock.up)) })

/-- BOOT ends: the causes whose condition holds are latched, and the module enters FAULT with one latched and REST without (R80, R459). -/
def State.leaveBoot (s : State) : State :=
  if s.ident.opState ≠ .boot then s
  else
    let s := s.registerCauses s.conditions
    if s.ident.opState ≠ .boot then s
    else s.abortAll.lampsAtRest.enter (if s.plumb.latched ≠ 0 then .fault else .rest)

/-- The boot steps end (R459, R461): the images whose checks were good, the reason of a failed test or 0, and the Mortar
units that failed their self-test. They have not ended before every block is calibrated (R421). -/
def State.bootEnd (crcA crcB : Bool) (test : Nat) (fence0 fence1 : List Nat) (s0 : State) : State :=
  if !s0.power.booting || !s0.mainOn || s0.power.seqStep < 6 then s0
  else
    let l := s0.loadImage crcA crcB
    let s := l.1
    match l.2 with
    | none =>
      let reason := if s.plinth.imgA.valid || s.plinth.imgB.valid then 2 else 1
      State.bootFailed reason { s with ident := { s.ident with romOnly := true } }
    | some k =>
      let s : State := { s with ident := { s.ident with bootImage := k, fwVersion := (s.plinth.img k).version } }
      if test ≠ 0 then s.bootFailed test else if !s0.calibrated then s0 else (s.bootReady k (!s.chosenImage.2) fence0 fence1).leaveBoot

/-- 6 s have passed in BOOT (R459). -/
def State.bootTimeout (s : State) : State :=
  if s.power.booting && s.mainOn && s.since s.power.bootAt 6000000000 then s.bootFailed 7 else s

/-- AUTO_ON starts main sequencing (R432, R449). -/
def State.autoOn (s : State) : State :=
  let good : Bool := match s.power.mainGoodAt with
    | some t => s.since t 100000000
    | none => false
  if s.ident.opState = .standby ∧ s.power.seqStep = 0 ∧ s.plinth.autoOn ∧ !s.plinth.lastOff ∧ s.power.mainOk ∧ s.power.auxOk ∧
      good ∧ !s.coping.lockout ∧ s.coping.shutAt.isNone then s.startSequence else s

/-- Whether V_MAIN lies in the range that power-up needs: 35.0 V to 60 V (R448, R433). -/
def State.mainInRange (s : State) : Bool := s.power.mainOk && 35000 ≤ s.power.vMain && s.power.vMain ≤ 60000

/-! ## Thermal shutdown (R417, R418) -/

/-- Shutdowns within the last 60 minutes (R418, R425). -/
def State.recentShutdowns (s : State) : List Nat := s.coping.shutdowns.filter (fun t => s.clock.up < t + 3600000000000)

/-- A hardware diode of wythe `w` reads 115 °C or more (R417, R418). -/
def State.thermalShutdown (w : Nat) (tj : Int) (s : State) : State :=
  if !s.mainOn || tj < 1840 then s
  else
    let s := s.modCoping (fun x => if w = 0 then { x with tjHw0 := some tj } else { x with tjHw1 := some tj })
    let old := s.conditions
    let s := State.recheck old { s with plumb := { s.plumb with
      thermOk := false, trip0 := s.plumb.trip0 || w = 0, trip1 := s.plumb.trip1 || w != 0 } }
    let s := if s.plumb.latched.getLsbD 23 then s else s.cause 23 0
    let l := s.clock.up :: s.recentShutdowns
    let s := s.modCoping (fun x => { x with
      shutdowns := l, lockout := x.lockout || 3 ≤ l.length, shutAt := if 3 ≤ l.length then none else some s.clock.up })
    (((s.raise 0 25).mainsOff).auxRecord 0x1806 [w, tj, l.length]).alert 2

/-- The restart after a shutdown: 10 s later, both diodes below 90 °C, no LOCKOUT (R418). -/
def State.thermalRestart (t0 t1 : Int) (s : State) : State :=
  let due : Bool := match s.coping.shutAt with
    | some t => t + 10000000000 ≤ s.clock.up
    | none => false
  if s.ident.opState = .standby ∧ s.power.seqStep = 0 ∧ due ∧ !s.coping.lockout ∧ t0 < 1440 ∧ t1 < 1440 then
    let s := s.modCoping (fun x => { x with tjHw0 := some t0, tjHw1 := some t1, shutAt := none })
    ((s.raise 0 25).auxRecord 0x1806 [if t0 < t1 then 1 else 0, max t0 t1, s.recentShutdowns.length]).startSequence
  else s

end Sys2Proof.Machine
end

