-- ==== Sys2Proof/Machine/Plumb.lean ====
section
/-! DEFINITION. Field inputs, outputs and the supervision of Plumb (R26, R41, R310 to R318). -/

namespace Sys2Proof.Machine

open Sys2Proof

/-- A change of the safety block, and then its causes and records; with the main domains off nothing looks at it. -/
def State.plumbChange (f : Plumb → Plumb) (s : State) : State :=
  let old := s.conditions
  let s := s.modPlumb f
  if s.mainOn then s.recheck old else s

/-- A filtered input as the block holds it: the level, OPEN of WEB_BREAK and JAM, and the discrepancy of the emergency stops
(R312, R316). -/
def Plumb.input (i : Nat) (level opened : Bool) (now : Nat) (p : Plumb) : Plumb :=
  let p := { p with
    level := setBit p.level i level
    breakOpen := if i = 13 then opened else p.breakOpen, jamOpen := if i = 14 then opened else p.jamOpen }
  if p.level.getLsbD 15 = p.level.getLsbD 16 then { p with discAt := none, disc := false }
  else { p with discAt := some (p.discAt.getD now) }

/-- Whether what input `i` shows since `t` has passed its filter: the 200 µs ± 20 µs of the gate for the inputs of the gate (between the two
bounds it is free), GP_FILTER for the GP inputs, none for the others (R311, R321, R488). -/
def State.filtered (i t : Nat) (s : State) : Bool :=
  if i < 17 then t + 220000 ≤ s.clock.up || (t + 180000 ≤ s.clock.up && s.fresh.1 % 2 == 1)
  else if i < 20 then true
  else t + 1000000 * gioFilter (s.sec SecId.generalIo) ≤ s.clock.up

/-- An input's filtered level, and OPEN, change (R312, R316, R324). -/
def State.inputLevel (i : Nat) (level opened : Bool) (s : State) : State :=
  let was := s.input i
  let s := if 20 ≤ i ∧ was ≠ level then s.emit srcPlumbMon 0x1404 0 [(i : Int) - 20, bit level] else s
  let s := s.plumbChange (Plumb.input i level opened s.clock.up)
  if i = 19 ∧ was ≠ level then s.reverseOkChanged else s

/-- What the pin of a field input shows: its level, and the current it draws in µA; below 300 µA WEB_BREAK and JAM read OPEN
(R311, R312, R488). -/
def State.fieldInput (i : Nat) (level : Bool) (ua : Nat) (s : State) : State :=
  if !s.mainOn then s else
    let opened := (i == 13 || i == 14) && decide (ua < 300)
    let d := s.dwell i (bit level + 2 * bit opened)
    if d.2.filtered i d.1 then d.2.fresh.2.inputLevel i level opened else d.2.fresh.2

/-- The emergency stops have differed for longer than ESTOP_DISC (R316, R320). -/
def State.estopDisc (s : State) : State :=
  let due := s.hasSec SecId.interlock &&
    s.plumb.discAt.any (fun t => t + 1000000 * ilEstopDisc (s.sec SecId.interlock) < s.clock.up)
  if s.mainOn ∧ due ∧ !s.plumb.disc then s.plumbChange (fun p => { p with disc := true }) else s

/-- How an output reads against its command: 1 on while commanded off, 2 in current limit while commanded on, 0 as commanded (R313). -/
def State.outputWrong (o kind : Nat) (s : State) : Nat :=
  let cmd := s.outCmd.getLsbD o
  if kind = 1 ∧ cmd = false then 1 else if kind = 2 ∧ cmd = true then 2 else 0

/-- What an output reads: on while commanded off for 1 ms, or in current limit for 10 ms, it has a fault, until it reads back as
commanded (R313, R316). -/
def State.outputFault (o kind : Nat) (s : State) : State :=
  if !s.mainOn then s else
    let bad := s.outputWrong o kind
    let d := s.dwell (32 + o) bad
    let s := d.2.modPlumb (fun p => { p with
      stuckOn := setBit p.stuckOn o (bad == 1), stuckOff := setBit p.stuckOff o (bad == 2)
      outFault := if bad = 0 then setBit p.outFault o false else p.outFault })
    if bad = 0 ∨ s.plumb.outFault.getLsbD o ∨ s.clock.up < d.1 + (if bad = 1 then 1000000 else 10000000) then s
    else
      let s := s.modPlumb (fun p => { p with outFault := setBit p.outFault o true })
      let s := s.emit srcGate 0x1403 0 [o, bad]
      if o < 15 then s.cause 9 o else s

/-- The load current of an HV_EN output in µA: below 2 mA for 100 ms while it is on, it writes a record, once (R313). -/
def State.openLoad (o ua : Nat) (s : State) : State :=
  if !s.mainOn then s
  else if 2000 ≤ ua ∨ s.outState.getLsbD o = false then (s.dwell (64 + o) 0).2
  else if (assoc (64 + o) s.plumb.dwells).any (fun p => p.1 == 2) then s
  else
    let d := s.dwell (64 + o) 1
    if d.2.clock.up < d.1 + 100000000 then d.2
    else ((d.2.dwell (64 + o) 2).2).emit srcGate 0x1403 0 [o, 3]

/-- V_FIELD in mV: below 19.2 V for 10 ms, or reversed below -1 V, it is the cause FIELD_SUPPLY, until it is 19.2 V or higher (R316). -/
def State.fieldSupply (mv : Int) (s : State) : State :=
  if !s.mainOn then s else
    let low := decide (mv < 19200)
    let d := s.dwell 80 (bit low)
    d.2.setField mv (low && (decide (mv < -1000) || s.plumb.fieldLow || decide (d.1 + 10000000 ≤ s.clock.up)))

/-- A hardware comparator: it trips at 112 °C and returns below 105 °C (R310). -/
def comparator (tj : Int) (tripped : Bool) : Bool := if 1792 ≤ tj then true else if tj < 1680 then false else tripped

/-- The comparators of the two wythes drop or raise THERM_OK (R310, R316). -/
def State.thermChange (tj0 tj1 : Int) (s : State) : State :=
  s.plumbChange (fun p =>
    let t0 := comparator tj0 p.trip0
    let t1 := comparator tj1 p.trip1
    { p with trip0 := t0, trip1 := t1, thermOk := !(t0 || t1) })

/-- A sensor supply enters or leaves its current limit: after 10 ms in it the supply switches off for 100 ms, and then tries again (R478,
R492). -/
def State.supplyOverload (k : Nat) (limit : Bool) (s : State) : State :=
  if !(s.power.domains.getLsbD 10) ∨ !s.mainOn then s else
    let off := (assoc k s.web.supOff).any (fun t => s.clock.up < t + 100000000)
    let d := s.dwell (96 + k) (if limit && !off then 1 else 0)
    let s := d.2
    if off ∨ limit = false ∨ s.clock.up < d.1 + 10000000 then s else
      let s := (s.dwell (96 + k) 0).2
      let n := (assoc k s.web.supSince).getD 0 + 1
      let s := { s with web := { s.web with
        supOff := (k, s.clock.up) :: s.web.supOff.filter (fun p => p.1 != k && s.clock.up < p.2 + 100000000) } }
      if (assoc k s.web.supRep).all (fun t => s.since t 1000000000) then
        ({ s with web := { s.web with supSince := assocSet k 0 s.web.supSince, supRep := assocSet k s.clock.up s.web.supRep } }).emit
          srcWeb 0x1109 0 [k, n]
      else { s with web := { s.web with supSince := assocSet k n s.web.supSince } }

/-- The watchdog drops WDOG_OK until the next main-domain reset (R314). -/
def State.wdogDrop (s : State) : State :=
  if s.plumb.wdogTrip then s else (s.modPlumb (fun p => { p with wdogOk := false, wdogTrip := true })).cause 10 0

/-- Whether the watchdog's window is open: from 250 to 1,500 µs after the previous key; always for the first (R314). -/
def State.wdogWindow (s : State) : Bool :=
  match s.plumb.wdogAt with
  | none => true
  | some t => t + 250000 ≤ s.clock.up && s.clock.up ≤ t + 1500000

/-- A right key is written: inside the window it keeps WDOG_OK, outside it drops it (R314). -/
def State.wdogKey (s : State) : State :=
  if !s.mainOn then s
  else if !s.wdogWindow then s.wdogDrop
  else s.modPlumb (fun p => { p with wdogAt := some s.clock.up, wdogOk := !p.wdogTrip })

/-- A wrong key, or a key or none outside the window (R314). -/
def State.watchdog (wrong : Bool) (s : State) : State :=
  if s.mainOn ∧ (wrong ∨ !s.wdogWindow) then s.wdogDrop else s

/-- One engine's heartbeat as it is read: its value and the up-time at which it last advanced (R315). -/
def beatIn (now : Nat) (l : List (Nat × Nat × Nat)) (e v : Nat) : List (Nat × Nat × Nat) :=
  match l.find? (·.1 == e) with
  | some x => if x.2.1 = v then l else (e, v, now) :: l.filter (·.1 != e)
  | none => (e, v, now) :: l

/-- The heartbeats of the other engines are read: one that has not advanced for 5 ms is a stall, registered once,
and again as a new one after the heartbeat has advanced; a swap may complete (R315, R318, R346). -/
def State.heartbeats (beats : List (Nat × Nat)) (s : State) : State :=
  if !s.mainOn ∨ s.ident.opState = .boot then s
  else
    let now := s.clock.up
    let l := beats.foldl (fun l p => beatIn now l p.1 p.2) s.plumb.beats
    let late := (l.filter (fun x => x.2.2 + 5000000 ≤ now)).map Prod.fst
    let new := (watchedEngines.filter late.contains).filter (fun e => !(s.plumb.stalled.contains e))
    let s := s.modPlumb (fun p => { p with beats := l, stalled := late })
    let s := if new.isEmpty then s else s.registerCauses (new.map (fun e => (12, e)))
    s.swapDone

/-- ALIVE counts while the Keystone runs (R41). -/
def State.aliveTick (s : State) : State :=
  if s.mainOn then { s with ident := { s.ident with alive := s.ident.alive + 1 } } else s

end Sys2Proof.Machine
end

