-- ==== Sys2Proof/Machine/Events.lean ====
section
/-! DEFINITION. The Tie, course records and tokens, memory errors and the periodic reports (R26 to R31, R119, R123 to R125, R175,
R201, R241). -/

namespace Sys2Proof.Machine

open Sys2Proof

/-! ## The Tie (R26, R27, R30, R31) -/

/-- The difference of two 32-bit press times, as a signed number. -/
def diff32 (a b : Nat) : Int := signed 32 ((a + 2 ^ 32 - b % 2 ^ 32) % 2 ^ 32)

/-- Whether a course record is wrong: its number, its fire time, its lead (R27). The first record after a jump of the courses has none
before it (R238, R269). -/
def State.courseRecordBad (s : State) (course fire : Nat) : Bool :=
  s.lintel.recPrev.any (fun p => course != p.1 + 1 || diff32 fire p.2 ≤ 0) || diff32 fire (s.now % 2 ^ 32) < 7000

/-- T_(f−8) on Wythe 1: the fire time of the record of course f − 8 of the run, else what the release of f predicted (R240). -/
def State.recBack (s : State) (f : Nat) (tf : Int) : Int :=
  match (if s.lintel.runFrom.any (fun r => r + 8 ≤ f) then assoc (f - 8) s.lintel.recBase else none) with
  | some t => tf - diff32 (tf % 2 ^ 32).toNat t
  | none => (s.tBack f).getD tf

/-- Wythe 1 receives a course record, and fires its heads from it (R27). The 32-bit flag word is the record's own. -/
def State.courseRecord (course fire : Nat) (s : State) : State :=
  if !s.mainOn then s
  else if s.courseRecordBad course fire then s.cause 13 0
  else
    let tf : Int := s.now + diff32 fire (s.now % 2 ^ 32)
    (s.fireRecord course tf (s.recBack course tf)).modLintel (fun x => { x with
      recPrev := some (course, fire), recBase := ((course, fire) :: x.recBase).take 16, w1Lift := x.w1Lift + 1 })

/-- A receiver corrects a symbol of a Tie block and counts it (R30). -/
def State.tieCorrected (to_ : Nat) (s : State) : State :=
  { s with tie := if to_ = 0 then { s.tie with corrected0 := s.tie.corrected0 + 1 } else { s.tie with corrected1 := s.tie.corrected1 + 1 } }

/-- What a wythe reads of a Tie block: the block and then its replays. A block that cannot be corrected is asked for again; after three
replays that fail too the Tie has failed (R30). -/
def State.tieBlocks (to_ : Nat) : List BlockRead → Nat → State → State
  | [], _, s => s
  | .clean _ :: _, _, s => s
  | .corrected _ :: _, _, s => s.tieCorrected to_
  | .bad :: l, failed, s => if failed = 3 then s.cause 14 0 else s.tieBlocks to_ l (failed + 1)

/-- A Tie block as its receiver reads it, with the bits that differ from what was sent (R30). -/
def tieRead (data errors : Nat) : BlockRead := decodeBlock (encodeBlock data ^^^ errors % 2 ^ 144)

/-- The block that a wythe receives, from the replay buffer of its sender: `back` blocks before the newest (R30). -/
def Tie.block (t : Tie) (to_ back : Nat) : Nat := (if to_ = 0 then t.replay1 else t.replay0).getD back 0

/-- Bit errors meet a Tie block and its replays (R30). -/
def State.tieReplay (to_ back : Nat) (errors : List Nat) (s : State) : State :=
  if s.mainOn then s.tieBlocks to_ (errors.map (tieRead (s.tie.block to_ back))) 0 else s

/-- A SEAM block misses its deadline (R30). -/
def State.seamMissed (s : State) : State := if s.mainOn then s.cause 14 0 else s

/-- The Tie loses training (R30). -/
def State.tieLost (s : State) : State :=
  if s.mainOn then (s.modPlumb (fun p => { p with tieTrained := false })).cause 14 0 else s

/-- A lockstep mismatch (R26). -/
def State.lockstep (w : Nat) (s : State) : State := if s.mainOn then s.cause 11 w else s

/-- The lift token of Wythe 1 arrives (R241). -/
def State.liftToken (lift : Nat) (s : State) : State := s.modBuf lift (fun b => { b with token := true })

/-- The commit token reaches Wythe 1, in time if the firing course is no later than 256 × L − 128 (R31). -/
def State.commitToken (s : State) : State :=
  let ok (p : Pend) : Bool := s.nextRelease + 127 ≤ 256 * p.lift
  { s with cfg := { s.cfg with pend := s.cfg.pend.map (fun p => if ok p then { p with token := true } else p) } }

/-! ## Memory (R119, R123 to R125) -/

/-- Lines that are no longer received on a wythe and fluid; the starvation rule applies (R125). -/
def State.loseLines (w job fluid line n : Nat) (s : State) : State := (s.dropLines w job fluid line n).starvation

/-- The stored copy of a shadow section holds an uncorrectable word until it is staged again (R125). -/
def State.spoilSection (id : Nat) (s : State) : State :=
  { s with cfg := { s.cfg with shadow := s.cfg.shadow.map (fun p => if p.1 == id then (p.1, { p.2 with bad := true }) else p) } }

/-- A mirror bank is invalid: its epoch has failed (R125, R334, R337). -/
def State.spoilBank (b : Nat) (s : State) : State :=
  let s := s.modButt (fun x => if b = 0 then { x with bank0 := [], bankLift0 := (none : Option Nat), whole0 := false }
    else { x with bank1 := [], bankLift1 := (none : Option Nat), whole1 := false })
  if s.butt.role = .standby then s.setMirror false 1 else s

/-- The effect of an uncorrectable word (R125), with the numbers by which the record names them (log entry 18). -/
inductive MemEffect where
  | source (job fluid line lines : Nat)
  | sect (id : Nat)
  | mirror (bank : Nat)
  | image
  | sram
  | again
  | none
  deriving DecidableEq, Repr

def MemEffect.code : MemEffect → Nat
  | .source .. => 0 | .sect _ => 1 | .mirror _ => 2 | .image => 3 | .sram => 4 | .again => 5 | .none => 7

/-- The effect that R125 gives a word, by its address: the region of HBM or the partition of SRAM. In job space the model knows what lies
there; elsewhere `u` says it (log entry 114). -/
def State.memEffect (s : State) (w target addr : Nat) (u : MemUse) : MemEffect :=
  if target = 2 then
    if sramPart addr ≠ sramStaging then .sram
    else match u with
      | .staged true job fluid line n => .source job fluid line n
      | _ => .again
  else match hbmRegion addr, u with
    | .firmware, _ => .image
    | .events, _ => .image
    | .config, .sect id => .sect id
    | .thresholds, .sect id => .sect id
    | .mirror, .mirror b => .mirror b
    | .staging, .staged _ job fluid line n => .source job fluid line n
    | .jobs, _ => match s.jobWord w target addr with
      | some (job, fluid, line, n) => .source job fluid line n
      | none => .none
    | _, _ => .none

/-- An uncorrectable word at an address of a memory is read (R125): target 0 and 1 the HBM stacks, 2 SRAM. -/
def State.memoryError (w target addr : Nat) (u : MemUse) (s : State) : State :=
  if !s.mainOn then s
  else
    let e := s.memEffect w target addr u
    let bad := (w, target, addr / 16) :: s.store.badWords.filter (· != (w, target, addr / 16))
    let s : State := { s with store := { s.store with badWords := bad } }
    let s := s.memRecord w target addr e.code
    match e with
    | .source job fluid line n => s.loseLines w job fluid line n
    | .sect id => s.spoilSection id
    | .mirror b => s.spoilBank b
    | .image => s.cause 15 0
    | .sram => s.cause 15 0
    | .again => s
    | .none => s

/-- A stored word as it is read, with the bits that differ from what was written (R124). -/
def State.wordRead (s : State) (w t addr errors : Nat) : Nat := encodeBlock (leVal ((s.mem w t).read (16 * addr) 16)) ^^^ errors % 2 ^ 144

/-- What a word of a unit, of which `u` says what it holds, reads as: a single bad symbol is corrected, counted and written back; more is an uncorrectable word (R124,
R125). -/
def State.scrubRead (unit addr : Nat) (u : MemUse) (b : BlockRead) (s : State) : State :=
  match b with
  | .clean _ => s
  | .corrected d =>
    let s := s.storeWrite (unit / 3) (unit % 3) (16 * addr) (leBytes 16 d)
    { s with store := { s.store with corrected := assocSet unit ((assoc unit s.store.corrected).getD 0 + 1) s.store.corrected } }
  | .bad => s.memoryError (unit / 3) (unit % 3) (16 * addr) u

/-- A word of a unit is read, with the bits that differ and what its region holds there. -/
def State.scrubWord (unit : Nat) (s : State) (p : Nat × Nat × MemUse) : State :=
  s.scrubRead unit p.1 p.2.2 (decodeBlock (s.wordRead (unit / 3) (unit % 3) p.1 p.2.1))

/-- The corrections of a unit since its last record are reported, at most once per second (R124). -/
def State.scrubEmit (unit : Nat) (s : State) : State :=
  let n := (assoc unit s.store.corrected).getD 0
  if n = 0 ∨ (assoc unit s.store.scrubRep).any (fun t => !(s.since t 1000000000)) then s
  else
    let s : State := { s with store := { s.store with
      scrubRep := assocSet unit s.clock.up s.store.scrubRep, corrected := assocSet unit 0 s.store.corrected } }
    s.emit (srcDma (unit / 3)) 0x0414 0 [unit, n]

/-- Words of a unit are read with errors (unit 0 to 2: stack 0, stack 1 and SRAM of Wythe 0, 3 to 5 of Wythe 1; R124). -/
def State.scrubReport (unit : Nat) (words : List (Nat × Nat × MemUse)) (s : State) : State :=
  if s.mainOn then (words.foldl (State.scrubWord unit) s).scrubEmit unit else s

/-- A strip's last sample leaves the decompressor, which has read it in these pieces; `memErr` says that an uncorrectable memory error was
reported for its data (R119, R122). -/
def State.pipelineDecode (w : Nat) (memErr : Bool) (pieces : List (List Nat)) (s : State) : State :=
  if s.mainOn ∧ !memErr ∧ (decodeStrip pieces).isNone then s.cause 16 w else s

/-! ## Reports (R175, R201) -/

/-- The heads of a wythe that have lost quanta since its last report. -/
def State.lostHeads (s : State) (w : Nat) : List (Nat × Nat) :=
  (s.point.lostSince.cells.filter (fun p => headWythe p.1 == w && p.2 != 0))

/-- CODE 0x0702 of a wythe (R201). -/
def State.quantaReport (w : Nat) (s : State) : State :=
  let l := s.lostHeads w
  let rep := if w = 0 then s.point.lostRep0 else s.point.lostRep1
  if !s.mainOn ∨ l.isEmpty ∨ rep.any (fun t => !(s.since t 1000000000)) then s
  else
    let most := l.foldl (fun (a : Nat × Nat) p => if a.2 < p.2 then p else a) (0, 0)
    let left : SMap := (l.map Prod.fst).foldl (fun (m : SMap) g => m.set g 0) s.point.lostSince
    let p := { s.point with lostSince := left }
    let p := if w = 0 then { p with lostRep0 := some s.clock.up } else { p with lostRep1 := some s.clock.up }
    (State.emit (srcPointing w) 0x0702 0 [((l.map Prod.snd).sum : Nat), most.1] { s with point := p }).raise 0 27

/-- CODE 0x1003 of a wythe (R175). -/
def State.saturationReport (w : Nat) (s : State) : State :=
  let n := if w = 0 then s.mortar.sat0 else s.mortar.sat1
  let rep := if w = 0 then s.mortar.satRep0 else s.mortar.satRep1
  if !s.mainOn ∨ n = 0 ∨ rep.any (fun t => !(s.since t 1000000000)) then s
  else
    let now := some s.clock.up
    (s.modMortar (fun m => if w = 0 then { m with sat0 := 0, satRep0 := now } else { m with sat1 := 0, satRep1 := now })).emit
      (srcMortar w) 0x1003 0 [n]

end Sys2Proof.Machine
end

