-- ==== Sys2Proof/Machine/Plinth.lean ====
section
/-! DEFINITION. The Plinth: Zarnetrum commands, the event log and firmware images (R427 to R445). -/

namespace Sys2Proof.Machine

open Sys2Proof

/-! ## Requests and answers (R428, R429) -/

/-- Answers a request. -/
def State.reply (r : ZReq) (op flags result detail : Nat) (payload : List Nat) (s : State) : State :=
  s.answer r.bus op r.tag flags result detail payload

/-- The bytes of a request frame (R428). -/
def zFrame (op : Nat) (r : ZReq) : List Nat := [op % 256, r.tag, r.payload.length, r.flags] ++ r.payload

/-- Whether the bus takes a request: LEN at most 56, and on SPI the CRC-8 of the frame, on SMBus the PEC of the block write, over the
address, the command code, the count and the frame, where it carries one, as it must with PEC_REQ set (R428, R429, R477). -/
def State.reqSound (op : Nat) (r : ZReq) (s : State) : Bool :=
  let frame := zFrame op r
  decide (r.payload.length ≤ 56) &&
  (if r.bus = 0 then r.check == some (crc8 frame)
   else match r.check with
     | some c => c == crc8 ([2 * (0x58 + s.plinth.addrSel), 0x5A, frame.length] ++ frame)
     | none => !s.plinth.pecReq)

/-- A request arrives: the unread response of its bus is discarded; one that the bus does not take is discarded itself, and the next read
returns PENDING with TAG 0; one that arrives while the other bus's request still executes waits for it; any other acts (R429). -/
def State.request (op : Nat) (ack : Bool) (r : ZReq) (f : State → State) (s : State) : State :=
  if s.ident.opState = .off then s
  else
    let s := s.modPower (fun p => { p with waitBus := if p.waitBus = some r.bus then none else p.waitBus })
    let s := s.modPlinth (fun p => { p with held := p.held.filter (fun h => h.2.1.bus != r.bus) })
    if !(s.reqSound op r) then s.answer r.bus 0 0 0 Res.pending 0 []
    else if s.power.waitBus.isSome then
      (s.modPlinth (fun p => { p with held := some (op, r, ack) })).answer r.bus op r.tag 0 Res.pending 0 []
    else f s

/-- A request that the bus discards unanswered (R429). -/
def State.discardRequest (op : Nat) (r : ZReq) (s : State) : State :=
  if s.reqSound op r then s else s.request op true r (fun s => s)

/-- A refusal whose DETAIL no rule states for Zarnetrum: it is a free value (log entry 1). -/
def State.refuse (r : ZReq) (op result : Nat) (s : State) : State :=
  let f := s.fresh
  f.2.reply r op 0 result (f.1 % 65536) []

/-- A command refused in a state (R430). -/
def State.badState (r : ZReq) (op : Nat) (s : State) : State := s.reply r op 0 Res.badState s.ident.opState.code []

/-- A little-endian field of the payload. -/
def zNum (r : ZReq) (off n : Nat) : Nat := leVal ((r.payload.drop off).take n)

/-- The payload of an answer whose bytes no rule lays out (log entry 30). -/
def packed (op : Nat) (l : List Int) : List Nat := leBytes 48 (Config.packData op l)

/-! ## Status commands (R430 to R432) -/

/-- IDENT (R430). -/
def State.zIdent (r : ZReq) (s : State) : State :=
  s.request 0x01 true r (fun s =>
    let p := s.plinth
    s.reply r 0x01 0 Res.ok 0 (packed 0x01 [0x2812, s.ident.step, p.fwVersion, p.imgA.version, bit p.imgA.valid,
      p.imgB.version, bit p.imgB.valid, s.ident.serial]))

/-- The STATUS payload (R431). -/
def State.statusPayload (s : State) : List Nat :=
  let newest := match s.plinth.log.getLast? with
    | some e => e.seq
    | none => 0
  leBytes 4 (s.ident.opState.code + 16 * s.butt.role.code + 64 * bit s.butt.unproven + 128 * bit s.coping.lockout +
    256 * s.power.domains.toNat + 2 ^ 20 * s.plinth.alertPend.toNat) ++
  leBytes 4 s.plumb.latched.toNat ++ leBytes 2 s.power.vMain.toNat ++ leBytes 2 s.power.vAux.toNat ++
  leBytes 2 s.power.vBat.toNat ++ [s.recentShutdowns.length % 256, s.plinth.tamper % 256] ++ leBytes 4 newest

/-- STATUS: the payload, then the pending ALERT sources are cleared (R431, R432). -/
def State.zStatus (r : ZReq) (s : State) : State :=
  s.request 0x02 true r (fun s =>
    let b := s.statusPayload
    (s.modPlinth (fun p => { p with alertPend := 0 })).reply r 0x02 0 Res.ok 0 b)

/-- The temperatures that TEMPS and the status mirror show (R425): sensors beyond 24 do not exist. -/
def State.tempShown (s : State) (i : Nat) : Int := tempWord ((s.coping.sensors.getD i {}).temp)

/-- TEMPS (R430). -/
def State.zTemps (r : ZReq) (s : State) : State :=
  s.request 0x03 true r (fun s =>
    if r.flags = 0 then
      s.reply r 0x03 0 Res.ok 0 (packed 0x03 ((List.range 16).map s.tempShown ++
        [(tempWord s.coping.tjHw0 : Int), (tempWord s.coping.tjHw1 : Int), s.coping.step]))
    else if r.flags = 1 then
      s.reply r 0x03 0 Res.ok 0 (packed 0x03 (1 :: ((List.range 16).map (fun i => s.tempShown (16 + i)))))
    else s.refuse r 0x03 Res.badArg)

/-- PAIR: with the main domains off, the values last known, with bit 7 of FLAGS set (R430). -/
def State.zPair (r : ZReq) (s : State) : State :=
  s.request 0x04 true r (fun s =>
    let l := if s.mainOn then s.pairBytes else s.plinth.lastPair
    s.reply r 0x04 (if s.mainOn then 0 else 0x80) Res.ok 0
      (packed 0x04 (l.map (fun (n : Nat) => (n : Int)) ++ [(s.butt.sinceSwap : Int), if s.mainOn then 0 else 0x80])))

/-- The settings as R432 lays them out. -/
def State.settings (s : State) : Nat := bit s.plinth.autoOn + 2 * bit s.plinth.pecReq + 256 * s.plinth.alertMask.toNat

/-- SETTINGS (R430, R432). -/
def State.zSettings (r : ZReq) (s : State) : State :=
  s.request 0x05 true r (fun s =>
    if bitAt r.flags 0 then
      let v := zNum r 0 2
      if r.payload.length < 2 ∨ field v 2 6 ≠ 0 ∨ bitAt v 15 then s.refuse r 0x05 Res.badArg
      else
        let s := s.modPlinth (fun p => { p with autoOn := bitAt v 0, pecReq := bitAt v 1, alertMask := BitVec.ofNat 7 (v / 256) })
        s.reply r 0x05 0 Res.ok 0 (leBytes 2 s.settings)
    else s.reply r 0x05 0 Res.ok 0 (leBytes 2 s.settings))

/-- A response to the Alert Response Address releases ALERT (R432). -/
def State.alertResponse (s : State) : State :=
  if s.alertOn ∧ s.ident.opState ≠ .off then s.modPlinth (fun p => { p with alertReleased := true }) else s

/-! ## Power commands (R433 to R436) -/

/-- POWER_ON from STANDBY: a refusal, or sequencing begins and the answer waits (R433). -/
def State.powerUp (r : ZReq) (op : Nat) (s : State) : State :=
  if !s.mainInRange then s.reply r op 0 Res.hwFault 1 []
  else if s.coping.lockout then s.reply r op 0 Res.hwFault 2 []
  else if s.coping.shutAt.isSome then s.reply r op 0 Res.hwFault 23 []
  else
    let s := (s.modPlinth (fun p => { p with lastOff := false })).answer r.bus op r.tag 0 Res.pending 0 []
    let s := s.modPower (fun p => { p with waitBus := some r.bus })
    if s.power.seqStep = 0 then s.startSequence else s

/-- POWER_ON (R430, R433). -/
def State.zPowerOn (r : ZReq) (s : State) : State :=
  s.request 0x10 true r (fun s =>
    if s.ident.opState ≠ .standby then s.badState r 0x10
    else
      let on := s.mainInRange && !s.coping.lockout && s.coping.shutAt.isNone
      let s := if on then s.emit srcPlinth 0x1901 0 [0x10, r.bus, 1] else s
      s.powerUp r 0x10)

/-- The watchdog's force input: PLINTH_FORCE is latched and the module enters FAULT (R314, R435). -/
def State.force (s : State) : State :=
  State.cause 26 0 { s with plumb := { s.plumb with wdogOk := false, wdogTrip := true } }

/-- The main domains go off by POWER_OFF: REST_REQ, FORCE where neither REST nor FAULT is reached in 5 ms, then, once 2 ms of units have
gone out on the lanes, off in order, with the record (R434, R452). `ack`: the Keystone takes the request. -/
def State.orderlyOff (op bus : Nat) (ack : Bool) (s : State) : State :=
  let before := s.ident.opState.code
  let s := if ack then s.toRest else s
  let s := if s.inRest then s else s.force
  (s.lanesBegin (s.line15 + 15 * 2000000)).mainsOff.emit srcPlinth 0x1901 0 [op, bus, before]

/-- POWER_OFF (R430, R434). -/
def State.zPowerOff (r : ZReq) (ack : Bool) (s : State) : State :=
  s.request 0x11 ack r (fun s =>
    if !s.mainOn ∨ (s.printHold ∧ !(bitAt r.flags 0)) then s.badState r 0x11
    else
      let s := s.modPlinth (fun p => { p with lastOff := true })
      (s.orderlyOff 0x11 r.bus ack).reply r 0x11 0 Res.ok 0 [])

/-- POWER_CYCLE: POWER_OFF with FORCE, then POWER_ON (R430). -/
def State.zPowerCycle (r : ZReq) (ack : Bool) (s : State) : State :=
  s.request 0x12 ack r (fun s =>
    let s := if s.mainOn then s.orderlyOff 0x12 r.bus ack else s.emit srcPlinth 0x1901 0 [0x12, r.bus, s.ident.opState.code]
    s.powerUp r 0x12)

/-- REST_REQ: as STATE.REST; HW_FAULT where the Keystone does not acknowledge it (R435). -/
def State.zRestReq (r : ZReq) (ack : Bool) (s : State) : State :=
  s.request 0x13 ack r (fun s =>
    if !s.mainOn then s.badState r 0x13
    else
      let s := if ack then s.toRest else s
      let res := if ack then Res.ok else Res.hwFault
      let s := s.emit srcPlinth 0x1902 0 [0x13, r.bus, res]
      if ack then s.reply r 0x13 0 res 0 [] else s.refuse r 0x13 res)

/-- FORCE (R435). -/
def State.zForce (r : ZReq) (s : State) : State :=
  s.request 0x14 true r (fun s =>
    if !s.mainOn then s.badState r 0x14
    else ((s.force).emit srcPlinth 0x1902 0 [0x14, r.bus, Res.ok]).reply r 0x14 0 Res.ok 0 [])

/-- LOCKOUT_CLEAR (R436). -/
def State.zLockoutClear (r : ZReq) (s : State) : State :=
  let hot (t : Option Int) : Bool := t.any (fun t => 1440 ≤ t)
  s.request 0x15 true r (fun s =>
    if s.ident.opState ≠ .standby then s.badState r 0x15
    else if hot s.coping.tjHw0 || hot s.coping.tjHw1 then s.reply r 0x15 0 Res.hwFault 23 []
    else
      ((s.modCoping (fun x => { x with lockout := false, shutdowns := [] })).emit srcPlinth 0x1907 0 [r.bus]).reply r 0x15 0 Res.ok 0 [])

/-! ## The event log (R437 to R439, R441) -/

/-- The event codes whose DETAIL a rule gives: a compression that stalls, and actions run or cancelled (R79, R123). -/
def detailCodes : List Nat := [0x0412, 0x0501, 0x0502]

/-- DETAIL and DATA of an event record as one number of 160 bits: DETAIL where a rule gives it, the rest packed as log entry 18 says. -/
def Ev.rest (e : Ev) : Nat :=
  let p := Config.packEvent e.code e.detail e.data
  if detailCodes.contains e.code then wrapInt 32 e.detail + p / 2 ^ 32 * 2 ^ 32 else p

/-- The 32 bytes of an event record (R59). -/
def Ev.bytes (e : Ev) : List Nat :=
  leBytes 8 e.stamp ++ leBytes 2 e.source ++ leBytes 2 e.code ++ leBytes 4 (e.rest % 2 ^ 32) ++ leBytes 16 (e.rest / 2 ^ 32)

/-- The 40 bytes of a log entry (R439). -/
def LogEntry.bytes (x : LogEntry) : List Nat :=
  x.ev.bytes ++ leBytes 4 x.seq ++ leBytes 4 (bit x.ev.rtc + 2 * bit x.lateOrder)

/-- Inserts a record in ascending stamp, then source; after those equal in both (R438). -/
def insertEv (e : Ev) : List Ev → List Ev
  | [] => [e]
  | x :: l => if e.stamp < x.stamp ∨ (e.stamp = x.stamp ∧ e.source < x.source) then e :: x :: l else x :: insertEv e l

/-- The records held for 20 ms are committed; a queue with room again reports what was lost (R437, R438). -/
def State.logCommit (s : State) : State :=
  if s.ident.opState = .off then s
  else
    let due := s.plinth.queue.filter (fun p => s.since p.1 20000000)
    let l := due.foldl (fun (l : List Ev) p => insertEv p.2 l) []
    let s := s.modPlinth (fun p => { p with queue := p.queue.filter (fun q => !(s.since q.1 20000000)) })
    let s := l.foldl (State.commitEv false) s
    if s.plinth.dropNow ≠ 0 ∧ s.plinth.queue.length < 256 then
      let n := s.plinth.dropNow
      (s.modPlinth (fun p => { p with dropNow := 0 })).emit srcPlinth 0x1905 0 [n]
    else s

/-- LOG_INFO (R430). -/
def State.zLogInfo (r : ZReq) (s : State) : State :=
  s.request 0x20 true r (fun s =>
    let p := s.plinth
    let lo := match p.log.head? with
      | some e => e.seq
      | none => 0
    let hi := match p.log.getLast? with
      | some e => e.seq
      | none => 0
    s.reply r 0x20 0 Res.ok 0 (packed 0x20 [lo, hi, p.wraps, p.dropped, bit p.reinit]))

/-- LOG_READ (R430). -/
def State.zLogRead (r : ZReq) (s : State) : State :=
  s.request 0x21 true r (fun s =>
    match s.plinth.log.find? (fun e => e.seq == zNum r 0 4) with
    | some e => s.reply r 0x21 0 Res.ok 0 e.bytes
    | none => s.refuse r 0x21 Res.badArg)

/-- The tamper loop has been open for 10 ms (R441): always stamped from the real-time clock; nothing watches it while D0 has no supply
(R446). -/
def State.tamperOpen (s : State) : State :=
  if s.ident.opState = .off ∧ !s.power.batOk then s else
  let n := satInc 255 s.plinth.tamper
  let s := s.modPlinth (fun p => { p with tamper := n })
  let s := s.putRecord { stamp := s.rtcStamp, source := srcKeep, code := 0x1904, detail := 0, data := [(n : Int)], rtc := true }
  if s.ident.opState = .off then s else s.alert 4

/-! ## Firmware images (R442, R443) -/

/-- The image a session of a target would write (R442). -/
def State.fwSlot (s : State) (target : Nat) : Nat := if target = 0 then 1 - s.ident.bootImage else 1 - s.plinth.plRun

/-- A Plinth or main image. -/
def Plinth.image (p : Plinth) (target k : Nat) : Image :=
  if target = 0 then p.img k else if k = 0 then p.plA else p.plB

/-- Changes a Plinth or main image. -/
def Plinth.modImage (target k : Nat) (f : Image → Image) (p : Plinth) : Plinth :=
  if target = 0 then p.modImg k f else if k = 0 then { p with plA := f p.plA } else { p with plB := f p.plB }

/-- The longest image of a target: 32 MiB and 1 MiB (R442). -/
def fwLimit (target : Nat) : Nat := if target = 0 then 33554432 else 1048576

/-- FW_OPEN once its arguments and state allow it: the idle slot is erased and invalid (R442). -/
def State.fwOpen (target len : Nat) (s : State) : State :=
  let k := s.fwSlot target
  s.modPlinth (fun p => { p.modImage target k (fun i => { i with valid := false, content := [] }) with
    fw := some { target := target, slot := k, len := len, prevOff := none, endOff := 0, last := s.clock.rtc } })

/-- A chunk is written; a repeat of the previous offset changes nothing; another offset, or a chunk that runs past the
image, is refused (R442). -/
def State.fwChunk (x : Fw) (off : Nat) (bytes : List Nat) (s : State) : State × Bool :=
  if x.prevOff = some off ∧ off ≠ x.endOff then (s.modPlinth (fun p => { p with fw := some { x with last := s.clock.rtc } }), true)
  else if off ≠ x.endOff ∨ x.len < off + bytes.length then (s, false)
  else
    (s.modPlinth (fun p => { p.modImage x.target x.slot (fun i => { i with content := i.content.write off bytes }) with
      fw := some { x with prevOff := some off, endOff := off + bytes.length, last := s.clock.rtc } }), true)

/-- The header of a main image (R457). -/
def mainHeaderOk (m : Mem) (len : Nat) : Bool :=
  let body := m.le 8 4
  m.le 0 4 == 0x474D4946 && body % 4096 == 0 && body ≤ 33550336 && 64 + body ≤ len && m.le 20 8 == 0 && m.le 28 32 == 0 &&
    m.le 60 4 == crc32c (m.read 0 60) && m.le 12 4 == crc32c (m.read 64 body)

/-- FW_CLOSE: whether the slot reads back with the CRC given and, for a main image, its header and BODY_CRC check (R442, R457). -/
def State.fwGood (s : State) (x : Fw) (crc : Nat) : Bool :=
  let m := (s.plinth.image x.target x.slot).content
  x.endOff == x.len && crc32c (m.read 0 x.len) == crc && (x.target != 0 || mainHeaderOk m x.len)

/-- FW_OPEN (R430, R442): in BOOT a session of the main image is BUSY. -/
def State.zFwOpen (r : ZReq) (s : State) : State :=
  s.request 0x30 true r (fun s =>
    let t := zNum r 0 1
    let len := zNum r 4 4
    if s.ident.opState = .boot then (if t = 0 then s.refuse r 0x30 Res.busy else s.badState r 0x30)
    else if 2 ≤ t ∨ r.payload.length < 8 ∨ fwLimit t < len then s.refuse r 0x30 Res.badArg
    else if s.plinth.fw.isSome then s.refuse r 0x30 Res.busy
    else (s.fwOpen t len).reply r 0x30 0 Res.ok 0 [])

/-- FW_DATA (R430, R442); a refused one keeps the session alive too. -/
def State.zFwData (r : ZReq) (s : State) : State :=
  s.request 0x31 true r (fun s =>
    if s.ident.opState = .boot then s.badState r 0x31
    else match s.plinth.fw with
      | none => s.badState r 0x31
      | some x =>
        let x := { x with last := s.clock.rtc }
        let s := s.modPlinth (fun p => { p with fw := some x })
        if r.payload.length < 5 ∨ 52 < r.payload.length then s.refuse r 0x31 Res.badArg
        else
          let c := s.fwChunk x (zNum r 0 4) (r.payload.drop 4)
          if c.2 then c.1.reply r 0x31 0 Res.ok 0 [] else s.refuse r 0x31 Res.badArg)

/-- FW_CLOSE (R430, R442). -/
def State.zFwClose (r : ZReq) (s : State) : State :=
  s.request 0x32 true r (fun s =>
    if s.ident.opState = .boot then s.badState r 0x32
    else match s.plinth.fw with
      | none => s.badState r 0x32
      | some x =>
        if s.fwGood x (zNum r 0 4) then (s.fwEnd true Res.ok).reply r 0x32 0 Res.ok 0 []
        else (s.fwEnd false Res.mismatch).refuse r 0x32 Res.mismatch)

/-- Selects the slot for the next start; with `restart` the Plinth restarts on it (R443). -/
def State.fwSelect (target k : Nat) (restart : Bool) (s : State) : State :=
  if target = 0 then s.modPlinth (fun p => { p with mainNext := k, trialBad := false })
  else s.modPlinth (fun p =>
    let p := { p with plNext := k }
    if restart then { p with plRun := k, fwVersion := (p.image 1 k).version % 65536 } else p)

/-- FW_SELECT (R430, R443). -/
def State.zFwSelect (r : ZReq) (s : State) : State :=
  s.request 0x33 true r (fun s =>
    let t := zNum r 0 1
    let k := zNum r 1 1
    if 2 ≤ t ∨ 2 ≤ k ∨ r.payload.length < 2 then s.refuse r 0x33 Res.badArg
    else if !(s.plinth.image t k).valid then s.refuse r 0x33 Res.checkFail
    else (s.fwSelect t k (bitAt r.flags 0)).reply r 0x33 0 Res.ok 0 [])

/-- A session left 60 s without a command ends with its slot invalid (R442); the RESULT of its record is a free value. -/
def State.fwTimeout (s : State) : State :=
  match s.plinth.fw with
  | none => s
  | some x =>
    if x.last + 60000000000 ≤ s.clock.rtc then
      let f := s.fresh
      f.2.fwEnd false (f.1 % 256)
    else s

/-- The flash refresh, when it is due: five years after the last, or after a keep reset in STANDBY; it waits in BOOT and
while a session is open (R460). `bad`: the images marked invalid: 0 and 1 main A and B, 2 and 3 Plinth A and B. -/
def State.flashRefresh (bad : List Nat) (s : State) : State :=
  let p := s.plinth
  let due := 157788000000000000 ≤ s.clock.rtc - p.refreshAt || (p.refreshUnknown && s.ident.opState == .standby)
  if s.ident.opState = .off ∨ s.ident.opState = .boot ∨ p.fw.isSome ∨ !due then s
  else
    let s := s.auxRecord 0x1A03 [1]
    let s := bad.foldl (fun s b =>
      s.modPlinth (fun p => p.modImage (b / 2) (b % 2) (fun i => { i with valid := false }))) s
    (s.modPlinth (fun p => { p with refreshAt := s.clock.rtc, refreshUnknown := false })).auxRecord 0x1A03
      ((0 : Int) :: bad.map (fun (b : Nat) => (b : Int)))

/-! ## One request at a time (R429) -/

/-- An OP that no command defines (R430). -/
def State.zUnknown (op : Nat) (r : ZReq) (s : State) : State := s.request op true r (fun s => s.reply r op 0 Res.unsupported 0 [])

/-- The command of an OP (R430). -/
def State.zRun (op : Nat) (ack : Bool) (r : ZReq) (s : State) : State :=
  match op with
  | 0x01 => s.zIdent r
  | 0x02 => s.zStatus r
  | 0x03 => s.zTemps r
  | 0x04 => s.zPair r
  | 0x05 => s.zSettings r
  | 0x10 => s.zPowerOn r
  | 0x11 => s.zPowerOff r ack
  | 0x12 => s.zPowerCycle r ack
  | 0x13 => s.zRestReq r ack
  | 0x14 => s.zForce r
  | 0x15 => s.zLockoutClear r
  | 0x20 => s.zLogInfo r
  | 0x21 => s.zLogRead r
  | 0x30 => s.zFwOpen r
  | 0x31 => s.zFwData r
  | 0x32 => s.zFwClose r
  | 0x33 => s.zFwSelect r
  | _ => s.zUnknown op r

/-- The request of the other bus runs once the one before it has completed (R429). -/
def State.zNext (s : State) : State :=
  match s.plinth.held with
  | none => s
  | some (op, r, ack) =>
    if s.power.waitBus.isSome then s else (s.modPlinth (fun p => { p with held := none })).zRun op ack r

end Sys2Proof.Machine
end

