-- ==== Sys2Proof/Machine/Regs.lean ====
section
/-! DEFINITION. The register map of BAR0: what a read shows and what a write does (R40 to R48, R53, R82, R105, R235, R271,
R306, R323, R361, R382, R404, R425). -/

namespace Sys2Proof.Machine

open Sys2Proof

/-- The `k`th 32-bit word of a number. -/
def word32 (k v : Nat) : Nat := v / 2 ^ (32 * k) % 2 ^ 32

/-- A signed number as a register of `n` bits shows it. -/
def regInt (n : Nat) (v : Int) : Nat := wrapInt n v

/-- A number that reads all ones while there is none. -/
def onesOr (v : Option Nat) : Nat := v.getD (2 ^ 64 - 1)

/-- The status registers work while the main domains run and the function's link is up (R446, R455). -/
def State.reachable (s : State) (f : Nat) : Bool := s.powered (6 + f) && (s.fn f).link.up

/-! ## Reads -/

/-- The STATE word (R41). -/
def State.stateWord (s : State) : Nat :=
  s.ident.opState.code + 16 * s.ident.prevState.code + 2 ^ 8 * s.butt.role.code + 2 ^ 10 * bit s.butt.unproven +
    2 ^ 11 * bit s.butt.gang + 2 ^ 12 * bit (profContinuity (s.sec SecId.profile)) + 2 ^ 13 * bit s.res600 +
    2 ^ 16 * s.ident.stateSeq.toNat

/-- A word of the identity block (R41). -/
def State.identWord (s : State) (f : Nat) (off : Nat) : Nat :=
  let prim (n : Nat) : Nat := if f = 0 then n else 0
  match off with
  | 0x00 => 0x2812464A
  | 0x04 => 0x2812 + 2 ^ 16 * 0x40 + 2 ^ 24 * s.ident.step
  | 0x08 => s.ident.fwVersion % 2 ^ 32
  | 0x0C => (if f = 0 then 6 else 1) + 8 * s.ident.bootImage
  | 0x10 => s.stateWord
  | 0x14 => s.plumb.latched.toNat
  | 0x18 => s.ident.alive.toNat
  | 0x1C => if f = 0 then s.ident.scratch.toNat else s.ident.scratch1.toNat
  | 0x20 => prim (word32 0 s.cfg.gen)
  | 0x24 => prim (word32 1 s.cfg.gen)
  | 0x28 => prim (word32 0 s.cfg.shadowGen.toNat)
  | 0x2C => prim (word32 1 s.cfg.shadowGen.toNat)
  | 0x30 => prim (word32 0 (onesOr s.cfg.applied))
  | 0x34 => prim (word32 1 (onesOr s.cfg.applied))
  | 0x38 => prim (s.ident.speedCeil + 2 ^ 24 * s.ident.ceilLimit)
  | 0x40 => prim s.ring.prod.toNat
  | 0x44 => prim s.ring.cons.toNat
  | 0x48 => prim (bit s.ring.valid + 2 * bit s.ring.overflow + 2 ^ 16 * s.ring.lost)
  | _ => 0

/-- A word of the MSI-X table: address and data as written, bit 0 of the fourth word the mask (R43). -/
def msixWord (b : IntBlk) (off : Nat) : Nat :=
  if off % 16 = 12 then bit (b.masked.getLsbD (off / 16)) else b.table.le off 4

/-- A word of the interrupt block (R43); `off` counts from 0x0_1000. -/
def State.intWord (s : State) (f off : Nat) : Nat :=
  let b := (s.fn f).int
  if off < 0x400 then msixWord b off
  else if off = 0x800 ∨ off = 0x804 then word32 (off / 4 % 2) b.pba.toNat
  else if off = 0xC00 ∨ off = 0xC04 then word32 (off / 4 % 2) b.cause.toNat
  else if off = 0xC08 ∨ off = 0xC0C then word32 (off / 4 % 2) b.enable.toNat
  else 0

/-- A word of a mailbox channel (R46 to R48). -/
def Chan.word (x : Chan) (off : Nat) : Nat :=
  if off < 0x1000 then x.area.le off 4
  else if off < 0x2000 then leVal ((((x.response ((off - 0x1000) / 64)).bytes).drop (off % 64)).take 4)
  else if off = 0x2008 ∨ off = 0x200C then word32 (off / 4 % 2) x.complete.toNat
  else if off = 0x2010 then
    x.queue.length + 2 ^ 8 * (if x.running then ((x.queue.head?).map QCmd.slot).getD 0 else 0) + 2 ^ 14 * bit x.running +
      2 ^ 16 * bit x.dbBusy
  else if off = 0x2018 then x.irqMode
  else 0

/-- A word of a DMA channel (R82). -/
def Dma.word (d : Dma) (off : Nat) : Nat :=
  match off with
  | 0x00 => word32 0 d.ringBase
  | 0x04 => word32 1 d.ringBase
  | 0x08 => d.ringExp + 2 ^ 16 * d.maxOut
  | 0x10 => d.tail.toNat
  | 0x14 => d.head.toNat
  | 0x18 => d.done.toNat
  | 0x1C => d.st.code + 8 * bit d.aborted + 16 * bit d.err + 32 * bit d.lastBeat + 2 ^ 8 * d.result + 2 ^ 16 * d.detail
  | 0x20 => d.residue.toNat
  | 0x24 => d.inflight.length
  | 0x28 => word32 0 d.doneStamp
  | 0x2C => word32 1 d.doneStamp
  | 0x30 => word32 0 d.bytes.toNat
  | 0x34 => word32 1 d.bytes.toNat
  | _ => 0

/-- A word of the DMA block (R82, R105); `off` counts from 0x2_0000. -/
def State.dmaWord (s : State) (f off : Nat) : Nat :=
  let x := s.fn f
  if off < 0x1000 then (x.ch.getD (off / 0x100) {}).word (off % 0x100)
  else match off with
    | 0x1000 => word32 0 x.bar2Base
    | 0x1004 => word32 1 x.bar2Base
    | 0x1008 => x.bar2Target + 4 * bit x.bar2Wen
    | 0x100C => x.bar2Dropped
    | _ => 0

/-- A word of the press time registers (R382). -/
def State.timeWord (s : State) (f off : Nat) : Nat :=
  let t := s.time
  let i64 (k : Nat) (v : Int) : Nat := word32 k (regInt 64 v)
  match off with
  | 0x04 => t.snapSeq.toNat
  | 0x08 => word32 0 t.snapTime
  | 0x0C => word32 1 t.snapTime
  | 0x10 => i64 0 t.snapPos0
  | 0x14 => i64 1 t.snapPos0
  | 0x18 => i64 0 t.snapPos1
  | 0x1C => i64 1 t.snapPos1
  | 0x20 => i64 0 t.snapHwm
  | 0x24 => i64 1 t.snapHwm
  | 0x28 => i64 0 t.snapCourse
  | 0x2C => i64 1 t.snapCourse
  | 0x30 => word32 0 t.snapRelease
  | 0x34 => word32 1 t.snapRelease
  | 0x38 => word32 0 s.now
  | 0x3C => ((s.fn f).timeHigh).getD (word32 1 s.now)
  | 0x40 => t.servo.code + 4 * t.reason + 16 * bit t.valid + 32 * bit t.stepPending + 64 * bit t.ref10 + 128 * t.ptpPort +
      2 ^ 8 * t.port0.state + 2 ^ 12 * t.port1.state + 2 ^ 16 * t.stepSeq.toNat
  | 0x44 => regInt 32 (max (-2147483648) (min 2147483647 t.offset))
  | 0x48 => regInt 32 t.pathDelay
  | 0x4C => regInt 32 s.trimNow
  | 0x50 => i64 0 t.stepOffset
  | 0x54 => i64 1 t.stepOffset
  | 0x58 => word32 0 t.gmId
  | 0x5C => word32 1 t.gmId
  | 0x60 => regInt 32 t.ppsErr
  | 0x64 => t.steps + 2 ^ 16 * t.refused
  | _ => 0

/-- AMP_MV: the mean radius over 1 ms, in mV of the µV that the samples hold; which way it rounds is left open (log entry 22). -/
def State.ampMv (s : State) (x : Enc) : Nat :=
  let l := (x.radii.filter (fun p => s.now < p.1 + 1000000)).map Prod.snd
  let d := 1000 * l.length
  if d = 0 then 0 else l.sum / d + (if l.sum % d = 0 then 0 else Config.free s.freeCtr % 2)

/-- A word of an encoder's registers (R235). -/
def State.encWord (s : State) (e off : Nat) : Nat :=
  let x := if e = 0 then s.web.enc0 else s.web.enc1
  let i64 (k : Nat) (v : Int) : Nat := word32 k (regInt 64 v)
  match off with
  | 0x00 => i64 0 x.pos
  | 0x04 => i64 1 x.pos
  | 0x08 => i64 0 x.hwm
  | 0x0C => i64 1 x.hwm
  | 0x10 => bit x.rev + 2 * x.aStat.code + 16 * x.bStat.code + 128 * x.zStat.code + 2 ^ 16 * (s.ampMv x % 65536)
  | 0x14 => x.illegal
  | 0x18 => x.indexErr
  | 0x1C => regInt 32 ((x.window.filter (fun p => s.now < p.1 + 1000000)).map Prod.snd).sum
  | 0x20 => i64 0 x.indexPos
  | 0x24 => i64 1 x.indexPos
  | 0x28 => if e = 0 then s.web.outDropped else 0
  | _ => 0

/-- A word of the web-input registers (R235); `off` counts from 0x3_0800. -/
def State.webWord (s : State) (off : Nat) : Nat :=
  if off < 0x80 then s.encWord (off / 0x40) (off % 0x40)
  else match off with
    | 0x80 => s.web.hall.code
    | 0x84 => s.web.hall.illegal
    | 0x88 => s.web.hall.skips
    | 0x8C => regInt 16 s.web.hall.dev
    | _ => 0

/-- RESUME_COURSE (R271). -/
def State.resumeCourse (s : State) : Nat :=
  if s.ident.opState = .holding then onesOr (if s.lintel.hold.ended then s.lintel.hold.rc else s.lintel.hold.stop)
  else 2 ^ 64 - 1

/-- QTRIM of a bar as its register shows it (R271). -/
def State.qtrim (s : State) (b : Nat) : Nat :=
  if (s.sec SecId.quoin).fld 0 0 13 = 0 then 0 else regInt 16 (s.quoin.trim.getD b 0)

/-- A word of the course timing registers (R271); `off` counts from 0x3_0900. -/
def State.courseWord (s : State) (off : Nat) : Nat :=
  let l := s.lintel
  match off with
  | 0x00 => word32 0 s.nextRelease
  | 0x04 => word32 1 s.nextRelease
  | 0x08 => word32 0 (onesOr l.lastFired)
  | 0x0C => word32 1 (onesOr l.lastFired)
  | 0x10 => word32 0 s.resumeCourse
  | 0x14 => word32 1 s.resumeCourse
  | 0x18 => word32 0 (onesOr s.horizonNow)
  | 0x1C => word32 1 (onesOr s.horizonNow)
  | 0x20 => l.rate + 2 ^ 24 * bit l.clamp + 2 ^ 25 * bit l.overWarn + 2 ^ 26 * bit l.starveWarn
  | 0x24 => l.hold.phase.code + 16 * l.hold.trigger + 2 ^ 8 * l.hold.retries
  | 0x28 => word32 0 l.sheets
  | 0x2C => word32 1 l.sheets
  | 0x48 => s.quoin.frozen.toNat
  | o => if 0x30 ≤ o ∧ o < 0x48 then s.qtrim ((o - 0x30) / 2) + 2 ^ 16 * s.qtrim ((o - 0x30) / 2 + 1) else 0

/-- Index of the node record that carries a lane (R204, R306). -/
def State.nodeIndex (s : State) (l : Nat) : Nat := (s.point.nodes.findIdx? (fun n => n.lanes.contains l)).getD 0

/-- A word of a lane's registers (R306). -/
def State.laneWord (s : State) (l off : Nat) : Nat :=
  let x := s.lane l
  match off with
  | 0x0 => x.st.code + 8 * bit (s.bonded l) + 16 * x.eqSet + 2 ^ 8 * s.nodeIndex l + 2 ^ 16 * x.nodeLane +
      2 ^ 18 * bit (x.hello.isSome && (s.lease x.nodeId).held)
  | 0x4 => x.delayF + 2 ^ 16 * x.losses
  | 0x8 => x.rxCorr
  | _ => x.rxUnc

/-- A word of the Plumb registers (R323); `off` counts from 0x3_0D00. They are live from the main-domain reset on. DESIGN CHOICE (log entry
142): the values then, where the Reset column has 0. -/
def State.plumbWord (s : State) (off : Nat) : Nat :=
  let p := s.plumb
  match off with
  | 0x00 => s.present.toNat
  | 0x04 => p.level.toNat
  | 0x08 => bit p.breakOpen + 2 * bit p.jamOpen + 4 * bit p.wdogOk + 8 * bit p.thermOk + 2 ^ 16 * regInt 16 p.vField
  | 0x0C => s.outCmd.toNat + 2 ^ 16 * s.outState.toNat
  | 0x10 => p.outFault.toNat
  | 0x14 => ((List.range 12).map (fun b => bit (s.gateBar b) * 2 ^ b)).sum
  | 0x18 => word32 0 p.firstStamp
  | 0x1C => word32 1 p.firstStamp
  | 0x20 => p.firstCause.getD 0 + 2 ^ 8 * p.firstReason
  | _ => 0

/-- A link's state (R361). -/
def BLink.code (x : BLink) : Nat := if !x.enabled then 0 else if x.up then 2 else 1

/-- A word of the Buttress registers (R361); `off` counts from 0x3_0E00. -/
def State.buttWord (s : State) (off : Nat) : Nat :=
  let b := s.butt
  match off with
  | 0x00 => b.east.code + 4 * b.west.code + 16 * b.east.lanes.toNat + 2 ^ 8 * b.west.lanes.toNat + 2 ^ 12 * bit b.mirrorOk +
      2 ^ 13 * bit b.hbOk + 2 ^ 14 * bit (b.role == .active && b.partnerRole == .standby && b.mirrorOk) +
      2 ^ 15 * bit b.gang + 2 ^ 16 * b.member
  | 0x08 => word32 0 (onesOr b.epoch)
  | 0x0C => word32 1 (onesOr b.epoch)
  | 0x10 => word32 0 (onesOr b.progress)
  | 0x14 => word32 1 (onesOr b.progress)
  | 0x18 => b.sinceSwap % 2 ^ 32
  | 0x1C => b.swaps + 2 ^ 16 * b.takeovers
  | 0x20 => regInt 32 b.offset
  | _ => 0

/-- How many listed entries of a chain meet a test: `n` entries belong to a chain. -/
def chainCount (m : SMap) (n k : Nat) (p : Nat → Bool) : Nat :=
  (m.cells.filter (fun c => c.1 / n == k && p c.2)).length

/-- N_OPEN to N_OFF_HOT of a chain (R404). -/
def State.chainWord (s : State) (k : Nat) : Nat :=
  let x := s.corbel
  chainCount x.status 1024 k (· == 2) + 2 ^ 12 * chainCount x.status 1024 k (· == 3) + 2 ^ 24 * chainCount x.status 1024 k (· == 4) +
    2 ^ 36 * chainCount x.limit 64 k (· < 15) + 2 ^ 43 * chainCount x.hot 64 k (· == 1)

/-- A row of PANEL_OPEN (R404). -/
def State.panelOpen (s : State) (r : Nat) : Nat := ((List.range 16).map (fun c => s.panel.openBits.get (16 * r + c) * 2 ^ c)).sum

/-- A word of the Corbel registers (R404); `off` counts from 0x3_0F00. -/
def State.corbelWord (s : State) (off : Nat) : Nat :=
  match off with
  | 0x00 => if s.corbel.frameAt.isNone then 0 else (s.corbel.frameNo - 1).toNat
  | 0x04 => s.corbel.retOk.toNat
  | 0x28 => s.panel.pinLatch.toNat
  | 0x2C => s.panel.rowLimited.toNat + 2 ^ 16 * s.panel.rowLatched.toNat
  | o =>
    if 0x08 ≤ o ∧ o < 0x28 then word32 ((o - 8) / 4 % 2) (s.chainWord ((o - 8) / 8))
    else if 0x30 ≤ o ∧ o < 0x50 then s.panelOpen ((o - 0x30) / 2) + 2 ^ 16 * s.panelOpen ((o - 0x30) / 2 + 1)
    else 0

/-- A word of the status mirror (R425); `off` counts from 0x4_0000. Before the first copy it reads its reset values, with
SHUTDOWNS_1H, LOCKOUT and PLINTH_FW as the Aux domain holds them. -/
def State.mirrorWord (s : State) (off : Nat) : Nat :=
  if off = 0 then s.coping.mirrorSeq.toNat
  else
    let d : State := {}
    let fresh : State := { d with
      clock := s.clock
      coping := { d.coping with shutdowns := s.coping.shutdowns, lockout := s.coping.lockout }
      power := { d.power with vMain := 0, vAux := 0, vBat := 0 }
      plinth := { d.plinth with fwVersion := s.plinth.fwVersion } }
    (assoc off (if s.coping.mirror.isEmpty then fresh.mirrorWords else s.coping.mirror)).getD 0

/-- A 32-bit word of BAR0 of a function, at an offset that is a multiple of 4 (R40). -/
def State.regWord (s : State) (f off : Nat) : Nat :=
  if off < 0x1000 then s.identWord f off
  else if off < 0x10000 then s.intWord f (off - 0x1000)
  else if off < 0x20000 then (if f = 0 then (s.chan ((off - 0x10000) / 0x4000)).word ((off - 0x10000) % 0x4000) else 0)
  else if off < 0x30000 then s.dmaWord f (off - 0x20000)
  else if off < 0x30800 then s.timeWord f (off - 0x30000)
  else if off < 0x30900 then s.webWord (off - 0x30800)
  else if off < 0x30A00 then s.courseWord (off - 0x30900)
  else if off < 0x30C80 then s.laneWord (40 * f + (off - 0x30A00) / 16) ((off - 0x30A00) % 16)
  else if off < 0x30D00 then 0
  else if off < 0x30E00 then s.plumbWord (off - 0x30D00)
  else if off < 0x30F00 then s.buttWord (off - 0x30E00)
  else if off < 0x31000 then s.corbelWord (off - 0x30F00)
  else if off < 0x40000 then 0
  else if off < 0x50000 then s.mirrorWord (off - 0x40000)
  else 0

/-- A byte of BAR0. -/
def State.regByte (s : State) (f off : Nat) : Nat := s.regWord f (off / 4 * 4) / 256 ^ (off % 4) % 256

/-- What a read of `n` bytes of BAR0 returns, as one number. -/
def State.regRead (s : State) (f off n : Nat) : Nat := leVal ((List.range n).map (fun i => s.regByte f (off + i)))

/-! ## Reads with an effect -/

/-- The host reads a response area (R51, R53): only a read that covers any of bytes 0 to 7 of a ready response has an
effect. `off` counts from the start of the slot. -/
def State.responseRead (ch slot off n : Nat) (s : State) : State :=
  if !s.reachable 0 then s
  else
    let v := s.regRead 0 (0x10000 + 0x4000 * ch + 0x1000 + 64 * slot + off) n
    let s := s.send (.read 0 (0x10000 + 0x4000 * ch + 0x1000 + 64 * slot + off) v false)
    let r := (s.chan ch).response slot
    if off < 8 ∧ 0 < n ∧ r.ready then
      s.modChan ch (fun x => { x with rsp := assocSet slot { r with readAgain := true } x.rsp, complete := setBit x.complete slot false })
    else s

/-- A read of TIME_NOW: a 32-bit read of its low word latches the high word for the next read of that word, which a read of the high
word or of both is; one of both takes them at one instant (R382; log entry 146). -/
def State.timeNowRead (r : TimeRead) (f : Nat) (s : State) : State :=
  if !s.reachable f then s
  else match r with
    | .low => (s.setFn f { s.fn f with timeHigh := some (word32 1 s.now) }).send (.read f 0x30038 (word32 0 s.now) false)
    | .high => (s.setFn f { s.fn f with timeHigh := none }).send (.read f 0x3003C (s.timeWord f 0x3C) false)
    | .both => (s.setFn f { s.fn f with timeHigh := none }).send (.read f 0x30038 s.now false)

/-- Reading BAR2_DROPPED returns the count and clears it (R105, R12). -/
def State.droppedRead (f : Nat) (s : State) : State :=
  if !s.reachable f then s
  else (s.setFn f { s.fn f with bar2Dropped := 0 }).send (.read f 0x2100C (s.fn f).bar2Dropped false)

/-- The first byte of an uncorrectable word in a range of a function's BAR2 window, by its address in the target (R105). -/
def State.bar2Bad (s : State) (f off n : Nat) : Option Nat :=
  let x := s.fn f
  ((List.range n).map (fun i => x.bar2Base + off + i)).find? (fun a => a < targetSize x.bar2Target && s.badWord f x.bar2Target a)

/-- A read of the BAR2 window; one that meets an uncorrectable word is poisoned and recorded (R105, R125). -/
def State.bar2Host (f off n : Nat) (s : State) : State :=
  if !s.reachable f then s
  else
    let r := s.bar2Read f off n
    let s := match s.bar2Bad f off n with
      | some a => s.memRecord f (s.fn f).bar2Target (a / 16 * 16) effectRead
      | none => s
    s.send (.read f (2 ^ 32 + off) r.1 r.2)

/-! ## Writes -/

/-- Bytes merged into a 32-bit word of a register. -/
def mergeWord (old off : Nat) (bytes : List Nat) (base : Nat) : Nat :=
  ((List.range 4).map (fun i =>
    (if off ≤ base + i ∧ base + i < off + bytes.length then bytes.getD (base + i - off) 0 % 256 else old / 256 ^ i % 256) * 256 ^ i)).sum

/-- A vector of the MSI-X table is masked or unmasked; unmasking sends a message that waits in the pending-bit array (R43). -/
def State.maskVector (f v : Nat) (m : Bool) (s : State) : State :=
  let x := s.fn f
  let s := s.setFn f { x with int := { x.int with masked := setBit x.int.masked v m } }
  if !m && x.int.pba.getLsbD v then s.message f v else s

/-- A slot that is queued or running (R49). -/
def Chan.busySlot (x : Chan) (slot : Nat) : Bool := x.queue.any (fun q => q.slot == slot)

/-- A write to one 32-bit word of a mailbox channel: command areas, DB_BUSY and IRQ_MODE, which keeps its reserved value 3 (R46, R49;
log entry 104). -/
def State.chanWrite (ch base off : Nat) (bytes : List Nat) (s : State) : State :=
  let x := s.chan ch
  if base < 0x1000 then
    if x.busySlot (base / 64) then s
    else s.modChan ch (fun x => { x with area := x.area.write base (leBytes 4 (mergeWord (x.area.le base 4) off bytes base)) })
  else if base = 0x2010 then
    if bitAt (mergeWord 0 off bytes base) 16 then s.modChan ch (fun x => { x with dbBusy := false }) else s
  else if base = 0x2018 then s.modChan ch (fun x => { x with irqMode := mergeWord x.irqMode off bytes base % 4 })
  else s

/-- A write to CTRL of a channel: DISABLE before ABORT before ENABLE where several bits are set (R83). -/
def State.ctrlWrite (f c v : Nat) (s : State) : State :=
  if bitAt v 2 then s.chanDisable f c else if bitAt v 1 then s.chanAbort f c false else if bitAt v 0 then s.chanEnable f c else s

/-- A write to one 32-bit word of a channel of the host's: `v` is the word as merged, `w` the bytes written with zeros beside them (R12,
R81, R82). -/
def State.dmaWrite (f c reg v w : Nat) (s : State) : State :=
  let d := s.ch f c
  match reg with
  | 0x00 => s.ringBaseWrite f c (d.ringBase / 2 ^ 32 * 2 ^ 32 + v)
  | 0x04 => s.ringBaseWrite f c (d.ringBase % 2 ^ 32 + v * 2 ^ 32)
  | 0x08 => s.modCh f c (fun d => { d with ringExp := v % 32, maxOut := field v 16 9 })
  | 0x0C => s.ctrlWrite f c w
  | 0x10 => s.tailWrite f c v
  | _ => s

/-- A write to one 32-bit word of BAR0: the RW fields take their bits; other bits are ignored (R12, R14). BAR2_BASE drops its low 28
bits, which must be 0, and TARGET keeps its reserved value 3 (log entry 104). -/
def State.wordWrite (f base off : Nat) (bytes : List Nat) (s : State) : State :=
  let v := mergeWord (s.regWord f base) off bytes base
  if base = 0x1C then
    { s with ident := if f = 0 then { s.ident with scratch := BitVec.ofNat 32 v } else { s.ident with scratch1 := BitVec.ofNat 32 v } }
  else if base = 0x44 then (if f = 0 then { s with ring := { s.ring with cons := BitVec.ofNat 32 v } } else s)
  else if 0x1000 ≤ base ∧ base < 0x1400 then
    let o := base - 0x1000
    if o % 16 = 12 then s.maskVector f (o / 16) (bitAt v 0)
    else
      let x := s.fn f
      s.setFn f { x with int := { x.int with table := x.int.table.write o (leBytes 4 v) } }
  else if 0x10000 ≤ base ∧ base < 0x20000 then
    if f = 0 then s.chanWrite ((base - 0x10000) / 0x4000) ((base - 0x10000) % 0x4000) (off - (base - (base - 0x10000) % 0x4000)) bytes else s
  else if 0x20000 ≤ base ∧ base < 0x21000 then
    let c := (base - 0x20000) / 0x100
    if c < 14 then s.dmaWrite f c (base % 0x100) v (mergeWord 0 off bytes base) else s
  else if base = 0x21000 then
    s.setFn f { s.fn f with bar2Base := (s.fn f).bar2Base / 2 ^ 32 * 2 ^ 32 + v / 2 ^ 28 * 2 ^ 28 }
  else if base = 0x21004 then
    s.setFn f { s.fn f with bar2Base := (s.fn f).bar2Base % 2 ^ 32 + v * 2 ^ 32 }
  else if base = 0x21008 then
    s.setFn f { s.fn f with bar2Target := v % 4, bar2Wen := bitAt v 2 }
  else s

/-- A host write of some bytes of BAR0 (R12). -/
def State.registerWrite (f off : Nat) (bytes : List Nat) (s : State) : State :=
  if !s.reachable f then s
  else
    let n := (off % 4 + bytes.length + 3) / 4
    (List.range n).foldl (fun (s : State) k => s.wordWrite f (off / 4 * 4 + 4 * k) off bytes) s

/-- A W1C write to INT_CAUSE, which takes the pending bits of the causes that it clears with it; `again` are the sources that fire in the
same clock (R43, R45). -/
def State.intCauseClear (f clear again : Nat) (s : State) : State :=
  if !s.reachable f then s
  else
    let x := s.fn f
    let s := s.setFn f { x with int := { x.int with
      cause := x.int.cause &&& ~~~(BitVec.ofNat 64 clear), pba := x.int.pba &&& ~~~(BitVec.ofNat 64 clear) } }
    (List.range 64).foldl (fun (s : State) v => if bitAt again v then s.raise f v else s) s

/-- A write to INT_ENABLE: a vector enabled while its cause bit is 1 sends a message at once (R45). -/
def State.intEnable (f value : Nat) (s : State) : State :=
  if !s.reachable f then s
  else
    let x := s.fn f
    let now := BitVec.ofNat 64 value
    let s := s.setFn f { x with int := { x.int with enable := now } }
    (List.range 64).foldl (fun (s : State) v =>
      if now.getLsbD v && !(x.int.enable.getLsbD v) && x.int.cause.getLsbD v then s.message f v else s) s

/-- A W1C write to OVERFLOW, which clears LOST too (R41). -/
def State.overflowClear (s : State) : State :=
  if s.reachable 0 then { s with ring := { s.ring with overflow := false, lost := 0 } } else s

/-- SNAP_REQ: one sample of press time, positions, HWM, course and NEXT_RELEASE; SNAP_SEQ last (R382). -/
def State.snapshot (f : Nat) (s : State) : State :=
  if !s.reachable f then s
  else
    s.modTime (fun t => { t with
      snapSeq := t.snapSeq + 1, snapTime := s.now, snapPos0 := s.web.enc0.pos, snapPos1 := s.web.enc1.pos
      snapHwm := s.posEnc.hwm, snapCourse := s.coord s.posEnc.hwm, snapRelease := s.nextRelease })

/-- One record's ring write through channel 15 completes, or the record is lost because the ring is full (R58, R81). -/
def State.ringWrite (s : State) : State :=
  match s.ring.wait with
  | [] => s
  | e :: rest =>
    let n := 2 ^ s.ring.exp / 32
    let s : State := { s with ring := { s.ring with wait := rest } }
    if !s.ring.valid ∨ !s.mainOn then s
    else if (s.ring.prod.toNat + 1) % n = s.ring.cons.toNat % n then
      { s with ring := { s.ring with overflow := true, lost := satInc 65535 s.ring.lost } }
    else
      let s := (s.hostWrite (s.ring.base + 32 * (s.ring.prod.toNat % n)) e.bytes).ownChannel 0 15 32
      State.raise 0 21 { s with ring := { s.ring with prod := s.ring.prod + 1 } }

end Sys2Proof.Machine
end

