-- ==== Sys2Proof/Machine/VerbsSys.lean ====
section
/-! DEFINITION. The SYS and STATE verbs (R55, R58, R60, R319, R456, R510). -/

namespace Sys2Proof.Machine

open Sys2Proof

/-- What running a command gives: the new state, and its answer unless it stays pending. -/
abbrev VRes := State × Option Reply

/-- The offset that BAD_ARG reports (R14, R504): the header's first, then the lowest among the bytes that no layout names
and the fields that are out of range. -/
def QCmd.fault (q : QCmd) (named : List (Nat × Nat)) (l : List (Nat × Bool)) : Option Nat :=
  match q.headerFault with
  | some o => some o
  | none => ((q.stray named).toList ++ (l.filter (fun p => p.2)).map Prod.fst).min?

/-- A command judged by its states, then by its arguments, then run (R57, R54). -/
def verbRun (ok : Bool) (bad : Option Nat) (f : State → VRes) (s : State) : VRes :=
  if !ok then (s, some s.wrongState)
  else match bad with
    | some o => (s, some (Reply.badArg o))
    | none => f s

/-- Any state except BOOT. -/
def State.live (s : State) : Bool := s.armed || s.inRest

/-- REST, READY and FAULT. -/
def State.idleState (s : State) : Bool := s.inRest || s.ident.opState == .ready

/-- SYS.INFO (R55, R510). -/
def vSysInfo (q : QCmd) (s : State) : VRes :=
  verbRun s.mainOn (q.fault [] []) (fun s =>
    let words (f : Nat) : List Nat := [0, 4, 8, 12].flatMap (fun o => leBytes 4 (s.identWord f o))
    (s, some (Reply.ok (words 0 ++ words 1 ++ [80, 56, 0, 0] ++ leBytes 4 s.plinth.fwVersion ++ leBytes 8 s.ident.serial)))) s

/-- SYS.PING (R55). -/
def vSysPing (q : QCmd) (s : State) : VRes :=
  verbRun s.mainOn (q.fault [(8, 48)] []) (fun s => (s, some (Reply.ok ((List.range 48).map (fun i => q.byte (8 + i)))))) s

/-- SYS.EVENT_RING (R58): setting or removing the ring starts its indexes at 0; OVERFLOW and LOST stay, and records still on their way
to the ring are dropped (log entry 100). -/
def vEventRing (q : QCmd) (s : State) : VRes :=
  let k := q.byte 16
  let a := q.num 8 8
  verbRun s.idleState
    (q.fault [(8, 9)] [(8, k != 0 && a % 2 ^ k != 0), (16, k != 0 && !(16 ≤ k && k ≤ 24))]) (fun s =>
    let r := s.ring
    ({ s with ring := if k = 0 then { overflow := r.overflow, lost := r.lost }
                      else { valid := true, base := a, exp := k, overflow := r.overflow, lost := r.lost } }, some {})) s

/-- The power-off and power-up of a cold SYS.RESET: BOOT, with the domains of R450 still to come up (R80, R456). -/
def State.coldReset (s : State) : State :=
  s.reboot.modPower (fun p => { p with domains := 0x003, seqStep := 1, stepAt := s.clock.up })

/-- SYS.RESET: the reset begins 100 µs after the response (R456). -/
def vReset (q : QCmd) (s : State) : VRes :=
  let mode := q.byte 8
  let img := q.byte 9
  verbRun s.inRest
    (q.fault [(8, 2)] [(8, 1 < mode), (9, 2 < img || (img != 0 && !((s.plinth.img (img - 1)).valid)))]) (fun s =>
    ((s.modPlinth (fun p => { p with imgOverride := if img = 0 then none else some (img - 1) })).modPower
      (fun p => { p with resetDue := some (s.clock.up + 100000, mode == 1) }), some {})) s

/-- A discovery has run under the LANE_TABLE in force, and its bond did not fail (R203, R206). -/
def State.bondFound (s : State) : Bool := s.point.passed && s.point.discTable.any (s.sec SecId.laneTable).same

/-- The conditions of STATE.ARM, in order; the lane-load check judges the present bond against the sections in force (R60, R207). -/
def State.armRefusal (s : State) : Option Reply :=
  if s.ident.opState ≠ .rest then some s.wrongState
  else if s.cfg.gen = 0 then some (Reply.fail Res.checkFail 0x0001)
  else match lowestBit 32 s.present.toNat with
    | some b => some (Reply.fail Res.hwFault b)
    | none =>
      if (s.capacityFault (s.sec SecId.barGeometry) (s.sec SecId.profile)).isSome then some (Reply.fail Res.checkFail 0x0006)
      else if !s.bondFound || s.laneLoadNow.isSome then some (Reply.fail Res.checkFail 0x0005)
      else match s.unheldHead with
        | some g => if s.butt.role = .standby then none else some (Reply.fail Res.notHolder g)
        | none => none

/-- No first cause since the last clear or arm (R323). -/
def State.clearFirst (s : State) : State :=
  { s with plumb := { s.plumb with firstCause := none, firstReason := 0, firstStamp := 0 } }

/-- Entry to READY from REST: release begins with the first course not yet reached (R80, R238). -/
def State.arm (s : State) : State :=
  let n := s.unreached
  ((({ s with lintel := { s.lintel with next := n, runFrom := none, queue := [], recPrev := none } }).clearFirst).calStop [106, 107]).enter .ready

/-- STATE.ARM (R60). -/
def vArm (q : QCmd) (s : State) : VRes :=
  verbRun (s.ident.opState == .rest) (q.fault [] []) (fun s =>
    match s.armRefusal with
    | some r => (s, some r)
    | none => (s.arm, some {})) s

/-- STATE.DISARM (R80). -/
def vDisarm (q : QCmd) (s : State) : VRes :=
  verbRun (s.ident.opState == .ready) (q.fault [] []) (fun s => (s.toRest, some {})) s

/-- STATE.REST (R80): OK without change in REST and FAULT; one that acted as its doorbell was taken only answers (R55). -/
def vRest (q : QCmd) (s : State) : VRes :=
  verbRun s.live (q.fault [] []) (fun s => (if q.acted then s else s.toRest, some {})) s

/-- Every latch is cleared and the module is in REST (R319); after an encoder fault, HWM restarts at POSITION and the check
encoder is compared again, from a new window (R225, R229). -/
def State.clearLatches (s : State) : State :=
  let enc := s.plumb.latched.getLsbD 20
  let s := (({ s with plumb := { s.plumb with latched := 0, latchReason := [], mustReset := 0 } }).clearFirst.abortAll).lampsAtRest.enter .rest
  let fix (x : Enc) : Enc := if enc then { x with hwm := x.pos } else x
  let s : State := { s with web := { s.web with enc0 := fix s.web.enc0, enc1 := fix s.web.enc1 } }
  if s.web.chkOff then ({ s with web := { s.web with chkOff := false, chkBad := 0 } } : State).newWindow else s

/-- STATE.CLEAR (R319). -/
def vClear (q : QCmd) (s : State) : VRes :=
  verbRun (s.ident.opState == .fault) (q.fault [] []) (fun s =>
    match s.firstUnremoved with
    | some b => (s, some (Reply.fail Res.hwFault b))
    | none => (s.clearLatches, some {})) s

end Sys2Proof.Machine
end

