-- ==== Sys2Proof/Machine/VerbsCfg.lean ====
section
/-! DEFINITION. The CFG verbs (R61 to R69, R505, R506, R511). -/

namespace Sys2Proof.Machine

open Sys2Proof

/-- A fetch from host memory through channel 14 of a function that fails, or a copy to it through channel 15: the channel's vector fires,
and HW_FAULT carries a cause number that is left open (R62, R81). -/
def State.ownFault (fn ch : Nat) (s : State) : VRes :=
  let f := (s.ownError fn ch).fresh
  (f.2, some (Reply.fail Res.hwFault (f.1 % 65536)))

/-- A copy to host memory, or a fetch that Wythe 0 alone makes, fails. -/
def State.fetchFault (ch : Nat) (s : State) : VRes := s.ownFault 0 ch

/-- A bulk fetch of which the wythes take `n.1` and `n.2` bytes fails, on the function of a wythe that fetches: where both do, on the one
that a free value names (R62, R81; log entry 128). -/
def State.bulkFault (n : Nat × Nat) (s : State) : VRes :=
  let f := s.fresh
  f.2.ownFault (if n.2 = 0 then 0 else if n.1 = 0 then 1 else f.1 % 2) 14

/-! ## What each wythe fetches of a bulk table (R19, R62, R147, R193) -/

/-- The length of what two ranges have in common. -/
def overlap (a b lo hi : Nat) : Nat := min b hi - max a lo

/-- The bytes from `a` to `b - 1` of a section that a wythe needs, whose table of rows (head × 4 + row of each bar, `size` bytes each)
begins at `base`: what precedes and follows the table, the rows of its own heads, and the `seam` bytes of the other wythe's seam head of
which it holds copies. -/
def tableShare (base size seam w a b : Nat) : Nat :=
  let rows := (List.range 2880).map (fun i =>
    let lo := base + i * size
    let k := i % 240 / 4
    if k / 30 = w then overlap a b lo (lo + size)
    else if w = 0 ∧ k = 30 then overlap a b lo (lo + seam)
    else if w = 1 ∧ k = 29 then overlap a b (lo + size - seam) (lo + size)
    else 0)
  overlap a b 0 base + rows.sum + (b - max a (base + 2880 * size))

/-- The bytes of a staged piece that the two wythes fetch: of DENSITY and POINTING their own parts, of TONE and MORTAR all of it; any other
section is fetched by Wythe 0 (R19, R62). -/
def stageShares (id off len : Nat) : Nat × Nat :=
  if id = SecId.density then (tableShare 0x80 2048 16 0 off (off + len), tableShare 0x80 2048 16 1 off (off + len))
  else if id = SecId.pointing then (tableShare 0x400 512 8 0 off (off + len), tableShare 0x400 512 8 1 off (off + len))
  else if id = SecId.tone ∨ id = SecId.mortar then (len, len)
  else (len, 0)

/-- The sections that hold bulk tables, which never cross in class CTRL (R19, R29). -/
def bulkSections : List Nat := [SecId.tone, SecId.density, SecId.mortar, SecId.pointing]

/-- What class CTRL carries of a staged piece: its bytes, or of a bulk table its host address and CRC-32C (R29). -/
def ctrlStage (id off addr : Nat) (bytes : List Nat) : List Int :=
  (if bulkSections.contains id then [1, id, off, addr, bytes.length, crc32c bytes] else [0, id, off] ++ bytes).map Int.ofNat

/-- What class CTRL carries of a set that is committed: its generation, and of each section the bytes, or of a bulk table its CRC-32C
(R29; log entry 118). -/
def ctrlCommit (p : Pend) : List (List Int) :=
  ([2, p.gen] :: p.secs.map (fun x =>
    let bytes := x.2.mem.read 0 x.2.len
    if bulkSections.contains x.1 then [5, x.1, x.2.len, crc32c bytes] else [4, x.1] ++ bytes)).map (fun l => l.map Int.ofNat)

/-- BUSY while a commit is pending (R66). -/
def busyCommit : Reply := Reply.fail Res.busy 0x0303

/-- BUSY while a CFG.CHECK runs (R63). -/
def busyCheck : Reply := Reply.fail Res.busy 0x0302

/-- A CFG.CHECK that has been carried to the partner or the gang and whose response is not written (R63). -/
def State.checkRuns (s : State) : Bool := s.butt.fwd.any (fun f => f.verb == 0x0302)

/-- A commit applied at once that awaits the partner or the gang (R66). -/
def State.commitRuns (s : State) : Bool := s.butt.fwd.any (fun f => f.verb == 0x0303 && !f.keep)

/-- A commit is pending (R66). -/
def State.commitPending (s : State) : Bool := s.cfg.pend.isSome || s.commitRuns

/-- Changes the configuration unit. -/
def State.modCfg (f : Cfg → Cfg) (s : State) : State := { s with cfg := f s.cfg }

/-- A section after a CFG.STAGE of `bytes` at `off` (R62, R511). -/
def stageSec (id off : Nat) (bytes : List Nat) (c : Sec) : Sec :=
  if id = SecId.mortar ∧ bytes.isEmpty then { c with len := off, mem := c.mem.below off, bad := false }
  else { c with len := max c.len (off + bytes.length), mem := c.mem.write off bytes, bad := false }

/-- A section is staged: SHADOW_GEN advances and the section is touched (R62, R69). -/
def State.stage (id off : Nat) (bytes : List Nat) (s : State) : State :=
  s.modCfg (fun x => { x with
    shadow := assocSet id (stageSec id off bytes (s.shadow id)) x.shadow
    shadowGen := x.shadowGen + 1
    touched := if x.touched.contains id then x.touched else x.touched ++ [id] })

/-- CFG.STAGE (R62, R505, R506, R511). -/
def vStage (q : QCmd) (s : State) : VRes :=
  let id := q.byte 8
  let off := q.num 12 4
  let addr := q.num 16 8
  let len := q.num 56 4
  let max_ := secLen id
  let cut := id == SecId.mortar && len == 0
  verbRun s.live
    (q.fault [(8, 1), (12, 4), (16, 8), (24, 32), (56, 4)]
      [(8, max_ == 0),
       (12, (if cut then off < mortarMin || (s.shadow id).len < off else max_ ≤ off)),
       (16, addr % 64 != 0),
       (56, !cut && (len == 0 || max_ < off + len || (addr == 0 && 32 < len)))]) (fun s =>
    if s.checkRuns then (s, some busyCheck)
    else if s.commitPending then (s, some busyCommit)
    else if addr ≠ 0 ∧ q.fetchFail then s.bulkFault (stageShares id off len)
    else
      let bytes := if addr = 0 then (List.range len).map (fun i => q.byte (24 + i)) else s.store.host.read addr len
      let n := stageShares id off len
      let s := if addr = 0 then s else s.ownFetch n.1 n.2
      let s := (s.stage id off bytes).tieSend 0 tieCtrl (ctrlStage id off addr bytes)
      (s, some (Reply.ok (leBytes 8 s.cfg.shadowGen.toNat)))) s

/-- CFG.CHECK (R63, R506). -/
def vCheck (q : QCmd) (s : State) : VRes :=
  verbRun s.live (q.fault [] []) (fun s =>
    let l := s.checkFails
    let gen := leBytes 8 s.cfg.shadowGen.toNat
    match l with
    | [] => (s.modCfg (fun x => { x with checked := some x.shadowGen.toNat }), some (Reply.ok gen))
    | c :: _ =>
      (s, some { result := Res.checkFail, detail := c.code
                 data := gen ++ leBytes 4 l.length ++ leBytes 4 c.section_ ++ leBytes 8 c.measured ++ leBytes 8 c.limit })) s

/-- Whether the shadow set differs from the set in force in an idle section (R64). -/
def State.idleChange (s : State) : Bool :=
  idleSections.any (fun id =>
    match assoc id s.cfg.shadow, assoc id s.cfg.force with
    | none, none => false
    | some a, some b => !(a.same b)
    | _, _ => true)

/-- A commit that is accepted, as it stands pending (R66, R69). -/
def State.pendOf (s : State) (ch slot lift : Nat) (late : Bool) : Pend :=
  { chan := ch, slot := slot, lift := lift, gen := s.cfg.shadowGen.toNat, secs := s.cfg.shadow, touched := s.cfg.touched
    idle := s.idleChange, late := late }

/-- A commit applied at once (R66). -/
def State.commitNow (ch slot : Nat) (warn : Bool) (s : State) : VRes :=
  let p := s.pendOf ch slot 0 false
  let s := s.tieSendAll 0 tieCtrl (ctrlCommit p)
  (s.applySet p none, some { data := commitData none p.gen, warn := warn, detail := if warn then 0x0303 else 0 })

/-- A commit is pending for a lift: its token goes out over the SYNC class of the Tie, in a gang over Buttress, and its generation with
the mirrored control (R29, R31, R65). -/
def State.commitAt (ch slot lift : Nat) (late : Bool) (s : State) : State :=
  let p := s.pendOf ch slot lift late
  let s := s.modCfg (fun x => { x with pend := some p })
  ((s.tieSend 0 tieSync [1, lift]).tieSendAll 0 tieCtrl (ctrlCommit p)).gangSay [0, lift]

/-- CFG.COMMIT: the refusals of R64 in their order, then the acceptance rule of R65; one carried over Buttress is in time by the rule of the
token (R31, R332, R354). -/
def vCommit (ch : Nat) (q : QCmd) (s : State) : VRes :=
  let kind := q.byte 16
  let target := q.num 24 8
  let lift := if kind = 2 then ceilDiv target 256 else target
  verbRun s.live
    (q.fault [(8, 8), (16, 1), (24, 8)] [(16, 2 < kind), (24, kind == 0 && target != 0)]) (fun s =>
    let refuse (r d : Nat) : VRes := (s, some (Reply.fail r d))
    if s.checkRuns then (s, some busyCheck)
    else if kind = 0 ∧ s.printHold then refuse Res.badState s.ident.opState.code
    else if q.num 8 8 ≠ s.cfg.shadowGen.toNat then refuse Res.mismatch 0x0303
    else if s.cfg.checked ≠ some s.cfg.shadowGen.toNat then refuse Res.checkFail 0x0302
    else if s.idleChange ∧ s.printHold then refuse Res.badState s.ident.opState.code
    else if s.commitPending then (s, some busyCommit)
    else if kind ≠ 0 ∧ s.presentLift + 4096 < lift then (s, some (Reply.badArg 24))
    else if kind = 0 then s.commitNow ch q.slot false
    else if s.inRest then s.commitNow ch q.slot true
    else if s.liftOpen lift ∨ (q.remote ∧ s.lintel.next + 128 ≤ 256 * lift) then
      (s.commitAt ch q.slot lift false, none)
    else if q.atOnce then
      (s.commitAt ch q.slot s.earliestLift true, none)
    else refuse Res.late 0x0303) s

/-- CFG.CANCEL (R68, R506). -/
def vCancel (q : QCmd) (s : State) : VRes :=
  verbRun s.live (q.fault [] []) (fun s =>
    match s.cfg.pend with
    | none => (s, some (if s.commitRuns then Reply.fail Res.late 0x0304 else Reply.ok []))
    | some p =>
      if s.liftOpen p.lift then (s.endPend Res.late 0x0304, some (Reply.ok (leBytes 8 1 ++ leBytes 8 p.gen)))
      else (s, some (Reply.fail Res.late 0x0304))) s

/-- CFG.DISCARD (R69, R506). DESIGN CHOICE (log entry 134): the shadow copy that it writes anew holds no uncorrectable word. -/
def vDiscard (q : QCmd) (s : State) : VRes :=
  verbRun s.live (q.fault [] []) (fun s =>
    if s.checkRuns then (s, some busyCheck)
    else if s.commitPending then (s, some busyCommit)
    else
      let s := s.modCfg (fun x => { x with shadow := x.force, shadowGen := x.shadowGen + 1, touched := [] })
      (s, some (Reply.ok (leBytes 8 s.cfg.shadowGen.toNat)))) s

/-- Bytes that a command copies to host memory through channel 15 (R96). -/
def State.copyOut (addr : Nat) (bytes : List Nat) (s : State) : State := (s.hostWrite addr bytes).ownChannel 0 15 bytes.length

/-- CFG.READ (R505, R506). -/
def vCfgRead (q : QCmd) (s : State) : VRes :=
  let id := q.byte 8
  let copy := q.byte 9
  let off := q.num 12 4
  let addr := q.num 16 8
  let len := q.num 24 4
  let held := if copy = 0 then assoc id s.cfg.shadow else assoc id s.cfg.force
  let size := (held.map Sec.len).getD (if id = SecId.mortar then mortarMin else secLen id)
  verbRun s.live
    (q.fault [(8, 2), (12, 4), (16, 8), (24, 4)]
      [(8, secLen id == 0), (9, 1 < copy), (12, size ≤ off), (16, addr % 64 != 0), (24, len == 0 || size < off + len)]) (fun s =>
    match held with
    | none => (s, some (Reply.fail Res.checkFail 0x0001))
    | some c =>
      if q.fetchFail then s.fetchFault 15
      else (s.copyOut addr (c.mem.read off len),
        some (Reply.ok (leBytes 8 (if copy = 0 then s.cfg.shadowGen.toNat else s.cfg.gen) ++ leBytes 4 c.len)))) s

end Sys2Proof.Machine
end

