-- ==== Sys2Proof/Machine/VerbsJob.lean ====
section
/-! DEFINITION. The JOB and EVT verbs (R73 to R79, R92, R127 to R129, R507 to R509). -/

namespace Sys2Proof.Machine

open Sys2Proof

/-! ## Job space (R126 to R129) -/

/-- The deepest ring that fits: exponents from the hint down to 4 (R128). -/
def ringFit (fits : Nat → Bool) : Nat → Option Nat
  | 0 => none
  | n + 1 => if n + 1 < 4 then none else if fits (n + 1) then some (n + 1) else ringFit fits n

/-- The placement of a job on a wythe, and its ring exponent (R128). -/
def State.placeJob (s : State) (j : Job) (ring w : Nat) : Option (Nat × Nat) :=
  let geo := s.sec SecId.barGeometry
  let fits (place ring : Nat) : Bool := j.extentsFor geo w place ring 1 1 ≤ s.freeSpace w
  if j.repeats then
    if j.ashlar then (if fits 1 0 then some (1, 0) else none)
    else if fits 0 0 then some (0, 0)
    else if j.noComp then none
    else if fits 2 0 then some (2, 0) else none
  else (ringFit (fits 3) ring).map (fun n => (3, n))

/-! ## JOB.OPEN to JOB.STATUS (R73 to R76, R92) -/

/-- Changes the jobs unit. -/
def State.modJobs (f : Jobs → Jobs) (s : State) : State := { s with jobs := f s.jobs }

/-- The open job that byte 8 names (R507). -/
def QCmd.jobOf (s : State) (q : QCmd) : Option Job := s.job (q.byte 8)

/-- The lowest job id that no open job holds (R507). -/
def State.freeJobId (s : State) : Nat := ((List.range 256).find? (fun i => (s.job i).isNone)).getD 0

/-- The DATA of JOB.OPEN (R508). -/
def State.openReport (s : State) (j : Job) : List Nat :=
  let v := s.jobSpeed j
  [j.id, j.place0, j.place1, v.2.1] ++ leBytes 4 v.1 ++ leBytes 4 j.ext0 ++ leBytes 4 j.ext1 ++ [j.ring0, j.ring1, v.2.2]

/-- JOB.OPEN (R73, R127, R128, R507, R508). -/
def vJobOpen (q : QCmd) (s : State) : VRes :=
  let rep := q.byte 8 == 0
  let chans := q.num 10 2
  let hints := q.num 32 4
  let rh := field hints 8 8
  let exp := field hints 16 4
  verbRun s.armed
    (q.fault [(8, 6), (16, 20)]
      [(8, 1 < q.byte 8), (9, 1 < q.byte 9), (10, chans == 0 || 4096 ≤ chans), (12, 1 < q.byte 12), (13, 1 < q.byte 13),
       (16, rep && q.num 16 8 == 0), (24, if rep then q.num 24 8 == 0 else q.num 24 8 != 0),
       (32, (!rep && ((1 ≤ exp && exp ≤ 5) || 11 ≤ exp)) || (1 ≤ rh && rh ≤ 15) || field hints 1 7 != 0 || field hints 20 12 != 0)]) (fun s =>
    if 16 ≤ s.jobs.opened.length then (s, some (Reply.fail Res.noSpace 0x0013))
    else
      let j : Job := { id := s.freeJobId, repeats := rep, ashlar := q.byte 9 == 1, mask := BitVec.ofNat 12 chans
                       xHalf := q.byte 12 == 1, yHalf := q.byte 13 == 1, length := q.num 16 8, tile := q.num 24 8
                       noComp := bitAt hints 0, ratio16 := if rh = 0 then 32 else rh, key := s.freeCtr
                       first := q.first, width := q.width
                       east := s.neighbour 0, west := s.neighbour 1 }
      let ring := if exp = 0 then 6 else exp
      match s.placeJob j ring 0, s.placeJob j ring 1 with
      | none, _ => (s, some (Reply.fail Res.noSpace 0x0010))
      | some _, none => (s, some (Reply.fail Res.noSpace 0x0011))
      | some a, some b =>
        let geo := s.sec SecId.barGeometry
        let j : Job := { j with place0 := a.1, ring0 := a.2, place1 := b.1, ring1 := b.2 }
        let j : Job := { j with ext0 := j.extentsFor geo 0 a.1 a.2 1 1, ext1 := j.extentsFor geo 1 b.1 b.2 1 1 }
        let s := (State.modJobs (fun x => { x with opened := x.opened ++ [j] }) { s with freeCtr := s.freeCtr + 1 }).claimExtents j.id
        let s := s.updateCeil
        (s, some (Reply.ok (s.openReport j)))) s

/-- JOB.SUBMIT: ATTACH, DETACH and END (R92). DESIGN CHOICE (log entry 132): an END_LINE of 0 for a stream of length 0 is refused, a
second END replaces the first, and DETACH counts the descriptors that the channel has fetched. -/
def vJobSubmit (q : QCmd) (s : State) : VRes :=
  let op := q.byte 9
  let m0 := q.num 10 2
  let m1 := q.num 12 2
  verbRun s.armed
    (q.fault [(8, 6), (16, 8)]
      [(8, (q.jobOf s).isNone), (9, op == 0 || 3 < op), (10, 16384 ≤ m0), (12, 16384 ≤ m1),
       (16, op == 3 && (q.num 16 8 == 0 ||
         (q.jobOf s).any (fun j => (j.length != 0 || j.repeats) && j.linesOf j.length != q.num 16 8)))]) (fun s =>
    match q.jobOf s with
    | none => (s, some (Reply.badArg 8))
    | some j =>
      let a0 := BitVec.ofNat 14 m0
      let a1 := BitVec.ofNat 14 m1
      let busy : VRes := (s, some (Reply.fail Res.busy 0x0402))
      if op = 1 then
        if s.jobs.opened.any (fun o => o.id != j.id && (o.chan0 &&& a0 != 0 || o.chan1 &&& a1 != 0)) then busy
        else (s.setJob { j with chan0 := j.chan0 ||| a0, chan1 := j.chan1 ||| a1 }, some {})
      else if op = 2 then
        let holds (f : Nat) (m : BitVec 14) : Bool := (List.range 14).any (fun c =>
          m.getLsbD c && j.bound f c && ((s.ch f c).descs.any (fun d => d.op == 1 && d.job == j.id)))
        if holds 0 a0 || holds 1 a1 then busy
        else (s.setJob { j with chan0 := j.chan0 &&& ~~~a0, chan1 := j.chan1 &&& ~~~a1 }, some {})
      else ((s.setJob { j with endLine := some (q.num 16 8) }).starvation, some {})) s

/-- A job is queued at a lift boundary (R74, R75). -/
def State.queueJob (j : Job) (boundary : Nat) (s : State) : State := (s.enqueue j boundary).fixStarts.updateCeil

/-- The DATA of JOB.START (R508). -/
def startReply (boundary : Nat) (late : Bool) : Reply := { data := leBytes 8 boundary, late := late }

/-- JOB.START (R74, R75, R358). A named course lies more than 4,096 lifts ahead when the lift boundary it is rounded up to does
(log entry 101). -/
def vJobStart (q : QCmd) (s : State) : VRes :=
  let named := q.byte 9
  let c := q.num 16 8
  let b := 256 * ceilDiv c 256
  verbRun s.armed
    (q.fault [(8, 2), (16, 8)]
      [(8, !((q.jobOf s).any (·.state == 0))), (9, 1 < named),
       (16, if named = 0 then c != 0 else s.presentLift + 4096 < b / 256)]) (fun s =>
    match q.jobOf s with
    | none => (s, some (Reply.badArg 8))
    | some j =>
      let e := 256 * s.earliestLift
      let still := s.ident.opState == .ready && s.webAtRest && s.nextRelease < c
      if s.butt.gang ∧ 50 < s.butt.offset.natAbs then (s, some (Reply.fail Res.mismatch 3))
      else if named = 0 then (s.queueJob j e, some (startReply e false))
      else if q.remote ∨ e ≤ b ∨ still then (s.queueJob j b, some (startReply b false))
      else if q.atOnce then (s.queueJob j e, some (startReply e true))
      else (s, some (Reply.fail Res.late 0x0403))) s

/-- JOB.PAUSE (R76). -/
def vJobPause (q : QCmd) (s : State) : VRes :=
  verbRun (s.ident.opState == .printing) (q.fault [] []) (fun s =>
    ((s.modJobs (fun x => { x with paused := true })).trigger 1 none 0, some {})) s

/-- JOB.CONTINUE (R76). -/
def vJobContinue (q : QCmd) (s : State) : VRes :=
  verbRun (s.ident.opState == .holding) (q.fault [] []) (fun s => (s.modJobs (fun x => { x with paused := false }), some {})) s

/-- A hold left without a started job ends in READY once the stop is complete (R76, R80). -/
def State.holdWithoutJob (s : State) : State :=
  if s.ident.opState ≠ .holding ∨ !s.started.isEmpty then s
  else if s.webAtRest then s.atRest
  else
    let s : State := { s with lintel := { s.lintel with vCmd := {} } }
    s.modHold (fun h => if h.phase = .stopping then h else { h with phase := .stopping })

/-- A job ends by JOB.ABORT (R76): a queued job at once, in HOLDING a printing job at the course the hold ended at, else at the next
lift boundary; a second ABORT of it changes nothing more. -/
def State.abortJob (j : Job) (s : State) : State :=
  let out (s : State) : State := s.modJobs (fun x => { x with order := x.order.filter (· != j.id) })
  if j.state = 1 then
    ((((out s).setJob { j with state := 4, start := none, boundary := none }).refixStarts).holdWithoutJob).updateCeil
  else if s.ident.opState = .holding then
    ((((out s).setJob { j with state := 4, cut := some s.lintel.next }).refixStarts).holdWithoutJob).updateCeil
  else ((s.setJob { j with endLift := some (j.endLift.getD (ceilDiv s.lintel.next 256)) }).refixStarts).starvation

/-- JOB.ABORT (R76). -/
def vJobAbort (q : QCmd) (s : State) : VRes :=
  verbRun s.armed
    (q.fault [(8, 1)] [(8, !((q.jobOf s).any (fun j => j.state == 1 || j.state == 2)))]) (fun s =>
    match q.jobOf s with
    | none => (s, some (Reply.badArg 8))
    | some j => (s.abortJob j, some {})) s

/-- JOB.CLOSE (R76). -/
def vJobClose (q : QCmd) (s : State) : VRes :=
  verbRun s.live (q.fault [(8, 1)] [(8, (q.jobOf s).isNone)]) (fun s =>
    match q.jobOf s with
    | none => (s, some (Reply.badArg 8))
    | some j =>
      if j.state = 1 ∨ j.state = 2 then (s, some (Reply.fail Res.badState s.ident.opState.code))
      else
        ((s.modJobs (fun x => { x with
          opened := x.opened.filter (·.id != j.id), lines := x.lines.filter (·.job != j.id)
          strips := x.strips.filter (·.job != j.id), order := x.order.filter (· != j.id) })).updateCeil, some {})) s

/-- The last course of a job as JOB.STATUS gives it, K_max beyond its last firing course; a job aborted in HOLDING has none beyond the
resume course (R74, R76, R288, R508). -/
def State.endCourse (s : State) (j : Job) : Option Nat :=
  match j.cut with
  | some c => some (c - 1)
  | none => s.jobEnd j

/-- The DATA of JOB.STATUS (R508). -/
def State.jobReport (s : State) (j : Job) : List Nat :=
  let v := s.jobSpeed j
  [j.id, j.state, 0, v.2.1] ++ leBytes 4 v.1 ++ leBytes 8 (onesOr (s.firstCourse j)) ++ leBytes 8 (onesOr j.lastReleased) ++
    leBytes 8 (s.admitted j 0) ++ leBytes 8 (s.admitted j 1) ++ leBytes 8 (onesOr (s.endCourse j))

/-- JOB.STATUS (R508). -/
def vJobStatus (q : QCmd) (s : State) : VRes :=
  verbRun s.live (q.fault [(8, 1)] [(8, (q.jobOf s).isNone)]) (fun s =>
    match q.jobOf s with
    | none => (s, some (Reply.badArg 8))
    | some j => (s, some (Reply.ok (s.jobReport j)))) s

/-! ## EVT (R77 to R79, R258, R376, R509) -/

/-- Changes the scheduled actions. -/
def State.modActs (f : Acts → Acts) (s : State) : State := { s with acts := f s.acts }

/-- An action code that R77 lists. -/
def actionOk (code : Nat) : Bool := 1 ≤ code && code ≤ 7

/-- An action argument that R77 refuses: an output other than 0, or output 0 while it is the ROLE output. DESIGN CHOICE (log entry 131):
bits of the argument that R77 does not name are accepted and ignored. -/
def State.outputBad (s : State) (code arg : Nat) : Bool :=
  let out := if code = 4 then arg % 256 else arg
  (code == 2 || code == 3 || code == 4) && (out != 0 || s.roleOut)

/-- An accepted action gets its id (R77). -/
def State.schedule (a : Act) (s : State) : State :=
  s.modActs (fun x => { x with pend := x.pend ++ [{ a with id := x.nextId }]
                               nextId := if x.nextId = 2 ^ 32 - 1 then 1 else x.nextId + 1 })

/-- An action is accepted, refused because it is late, or runs late under AT_ONCE: at once outside PRINTING and HOLDING,
else at the next lift boundary (R77, R78). With 1,024 pending the answer is NO_SPACE before it is LATE (log entry 102). -/
def State.acceptAct (a : Act) (passed atOnce : Bool) (verb : Nat) (s : State) : VRes :=
  if 1024 ≤ s.acts.pend.length then (s, some (Reply.fail Res.noSpace verb))
  else if passed ∧ !atOnce then (s, some (Reply.fail Res.late verb))
  else
    let id := s.acts.nextId
    let reply : Reply := { data := leBytes 4 id, late := passed }
    let s := s.schedule { a with late := passed }
    if passed ∧ !s.printHold then (s.runAction true { a with id := id, late := true }, some reply)
    else (s.anticipate, some reply)

/-- Whether a course action's moment has passed: Z at or below HWM (R258). -/
def State.coursePassed (s : State) (c frac : Nat) : Bool := s.xAt c + (frac * s.pc / 256 : Nat) ≤ fix32 s.posEnc.hwm

/-- EVT.AT_COURSE (R77, R78, R258). -/
def vAtCourse (q : QCmd) (s : State) : VRes :=
  let code := q.byte 17
  let arg := q.num 20 4
  verbRun s.armed
    (q.fault [(8, 10), (20, 4)] [(17, !(actionOk code)), (20, s.outputBad code arg)]) (fun s =>
    s.acceptAct { byTime := false, code := code, arg := arg, moment := q.num 8 8, frac := q.byte 16 }
      (s.coursePassed (q.num 8 8) (q.byte 16)) q.atOnce 0x0501) s

/-- EVT.AT_TIME (R77, R78, R376). -/
def vAtTime (q : QCmd) (s : State) : VRes :=
  let t := q.num 8 8
  let code := q.byte 17
  let arg := q.num 20 4
  verbRun s.armed
    (q.fault [(8, 8), (17, 1), (20, 4)] [(8, bitAt t 0), (17, !(actionOk code)), (20, s.outputBad code arg)]) (fun s =>
    s.acceptAct { byTime := true, code := code, arg := arg, moment := t, frac := 0 } (t < s.now + 10000) q.atOnce 0x0502) s

/-- EVT.CANCEL (R79, R509). -/
def vEvtCancel (q : QCmd) (s : State) : VRes :=
  let id := q.num 8 4
  let pending := s.acts.pend.any (·.id == id)
  let ran := assoc id s.acts.done
  verbRun s.live (q.fault [(8, 4)] [(8, !pending && ran.isNone)]) (fun s =>
    if pending then
      let t := s.modActs (fun x => { x with pend := x.pend.filter (·.id != id) })
      ((s.acts.pend.filter (·.id == id)).foldl (fun (t : State) a => t.unqueue a) t, some {})
    else (s, some { result := Res.late, detail := 0x0503, data := leBytes 8 (ran.getD 0) })) s

/-- A record of EVT.LIST (R509). -/
def Act.bytes (a : Act) : List Nat :=
  leBytes 4 a.id ++ [a.code, bit a.byTime] ++ leBytes 6 0 ++ leBytes 4 a.arg ++ leBytes 8 a.moment ++ leBytes 8 a.frac

/-- EVT.LIST (R509). -/
def vEvtList (q : QCmd) (s : State) : VRes :=
  let n := q.num 8 4
  let addr := q.num 16 8
  verbRun s.live (q.fault [(8, 4), (16, 8)] [(8, n == 0 || 1024 < n), (16, addr % 64 != 0)]) (fun s =>
    if q.fetchFail then s.fetchFault 15
    else
      let l := (s.acts.pend.foldr insertAct []).take n
      (s.copyOut addr (l.flatMap Act.bytes), some (Reply.ok (leBytes 4 l.length ++ leBytes 4 s.acts.pend.length)))) s

end Sys2Proof.Machine
end

