-- ==== Sys2Proof/Machine/VerbsNoz.lean ====
section
/-! DEFINITION. The DENS, NOZ and LANE verbs (R151 to R157, R195 to R205). -/

namespace Sys2Proof.Machine

open Sys2Proof

/-! ## DENS.UPDATE (R152 to R155) -/

/-- The row (head × 4 + row) and bar index of every nozzle of the installed heads of a bar that serves a column in a row of the mask
(R153). -/
def State.colNozzles (s : State) (bar rows col : Nat) : List (Nat × Nat) :=
  ((coverHeads col).filter (fun k => s.installed (60 * bar + k))).flatMap (fun k =>
    ((List.range 4).filter (bitAt rows)).map (fun r => (k * 4 + r, nozIdx k r (col - 2016 * k))))

/-- The columns of entry `e`, clipped at the last column (R152). -/
def entryCols (first exp e : Nat) : List Nat :=
  (List.range (2 ^ exp)).filterMap (fun i => let c := first + e * 2 ^ exp + i; if c ≤ 120991 then some c else none)

/-- The head rows that an entry affects. -/
def State.entryHeadRows (s : State) (bar rows first exp e : Nat) : List Nat :=
  let lo := first + e * 2 ^ exp
  let hi := min 120991 (lo + 2 ^ exp - 1)
  ((List.range 60).filter (fun k => s.installed (60 * bar + k) && lo ≤ 2016 * k + 2047 && 2016 * k ≤ hi)).flatMap (fun k =>
    ((List.range 4).filter (bitAt rows)).map (fun r => k * 4 + r))

/-- The progress of an update: target codes of the bar, rows and nozzles changed, nozzles held at a limit, records due. -/
structure DensAcc where
  codes : SMap
  rows  : List Nat := []
  chg   : List (Nat × Nat) := []
  lim   : Nat := 0
  noted : List Nat := []
  deriving DecidableEq, Repr

/-- One nozzle takes the step of an applied entry (R153). -/
def DensAcc.nozzle (gain maxStep : Nat) (e : Int) (p : Nat × Nat) (a : DensAcc) : DensAcc :=
  let t := a.codes.get p.2
  let r := densTarget gain e t maxStep
  let a : DensAcc := if r.1 = t then a else
    { a with codes := a.codes.set p.2 r.1, chg := a.chg ++ [(p.2, r.1)]
             rows := if a.rows.contains p.1 then a.rows else a.rows ++ [p.1] }
  if r.2 then { a with lim := a.lim + 1, noted := a.noted ++ [p.2] } else a

/-- The record of a nozzle held at code 0 or 255, once per nozzle and job (R153). -/
def State.limitRecord (bar : Nat) (s : State) (n : Nat) : State :=
  let i := bar * barNozzles + n
  if s.tone.noted.contains i then s
  else
    let h := n / 2048
    ((s.modTone (fun t => { t with noted := i :: t.noted })).emit (srcKeystone (headWythe (60 * bar + h / 4))) 0x0601 0
      [60 * bar + h / 4, h % 4, n % 2048]).raise 0 27

/-- The next lift whose screening steps the active codes (R148, R155); a standby, which steps with the epochs, counts as its ACTIVE does. -/
def State.firstStepLift (s : State) : Nat :=
  if s.butt.role = .standby then s.presentLift + 2 else max (s.presentLift + 1) ((s.tone.highest.map (· + 1)).getD 0)

/-- The target codes of a bar with the changes that wait for their epoch (R332, R334). -/
def State.targetsOf (s : State) (bar : Nat) : SMap :=
  let t := s.tone.target.getD bar ⟨128, []⟩
  if s.butt.role = .standby then (byBar (s.butt.densChg.map Prod.snd) bar).1.foldl (fun (m : SMap) (p : Nat × Nat) => m.set p.1 p.2) t else t

/-- The new targets of a bar take effect as targets, with their copies, their row records and, in a pair, a note for the next epoch; they
outlast a pending commit that ends. On a standby they wait for the epoch that brings them (R146, R147, R153, R154, R332 to R334; log entry
143). -/
def State.applyDens (bar : Nat) (a : DensAcc) (s : State) : State :=
  let s := if s.butt.role = .standby then s
    else s.modTone (fun t => { t.retarget bar a.chg a.rows with kept := t.kept.map (ToneKept.retarget bar a.chg) })
  let s : State := if s.butt.role = .active ∨ s.butt.role = .standby then
    { s with butt := { s.butt with
        densChg := s.butt.densChg ++ a.chg.map (fun p => (s.firstStepLift, bar * barNozzles + p.1, p.2)) } } else s
  a.noted.foldl (State.limitRecord bar) s

/-- What DENS.UPDATE does with its entries (R153 to R155). -/
def State.densUpdate (bar rows exp first lift : Nat) (atOnce : Bool) (es : List Int) (s : State) : VRes :=
  let sec := s.sec SecId.density
  let meas := es.zipIdx.filter (fun p => p.1 != -32768)
  let stale (p : Int × Nat) : Bool :=
    (s.entryHeadRows bar rows first exp p.2).any (fun r => lift < s.tone.settle.get (240 * bar + r))
  let old := meas.filter stale
  let judged := if atOnce then meas else meas.filter (fun p => !(stale p))
  let skip (p : Int × Nat) : Bool := p.1.natAbs < densDeadband sec bar
  let report (applied skipped staleN changed limit : Nat) : List Nat :=
    leBytes 4 applied ++ leBytes 4 skipped ++ leBytes 4 staleN ++ leBytes 4 changed ++ leBytes 4 limit ++ leBytes 8 s.firstStepLift
  if !atOnce ∧ !meas.isEmpty ∧ judged.isEmpty then
    (s, some { Reply.fail Res.late 0x0601 with data := report 0 0 old.length 0 0 })
  else
    let app := judged.filter (fun p => !(skip p))
    let acc : DensAcc := app.foldl (fun (a : DensAcc) p =>
      ((entryCols first exp p.2).flatMap (s.colNozzles bar rows)).foldl
        (fun (a : DensAcc) n => a.nozzle (densGain sec bar) (densMaxStep sec bar) p.1 n) a)
      { codes := s.targetsOf bar }
    let staleN := if atOnce then 0 else old.length
    (s.applyDens bar acc, some { data := report app.length (judged.length - app.length) staleN acc.chg.length acc.lim, warn := decide (0 < staleN), detail := if 0 < staleN then 0x0601 else 0
                                 late := atOnce && !old.isEmpty })

/-- The signed 16-bit entries in a list of bytes. -/
def entries16 (bytes : List Nat) : Nat → List Int
  | 0 => []
  | n + 1 => signed 16 (leVal (bytes.take 2)) :: entries16 (bytes.drop 2) n

/-- The bytes of a list of entries that the two wythes fetch: the entries of the columns of their own heads, which reach 16 columns beyond
the seam, where the copies of the other wythe's nozzles lie too (R17, R19, R147). -/
def densShares (first exp n : Nat) : Nat × Nat :=
  let l := List.range n
  (2 * (l.filter (fun e => first + e * 2 ^ exp ≤ 60511)).length,
   2 * (l.filter (fun e => 60480 < first + (e + 1) * 2 ^ exp)).length)

/-- The bytes of the entries of a command: those that came with a forwarded one, else `k` of its own from byte `o` on, or `n` of the
host's memory (R152, R196, R332). -/
def State.entryBytesOf (s : State) (q : QCmd) (o k addr n : Nat) : List Nat :=
  if q.remote then q.carried else if addr = 0 then (List.range k).map (fun i => q.byte (o + i)) else s.store.host.read addr n

/-- DENS.UPDATE (R152). -/
def vDensUpdate (q : QCmd) (s : State) : VRes :=
  let bar := q.byte 8
  let rows := q.byte 9 % 16
  let exp := q.byte 9 / 16
  let n := q.num 10 4
  let first := q.num 16 4
  let addr := q.num 32 8
  verbRun s.armed
    (q.fault [(8, 6), (16, 4), (24, 32)]
      [(8, 7 < bar), (9, rows == 0 || 12 < exp), (10, n == 0 || 120992 < n || (addr == 0 && 8 < n)),
       (16, 120991 < first || (n != 0 && 120991 < first + (n - 1) * 2 ^ exp)), (32, addr % 64 != 0)]) (fun s =>
    if addr ≠ 0 ∧ q.fetchFail then s.bulkFault (densShares first exp n)
    else
      let bytes := s.entryBytesOf q 40 16 addr (2 * n)
      let m := densShares first exp n
      let s := if addr = 0 ∨ q.remote then s else s.ownFetch m.1 m.2
      s.densUpdate bar rows exp first (q.num 24 8) q.atOnce (entries16 bytes n)) s

/-! ## DENS.READ and DENS.FREEZE (R156, R157) -/

/-- The first `n` values of a table. -/
def SMap.list (m : SMap) (n : Nat) : List Nat := (List.range n).map m.get

/-- The row records of a bar (R154, R156). -/
def State.rowRecords (s : State) (bar : Nat) : List Nat :=
  (List.range 240).flatMap (fun r =>
    leBytes 8 (s.tone.settle.get (240 * bar + r)) ++ leBytes 4 (s.tone.updates.get (240 * bar + r)) ++ leBytes 4 0)

/-- DENS.READ (R156). -/
def vDensRead (q : QCmd) (s : State) : VRes :=
  let bar := q.byte 8
  let kind := q.byte 9
  let addr := q.num 16 8
  verbRun s.live (q.fault [(8, 2), (16, 8)] [(8, 11 < bar), (9, 2 < kind), (16, addr % 64 != 0)]) (fun s =>
    if q.fetchFail then s.fetchFault 15
    else
      let bytes := match kind with
        | 0 => (s.tone.active.getD bar ⟨128, []⟩).list barNozzles
        | 1 => (s.tone.target.getD bar ⟨128, []⟩).list barNozzles
        | _ => s.rowRecords bar
      (s.copyOut addr bytes, some {})) s

/-- DENS.FREEZE (R157). -/
def vDensFreeze (q : QCmd) (s : State) : VRes :=
  let mask := q.num 8 2
  let change := q.num 10 2
  verbRun s.armed (q.fault [(8, 4)] [(8, 4096 ≤ mask), (10, 4096 ≤ change)]) (fun s =>
    let m := BitVec.ofNat 12 mask
    let c := BitVec.ofNat 12 change
    let was := if s.butt.role = .standby then (s.butt.freezeChg.map Prod.snd).getD s.tone.freeze else s.tone.freeze
    let new := (was &&& ~~~c) ||| (m &&& c)
    let s : State := if s.butt.role = .standby then { s with butt := { s.butt with freezeChg := some (s.firstStepLift, new) } }
      else s.modTone (fun t => { t with freeze := new })
    (s, some (Reply.ok (leBytes 2 was.toNat)))) s

/-! ## NOZ.MAP and NOZ.READ (R196 to R200) -/

/-- The 32-bit entries in a list of bytes. -/
def entries32 (bytes : List Nat) : Nat → List Nat
  | 0 => []
  | n + 1 => leVal (bytes.take 4) :: entries32 (bytes.drop 4) n

/-- Whether an entry of NOZ.MAP is valid (R196). -/
def State.nozEntryOk (s : State) (w : Nat) : Bool :=
  field w 13 10 < 720 && s.installed (field w 13 10) && field w 25 7 == 0

/-- The nozzle and the state of an entry (R196). -/
def nozEntry (w : Nat) : Nat × Nat :=
  let g := field w 13 10
  (g / 60 * barNozzles + nozIdx (g % 60) (field w 11 2) (field w 0 11), field w 23 2)

/-- The number of entries that change a state, judged in order (R196). -/
def countChanges : List SMap → List (Nat × Nat) → Nat
  | _, [] => 0
  | l, e :: es =>
    (if (l.getD (e.1 / barNoz) ⟨0, []⟩).get (e.1 % barNoz) = e.2 then 0 else 1) + countChanges (putStates l [e]) es

/-- NOZ.MAP with its entries at a lift (R196, R197). -/
def State.mapNozzles (l : Nat) (late : Bool) (es : List (Nat × Nat)) (s : State) : VRes :=
  let n := countChanges (s.statesFor l) es
  let r : Reply := { data := leBytes 8 l ++ leBytes 4 n ++ leBytes 4 (es.length - n), late := late }
  let c : NozChg := { lift := l, entries := es }
  if s.printHold ∨ s.pointingFirst.any (· ≤ l) then ({ s with point := { s.point with pend := s.point.pend ++ [c] } }, some r)
  else (({ s with point := { s.point with past := [] } }).applyNoz c, some r)

/-- NOZ.MAP (R196, R197). -/
def vNozMap (q : QCmd) (s : State) : VRes :=
  let l := q.num 8 8
  let n := q.num 16 4
  let addr := q.num 24 8
  let any := l == 2 ^ 64 - 1
  verbRun s.armed
    (q.fault [(8, 12), (24, 32)]
      [(8, s.printHold && !any && s.presentLift + 4096 < l), (16, n == 0 || 65536 < n || (addr == 0 && 6 < n)),
       (24, addr % 64 != 0)]) (fun s =>
    if addr ≠ 0 ∧ q.fetchFail then s.bulkFault (4 * n, 4 * n)
    else
      let bytes := s.entryBytesOf q 32 24 addr (4 * n)
      let s := if addr = 0 ∨ q.remote then s else s.ownFetch (4 * n) (4 * n)
      let ws := entries32 bytes n
      match ws.findIdx? (fun w => !(s.nozEntryOk w)) with
      | some i => (s, some { result := Res.badArg, detail := if addr = 0 then 32 + 4 * i else 24, data := leBytes 4 i })
      | none =>
        let es := ws.map nozEntry
        if !s.printHold then s.mapNozzles s.presentLift false es
        else if 64 ≤ s.point.pend.length then (s, some (Reply.fail Res.noSpace 0x0701))
        else if any then s.mapNozzles s.earliestLift false es
        else if q.remote ∨ s.liftOpen l then s.mapNozzles l false es
        else if q.atOnce then s.mapNozzles s.earliestLift true es
        else (s, some (Reply.fail Res.late 0x0701))) s

/-- The states of a bar, four to a byte (R185, R200). -/
def stateBytes (m : SMap) : List Nat :=
  (List.range 122880).map (fun i => m.get (4 * i) + 4 * m.get (4 * i + 1) + 16 * m.get (4 * i + 2) + 64 * m.get (4 * i + 3))

/-- The states of a bar as they are copied, those of the firing lift in progress or those in force: every nozzle of a head that is not installed is DISABLED (R183, R184, R200). -/
def State.barStates (s : State) (bar : Nat) : List Nat :=
  let l := stateBytes ((if s.printHold then s.statesFor s.presentLift else s.point.states).getD bar ⟨0, []⟩)
  (List.range 60).flatMap (fun k => if s.installed (60 * bar + k) then (l.drop (2048 * k)).take 2048 else List.replicate 2048 255)

/-- The head records of a bar (R200). -/
def State.headRecords (s : State) (bar : Nat) : List Nat :=
  (List.range 60).flatMap (fun k =>
    let g := 60 * bar + k
    leBytes 8 (s.point.sameCol.get g) ++ leBytes 8 (s.point.otherHead.get g) ++ leBytes 8 (s.point.neighbour.get g) ++
      leBytes 8 (s.point.lost.get g))

/-- NOZ.READ (R200). -/
def vNozRead (q : QCmd) (s : State) : VRes :=
  let bar := q.byte 8
  let kind := q.byte 9
  let addr := q.num 16 8
  verbRun s.live (q.fault [(8, 2), (16, 8)] [(8, 11 < bar), (9, 1 < kind), (16, addr % 64 != 0)]) (fun s =>
    if q.fetchFail then s.fetchFault 15
    else (s.copyOut addr (if kind = 0 then s.barStates bar else s.headRecords bar), some {})) s

/-! ## LANE.BOND (R202 to R205) -/

/-- A node record of 128 bytes (R204). -/
def NodeRec.bytes (n : NodeRec) : List Nat :=
  let lanes : Nat := ((List.range 4).map (fun k => (n.lanes.getD k 0x7F) * 2 ^ (7 * k))).sum
  leBytes 16 (n.id + n.laneCount * 2 ^ 32 + lanes * 2 ^ 40 + n.heads.length * 2 ^ 96) ++
    ((n.heads.flatMap (leBytes 2)) ++ List.replicate 112 0).take 112

/-- The 80 node records (R202, R204). -/
def State.nodeRecords (s : State) : List Nat :=
  (s.point.nodes.flatMap NodeRec.bytes ++ List.replicate 10240 0).take 10240

/-- The 720 bond records (R202, R205). -/
def State.bondRecords (s : State) : List Nat :=
  (List.range 720).flatMap (fun g =>
    match s.point.bonds.find? (·.head == g) with
    | none => leBytes 4 0
    | some b => leBytes 4 (b.lane + 2 ^ 7 + b.slot * 2 ^ 8 + b.node * 2 ^ 16))

/-- LANE.BOND (R202, R203). -/
def vLaneBond (q : QCmd) (s : State) : VRes :=
  let op := q.byte 8
  let addr := q.num 16 8
  verbRun (if op = 0 then s.ident.opState == .rest || s.ident.opState == .ready else s.live)
    (q.fault [(8, 1), (16, 8)] [(8, 2 < op), (16, addr % 64 != 0)]) (fun s =>
    if op = 0 then
      let r := s.discover true
      (r.1, some (if s.ident.opState = .ready ∧ r.2.isSome then Reply.fail Res.checkFail 0x0005 else {}))
    else if q.fetchFail then s.fetchFault 15
    else (s.copyOut addr (if op = 1 then s.bondRecords else s.nodeRecords), some {})) s

end Sys2Proof.Machine
end

