-- ==== Sys2Proof/Machine/VerbsPair.lean ====
section
/-! DEFINITION. The PAIR and GANG verbs (R344 to R353). -/

namespace Sys2Proof.Machine

open Sys2Proof

/-- Refused in the present pair role (R54). -/
def State.wrongRole (s : State) : Reply := Reply.fail Res.badState s.ident.opState.code

/-- REST or READY, where families 0x09 and 0x0A are mostly accepted (R348). -/
def State.restReady (s : State) : Bool := s.ident.opState == .rest || s.ident.opState == .ready

/-- PAIR.SWAP (R345, R346). -/
def vPairSwap (ch : Nat) (q : QCmd) (s : State) : VRes :=
  let mode := q.byte 8
  let ok := match mode with
    | 0 => s.restReady
    | 1 => s.armed
    | 2 => s.ident.opState == .printing
    | _ => s.live
  verbRun ok (q.fault [(8, 1)] [(8, 2 < mode)]) (fun s =>
    if s.butt.role ≠ .active then (s, some s.wrongRole)
    else if s.butt.swapPend.isSome ∨ s.butt.swapOff.isSome ∨ s.butt.swapAt.isSome then (s, some (Reply.fail Res.busy 0x0901))
    else if !s.partnerReady then (s, some (Reply.fail Res.notHolder (if s.pairUp then s.butt.partnerRole.code else 0)))
    else
      let s := s.modButt (fun b => { b with swapPend := some (mode, ch, q.slot) })
      let s := if mode = 2 then s.trigger 6 none 0 else s
      (s.swapWhenReady, none)) s

/-- A module joins an ACTIVE partner as its standby, which the ACTIVE then resynchronises (R344, R348). -/
def State.joinActive (s : State) : State :=
  (s.setRole .standby).modButt Butt.freshMirror

/-- What PAIR.JOIN answers where formation does not come about although the comparison holds (log entry 45). -/
def State.joinRefusal (s : State) : Nat := if s.butt.partnerState == .rest || s.butt.partnerState == .ready then 5 else 4

/-- PAIR.JOIN (R330, R344, R348). -/
def vPairJoin (q : QCmd) (s : State) : VRes :=
  verbRun s.restReady (q.fault [] []) (fun s =>
    let p := s.butt.partnerInfo
    if s.butt.role ≠ .isolated then (s, some s.wrongRole)
    else if !s.pairUp then (s, some (Reply.fail Res.mismatch 6))
    else if s.butt.partnerRole = .active then
      match s.pairMismatch p.digest p.fw p.offset with
      | some d => (s.buttRecord 0x1501 0 [s.butt.role.code, s.butt.role.code, d], some (Reply.fail Res.mismatch d))
      | none => (s.joinActive, some {})
    else
      let r := s.formPair p.digest p.fw p.offset p.prefer
      match r.2 with
      | some d => (r.1, some (Reply.fail Res.mismatch d))
      | none => if r.1.butt.role = .isolated then (r.1, some (Reply.fail Res.mismatch s.joinRefusal)) else (r.1, some {})) s

/-- PAIR.LEAVE (R344, R348). -/
def vPairLeave (q : QCmd) (s : State) : VRes :=
  verbRun s.restReady (q.fault [] []) (fun s =>
    match s.butt.role with
    | .none => (s, some s.wrongRole)
    | .active => ((s.releaseAll).setRole .isolated, some {})
    | _ => (s.takeChanges.setRole .isolated, some {})) s

/-- The first installed head whose node neither is free nor belongs to this module (R348). -/
def State.foreignHead (s : State) : Option Nat :=
  ((List.range 720).filter s.installed).find? (fun g =>
    match (s.point.bonds.find? (·.head == g)).bind (fun b => s.point.nodes[b.node]?) with
    | none => false
    | some n => !((s.lease n.id).held || (s.lease n.id).free))

/-- Every started job ends as by JOB.ABORT (R348, R76). -/
def State.abortStarted (s : State) : State := s.started.foldl (fun s j => s.abortJob j) s

/-- PAIR.TAKE (R344, R348). -/
def vPairTake (q : QCmd) (s : State) : VRes :=
  verbRun (s.restReady || s.ident.opState == .holding) (q.fault [] []) (fun s =>
    if s.butt.role ≠ .isolated ∧ s.butt.role ≠ .standby then (s, some s.wrongRole)
    else match s.foreignHead with
      | some g => (s, some (Reply.fail Res.notHolder g))
      | none =>
        let s := (s.takeChanges.setRole .active).acquireAll
        (if s.ident.opState = .holding then s.abortStarted else s, some {})) s

/-- PAIR.INFO; the bytes of its DATA are a free value (R348, log entry 30). -/
def vPairInfo (q : QCmd) (s : State) : VRes :=
  verbRun s.live (q.fault [] []) (fun s =>
    let b := s.butt
    (s, some (Reply.ok (packed 0x0905 [b.partnerRole.code, b.partnerState.code, (b.partnerInfo.digest : Int), (b.partnerInfo.fw : Int),
      b.offset, bit b.mirrorOk, (onesOr b.epoch : Int)])))) s

/-! ## Gangs (R352, R353) -/

/-- What this module is in its gang, as GANG.FORM compares it (R353). -/
def State.gangInfo (s : State) : GInfo :=
  let g := s.sec SecId.gang
  { digest := s.gangDigest, fw := s.ident.fwVersion, offset := 0, opState := s.ident.opState.code, started := !s.started.isEmpty
    member := g.fld 0 0 2, members := g.fld 0 2 3, column := g.fld 4 0 24, linkUp := s.butt.west.up }

/-- The first mismatch of R353 among the other members; the links are judged first, since nothing can be compared across one
that is down. -/
def State.gangMismatch (s : State) : Option Nat :=
  let own := s.gangInfo
  let l := s.butt.info
  let all := own :: l
  if !s.butt.west.up ∨ l.any (fun x => !x.linkUp) then some 6
  else if l.any (fun x => x.digest != own.digest) then some 1
  else if l.any (fun x => x.fw != own.fw) then some 2
  else if l.any (fun x => 50 < x.offset.natAbs) then some 3
  else if !(all.all (fun x => x.opState == 3) || all.all (fun x => x.opState == 4 && !x.started)) then some 4
  else if l.map (·.member) ≠ (List.range (own.members - 1)).map (· + 1) ∨
      l.any (fun x => x.members != own.members || x.column != own.column + 120960 * x.member) then some 5
  else none

/-- The members' values as DATA carries them. -/
def gangData (verb : Nat) (l : List GInfo) : List Nat :=
  packed verb (l.flatMap (fun x => [(x.member : Int), (x.digest : Int), (x.fw : Int), x.offset, (x.opState : Int), (x.members : Int),
    (x.column : Int), (bit x.linkUp : Int)]))

/-- Member 0 of a committed gang (R348). -/
def State.memberZero (s : State) : Bool := s.hasSec SecId.gang && (s.sec SecId.gang).fld 0 0 2 == 0

/-- GANG.FORM (R353). -/
def vGangForm (q : QCmd) (s : State) : VRes :=
  verbRun s.restReady (q.fault [] []) (fun s =>
    let data := gangData 0x0A01 (s.gangInfo :: s.butt.info)
    if !s.memberZero then (s, some (Reply.fail Res.notHolder 4))
    else match s.gangMismatch with
      | some d => (s.buttRecord 0x1508 0 [d, 0], some { result := Res.mismatch, detail := d, data := data })
      | none =>
        let s := (s.modButt (fun b => { b with gang := true })).gangSay [9]
        ((s.buttRecord 0x1508 0 [0, 0]).updateCeil, some (Reply.ok data))) s

/-- GANG.DISSOLVE (R348). -/
def vGangDissolve (q : QCmd) (s : State) : VRes :=
  verbRun s.restReady (q.fault [] []) (fun s =>
    if !s.memberZero then (s, some (Reply.fail Res.notHolder 4))
    else (((s.gangSay [10]).modButt (fun b => { b with gang := false, ceils := [], settled := [], stops := [] })).updateCeil, some {})) s

/-- What GANG.INFO reports of a member: its number, whether it is present, its OP_STATE as its last datagram has it, its offset to member 0
and its ceiling; of this module its own (R348, R358 to R360). -/
def State.memberInfo (s : State) (k : Nat) : List Int :=
  let heard := assoc k s.butt.members
  let own := k == s.butt.member
  let op := if own then s.ident.opState.code else (heard.bind (fun m => m.2[1]?)).getD 0
  let off := if own then s.chainOffset else (assoc k s.butt.chain).getD 0
  let ceil := if own then (lowest s.ownTerms).1 else (assoc k s.butt.ceils).getD 0
  [(k : Int), (bit (own || heard.any (fun m => !(s.since m.1 20000000))) : Nat), (op : Nat), off, (ceil : Nat)]

/-- GANG.INFO; the bytes of its DATA are a free value (R348, R360, log entry 30). -/
def vGangInfo (q : QCmd) (s : State) : VRes :=
  verbRun s.live (q.fault [] []) (fun s =>
    (s, some (Reply.ok (packed 0x0A03 ((List.range ((s.sec SecId.gang).fld 0 2 3)).flatMap s.memberInfo))))) s

end Sys2Proof.Machine
end

