-- ==== Sys2Proof/Machine/VerbsMisc.lean ====
section
/-! DEFINITION. The TIME, LAMP, PANEL, COPING and PLINTH verbs (R372 to R375, R397, R398, R402, R403, R423, R444). -/

namespace Sys2Proof.Machine

open Sys2Proof

/-! ## TIME (R372 to R375) -/

/-- REST, READY and FAULT with nothing that a step would move: BUSY while an EVT.AT_TIME action or another step waits (R372, R54). -/
def State.stepBusy (s : State) : Option Reply :=
  if s.acts.pend.any (·.byTime) then some (Reply.fail Res.busy 0x0502)
  else match s.time.stepReq with
    | some (_, _, verb, _, _) => some (Reply.fail Res.busy verb)
    | none => none

/-- TIME.ACCEPT_STEP (R371, R373). -/
def vAcceptStep (ch : Nat) (q : QCmd) (s : State) : VRes :=
  verbRun s.idleState (q.fault [(8, 2)] []) (fun s =>
    match s.stepBusy with
    | some r => (s, some r)
    | none =>
      if !s.time.stepPending ∨ q.num 8 2 ≠ s.time.stepSeq.toNat then (s, some (Reply.fail Res.mismatch 0x0B01))
      else (s.askStep (-s.time.stepOffset, none, 0x0B01, ch, q.slot), none)) s

/-- TIME.SET (R371, R374). -/
def vTimeSet (ch : Nat) (q : QCmd) (s : State) : VRes :=
  let t := q.num 8 8
  verbRun s.idleState (q.fault [(8, 8)] [(8, bitAt t 0)]) (fun s =>
    match s.stepBusy with
    | some r => (s, some r)
    | none =>
      if tmPhaseSrc s.tsec ≠ 0 then (s, some (Reply.fail Res.mismatch 0x0B02))
      else (s.askStep (0, some t, 0x0B02, ch, q.slot), none)) s

/-- TIME.STATUS; the bytes of its DATA are a free value (R375, log entry 30). -/
def vTimeStatus (q : QCmd) (s : State) : VRes :=
  verbRun s.live (q.fault [] []) (fun s =>
    let t := s.time
    (s, some (Reply.ok (packed 0x0B03 ([(t.port0.state : Int), (t.port1.state : Int), (bit (tmP2p s.tsec) : Int), (t.gmId : Int)] ++
      s.dataSet.map Int.ofNat))))) s

/-- The waiting step takes effect at a multiple of 125,000 ns, and never in PRINTING or HOLDING, after which it still waits (R371, R373,
R374; log entry 145). The automatic first step sets TIME_VALID (R368). -/
def State.stepApply (s : State) : State :=
  match s.time.stepReq with
  | none => s
  | some (d, set, verb, ch, _) =>
    if s.now % 125000 ≠ 0 ∨ s.printHold then s
    else
      let d : Int := match set with
        | some t => (t : Int) - (s.clock.press : Int)
        | none => d
      let s := s.applyStep d verb
      if verb = 0x0B01 then
        ((s.modTime (fun t => { t with stepPending := false })).servoTo .acquiring 0).respond ch (Reply.ok (leBytes 8 (wrapInt 64 d)))
      else
        let s := s.modTime (fun t => { t with valid := true })
        if verb = 0x0B02 then s.respond ch {} else s

/-! ## LAMP and PANEL (R397, R398, R402, R403) -/

/-- LAMP.SET (R397). -/
def vLampSet (q : QCmd) (s : State) : VRes :=
  let mask := q.num 8 2
  let lv := q.num 10 2
  verbRun s.armed (q.fault [(8, 4)] [(8, mask == 0), (10, 4000 < lv)]) (fun s =>
    (s.modCorbel (fun x => { x with
      level := x.level.zipIdx.map (fun p => if bitAt mask p.2 then lv else p.1), lit := true }), some {})) s

/-- The 1,024 channel records of a chain (R398). -/
def State.channelRecords (s : State) (k : Nat) : List Nat :=
  let x := s.corbel
  (List.range 1024).flatMap (fun i =>
    let n := 1024 * k + i
    leBytes 8 (x.status.get n + 2 ^ 16 * x.onSent.get n + 2 ^ 28 * x.iSent.get n + 2 ^ 32 * x.age.get n))

/-- The 64 driver records of a chain (R398). -/
def State.driverRecords (s : State) (k : Nat) : List Nat :=
  let x := s.corbel
  (List.range 64).flatMap (fun i =>
    let d := 64 * k + i
    leBytes 8 (x.temp.get d + 2 ^ 8 * x.limit.get d + 2 ^ 12 * x.hot.get d + 2 ^ 13 * x.drvOt.get d + 2 ^ 16 * x.shareFails.get d +
      2 ^ 32 * x.diagFails.get d))

/-- LAMP.READ (R398). -/
def vLampRead (q : QCmd) (s : State) : VRes :=
  let k := q.byte 8
  let kind := q.byte 9
  let addr := q.num 16 8
  verbRun s.live (q.fault [(8, 2), (16, 8)] [(8, 3 < k), (9, 1 < kind), (16, addr % 64 != 0)]) (fun s =>
    if q.fetchFail then s.fetchFault 15
    else (s.copyOut addr (if kind = 0 then s.channelRecords k else s.driverRecords k), some {})) s

/-- A SHORT latch is cleared: a channel that it held off was sent ON 0, and is OFF unless it reports NO_DATA (R394, R397). -/
def State.clearShort (s : State) (n : Nat) : State :=
  let s := s.modCorbel (fun x => { x with short := x.short.set n 0, probe := x.probe.set n 0, probeBad := x.probeBad.set n 0 })
  if s.corbel.status.get n = 3 then s.setLampStatus n 0 else s

/-- The SHORT latches are cleared (R394, R397). -/
def State.clearShorts (s : State) : State := (s.corbel.short.cells.map Prod.fst).foldl State.clearShort s

/-- The matrix pin and row latches are cleared (R403). -/
def State.clearPins (s : State) : State := { s with panel := { s.panel with pinLatch := 0, failed := 0, rowLatched := 0 } }

/-- LAMP.CLEAR (R397, R403). -/
def vLampClear (q : QCmd) (s : State) : VRes :=
  verbRun s.live (q.fault [(8, 1)] [(8, 1 < q.byte 8)]) (fun s =>
    (if q.byte 8 = 0 then s.clearShorts else s.clearPins, some {})) s

/-- PANEL.SET (R402). -/
def vPanelSet (q : QCmd) (s : State) : VRes :=
  let n := q.byte 8
  let e (i : Nat) : Nat := q.num (10 + 2 * i) 2
  verbRun s.live
    (q.fault [(8, 1), (10, 46)]
      ((8, n == 0 || 23 < n) :: (List.range (min n 23)).map (fun i => (10 + 2 * i, field (e i) 14 2 == 3)))) (fun s =>
    ({ s with panel := { s.panel with codes := (List.range n).foldl (fun (m : SMap) i =>
        m.set (16 * field (e i) 0 4 + field (e i) 4 4) (field (e i) 8 8)) s.panel.codes } }, some {})) s

/-! ## COPING (R423) -/

/-- COPING.READ (R423, R424). -/
def vCopingRead (q : QCmd) (s : State) : VRes :=
  let addr := q.num 16 8
  verbRun s.live (q.fault [(16, 8)] [(16, addr % 64 != 0)]) (fun s =>
    if q.fetchFail then s.fetchFault 15 else (s.copyOut addr (s.coping.cal.flatMap Cal.bytes), some {})) s

/-- COPING.CAL (R421, R423). -/
def vCopingCal (q : QCmd) (s : State) : VRes :=
  let a := q.byte 8
  let b := q.byte 9
  verbRun s.live (q.fault [(8, 2)] [(8, b < a), (9, 107 < b)]) (fun s =>
    (((List.range (b + 1 - a)).foldl (fun (s : State) i => s.calQueue (a + i)) s).calStart, some {})) s

/-! ## PLINTH (R444) -/

/-- Log entries from a LOG_SEQ on; from the oldest where it is gone. -/
def State.logFrom (s : State) (first n : Nat) : List LogEntry :=
  let l := s.plinth.log
  match l with
  | [] => []
  | e :: _ =>
    let d := (first + 2 ^ 32 - e.seq) % 2 ^ 32
    (if 2 ^ 31 ≤ d then l else l.drop d).take n

/-- PLINTH.LOG_READ (R444). -/
def vLogRead (q : QCmd) (s : State) : VRes :=
  let first := q.num 8 4
  let n := q.num 12 4
  let addr := q.num 16 8
  verbRun s.live (q.fault [(8, 16)] [(12, n == 0 || 2048 < n), (16, addr % 64 != 0)]) (fun s =>
    if q.fetchFail then s.fetchFault 15
    else
      let l := s.logFrom first n
      (s.copyOut addr (l.flatMap LogEntry.bytes), some (Reply.ok (packed 0x0E01 [((l.head?.map (·.seq)).getD first : Nat), (l.length : Int)])))) s

/-- A refusal of the image session whose DETAIL no rule states (R54, R444): a free value. -/
def State.plinthFail (result : Nat) (s : State) : VRes :=
  let f := s.fresh
  (f.2, some (Reply.fail result (f.1 % 65536)))

/-- PLINTH.FW (R442, R444). -/
def vPlinthFw (q : QCmd) (s : State) : VRes :=
  let target := q.byte 8
  let addr := q.num 16 8
  let len := q.num 24 4
  verbRun s.idleState (q.fault [(8, 1), (16, 16)] [(8, 1 < target), (24, fwLimit target < len)]) (fun s =>
    if s.plinth.fw.isSome then s.plinthFail Res.busy
    else if q.fetchFail then s.fetchFault 14
    else
      let s := s.ownFetch len 0
      let s := s.fwOpen target len
      match s.plinth.fw with
      | none => (s, some {})
      | some x =>
        let s := (s.fwChunk x 0 (s.store.host.read addr len)).1
        if s.fwGood { x with endOff := len } (q.num 28 4) then (s.fwEnd true Res.ok, some {})
        else (s.fwEnd false Res.mismatch).plinthFail Res.mismatch) s

/-- PLINTH.FW_SELECT (R443, R444). -/
def vFwSelect (q : QCmd) (s : State) : VRes :=
  let t := q.byte 8
  let k := q.byte 9
  verbRun s.idleState (q.fault [(8, 2)] [(8, 1 < t), (9, 1 < k)]) (fun s =>
    if !(s.plinth.image t k).valid then s.plinthFail Res.checkFail
    else (s.fwSelect t k false, some {})) s

end Sys2Proof.Machine
end

