-- ==== Sys2Proof/Machine/Mailbox.lean ====
section
/-! DEFINITION. Doorbells, the commands by their verb codes, who may give them in a pair or gang, and the order in which the queued
commands of the channels run (R46 to R57, R332, R354). -/

namespace Sys2Proof.Machine

open Sys2Proof

/-! ## The verbs (R55, R56) -/

/-- The verb codes that some chapter lists. -/
def verbCodes : List Nat := verbTable

/-- What a verb of families 0x01 to 0x05 does. -/
def runLow (ch : Nat) (q : QCmd) (s : State) : VRes :=
  match q.verb with
  | 0x0101 => vSysInfo q s
  | 0x0102 => vSysPing q s
  | 0x0103 => vEventRing q s
  | 0x0104 => vReset q s
  | 0x0201 => vArm q s
  | 0x0202 => vDisarm q s
  | 0x0203 => vRest q s
  | 0x0204 => vClear q s
  | 0x0301 => vStage q s
  | 0x0302 => vCheck q s
  | 0x0303 => vCommit ch q s
  | 0x0304 => vCancel q s
  | 0x0305 => vDiscard q s
  | 0x0306 => vCfgRead q s
  | 0x0401 => vJobOpen q s
  | 0x0402 => vJobSubmit q s
  | 0x0403 => vJobStart q s
  | 0x0404 => vJobPause q s
  | 0x0405 => vJobContinue q s
  | 0x0406 => vJobAbort q s
  | 0x0407 => vJobClose q s
  | 0x0408 => vJobStatus q s
  | 0x0501 => vAtCourse q s
  | 0x0502 => vAtTime q s
  | 0x0503 => vEvtCancel q s
  | 0x0504 => vEvtList q s
  | _ => (s, some (Reply.fail Res.unsupported 0))

/-- What a verb of families 0x06 to 0x0E does. -/
def runHigh (ch : Nat) (q : QCmd) (s : State) : VRes :=
  match q.verb with
  | 0x0601 => vDensUpdate q s
  | 0x0602 => vDensRead q s
  | 0x0603 => vDensFreeze q s
  | 0x0701 => vNozMap q s
  | 0x0702 => vNozRead q s
  | 0x0801 => vLaneBond q s
  | 0x0901 => vPairSwap ch q s
  | 0x0902 => vPairJoin q s
  | 0x0903 => vPairLeave q s
  | 0x0904 => vPairTake q s
  | 0x0905 => vPairInfo q s
  | 0x0A01 => vGangForm q s
  | 0x0A02 => vGangDissolve q s
  | 0x0A03 => vGangInfo q s
  | 0x0B01 => vAcceptStep ch q s
  | 0x0B02 => vTimeSet ch q s
  | 0x0B03 => vTimeStatus q s
  | 0x0C01 => vLampSet q s
  | 0x0C02 => vLampRead q s
  | 0x0C03 => vLampClear q s
  | 0x0C04 => vPanelSet q s
  | 0x0D01 => vCopingRead q s
  | 0x0D02 => vCopingCal q s
  | 0x0E01 => vLogRead q s
  | 0x0E02 => vPlinthFw q s
  | 0x0E03 => vFwSelect q s
  | _ => (s, some (Reply.fail Res.unsupported 0))

/-- What a command does by its verb code. -/
def runVerb (ch : Nat) (q : QCmd) (s : State) : VRes := if q.verb < 0x0600 then runLow ch q s else runHigh ch q s

/-! ## Pairs and gangs (R332, R354) -/

/-- The commands that the ACTIVE alone accepts (R332, R393). -/
def activeOnly (q : QCmd) : Bool :=
  [0x0302, 0x0303, 0x0304, 0x0305, 0x0201, 0x0202, 0x0401, 0x0403, 0x0404, 0x0405, 0x0406, 0x0407, 0x0501, 0x0502, 0x0503,
   0x0601, 0x0603, 0x0701, 0x0C01, 0x0C03, 0x0C04].contains q.verb || (q.verb == 0x0801 && q.byte 8 == 0)

/-- STATE.ARM and STATE.DISARM on a standby in REST act on that module alone (R332). -/
def State.aloneInRest (s : State) (q : QCmd) : Bool :=
  s.butt.role == .standby && s.ident.opState == .rest && (q.verb == 0x0201 || q.verb == 0x0202)

/-- A command refused in the pair role, or at a gang member other than 0 (R332, R354). -/
def State.roleRefusal (s : State) (q : QCmd) : Option Reply :=
  if !(activeOnly q) ∨ s.aloneInRest q then none
  else if s.butt.role = .standby then some (Reply.fail Res.notHolder 2)
  else if s.butt.role = .isolated then some (Reply.fail Res.notHolder 3)
  else if s.butt.gang ∧ s.butt.member ≠ 0 ∧ q.verb < 0x0600 then some (Reply.fail Res.notHolder 4)
  else none

/-- A command that the ACTIVE forwards to its standby (R332). -/
def forwarded (q : QCmd) : Bool := q.verb == 0x0301 || (activeOnly q && q.verb / 256 != 5)

/-- A command that member 0 of a gang carries to every member (R354). -/
def carried (q : QCmd) : Bool := activeOnly q && q.verb / 256 ≤ 4

/-- The arguments of a command as it was accepted: a commit names its lift, JOB.START its boundary and NOZ.MAP its lift, whatever the lift
they asked for (R332, R354; log entry 143). -/
def State.accepted (q : QCmd) (rep : Reply) (s : State) : List Nat :=
  let a := (q.args ++ List.replicate 56 0).take 56
  if q.verb = 0x0303 then match s.cfg.pend with
    | some p => a.take 8 ++ leBytes 8 1 ++ leBytes 8 p.lift ++ a.drop 24
    | none => a
  else if q.verb = 0x0403 then a.take 1 ++ [1] ++ (a.take 8).drop 2 ++ rep.data.take 8 ++ a.drop 16
  else if q.verb = 0x0701 then rep.data.take 8 ++ a.drop 8
  else a

/-- The entries that a DENS.UPDATE or NOZ.MAP brought, inline or from the host's memory (R332). -/
def State.broughtData (q : QCmd) (s : State) : List Nat :=
  if q.verb = 0x0601 then s.entryBytesOf q 40 16 (q.num 32 8) (2 * q.num 10 4)
  else if q.verb = 0x0701 then s.entryBytesOf q 32 24 (q.num 24 8) (4 * q.num 16 4)
  else []

/-- The fields of a MSG unit that carries a command: its slot, header, arguments and data (R332). -/
def commandFields (ch slot verb tag : Nat) (atOnce : Bool) (args data : List Nat) : List Int :=
  [0, (ch : Int), (slot : Int), (verb : Int), (tag : Int), (bit atOnce : Int)] ++ (args ++ data).map Int.ofNat

/-- A forwarded command in a MSG unit, as it was accepted; CFG.STAGE as its data (R332). -/
def State.msgFields (ch : Nat) (q : QCmd) (rep : Reply) (s : State) : List Int :=
  if q.verb = 0x0301 then
    [3, (ch : Int), (q.slot : Int), (q.byte 8 : Int), (q.num 12 4 : Int)] ++
      ((s.shadow (q.byte 8)).mem.read (q.num 12 4) (q.num 56 4)).map Int.ofNat
  else commandFields ch q.slot q.verb q.tag q.atOnce (s.accepted q rep) (s.broughtData q)

/-- A command that has run goes to the standby, or to the gang, and is complete once it is acknowledged there; with the pair link
DOWN it completes with a warning (R332, R354). -/
def State.carry (ch : Nat) (q : QCmd) (r : VRes) : VRes :=
  let s := r.1
  let rep := r.2.getD {}
  if rep.result ≠ 0 then r
  else if s.butt.role = .active ∧ forwarded q then
    if s.pairUp then
      let f : Fwd := { ch := ch, slot := q.slot, at_ := s.clock.up, data := rep.data, warn := rep.warn, detail := rep.detail
                       late := rep.late, keep := r.2.isNone, verb := q.verb }
      ((s.buttSend (.butt s.pairSide 0x25 (s.msgFields ch q rep))).modButt (fun b => { b with fwd := b.fwd ++ [f] }), none)
    else
      let s := s.setMirror false 3
      match r.2 with
      | none => ({ s with cfg := { s.cfg with pend := s.cfg.pend.map (fun p => { p with noAck := true }) } }, none)
      | some rep => (s, some { rep with warn := true, detail := 0x0901 })
  else if s.butt.gang ∧ s.butt.member = 0 ∧ carried q then
    let n := (s.sec SecId.gang).fld 0 2 3
    let f : Fwd := { ch := ch, slot := q.slot, at_ := s.clock.up, data := rep.data, warn := rep.warn, detail := rep.detail
                     late := rep.late, keep := r.2.isNone, check := q.verb == 0x0302, verb := q.verb, need := (List.range (n - 1)).map (· + 1) }
    ((s.buttSend (.butt 1 0x25 (s.msgFields ch q rep))).modButt (fun b => { b with fwd := b.fwd ++ [f] }), none)
  else r

/-- The families of commands with a part for Wythe 1: STATE, CFG, JOB, DENS, NOZ and LANE (R25; log entry 118). -/
def concernsWythe1 (verb : Nat) : Bool := [2, 3, 4, 6, 7, 8].contains (verb / 256)

/-- The primary Keystone forwards the part of a command that concerns Wythe 1 (R25, R29). -/
def State.keystones (q : QCmd) (s : State) : State :=
  if concernsWythe1 q.verb then s.tieSend 0 tieKmsg [0, q.verb, q.tag] else s

/-- The Keystone of Wythe 1 has finished its part of a command, and its result crosses the Tie (R25, R29). -/
def State.keystoneDone (q : QCmd) (s : State) : State :=
  if concernsWythe1 q.verb then s.tieSend 1 tieKmsg [1, q.verb, q.tag] else s

/-- A command runs on both wythes: its part for Wythe 1 is forwarded, and done before the command completes (R25). -/
def bothWythes (ch : Nat) (q : QCmd) (s : State) : VRes :=
  let r := runVerb ch q (s.keystones q)
  (r.1.keystoneDone q, r.2)

/-- A mailbox command runs (R56, R332, R354, R459). -/
def State.runCmd (ch : Nat) (q : QCmd) (s : State) : VRes :=
  if !(verbCodes.contains q.verb) ∨ (s.ident.romOnly ∧ q.verb ≠ 0x0101 ∧ q.verb ≠ 0x0104) then
    (s, some (Reply.fail Res.unsupported 0))
  else match s.roleRefusal q with
    | some r => (s, some r)
    | none =>
      let r := bothWythes ch q s
      if s.aloneInRest q then r else State.carry ch q r

/-! ## Queues (R49 to R52) -/

/-- The command at the head of a channel's queue starts (R50). -/
def State.runHead (ch : Nat) (s : State) : State :=
  match (s.chan ch).queue with
  | [] => s
  | q :: _ =>
    let r := (s.modChan ch (fun x => { x with running := true })).runCmd ch q
    match r.2 with
    | some rep => r.1.respond ch rep
    | none => r.1

/-- The commands that take effect one at a time in the order of their doorbells across all channels: 1 those that touch the shadow
set, the operating state or the job queue, PAIR.SWAP and PAIR.TAKE among them (R55, R345, R343), 2 the DENS commands (R151), 3 the NOZ commands (R195); 0 every other. STATE.REST
never waits. -/
def orderClass (verb : Nat) : Nat :=
  if [0x0104, 0x0201, 0x0202, 0x0204, 0x0301, 0x0302, 0x0303, 0x0305, 0x0401, 0x0402, 0x0403, 0x0404, 0x0405, 0x0406, 0x0407, 0x0901,
      0x0904].contains verb
  then 1
  else if verb / 256 = 6 then 2
  else if verb / 256 = 7 then 3
  else 0

/-- The commands of a channel that have not started, each with its place in the order of the doorbells. -/
def Chan.waiting (x : Chan) : List (Nat × QCmd) :=
  (x.queue.zipIdx.map (fun p => (x.order.getD p.2 0, p.1))).drop (if x.running then 1 else 0)

/-- Whether a class of commands runs on a channel. -/
def Chan.runs (x : Chan) (k : Nat) : Bool := x.running && x.queue.head?.any (fun q => orderClass q.verb == k)

/-- A command waits for the earlier ones of its class that have not started, and a DENS or NOZ command for the one that runs
(R55, R151, R195). -/
def State.mayStart (s : State) (n verb : Nat) : Bool :=
  let k := orderClass verb
  k == 0 ||
    [0, 1, 2, 3].all (fun c => (s.chan c).waiting.all (fun p => orderClass p.2.verb != k || n ≤ p.1) &&
      (k == 1 || !((s.chan c).runs k)))

/-- The place of a channel's next command, where it may start (R50, R55). -/
def State.due (s : State) (c : Nat) : Option Nat :=
  if (s.chan c).running then none
  else match (s.chan c).waiting with
    | [] => none
    | p :: _ => if s.mayStart p.1 p.2.verb then some p.1 else none

/-- The next channel to start a command: that of the earliest doorbell among those that may start. -/
def State.dueChan (s : State) : Option Nat :=
  [0, 1, 2, 3].find? (fun c => (s.due c).any (fun n => [0, 1, 2, 3].all (fun d => (s.due d).all (n ≤ ·))))

/-- Starts commands until every channel is empty or has one running, with fuel. -/
def settleGo : Nat → State → State
  | 0, s => s
  | n + 1, s =>
    match s.dueChan with
    | none => s
    | some c => settleGo n (s.runHead c)

/-- Runs the commands that wait: at most 64 on each of four channels (R46, R50). -/
def State.settle (s : State) : State := settleGo 256 s

/-- A command area holding a command (R47). -/
def areaBytes (verb : Nat) (m : Mbox) : List Nat :=
  leBytes 2 verb ++ leBytes 2 m.tag ++ [bit m.phase + 2 * bit m.atOnce + 4 * bit m.notify + 8 * m.rsvd5, m.argLen] ++
    leBytes 2 m.rsvd16 ++ (m.args ++ List.replicate 56 0).take 56

/-- The command that a doorbell takes (R49). -/
def cmdOf (verb : Nat) (m : Mbox) : QCmd :=
  { slot := m.slot, verb := verb, tag := m.tag, phase := m.phase, atOnce := m.atOnce, notify := m.notify, rsvd5 := m.rsvd5
    argLen := m.argLen, rsvd16 := m.rsvd16, args := m.args, fetchFail := m.fetchFail, first := m.first, width := m.width }

/-- The doorbell is taken as the `n`-th: the command area is copied, and the response area shows the new command PENDING (R49, R51). -/
def Chan.take (verb : Nat) (m : Mbox) (n : Nat) (x : Chan) : Chan :=
  { x with
    area := x.area.write (64 * m.slot) (areaBytes verb m)
    complete := setBit x.complete m.slot false
    rsp := assocSet m.slot { verb := verb, tag := m.tag, phase := m.phase } x.rsp
    queue := x.queue ++ [cmdOf verb m]
    order := x.order ++ [n] }

/-- The place of the next doorbell in the order of those whose commands have not completed (R55). -/
def State.nextPlace (s : State) : Nat := ((s.mbox.flatMap (fun x => x.order)).foldl max 0) + 1

/-- A STATE.REST that stands behind other commands of its channel acts as its doorbell is taken; it answers in its turn (R55). -/
def State.restAtOnce (ch : Nat) (q : QCmd) (s : State) : State :=
  if q.verb ≠ 0x0203 ∨ !s.live ∨ (q.fault [] []).isSome ∨ s.ident.romOnly ∨ (s.chan ch).queue.length < 2 then s
  else
    let mark (x : QCmd) : QCmd := if x.verb = 0x0203 ∧ x.slot = q.slot then { x with acted := true } else x
    (s.modChan ch (fun x => { x with queue := x.queue.map mark })).toRest

/-- The host writes a command area and rings the doorbell (R47, R49 to R51). -/
def State.submit (verb : Nat) (m : Mbox) (s : State) : State :=
  let s := s.hostLoad m.host
  if !s.reachable 0 then s
  else if (s.chan m.ch).busySlot m.slot then s.modChan m.ch (fun x => { x with dbBusy := true })
  else
    let n := s.nextPlace
    (s.modChan m.ch (fun x => x.take verb m n)).restAtOnce m.ch (cmdOf verb m)

/-! ## MSG units (R332, R337, R354) -/

/-- A carried CFG.COMMIT at a gang member: it commits the set that it checked (R354). -/
def State.memberCommit (q : QCmd) (s : State) : QCmd :=
  { q with args := leBytes 8 (s.cfg.checked.getD 0) ++ q.args.drop 8 }

/-- A forwarded command runs at the partner or member, outside its mailbox channels, and is acknowledged (R332, R354). -/
def State.remote (side verb : Nat) (m : Mbox) (data : List Nat) (s : State) : State :=
  let q : QCmd := { cmdOf verb m with remote := true, carried := data }
  let stale := s.butt.gang && verb == 0x0303 && s.cfg.checked != some s.cfg.shadowGen.toNat
  let q := if s.butt.gang && verb == 0x0303 then s.memberCommit q else q
  let r : VRes := if stale then (s, some (Reply.fail Res.mismatch 0x0303)) else bothWythes 4 q s
  let rep := r.2.getD {}
  r.1.buttSend (.butt side 0x25 [1, m.ch, m.slot, s.butt.member, rep.result, rep.detail, gangDigestOf s.cfg.shadow])

/-- A MSG unit arrives from a side; in a gang it goes on along the chain. -/
def State.msg (side : Nat) (b : BMsg) (s : State) : State :=
  if !(s.blink side).enabled then s else
    match b with
    | .command m verb data =>
      if s.butt.role = .standby then s.remote side verb m data
      else if s.butt.gang ∧ s.butt.member ≠ 0 then
        (s.remote side verb m data).buttSend (.butt (1 - side) 0x25 (commandFields m.ch m.slot verb m.tag m.atOnce m.args data))
      else s
    | .stage ch slot sect off bytes =>
      if s.butt.role = .standby then (s.stage sect off bytes).buttSend (.butt side 0x25 [1, ch, slot, 0, 0, 0, 0]) else s
    | .ack ch slot member result detail digest =>
      if s.butt.gang ∧ s.butt.member ≠ 0 then s.buttSend (.butt (1 - side) 0x25 [1, ch, slot, member, result, detail, digest])
      else s.ackIn ch slot member result detail digest
    | .copy c => s.copyIn c
    | .mirror reason => if s.hasSec SecId.pair ∧ side = s.pairSide then s.mirrorSet false reason else s

end Sys2Proof.Machine
end

