-- ==== Sys2Proof/Machine/Nodes.lean ====
section
/-! DEFINITION. An Ndeig node board: its lease, the frames it accepts, the rows it fires, its press time and the units it
sends (R281, R286 to R301, R305). -/

namespace Sys2Proof.Machine

open Sys2Proof

/-- The node of an identity. -/
def State.node (s : State) (id : Nat) : Option Node := assoc id s.nodes

/-- Replaces a node. -/
def State.setNode (n : Node) (s : State) : State := { s with nodes := assocSet n.id n s.nodes }

/-- A node's press time at a line bit time: 2 ns for every 30 line bits since the last TIME (R290). -/
def Node.timeAt (line : Nat) (n : Node) : Nat := n.press + 2 * ((line - n.pressAt) / 30)

/-- A node's press time at an up-time (R290). -/
def Node.time (up : Nat) (n : Node) : Nat := n.timeAt (15 * up)

/-- The port a node takes TIME from (R290). -/
def Node.sourcePort (n : Node) : Nat := if n.held then n.holder else if n.alignA != 0 then 0 else 1

/-- TIME_OK: a TIME from the source port has been loaded within the last 200 µs (R290). -/
def Node.timeGood (n : Node) : Bool := n.timeOk && n.timePort == n.sourcePort

/-- Whether the receiver of a lane is ALIGNED. -/
def Node.rxOk (port k : Nat) (n : Node) : Bool := if port = 0 then n.alignA.getLsbD k else n.alignB.getLsbD k

/-- Lanes of a port. -/
def Node.lanesOn (port : Nat) (n : Node) : Nat := if port = 0 then n.lanesA else n.lanesB

/-- A refused unit is counted (R286, R295). -/
def Node.refuse (n : Node) : Node := { n with refused := n.refused + 1 }

/-- The lowest lane of a port in a mask of ALIGNED receivers. -/
def lowLane (m : BitVec 4) : Option Nat := (List.range 4).find? (fun k => m.getLsbD k)

/-- A port's transmitters run from the clock recovered on one lane as long as it is ALIGNED, then from another's (R281). -/
def clockLane (m : BitVec 4) (old : Option Nat) : Option Nat := if old.any m.getLsbD then old else lowLane m

/-- A node's receiver becomes ALIGNED or UNALIGNED (R281). -/
def Node.setAlign (port k : Nat) (ok : Bool) (n : Node) : Node :=
  if port = 0 then
    let m := setBit n.alignA k ok
    { n with alignA := m, clockA := clockLane m n.clockA }
  else
    let m := setBit n.alignB k ok
    { n with alignB := m, clockB := clockLane m n.clockB }

/-- The bits of a unit reach a node's receiver (R279, R281). -/
def Node.hear (port k : Nat) (r : LineRead) (e : RxEnd) (n : Node) : Node :=
  let i := 4 * port + k
  let n := { n with rxEnds := modAt n.rxEnds i (fun _ => e) }
  let y := RxState.hear { aligned := n.rxOk port k, good := n.rxGood.getD i 0, bad := n.rxBad.getD i 0, viol := n.violations.getD i 0 } r
  let n := n.setAlign port k y.aligned
  { n with
    rxGood := modAt n.rxGood i (fun _ => y.good), rxBad := modAt n.rxBad i (fun _ => y.bad)
    violations := modAt n.violations i (fun _ => y.viol) }

/-- A node receives the line bits of a unit, the first in bit 0 of `bits`: the node after its receiver has heard them and counted
their blocks, and the body where they are a unit of the kind that it takes. A unit that begins while the receiver is UNALIGNED is
lost, and a lane that the port does not have receives nothing. -/
def State.nodeRx (s : State) (id port k kind len bits : Nat) : Option (Node × Option Body) :=
  match s.node id with
  | none => none
  | some n =>
    if n.lanesOn port ≤ k then none
    else
      let (r, e) := (n.rxEnds.getD (4 * port + k) {}).read s.clock.up len bits
      let n' := n.hear port k r e
      if !(n.rxOk port k) then some (n', none)
      else
        some (match r.body kind with
          | none => (n', none)
          | some b => ({ n' with
              corrected := modAt n'.corrected (4 * port + k) (fun c => c + BitVec.ofNat 16 b.corr)
              uncorr := modAt n'.uncorr (4 * port + k) (fun c => c + BitVec.ofNat 16 b.unc) }, some b))

/-- A node's press time reaches E (R295). -/
def State.nodeExpiry (id : Nat) (s : State) : State :=
  match s.node id with
  | none => s
  | some n =>
    if n.time s.clock.up < n.expiry then s
    else if n.held then
      s.setNode { n with held := false, frames := [], rows := [], last := [], expired := BitVec.allOnes 8 }
    else if n.released then s.setNode { n with released := false, frames := [], rows := [] }
    else s

/-- A unit of a kind acts on a node with the data of its blocks, after an expiry that has come; one that is lost or does not decode does
`other` (R276, R281, R295; log entry 139). -/
def State.nodeTake (id port k kind len bits : Nat) (other : Node → Node) (f : Node → List Nat → State → State) (s : State) : State :=
  let s := s.nodeExpiry id
  match s.nodeRx id port k kind len bits with
  | none => s
  | some (n, none) => s.setNode n
  | some (n, some b) =>
    match b.data with
    | none => s.setNode (other n)
    | some data => f n data s

/-- A unit falls due on a node's lane, by its place in the return order of R301. -/
def State.sendNode (id port k prio kind : Nat) (data : List Nat) (s : State) : State :=
  match s.node id with
  | none => s
  | some n =>
    s.setNode { n with tx := modAt n.tx (4 * port + k) (·.add { prio := prio, kind := kind, data := data, due := s.line15 }) }

/-- The data of a unit that a node begins at a line time: ECHO_REPLY carries TURN, the line bits since its ECHO arrived (R291). -/
def TxUnit.replyData (start : Nat) (u : TxUnit) : List Nat :=
  if u.kind = 0x11 then u.data.map (fun tag => tag + 65536 * ((start - u.echoAt) % 2 ^ 24)) else u.data

/-- The next unit on a node's lane begins, if one does at or before a line time (R276). -/
def State.nodeBegin (limit id i : Nat) (s : State) : State :=
  match s.node id with
  | none => s
  | some n =>
    match (n.tx.getD i {}).pick limit with
    | none => s
    | some (u, k, t) =>
      let data := u.replyData t.freeAt
      let (t', o) := t.put u.kind data
      let s := if k = 0 then s else s.send (.nodeIdle id (i / 4) (i % 4) k t.seq)
      (s.setNode { n with tx := modAt n.tx i (fun _ => t') }).send (.node id (i / 4) (i % 4) u.kind o.seq data o.len o.bits)

/-- The units on the nodes' lanes that begin at or before a line time (R276). -/
def State.nodesBegin (limit : Nat) (s : State) : State :=
  (s.nodes.filter (fun p => !(p.2.tx.all (·.queue.isEmpty)))).foldl (fun s p =>
    (List.range 8).foldl (fun s i =>
      (List.range (p.2.tx.getD i {}).queue.length).foldl (fun s _ => s.nodeBegin limit p.1 i) s) s) s

/-! ## Frames (R286, R287) -/

/-- A unit comes from the holder under the lease (R294, R295). -/
def Node.underLease (port portFld epoch : Nat) (n : Node) : Bool :=
  n.held && n.holder == port && portFld == port && epoch == n.epoch

/-- The lease is renewed (R294). -/
def Node.renew (up : Nat) (n : Node) : Node := { n with expiry := n.time up + 1000 * n.tLease }

/-- The staggers of a head. -/
def Node.staggers (n : Node) (g : Nat) : List Nat := (assoc g n.stagger).getD [0, 0, 0, 0]

/-- LAST of a head (R286). -/
def Node.lastOf (n : Node) (g : Nat) : Option (Nat × Nat) := (n.last.find? (·.1 == g)).map (·.2)

/-- The firing instant of a row with its carrier's FIRE_TIME and PERIOD (R287). -/
def rowTime (fire period frac : Nat) : Nat := fire + (frac * period + 128) / 256

/-- Rows of a head whose carrier lies in a gap are dropped and counted; their frames never fire whole (R287, R299). -/
def Node.gap (g last c : Nat) (n : Node) : Node :=
  let inGap (r : NRow) : Bool :=
    r.head == g && r.fireAt.isNone && 1 ≤ (r.carrier + 2048 - last) % 2048 && (r.carrier + 2048 - last) % 2048 < (c + 2048 - last) % 2048
  { n with
    rows := n.rows.filter (fun r => !(inGap r)), rowDropped := n.rowDropped + BitVec.ofNat 16 (n.rows.filter inGap).length
    frames := n.frames.map (fun f => if n.rows.any (fun r => inGap r && r.head == f.head && r.course == f.course) then { f with left := 0 } else f) }

/-- An accepted frame becomes LAST of its head; of the head's others those stay that have not fired, and the newest that has (R286,
R296). `t` is the node's press time. -/
def noteLast (g c fire t : Nat) (l : List (Nat × Nat × Nat)) : List (Nat × Nat × Nat) :=
  let own := l.filter (·.1 == g)
  (g, c, fire) :: own.filter (t ≤ ·.2.2) ++ (own.filter (·.2.2 < t)).take 1 ++ l.filter (·.1 != g)

/-- The E up to which a row may fire: that of the lease under which its carrier was accepted, which renewals move (R294, R296). -/
def Node.rowE (n : Node) (r : NRow) : Nat := if r.epoch = n.epoch then n.expiry else r.expiry

/-- An accepted frame: its rows wait for their carriers, and it carries the rows that waited for it (R287). -/
def Node.acceptFrame (g c fire period wave payload t : Nat) (n : Node) : Node :=
  let n := match n.lastOf g with
    | some (l, _) => n.gap g l c
    | none => n
  let row (pair : Nat) : NRow :=
    let r := firingRow pair c
    let st := (n.staggers g).getD r 0
    { head := g, row := r, course := c, carrier := (c + st / 256) % 2048, frac := st % 256, wave := wave
      codes := rowCodes payload (pair - 1), fireAt := none, expiry := 0 }
  let carry (r : NRow) : NRow :=
    if r.head = g ∧ r.carrier = c ∧ r.fireAt.isNone then { r with fireAt := some (rowTime fire period r.frac), epoch := n.epoch } else r
  { n with
    frames := n.frames.filter (fun f => f.left != 0 || t ≤ f.fire) ++ [{ head := g, course := c, fire := fire, period := period, wave := wave }]
    rows := (n.rows ++ [row 1, row 2]).map carry
    last := noteLast g c fire t n.last }

/-- A FRAME at a node: the checks of R286 in order. -/
def State.nodeFrame (id port k len bits : Nat) (s : State) : State :=
  s.nodeTake id port k 0x01 len bits (fun n => { n with bad := n.bad + 1 }) (fun n data s =>
      let (h, pay, tail) := frameRead data
      if !(frameCrcOk h pay tail) then s.setNode { n with bad := n.bad + 1 }
      else if !(n.underLease port (field h 57 1) (field h 58 6)) then s.setNode n.refuse
      else
        let n := n.renew s.clock.up
        let g := field h 32 10
        let c := field h 42 11
        let t := n.time s.clock.up
        let d := (field h 0 32 + (2 ^ 32 - t % 2 ^ 32)) % 2 ^ 32
        let late := s.setNode { n with late := n.late + 1 }
        if !(n.heads.contains g) then s.setNode n.refuse
        else if !n.timeGood ∨ d < 5000 ∨ 20000000 < d then late
        else
          let step := (n.lastOf g).map (fun p => ((c + 2048 - p.1) % 2048, p.2))
          if step.any (fun p => p.1 = 0 || 1024 ≤ p.1) then s.setNode n
          else if step.any (fun p => t + d ≤ p.2) then late
          else s.setNode (n.acceptFrame g c (t + d) (field tail 32 22) (field h 53 4) pay t))

/-! ## Leases (R292 to R296) -/

/-- What a LEASE unit says (R293). -/
structure LeaseMsg where
  op     : Nat
  port   : Nat
  epoch  : Nat
  tLease : Nat
  course : Nat
  deriving DecidableEq, Repr

def leaseRead (w : Nat) : LeaseMsg :=
  { op := field w 0 3, port := field w 3 1, epoch := field w 4 6, tLease := field w 10 16, course := field w 26 11 }

/-- Rows that a REST or CANCEL stops are gone; one whose instant lies less than 200 ns ahead may stay, as a free value
has it (R296). -/
def stopRows (hit : NRow → Bool) (t : Nat) : List NRow → State → List NRow × State
  | [], s => ([], s)
  | r :: rs, s =>
    let near := r.fireAt.any (fun x => x < t + 200)
    let keep := if !(hit r) then true else near && s.fresh.1 % 2 == 1
    let s := if hit r && near then s.fresh.2 else s
    let (l, s) := stopRows hit t rs s
    (if keep then r :: l else l, s)

/-- REST acts: every queued frame and pending row is discarded, and LAST is undefined (R286, R296). -/
def State.nodeStopAll (n : Node) (s : State) : State :=
  let (rows, s) := stopRows (fun _ => true) (n.time s.clock.up) n.rows s
  s.setNode { n with rows := rows, frames := n.frames.filter (fun f => rows.any (fun r => r.head == f.head && r.course == f.course)), last := [] }

/-- CANCEL acts on the frames from a course on (R296). -/
def State.nodeCancelFrom (c0 : Nat) (n : Node) (s : State) : State :=
  let t := n.time s.clock.up
  let unfired (g c : Nat) : Bool :=
    n.frames.any (fun f => f.head == g && f.course == c) || n.rows.any (fun r => r.head == g && r.course == c)
  let gone (g c : Nat) : Bool := (c + 2048 - c0) % 2048 ≤ 1023 && unfired g c
  let hit (r : NRow) : Bool := gone r.head r.course
  let (rows, s) := stopRows hit t n.rows s
  let waits (r : NRow) : NRow :=
    if !(hit r) && gone r.head r.carrier && r.fireAt.all (t + 200 ≤ ·) then { r with fireAt := none } else r
  s.setNode { n with
    rows := rows.map waits
    frames := n.frames.filter (fun f => !(gone f.head f.course) || rows.any (fun r => r.head == f.head && r.course == f.course))
    last := n.last.filter (fun p => !(gone p.1 p.2.1)) }

/-- A LEASE unit other than ACQUIRE: refused unless it comes under the lease (R294, R295). -/
def State.nodeLease (op id port k len bits : Nat) (s : State) : State :=
  s.nodeTake id port k 0x03 len bits (fun n => n) (fun n data s =>
      let m := leaseRead (data.getD 0 0)
      if m.op ≠ op then s.setNode n
      else if !(n.underLease port m.port m.epoch) then s.setNode n.refuse
      else if op = 0 then s.setNode (n.renew s.clock.up)
      else if op = 2 then s.setNode { n with held := false, released := true }
      else if op = 3 then s.nodeStopAll (n.renew s.clock.up)
      else if op = 4 then s.nodeCancelFrom m.course (n.renew s.clock.up)
      else s.setNode n)

/-- An ACQUIRE is granted; rows that stay keep the E of the lease before (R295, R296). -/
def Node.grant (port : Nat) (m : LeaseMsg) (up : Nat) (n : Node) : Node :=
  let fresh := n.held || n.holder == port
  let keep : NRow → NRow := fun r => { r with expiry := n.rowE r }
  let n : Node := { n with rows := n.rows.map keep, held := true, holder := port, epoch := m.epoch, tLease := m.tLease, released := false, acqResult := 1 }
  let n := n.renew up
  if fresh then { n with frames := [], rows := [], last := [] } else n

/-- ACQUIRE at a node (R295). -/
def State.nodeAcquire (id port k len bits : Nat) (s : State) : State :=
  s.nodeTake id port k 0x03 len bits (fun n => n) (fun n data s =>
      let m := leaseRead (data.getD 0 0)
      let ahead := (m.epoch + 64 - n.epoch) % 64
      if m.op ≠ 1 then s.setNode n
      else if m.port ≠ port then s.setNode n.refuse
      else if m.tLease < 2000 ∨ 50000 < m.tLease then s.setNode { n with acqResult := 4 }
      else if n.held ∧ n.holder ≠ port then s.setNode { n with acqResult := 2 }
      else if 1 ≤ ahead ∧ ahead ≤ 31 then s.setNode (n.grant port m s.clock.up)
      else if n.held then s.setNode n.refuse
      else s.setNode { n with acqResult := 3 })

/-! ## CONFIG, TIME, ECHO and DISCOVER (R290, R291, R300, R305) -/

/-- One block of CONFIG: applied, or refused and counted (R305). -/
def Node.configBlock (n : Node) (w : Nat) : Node :=
  let g := field w 0 10
  let st := [field w 16 19, field w 35 19, field w 54 19, field w 73 19]
  if n.heads.contains g && st.all (fun x => x / 256 ≤ n.maxK) then { n with stagger := assocSet g st n.stagger } else n.refuse

/-- CONFIG at a node (R295, R305). -/
def State.nodeConfig (id port k len bits : Nat) (s : State) : State :=
  s.nodeTake id port k 0x07 len bits (fun n => n) (fun n data s =>
    s.setNode (if n.held && n.holder == port then data.foldl Node.configBlock n else n.refuse))

/-- TIME at a node: ARRIVAL is the press time at which bit 0 of the unit arrived (R290). -/
def State.nodeTimeUnit (id port k len bits : Nat) (s : State) : State :=
  s.nodeTake id port k 0x04 len bits (fun n => n) (fun n data s =>
      if n.sourcePort ≠ port then s.setNode n
      else
        let a := field (data.getD 0 0) 0 64
        let line := s.line15 - len
        s.setNode { n with
          timeErr := sat16 ((n.timeAt line : Int) - a), press := a, pressAt := line, timeOk := true, timePort := port })

/-- ECHO at a node: ECHO_REPLY with the TAG falls due `turn` line bits later, and learns TURN as it begins (R291). -/
def State.nodeEcho (id port k len bits turn : Nat) (s : State) : State :=
  s.nodeTake id port k 0x05 len bits (fun n => n) (fun n data s =>
    let u : TxUnit := { prio := 1, kind := 0x11, data := [field (data.getD 0 0) 0 16], due := s.line15 + turn, echoAt := s.line15 - len }
    s.setNode { n with tx := modAt n.tx (4 * port + k) (·.add u) })

/-- DISCOVER at a node: HELLO (R300). -/
def State.nodeDiscover (id port k len bits : Nat) (s : State) : State :=
  s.nodeTake id port k 0x06 len bits (fun n => n) (fun n data s =>
    (s.setNode n).sendNode id port k 3 0x12 (helloBlocks
      { nodeId := id, idx := k, port := port, lanes := n.lanesOn port, heads := n.heads, maxK := n.maxK, proto := 1
        tag := field (data.getD 0 0) 0 16 }))

/-! ## Rows, status and the board (R281, R287, R290, R296, R299, R301) -/

/-- A row's firing instant arrives: it is strobed if its instant lies before the E of its carrier's lease (R287, R296). -/
def State.nodeRowFire (id head row : Nat) (s : State) : State :=
  match s.node id with
  | none => s
  | some n =>
    match n.rows.find? (fun r => r.head == head && r.row == row && r.fireAt.any (· ≤ n.time s.clock.up)) with
    | none => s
    | some r =>
      let t := r.fireAt.getD 0
      let rows := n.rows.filter (fun x => !(x.head == head && x.row == row && x.course == r.course))
      let same (f : NFrame) : Bool := f.head == head && f.course == r.course
      let done := n.frames.any (fun f => same f && f.left == 1)
      let frames := (n.frames.map (fun f => if same f then { f with left := f.left - 1 } else f)).filter (fun f => !(same f) || f.left != 0)
      if t < n.rowE r then
        (s.setNode { n with rows := rows, frames := frames, fired := if done then n.fired + 1 else n.fired }).send
          (.strobe id head row t r.wave r.codes)
      else s.setNode { n with rows := rows, frames := n.frames.filter (fun f => !(same f)) }

/-- The 256 bits of a STATUS (R299). -/
def Node.status (port k up : Nat) (n : Node) : Nat :=
  let i := 4 * port + k
  n.id % 2 ^ 32 + 2 ^ 32 * k + 2 ^ 34 * port + 2 ^ 36 * (if n.held then n.holder + 1 else 0) + 2 ^ 38 * n.epoch +
    2 ^ 44 * n.acqResult + 2 ^ 47 * bit (n.expired.getLsbD i) + 2 ^ 48 * bit n.timeGood + 2 ^ 49 * bit (!n.faultHeads.isEmpty) +
    2 ^ 52 * n.alignA.toNat + 2 ^ 56 * n.alignB.toNat +
    2 ^ 64 * (if n.held then min 65535 ((n.expiry - n.time up) / 10000) else 0) +
    2 ^ 80 * n.fired.toNat + 2 ^ 96 * n.late.toNat + 2 ^ 112 * n.bad.toNat + 2 ^ 128 * n.refused.toNat +
    2 ^ 144 * n.rowDropped.toNat + 2 ^ 160 * (n.corrected.getD i 0).toNat + 2 ^ 176 * (n.uncorr.getD i 0).toNat +
    2 ^ 192 * wrapInt 16 n.timeErr + 2 ^ 208 * ((n.faultHeads.min?).getD 0) + 2 ^ 240 * (n.statusSeq.getD i 0).toNat

/-- A node sends STATUS on an ALIGNED lane (R299, R301). -/
def State.nodeStatusSend (id port k : Nat) (s : State) : State :=
  match s.node id with
  | none => s
  | some n =>
    if !(n.rxOk port k) then s else
      let i := 4 * port + k
      let n := { n with statusSeq := modAt n.statusSeq i (· + 1) }
      let w := n.status port k s.clock.up
      (s.setNode { n with expired := setBit n.expired i false }).sendNode id port k 2 0x13 [w % 2 ^ 128, w / 2 ^ 128]

/-- The words of a TEMPS (R301). -/
def tempsBlocks (id : Nat) (temps : List Int) : List Nat :=
  (id % 2 ^ 32 + 2 ^ 32 * (temps.length % 64)) ::
  (List.range 6).map (fun k => ((List.range 8).map (fun i => wrapInt 16 (temps.getD (8 * k + i) 0) * 2 ^ (16 * i))).sum)

/-- A node sends TEMPS on the lowest ALIGNED lane of a port (R301). -/
def State.nodeTempsSend (id port : Nat) (temps : List Int) (s : State) : State :=
  match s.node id with
  | none => s
  | some n =>
    match (List.range 4).find? (fun k => n.rxOk port k) with
    | none => s
    | some k => s.sendNode id port k 4 0x14 (tempsBlocks id (n.heads.zipIdx.map (fun p => temps.getD p.2 (-32768))))

/-- A node reset, with the board's strapping (R292, R295, R299). -/
def State.nodeReset (id lanesA lanesB maxK : Nat) (heads : List Nat) (s : State) : State :=
  s.setNode { id := id, lanesA := lanesA, lanesB := lanesB, heads := heads, maxK := maxK, pressAt := s.line15
              tx := List.replicate 8 (TxLine.begun s.line15 {}) }

/-- A node's receiver finds or loses alignment by units that are no commands, or by its clock loop (R281). -/
def State.nodeAlign (id port k : Nat) (ok : Bool) (s : State) : State :=
  match s.node id with
  | none => s
  | some n =>
    if n.lanesOn port ≤ k then s else
      let n := n.setAlign port k ok
      s.setNode { n with rxGood := modAt n.rxGood (4 * port + k) (fun g => if ok then g else 0)
                         rxBad := modAt n.rxBad (4 * port + k) (fun b => if ok then 0 else b) }

/-- A head of a node reports a fault, or stops doing so (R301). -/
def State.nodeHeadFault (id head : Nat) (on : Bool) (s : State) : State :=
  match s.node id with
  | none => s
  | some n =>
    if !(n.heads.contains head) then s else
      let l := n.faultHeads.filter (· != head)
      s.setNode { n with faultHeads := if on then head :: l else l }

/-- 200 µs without a TIME from the source port (R290). -/
def State.nodeTimeout (id : Nat) (s : State) : State :=
  match s.node id with
  | none => s
  | some n => if n.timeOk ∧ n.pressAt + 3000000 ≤ s.line15 then s.setNode { n with timeOk := false } else s

end Sys2Proof.Machine
end

