-- ==== Sys2Proof/Machine/Ptp.lean ====
section
/-! DEFINITION. The messages and pins of press time: PTP, Ethernet, PPS, the 10 MHz reference and the periodic camera pulses (R364 to R368,
R377 to R380). -/

namespace Sys2Proof.Machine

open Sys2Proof

/-! ## PTP messages (R365 to R367) -/

/-- The port takes part: its link is up and the module's Ethernet runs. -/
def State.portUp (s : State) (p : Nat) : Bool := s.powered 11 && (s.port p).link

/-- The stamp of a message leaving now, referred to the medium (R366). -/
def State.txStamp (s : State) (p : Nat) : Int := (s.now : Int) + tmTxLat s.tsec p

/-- The stamp of a message arriving now, referred to the medium (R366). -/
def State.rxStamp (s : State) (p : Nat) : Int := (s.now : Int) - tmRxLat s.tsec p

/-- The port is master. -/
def State.isMaster (s : State) (p : Nat) : Bool := (s.port p).state == 6

/-- A message that arrives on a port is taken: the port takes part, and the message is of its domain (R365). -/
def State.ptpHeard (s : State) (p domain : Nat) : Bool := s.portUp p && domain == tmDomain s.tsec

/-- A message leaves a port, with the module's domain and its fields (R365). -/
def State.ptpSend (p kind : Nat) (fields : List Int) (s : State) : State := s.send (.eth p kind ((tmDomain s.tsec : Int) :: fields))

/-- Sync: sent as master, or received; one-step with its departure, two-step without (R365, R367). -/
def State.syncMsg (p : Nat) (sent : Bool) (m : PtpId) (t1 : Option Nat) (s : State) : State :=
  if sent then
    if !(s.portUp p && s.isMaster p) then s
    else (s.modPort p (fun x => { x with sync := some (m.seq, s.txStamp p) })).ptpSend p 0x00 [m.seq]
  else if !(s.ptpHeard p m.domain) ∨ s.parentPort ≠ some p then s
  else match t1 with
    | some t => s.syncDone p t (s.rxStamp p)
    | none => s.modPort p (fun x => { x with sync := some (m.seq, s.rxStamp p) })

/-- Follow_Up: sent with the departure of the Sync, or received (R365, R367). -/
def State.followUp (p : Nat) (sent : Bool) (m : PtpId) (t1 : Nat) (s : State) : State :=
  match (s.port p).sync with
  | none => s
  | some (q, t) =>
    if q ≠ m.seq then s
    else if sent then
      if s.portUp p && s.isMaster p then (s.modPort p (fun x => { x with sync := none })).ptpSend p 0x08 [m.seq, t] else s
    else if s.ptpHeard p m.domain ∧ s.parentPort = some p then s.syncDone p t1 t else s

/-- Delay_Req: sent as slave, or answered as master (R365, R367). -/
def State.delayReq (p : Nat) (sent : Bool) (m : PtpId) (s : State) : State :=
  if !(s.portUp p) ∨ tmP2p s.tsec then s
  else if sent then
    if s.parentPort = some p then (s.modPort p (fun x => { x with reqT3 := some (m.seq, s.txStamp p) })).ptpSend p 0x01 [m.seq] else s
  else if s.ptpHeard p m.domain && s.isMaster p then s.ptpSend p 0x09 [m.seq, s.rxStamp p] else s

/-- Delay_Resp (R367). -/
def State.delayResp (p : Nat) (m : PtpId) (t4 : Nat) (s : State) : State :=
  if !(s.ptpHeard p m.domain) then s
  else match (s.port p).reqT3 with
    | some (q, t3) => if q = m.seq then s.delayDone p t3 t4 else s
    | none => s

/-- Pdelay_Req: sent, or answered with its arrival, and `turn` ns later with its departure (R365). -/
def State.pdelayReq (p : Nat) (sent : Bool) (m : PtpId) (turn : Nat) (s : State) : State :=
  if !(s.portUp p) ∨ !(tmP2p s.tsec) then s
  else if sent then (s.modPort p (fun x => { x with peer := some (m.seq, s.txStamp p) })).ptpSend p 0x02 [m.seq]
  else if s.ptpHeard p m.domain then
    (s.ptpSend p 0x03 [m.seq, s.rxStamp p]).ptpSend p 0x0A [m.seq, s.txStamp p + turn]
  else s

/-- The peer delay exchange of a port is complete: the port's path delay, and the servo's where the port is its source (R367, R369). -/
def State.peerDone (p : Nat) (t1 t2 t3 t4 : Int) (s : State) : State :=
  let d := ((t2 - t1) + (t4 - t3)) / 2
  let s := s.modPort p (fun x => { x with peer := none, peerResp := none, peerDelay := some d })
  if tmP2p s.tsec && s.servoPort p then s.pathMeasured d else s

/-- Pdelay_Resp: one-step with its departure, or two-step (R365, R367). -/
def State.pdelayResp (p : Nat) (m : PtpId) (t2 : Nat) (t3 : Option Nat) (s : State) : State :=
  if !(s.ptpHeard p m.domain) then s
  else match (s.port p).peer with
    | some (q, t1) =>
      if q ≠ m.seq then s
      else match t3 with
        | some t => s.peerDone p t1 t2 t (s.rxStamp p)
        | none => s.modPort p (fun x => { x with peerResp := some (m.seq, t1, t2, s.rxStamp p) })
    | none => s

/-- Pdelay_Resp_Follow_Up (R367). -/
def State.pdelayFollowUp (p : Nat) (m : PtpId) (t3 : Nat) (s : State) : State :=
  if !(s.ptpHeard p m.domain) then s
  else match (s.port p).peerResp with
    | some (q, t1, t2, t4) => if q = m.seq then s.peerDone p t1 t2 t3 t4 else s
    | none => s

/-- Announce: sent as master with the module's data set, or received: the better master of the port, or the same sender again (R365, log
entry 31). -/
def State.announceMsg (p : Nat) (io : AnnounceIo) (fields : List Nat) (s : State) : State :=
  match io with
  | .sent => if s.portUp p && s.isMaster p then s.ptpSend p 0x0B (s.dataSet.map Int.ofNat) else s
  | .heard domain =>
    let x := s.port p
    if s.ptpHeard p domain ∧ (x.announce.isEmpty ∨ x.announce.getD 7 0 = fields.getD 7 0 ∨ betterMaster fields x.announce) then
      (s.modPort p (fun x => { x with announce := fields, annAt := some s.clock.up })).masterJudged
    else s

/-! ## Loss of the source (R368) -/

/-- The announce receipt timeout in ns (R381). -/
def annTimeout (c : Sec) : Nat :=
  let i := tmLogAnnounce c
  tmAnnTimeout c * (if 0 ≤ i then 1000000000 * 2 ^ i.toNat else 1000000000 / 2 ^ (-i).toNat)

/-- No Announce has come on a port for the timeout. -/
def State.masterGone (s : State) (p : Nat) : Bool := (s.port p).annAt.any (fun t => s.since t (annTimeout s.tsec))

/-- A port forgets its master once no Announce has come for the timeout. -/
def State.forgetMaster (p : Nat) (s : State) : State :=
  if s.masterGone p then s.modPort p (fun x => { x with announce := [], annAt := none }) else s

/-- The phase source is judged lost: no master, no link on the PTP port, or no PPS_IN edge for 1.5 s (R368). -/
def State.announceTimeout (s : State) : State :=
  if !s.mainOn then s
  else if tmPhaseSrc s.tsec = 2 then
    if s.time.ppsAt.any (fun t => s.since t 1500000000) then s.servoLost else s
  else
    let s := if tmPhaseSrc s.tsec = 1 ∧ s.parentPort.all s.masterGone then s.servoLost else s
    ((s.forgetMaster 0).forgetMaster 1).masterJudged

/-- An Ethernet port gains or loses its link, with D11 on (R365, R479); a source on it, or on the ordinary clock's port, is lost with it
(R368). -/
def State.ethernetLink (p : Nat) (up : Bool) (s : State) : State :=
  if !(s.powered 11) then s else
  let source : Bool := s.parentPort == some p || (!(tmBoundary s.tsec) && s.time.ptpPort == p)
  let s := s.modPort p (fun x => if up then { x with link := true } else { link := false })
  let s := s.modTime (fun t => { t with ptpPort := if t.port0.link || !t.port1.link then 0 else 1 })
  (if tmPhaseSrc s.tsec = 1 ∧ !up ∧ source then s.servoLost else s).masterJudged

/-- An ARP request or an ICMP echo on a port's address is answered (R365): Ethertype 0x0806, or protocol 1. -/
def State.ipAnswer (p kind addr : Nat) (s : State) : State :=
  if s.portUp p ∧ addr = tmIpv4 s.tsec p ∧ addr ≠ 0 then s.send (.eth p kind [addr]) else s

/-! ## Real-time clock, PPS and 10 MHz (R364, R378 to R380) -/

/-- Press time is copied into the real-time clock (R364). -/
def State.rtcCopy (s : State) : State :=
  if s.mainOn ∧ s.time.valid then { s with clock := { s.clock with rtc := s.clock.press } } else s

/-- A press time folded about the nearest whole second (R379). -/
def foldSecond (t : Nat) : Int := ((t + 500000000) % 1000000000 : Nat) - 500000000

/-- A PPS_IN rising edge: PPS_ERR, a servo sample with PHASE_SRC 2, a record with PPS_MODE 1 (R379); with neither it is not evaluated
(R482). -/
def State.ppsIn (s : State) : State :=
  if !(s.powered 11) ∨ (tmPhaseSrc s.tsec ≠ 2 ∧ !(tmPpsMonitor s.tsec)) then s
  else
    let e := foldSecond s.now
    let s := s.modTime (fun t => { t with ppsErr := e, ppsAt := some s.clock.up })
    if tmPhaseSrc s.tsec = 2 then
      let s := if s.time.servo = .free then s.servoTo .acquiring 0 else s
      s.servoSample e 0
    else if tmPpsMonitor s.tsec ∧ tmPpsErrLim s.tsec < e.natAbs ∧ !(s.time.ppsRep.any (fun t => !(s.since t 1000000000))) then
      (s.modTime (fun t => { t with ppsRep := some s.clock.up })).emit srcTime 0x1606 0 [e]
    else s

/-- PPS_OUT rises at a whole second of press time, and falls PPS_OUT_MS later (R378). -/
def State.ppsOut (s : State) : State :=
  let at_ := s.now % 1000000000
  if s.powered 11 ∧ s.time.valid ∧ at_ = 0 then (s.modTime (fun t => { t with ppsOut := true })).send (.pin 20 true)
  else if s.time.ppsOut ∧ (!s.time.valid ∨ 1000000 * tmPpsOutMs s.tsec ≤ at_) then
    (s.modTime (fun t => { t with ppsOut := false })).send (.pin 20 false)
  else s

/-- CLK_IN10M is lost or restored (R380). -/
def State.ref10 (ok : Bool) (s : State) : State :=
  if !(s.powered 11) ∨ !(tmFreqSrc s.tsec) ∨ s.time.ref10 = ok then s
  else (s.modTime (fun t => { t with ref10 := ok })).timeRecord 0x1605 0 [bit ok]

/-! ## Periodic camera pulses (R377) -/

/-- Whether the periodic pulse of trigger `k` is due: a course that is a multiple of CAM_PERIOD has just been passed, for the first time,
or press time is a multiple of CAM_PERIOD. -/
def State.camDue (s : State) (k course : Nat) : Bool :=
  let n := tmCamPeriod s.tsec k
  match tmCamMode s.tsec k with
  | 1 => course % n == 0 && s.passedNow (s.xAt course) && !(s.passedNow (s.xAt (course + n : Nat))) &&
      !((assoc k s.time.camLast).any (course ≤ ·))
  | 2 => s.now % n == 0
  | _ => false

/-- A periodic camera pulse (R377). -/
def State.camPulse (k course : Nat) (s : State) : State :=
  if !(s.powered 11) ∨ s.ident.opState = .boot ∨ !(s.camDue k course) then s
  else
    let s := if tmCamMode s.tsec k = 1 then s.modTime (fun t => { t with camLast := assocSet k course t.camLast }) else s
    ({ s with acts := { s.acts with pulses := s.acts.pulses ++ [(16 + k, s.clock.up + 10 * tmCamW s.tsec k)] } }).send (s.camPin k true)

end Sys2Proof.Machine
end

