-- ==== Sys2Proof/Machine/Perform.lean ====
section
/-! DEFINITION. The one form of every command: time passes, the command acts, and the mailbox commands that wait then run. -/

namespace Sys2Proof.Machine

open Sys2Proof

/-- The units that begin on the Ndeig lines, of the module and of the nodes, at or before a line time (R276). -/
def State.linesBegin (limit : Nat) (s : State) : State := (s.lanesBegin limit).nodesBegin limit

/-- Time passes: the counts of ENC_OUT and the units whose turn came before its end are on their lines (R232, R276). -/
def State.passes (dt : Nat) (s : State) : State :=
  let s := (s.advance dt).encDrain
  s.linesBegin (s.line15 - 1)

/-- Time passes up to a command, and with it the reset that SYS.RESET has left due (R456). -/
def State.opens (dt : Nat) (s : State) : State :=
  match s.power.resetDue with
  | none => s.passes dt
  | some (t, cold) =>
    if s.clock.up + dt < t then s.passes dt
    else
      let s' := s.passes (t - s.clock.up)
      (if cold then s'.coldReset else s'.reboot).passes (s.clock.up + dt - t)

/-- The Plinth takes the request that waits for the other bus's (R429), and what is due leaves on the Tie, on the Buttress links and on
lines that are free (R29, R276, R327). -/
def State.sends (s : State) : State :=
  let s := s.zNext.tieFlush.buttFlush
  s.linesBegin s.line15

/-- What follows a command at once: every mailbox channel runs the commands that its running command no longer holds up (R50, log
entry 14), and what is due is sent. -/
def State.closes (s : State) : State := s.settle.sends

/-- A command: `dt` ns pass, it acts, and what follows at once happens. One that nothing can carry (`ok` false) does not reach the
module and does nothing. The queue of waiting commands is the caller's. -/
def perform (ok : Bool) (dt : Nat) (f : State → State) (s : State) : Host.Outcome State Fault Refusal :=
  .next (if ok then { (f (s.opens dt)).closes with pending := s.pending } else s)

/-- What the main domains do; nothing while they are off (R446). -/
def State.whenOn (f : State → State) (s : State) : State := if s.mainOn then f s else s

/-- What a unit of a domain does; nothing while the domain has no supply (R446). -/
def State.whenPowered (d : Nat) (f : State → State) (s : State) : State := if s.powered d then f s else s

/-- What a host access to a function does; nothing while its BAR0 is not usable (R455). -/
def State.whenReach (fn : Nat) (f : State → State) (s : State) : State := if s.reachable fn then f s else s

/-- The link of a function goes down with its reset, unless the reset leaves it (R453, R472). -/
def State.linkDown1 (fn : Nat) (down : Bool) (s : State) : State :=
  if down then s.setFn fn { s.fn fn with link := { (s.fn fn).link with up := false } } else s

/-- A function has trained its link (R455, R472). -/
def State.linkTrained (fn : Nat) (l : Link) (s : State) : State := s.setFn fn { s.fn fn with link := l }

/-- REJECT takes the level that the rejected sheets at the gate ask for (R270). -/
def State.rejectEdge (s : State) : State :=
  let on := s.rejectLevel
  if s.lintel.rejectOn = on then s else (s.modLintel (fun x => { x with rejectOn := on })).send (.pin 14 on)

/-- What an encoder input samples (R213, R218). -/
def State.encoderIn (enc : Nat) (i : EncIn) (s : State) : State :=
  match i with
  | .lines p => s.linesIn enc p
  | .adc a b => s.adcIn enc (a, b)

end Sys2Proof.Machine
end

