-- ==== Sys2Proof/Machine/RowsButtress.lean ====
section
/-! DEFINITION. The pair and gang commands: what each does. -/

namespace Sys2Proof.Machine

open Sys2Proof

/-- BEAT (R331). -/
def execBeat (dt : Nat) (side : Nat) (role : Nat) (op : Nat) (phase : Nat) (unit : BeatIn) (s : State) : Host.Outcome State Fault Refusal :=
  perform (side < 2 && role < 4 && op < 8 && phase < 8 && unit.lane < 4) dt (fun s => s.whenOn (fun s => s.beat side role op phase unit)) s

/-- BEAT_SEND (R327). -/
def execBeatSend (dt : Nat) (side : Nat) (s : State) : Host.Outcome State Fault Refusal :=
  perform (side < 2) dt (fun s => s.whenOn (fun s => s.beatSend side)) s

/-- BUTTRESS_LINK_DOWN (R326). -/
def execButtressLinkDown (dt : Nat) (side : Nat) (lanes : Nat) (s : State) : Host.Outcome State Fault Refusal :=
  perform (side < 2 && lanes < 16) dt (fun s => s.whenOn (fun s => s.linkDown side lanes)) s

/-- BUTTRESS_LINK_UP (R326). -/
def execButtressLinkUp (dt : Nat) (side : Nat) (lanes : Nat) (s : State) : Host.Outcome State Fault Refusal :=
  perform (side < 2 && lanes < 16) dt (fun s => s.whenOn (fun s => s.linkUp side lanes)) s

/-- MIRROR (R334). -/
def execMirror (dt : Nat) (lift : Nat) (item : Nat) (off : Nat) (bytes : List Nat) (s : State) : Host.Outcome State Fault Refusal :=
  perform (bytesOk bytes) dt (fun s => s.whenOn (fun s => s.mirrorUnit lift item off bytes)) s

/-- EPOCH_END (R334). -/
def execEpochEnd (dt : Nat) (lift : Nat) (units : Nat) (ecrc : Nat) (s : State) : Host.Outcome State Fault Refusal :=
  perform (units < 65536 && ecrc < 2 ^ 32) dt (fun s => s.whenOn (fun s => s.epochEnd lift units ecrc)) s

/-- PROGRESS (R328). -/
def execProgress (dt : Nat) (course : Nat) (s : State) : Host.Outcome State Fault Refusal :=
  perform true dt (fun s => s.whenOn (fun s => s.progressUnit course)) s

/-- HANDOVER (R340). -/
def execHandover (dt : Nat) (fDone : Nat) (oneMore : Bool) (cause : Nat) (s : State) : Host.Outcome State Fault Refusal :=
  perform (cause < 32) dt (fun s => s.whenOn (fun s => s.handoverUnit fDone oneMore cause)) s

/-- MSG (R332). -/
def execMsg (dt : Nat) (side : Nat) (unit : BMsg) (s : State) : Host.Outcome State Fault Refusal :=
  perform (side < 2) dt (fun s => s.whenOn (fun s => s.msg side unit)) s

/-- FORWARD_ACK_TIMEOUT (R332). -/
def execForwardAckTimeout (dt : Nat) (ch : Nat) (slot : Nat) (s : State) : Host.Outcome State Fault Refusal :=
  perform (ch < 4 && slot < 64) dt (fun s => s.whenOn (fun s => s.ackTimeout ch slot)) s

/-- GSYNC (R356). -/
def execGsync (dt : Nat) (side : Nat) (unit : GMsg) (s : State) : Host.Outcome State Fault Refusal :=
  perform (side < 2) dt (fun s => s.whenOn (fun s => s.gsync side unit)) s

/-- GTIME (R358). -/
def execGtime (dt : Nat) (side : Nat) (request : Bool) (echo : GEcho) (s : State) : Host.Outcome State Fault Refusal :=
  perform (side < 2) dt (fun s => s.whenOn (fun s => s.gtime side request echo)) s

/-- GSEAM (R355). -/
def execGseam (dt : Nat) (side : Nat) (course : Nat) (levels : List Nat) (crc : Option Nat) (s : State) : Host.Outcome State Fault Refusal :=
  perform (side < 2) dt (fun s => s.whenOn (fun s => s.gseam side course levels crc)) s

/-- OFFSET_MEASURE (R358). -/
def execOffsetMeasure (dt : Nat) (s : State) : Host.Outcome State Fault Refusal :=
  perform true dt (fun s => s.whenOn (fun s => s.offsetMeasure)) s

/-- PAIR_FORMATION (R330). -/
def execPairFormation (dt : Nat) (digest : Nat) (fw : Nat) (offset : Int) (prefer : Bool) (s : State) : Host.Outcome State Fault Refusal :=
  perform (digest < 2 ^ 64 && fw < 2 ^ 32) dt (fun s => s.whenOn (fun s => ((s.partnerTold { digest, fw, offset, prefer }).formPair digest fw offset prefer).1)) s

/-- RESYNC (R337). -/
def execResync (dt : Nat) (s : State) : Host.Outcome State Fault Refusal :=
  perform true dt (fun s => s.whenOn (fun s => s.resync)) s

/-- TAKEOVER (R338). -/
def execTakeover (dt : Nat) (s : State) : Host.Outcome State Fault Refusal :=
  perform true dt (fun s => s.whenOn (fun s => s.takeover)) s

/-- ACQUIRE_TIMEOUT (R341). -/
def execAcquireTimeout (dt : Nat) (s : State) : Host.Outcome State Fault Refusal :=
  perform true dt (fun s => s.whenOn (fun s => s.acquireTimeout)) s

/-- SWAP_AT_READY (R345). -/
def execSwapAtReady (dt : Nat) (s : State) : Host.Outcome State Fault Refusal :=
  perform true dt (fun s => s.whenOn (fun s => s.swapWhenReady)) s

/-- AUTO_SWAP (R347). -/
def execAutoSwap (dt : Nat) (s : State) : Host.Outcome State Fault Refusal :=
  perform true dt (fun s => s.whenOn (fun s => s.autoSwap)) s

/-- SINCE_SWAP_TICK (R347). -/
def execSinceSwapTick (dt : Nat) (s : State) : Host.Outcome State Fault Refusal :=
  perform true dt (fun s => s.whenOn (fun s => s.sinceSwapTick)) s

/-- HEARTBEAT_SEND (R360). -/
def execHeartbeatSend (dt : Nat) (s : State) : Host.Outcome State Fault Refusal :=
  perform true dt (fun s => s.heartbeatSend) s

/-- HEARTBEAT_DATAGRAM (R360). -/
def execHeartbeatDatagram (dt : Nat) (member : Nat) (fields : List Nat) (s : State) : Host.Outcome State Fault Refusal :=
  perform (member < 4) dt (fun s => s.heartbeatIn member fields) s

/-- HB_OK_TIMEOUT (R360). -/
def execHbOkTimeout (dt : Nat) (s : State) : Host.Outcome State Fault Refusal :=
  perform true dt (fun s => s.whenOn (fun s => s.hbTimeout)) s

end Sys2Proof.Machine
end

