-- ==== Sys2Proof/Machine/RowsDma.lean ====
section
/-! DEFINITION. The DMA and module memory commands: what each does. -/

namespace Sys2Proof.Machine

open Sys2Proof

/-- RING_BASE_WRITE (R82). -/
def execRingBaseWrite (dt : Nat) (fn : Nat) (ch : Nat) (value : Nat) (s : State) : Host.Outcome State Fault Refusal :=
  perform (fn < 2 && ch < 16 && value < 2 ^ 64) dt (fun s => if ch < 14 then s.whenReach fn (fun s => s.ringBaseWrite fn ch value) else s) s

/-- ENABLE (R83). -/
def execEnable (dt : Nat) (fn : Nat) (ch : Nat) (host : List (Nat × List Nat)) (s : State) : Host.Outcome State Fault Refusal :=
  perform (fn < 2 && ch < 16 && hostOk host) dt (fun s => if ch < 14 then s.whenReach fn (fun s => (s.hostLoad host).chanEnable fn ch) else s) s

/-- ABORT (R100). -/
def execAbort (dt : Nat) (fn : Nat) (ch : Nat) (s : State) : Host.Outcome State Fault Refusal :=
  perform (fn < 2 && ch < 16) dt (fun s => if ch < 14 then s.whenReach fn (fun s => s.chanAbort fn ch false) else s) s

/-- DISABLE (R101). -/
def execDisable (dt : Nat) (fn : Nat) (ch : Nat) (s : State) : Host.Outcome State Fault Refusal :=
  perform (fn < 2 && ch < 16) dt (fun s => if ch < 14 then s.whenReach fn (fun s => s.chanDisable fn ch) else s) s

/-- TAIL_WRITE (R84). -/
def execTailWrite (dt : Nat) (fn : Nat) (ch : Nat) (value : Nat) (host : List (Nat × List Nat)) (s : State) : Host.Outcome State Fault Refusal :=
  perform (fn < 2 && ch < 16 && value < 2 ^ 32 && hostOk host) dt (fun s => if ch < 14 then s.whenReach fn (fun s => (s.hostLoad host).tailWrite fn ch value) else s) s

/-- SOURCE_DESTINATION_FREE (R94). -/
def execSourceDestinationFree (dt : Nat) (fn : Nat) (s : State) : Host.Outcome State Fault Refusal :=
  perform (fn < 2) dt (fun s => s.whenOn (fun s => s.pump fn)) s

/-- READ_COMPLETION (R90). -/
def execReadCompletion (dt : Nat) (fn : Nat) (ch : Nat) (k : Nat) (err : Nat) (beat : Bool) (host : List (Nat × List Nat)) (runMin : Nat) (s : State) : Host.Outcome State Fault Refusal :=
  perform (fn < 2 && ch < 16 && err < 3 && hostOk host) dt (fun s => s.whenOn (fun s => State.complete fn ch k err beat runMin (s.hostLoad host))) s

/-- COMPLETION_TIMEOUT (R97). -/
def execCompletionTimeout (dt : Nat) (fn : Nat) (ch : Nat) (k : Nat) (s : State) : Host.Outcome State Fault Refusal :=
  perform (fn < 2 && ch < 16) dt (fun s => s.whenOn (fun s => s.complete fn ch k 3 false 1)) s

/-- ADMISSION_END (R116). -/
def execAdmissionEnd (dt : Nat) (fn : Nat) (ch : Nat) (s : State) : Host.Outcome State Fault Refusal :=
  perform (fn < 2 && ch < 16) dt (fun s => s.whenOn (fun s => (s.admission fn ch).pump fn)) s

/-- DESCRIPTOR_END (R96). -/
def execDescriptorEnd (dt : Nat) (fn : Nat) (ch : Nat) (s : State) : Host.Outcome State Fault Refusal :=
  perform (fn < 2 && ch < 16) dt (fun s => s.whenOn (fun s => let r := s.endDesc fn ch; if r.2 then r.1.starvation else r.1)) s

/-- COMPRESSION_RESUME (R123). -/
def execCompressionResume (dt : Nat) (job : Nat) (s : State) : Host.Outcome State Fault Refusal :=
  perform (job < 256) dt (fun s => s.whenOn (fun s => s.compressResume job)) s

/-- STRIP_PIPELINE_DECODE (R119). -/
def execStripPipelineDecode (dt : Nat) (w : Nat) (memErr : Bool) (pieces : List (List Nat)) (s : State) : Host.Outcome State Fault Refusal :=
  perform (w < 2 && pieces.all bytesOk) dt (fun s => s.pipelineDecode w memErr pieces) s

/-- MEMORY_ERROR (R125). -/
def execMemoryError (dt : Nat) (w : Nat) (target : Nat) (addr : Nat) (item : MemUse) (s : State) : Host.Outcome State Fault Refusal :=
  perform (w < 2 && target < 3) dt (fun s => s.memoryError w target addr item) s

/-- SCRUB_REPORT (R124). -/
def execScrubReport (dt : Nat) (unit : Nat) (words : List (Nat × Nat × MemUse)) (s : State) : Host.Outcome State Fault Refusal :=
  perform (unit < 6 && words.all (fun p => p.1 < (if unit % 3 = 2 then 12582912 else 1073741824) && p.2.1 < 2 ^ 144)) dt (fun s => s.scrubReport unit words) s

end Sys2Proof.Machine
end

