-- ==== Sys2Proof/Machine/RowsHost.lean ====
section
/-! DEFINITION. The host register, interrupt and BAR2 commands: what each does. -/

namespace Sys2Proof.Machine

open Sys2Proof

/-- REGISTER_WRITE (R12). -/
def execRegisterWrite (dt : Nat) (fn : Nat) (off : Nat) (bytes : List Nat) (s : State) : Host.Outcome State Fault Refusal :=
  perform (fn < 2 && off % 4096 + bytes.length ≤ 4096 && off < 1048576 && bytesOk bytes) dt (fun s => s.registerWrite fn off bytes) s

/-- RESPONSE_READ (R53). -/
def execResponseRead (dt : Nat) (ch : Nat) (slot : Nat) (off : Nat) (n : Nat) (s : State) : Host.Outcome State Fault Refusal :=
  perform (ch < 4 && slot < 64 && decide (off + n ≤ 64)) dt (fun s => s.responseRead ch slot off n) s

/-- INT_CAUSE_CLEAR (R45). -/
def execIntCauseClear (dt : Nat) (fn : Nat) (clear : Nat) (again : Nat) (s : State) : Host.Outcome State Fault Refusal :=
  perform (fn < 2 && clear < 2 ^ 64 && again < 2 ^ 28) dt (fun s => s.intCauseClear fn clear again) s

/-- INT_ENABLE_WRITE (R45). -/
def execIntEnableWrite (dt : Nat) (fn : Nat) (value : Nat) (s : State) : Host.Outcome State Fault Refusal :=
  perform (fn < 2 && value < 2 ^ 64) dt (fun s => s.intEnable fn value) s

/-- OVERFLOW_CLEAR (R41). -/
def execOverflowClear (dt : Nat) (s : State) : Host.Outcome State Fault Refusal :=
  perform true dt (fun s => s.overflowClear) s

/-- EVENT_RING_WRITE (R58). -/
def execEventRingWrite (dt : Nat) (s : State) : Host.Outcome State Fault Refusal :=
  perform true dt (fun s => s.whenOn (fun s => s.ringWrite)) s

/-- BAR2_READ (R105). -/
def execBar2Read (dt : Nat) (fn : Nat) (off : Nat) (n : Nat) (s : State) : Host.Outcome State Fault Refusal :=
  perform (fn < 2 && decide (off + n ≤ 2 ^ 28) && n ≤ 4096) dt (fun s => s.bar2Host fn off n) s

/-- BAR2_WRITE (R105). -/
def execBar2Write (dt : Nat) (fn : Nat) (off : Nat) (bytes : List Nat) (s : State) : Host.Outcome State Fault Refusal :=
  perform (fn < 2 && decide (off + bytes.length ≤ 2 ^ 28) && bytesOk bytes) dt (fun s => s.whenReach fn (fun s => s.bar2Write fn off bytes)) s

/-- BAR2_DROPPED_READ (R105). -/
def execBar2DroppedRead (dt : Nat) (fn : Nat) (s : State) : Host.Outcome State Fault Refusal :=
  perform (fn < 2) dt (fun s => s.droppedRead fn) s

/-- SNAP_REQ (R382). -/
def execSnapReq (dt : Nat) (fn : Nat) (s : State) : Host.Outcome State Fault Refusal :=
  perform (fn < 2) dt (fun s => s.snapshot fn) s

/-- TIME_NOW_LOW_READ (R382). -/
def execTimeNowLowRead (dt : Nat) (rd : TimeRead × Nat) (s : State) : Host.Outcome State Fault Refusal :=
  perform (rd.2 < 2) dt (fun s => s.timeNowRead rd.1 rd.2) s

/-- ALIVE_TICK (R41). -/
def execAliveTick (dt : Nat) (s : State) : Host.Outcome State Fault Refusal :=
  perform true dt (fun s => s.aliveTick) s

end Sys2Proof.Machine
end

