-- ==== Sys2Proof/Machine/RowsLamps.lean ====
section
/-! DEFINITION. The lamp chain and indicator matrix commands: what each does. -/

namespace Sys2Proof.Machine

open Sys2Proof

/-- CHAIN_FRAME_START (R385). -/
def execChainFrameStart (dt : Nat) (s : State) : Host.Outcome State Fault Refusal :=
  perform true dt (fun s => s.nextFrame) s

/-- CHAIN_RETURN_END (R394). -/
def execChainReturnEnd (dt : Nat) (chain : Nat) (words : List (Option Nat)) (ended : Nat) (s : State) : Host.Outcome State Fault Refusal :=
  perform (chain < 4 && words.length ≤ 64) dt (fun s => if s.corbelOn then s.chainReturn chain words ended else s) s

/-- CHAIN_REST_FRAME (R392). -/
def execChainRestFrame (dt : Nat) (s : State) : Host.Outcome State Fault Refusal :=
  perform true dt (fun s => s.restFrame) s

/-- DRIVER_LATCH (R387). -/
def execDriverLatch (dt : Nat) (driver : Nat) (inp : ChainIn) (s : State) : Host.Outcome State Fault Refusal :=
  perform (driver < 256 && inp.highs.length ≤ 32768 && inp.st.length == 16 && inp.st.all (· < 3) && inp.temp < 256) dt (fun s => s.driverLatch driver inp) s

/-- DRIVER_SHARE_TIMEOUT (R387). -/
def execDriverShareTimeout (dt : Nat) (driver : Nat) (s : State) : Host.Outcome State Fault Refusal :=
  perform (driver < 256) dt (fun s => s.driverTimeout driver) s

/-- MATRIX_ROW_SLOT (R400). -/
def execMatrixRowSlot (dt : Nat) (ohm : Nat) (ua : List Nat) (s : State) : Host.Outcome State Fault Refusal :=
  perform (ua.length == 16) dt (fun s => s.matrixSlot ohm ua) s

/-- ROW_OVERCURRENT (R401). -/
def execRowOvercurrent (dt : Nat) (sw : RowIn) (s : State) : Host.Outcome State Fault Refusal :=
  perform (sw.row < 16) dt (fun s => s.rowOvercurrent sw.row sw.ma) s

end Sys2Proof.Machine
end

