-- ==== Sys2Proof/Machine/RowsLanes.lean ====
section
/-! DEFINITION. The Ndeig lane commands: what each does. -/

namespace Sys2Proof.Machine

open Sys2Proof

/-- LANE_RX_ALIGNED (R302). -/
def execLaneRxAligned (dt : Nat) (l : Nat) (s : State) : Host.Outcome State Fault Refusal :=
  perform (l < 80) dt (fun s => s.whenOn (fun s => s.rxAligned l)) s

/-- LANE_RX_UNALIGNED (R281). -/
def execLaneRxUnaligned (dt : Nat) (l : Nat) (s : State) : Host.Outcome State Fault Refusal :=
  perform (l < 80) dt (fun s => s.whenOn (fun s => s.rxUnaligned l)) s

/-- HELLO (R302). -/
def execHello (dt : Nat) (l : Nat) (len : Nat) (bits : Nat) (s : State) : Host.Outcome State Fault Refusal :=
  perform (l < 80 && len ≤ 65536 && bits < 2 ^ len) dt (fun s => s.whenOn (fun s => s.helloUnit l len bits)) s

/-- IDENT_TIMEOUT (R302). -/
def execIdentTimeout (dt : Nat) (l : Nat) (s : State) : Host.Outcome State Fault Refusal :=
  perform (l < 80) dt (fun s => s.whenOn (fun s => s.identTimeout l)) s

/-- ECHO_REPLY (R291). -/
def execEchoReply (dt : Nat) (l : Nat) (len : Nat) (bits : Nat) (rtt : Nat) (s : State) : Host.Outcome State Fault Refusal :=
  perform (l < 80 && len ≤ 65536 && bits < 2 ^ len) dt (fun s => s.whenOn (fun s => s.echoReply l len bits rtt)) s

/-- DELAY_TIMEOUT (R302). -/
def execDelayTimeout (dt : Nat) (l : Nat) (s : State) : Host.Outcome State Fault Refusal :=
  perform (l < 80) dt (fun s => s.whenOn (fun s => s.delayTimeout l)) s

/-- STATUS_UNIT (R299). -/
def execStatusUnit (dt : Nat) (l : Nat) (len : Nat) (bits : Nat) (s : State) : Host.Outcome State Fault Refusal :=
  perform (l < 80 && len ≤ 65536 && bits < 2 ^ len) dt (fun s => s.whenOn (fun s => s.statusUnit l len bits)) s

/-- TEMPS_UNIT (R301). -/
def execTempsUnit (dt : Nat) (l : Nat) (len : Nat) (bits : Nat) (s : State) : Host.Outcome State Fault Refusal :=
  perform (l < 80 && len ≤ 65536 && bits < 2 ^ len) dt (fun s => s.whenOn (fun s => s.tempsUnit l len bits)) s

/-- STATUS_TIMEOUT (R303). -/
def execStatusTimeout (dt : Nat) (l : Nat) (s : State) : Host.Outcome State Fault Refusal :=
  perform (l < 80) dt (fun s => s.whenOn (fun s => s.statusTimeout l)) s

/-- UNALIGNED_TIMEOUT (R303). -/
def execUnalignedTimeout (dt : Nat) (l : Nat) (s : State) : Host.Outcome State Fault Refusal :=
  perform (l < 80) dt (fun s => s.whenOn (fun s => s.unalignedTimeout l)) s

/-- LOST_TIMEOUT (R302). -/
def execLostTimeout (dt : Nat) (l : Nat) (s : State) : Host.Outcome State Fault Refusal :=
  perform (l < 80) dt (fun s => s.whenOn (fun s => s.lostTimeout l)) s

/-- DISCOVERY (R203). -/
def execDiscovery (dt : Nat) (s : State) : Host.Outcome State Fault Refusal :=
  perform true dt (fun s => s.whenOn (fun s => s.discovery)) s

/-- TIME_SEND (R290). -/
def execTimeSend (dt : Nat) (l : Nat) (s : State) : Host.Outcome State Fault Refusal :=
  perform (l < 80) dt (fun s => s.whenOn (fun s => s.timeSend l)) s

/-- ECHO_SEND (R291). -/
def execEchoSend (dt : Nat) (l : Nat) (s : State) : Host.Outcome State Fault Refusal :=
  perform (l < 80) dt (fun s => s.whenOn (fun s => s.echoSend l)) s

/-- DISCOVER_SEND (R302). -/
def execDiscoverSend (dt : Nat) (l : Nat) (s : State) : Host.Outcome State Fault Refusal :=
  perform (l < 80) dt (fun s => s.whenOn (fun s => s.discoverSend l)) s

/-- RENEW_SEND (R297). -/
def execRenewSend (dt : Nat) (id : Nat) (s : State) : Host.Outcome State Fault Refusal :=
  perform (id < 2 ^ 32) dt (fun s => s.whenOn (fun s => s.renewSend id)) s

/-- ACQUIRE_RETRY (R297). -/
def execAcquireRetry (dt : Nat) (id : Nat) (s : State) : Host.Outcome State Fault Refusal :=
  perform (id < 2 ^ 32) dt (fun s => s.whenOn (fun s => s.acquireRetry id)) s

/-- REST_SEND (R298). -/
def execRestSend (dt : Nat) (s : State) : Host.Outcome State Fault Refusal :=
  perform true dt (fun s => s.whenOn (fun s => s.restSend)) s

end Sys2Proof.Machine
end

