-- ==== Sys2Proof/Machine/RowsMailbox.lean ====
section
/-! DEFINITION. The mailbox verbs: what each does. -/

namespace Sys2Proof.Machine

open Sys2Proof

/-- SYS_INFO (R510). -/
def execSysInfo (dt : Nat) (m : Mbox) (s : State) : Host.Outcome State Fault Refusal :=
  perform (m.wf) dt (fun s => s.submit 0x0101 m) s

/-- SYS_PING (R55). -/
def execSysPing (dt : Nat) (m : Mbox) (s : State) : Host.Outcome State Fault Refusal :=
  perform (m.wf) dt (fun s => s.submit 0x0102 m) s

/-- SYS_EVENT_RING (R58). -/
def execSysEventRing (dt : Nat) (m : Mbox) (s : State) : Host.Outcome State Fault Refusal :=
  perform (m.wf) dt (fun s => s.submit 0x0103 m) s

/-- SYS_RESET_WARM (R456). -/
def execSysResetWarm (dt : Nat) (m : Mbox) (s : State) : Host.Outcome State Fault Refusal :=
  perform (m.wf && m.arg 8 != 1) dt (fun s => s.submit 0x0104 m) s

/-- SYS_RESET_COLD (R456). -/
def execSysResetCold (dt : Nat) (m : Mbox) (s : State) : Host.Outcome State Fault Refusal :=
  perform (m.wf && m.arg 8 == 1) dt (fun s => s.submit 0x0104 m) s

/-- STATE_ARM (R60). -/
def execStateArm (dt : Nat) (m : Mbox) (s : State) : Host.Outcome State Fault Refusal :=
  perform (m.wf) dt (fun s => s.submit 0x0201 m) s

/-- STATE_DISARM (R80). -/
def execStateDisarm (dt : Nat) (m : Mbox) (s : State) : Host.Outcome State Fault Refusal :=
  perform (m.wf) dt (fun s => s.submit 0x0202 m) s

/-- STATE_REST (R80). -/
def execStateRest (dt : Nat) (m : Mbox) (s : State) : Host.Outcome State Fault Refusal :=
  perform (m.wf) dt (fun s => s.submit 0x0203 m) s

/-- STATE_CLEAR (R319). -/
def execStateClear (dt : Nat) (m : Mbox) (s : State) : Host.Outcome State Fault Refusal :=
  perform (m.wf) dt (fun s => s.submit 0x0204 m) s

/-- CFG_STAGE (R62). -/
def execCfgStage (dt : Nat) (m : Mbox) (s : State) : Host.Outcome State Fault Refusal :=
  perform (m.wf) dt (fun s => s.submit 0x0301 m) s

/-- CFG_CHECK (R63). -/
def execCfgCheck (dt : Nat) (m : Mbox) (s : State) : Host.Outcome State Fault Refusal :=
  perform (m.wf) dt (fun s => s.submit 0x0302 m) s

/-- CFG_COMMIT (R64). -/
def execCfgCommit (dt : Nat) (m : Mbox) (s : State) : Host.Outcome State Fault Refusal :=
  perform (m.wf) dt (fun s => s.submit 0x0303 m) s

/-- CFG_CANCEL (R68). -/
def execCfgCancel (dt : Nat) (m : Mbox) (s : State) : Host.Outcome State Fault Refusal :=
  perform (m.wf) dt (fun s => s.submit 0x0304 m) s

/-- CFG_DISCARD (R69). -/
def execCfgDiscard (dt : Nat) (m : Mbox) (s : State) : Host.Outcome State Fault Refusal :=
  perform (m.wf) dt (fun s => s.submit 0x0305 m) s

/-- CFG_READ (R505). -/
def execCfgRead (dt : Nat) (m : Mbox) (s : State) : Host.Outcome State Fault Refusal :=
  perform (m.wf) dt (fun s => s.submit 0x0306 m) s

/-- JOB_OPEN (R73). -/
def execJobOpen (dt : Nat) (m : Mbox) (s : State) : Host.Outcome State Fault Refusal :=
  perform (m.wf) dt (fun s => s.submit 0x0401 m) s

/-- JOB_SUBMIT_ATTACH (R92). -/
def execJobSubmitAttach (dt : Nat) (m : Mbox) (s : State) : Host.Outcome State Fault Refusal :=
  perform (m.wf && m.arg 9 != 2 && m.arg 9 != 3) dt (fun s => s.submit 0x0402 m) s

/-- JOB_SUBMIT_DETACH (R92). -/
def execJobSubmitDetach (dt : Nat) (m : Mbox) (s : State) : Host.Outcome State Fault Refusal :=
  perform (m.wf && m.arg 9 == 2) dt (fun s => s.submit 0x0402 m) s

/-- JOB_SUBMIT_END (R92). -/
def execJobSubmitEnd (dt : Nat) (m : Mbox) (s : State) : Host.Outcome State Fault Refusal :=
  perform (m.wf && m.arg 9 == 3) dt (fun s => s.submit 0x0402 m) s

/-- JOB_START (R75). -/
def execJobStart (dt : Nat) (m : Mbox) (s : State) : Host.Outcome State Fault Refusal :=
  perform (m.wf) dt (fun s => s.submit 0x0403 m) s

/-- JOB_PAUSE (R76). -/
def execJobPause (dt : Nat) (m : Mbox) (s : State) : Host.Outcome State Fault Refusal :=
  perform (m.wf) dt (fun s => s.submit 0x0404 m) s

/-- JOB_CONTINUE (R76). -/
def execJobContinue (dt : Nat) (m : Mbox) (s : State) : Host.Outcome State Fault Refusal :=
  perform (m.wf) dt (fun s => s.submit 0x0405 m) s

/-- JOB_ABORT (R76). -/
def execJobAbort (dt : Nat) (m : Mbox) (s : State) : Host.Outcome State Fault Refusal :=
  perform (m.wf) dt (fun s => s.submit 0x0406 m) s

/-- JOB_CLOSE (R55). -/
def execJobClose (dt : Nat) (m : Mbox) (s : State) : Host.Outcome State Fault Refusal :=
  perform (m.wf) dt (fun s => s.submit 0x0407 m) s

/-- JOB_STATUS (R508). -/
def execJobStatus (dt : Nat) (m : Mbox) (s : State) : Host.Outcome State Fault Refusal :=
  perform (m.wf) dt (fun s => s.submit 0x0408 m) s

/-- EVT_AT_COURSE (R258). -/
def execEvtAtCourse (dt : Nat) (m : Mbox) (s : State) : Host.Outcome State Fault Refusal :=
  perform (m.wf) dt (fun s => s.submit 0x0501 m) s

/-- EVT_AT_TIME (R376). -/
def execEvtAtTime (dt : Nat) (m : Mbox) (s : State) : Host.Outcome State Fault Refusal :=
  perform (m.wf) dt (fun s => s.submit 0x0502 m) s

/-- EVT_CANCEL (R79). -/
def execEvtCancel (dt : Nat) (m : Mbox) (s : State) : Host.Outcome State Fault Refusal :=
  perform (m.wf) dt (fun s => s.submit 0x0503 m) s

/-- EVT_LIST (R509). -/
def execEvtList (dt : Nat) (m : Mbox) (s : State) : Host.Outcome State Fault Refusal :=
  perform (m.wf) dt (fun s => s.submit 0x0504 m) s

/-- DENS_UPDATE (R153). -/
def execDensUpdate (dt : Nat) (m : Mbox) (s : State) : Host.Outcome State Fault Refusal :=
  perform (m.wf) dt (fun s => s.submit 0x0601 m) s

/-- DENS_READ (R156). -/
def execDensRead (dt : Nat) (m : Mbox) (s : State) : Host.Outcome State Fault Refusal :=
  perform (m.wf) dt (fun s => s.submit 0x0602 m) s

/-- DENS_FREEZE (R157). -/
def execDensFreeze (dt : Nat) (m : Mbox) (s : State) : Host.Outcome State Fault Refusal :=
  perform (m.wf) dt (fun s => s.submit 0x0603 m) s

/-- NOZ_MAP (R196). -/
def execNozMap (dt : Nat) (m : Mbox) (s : State) : Host.Outcome State Fault Refusal :=
  perform (m.wf) dt (fun s => s.submit 0x0701 m) s

/-- NOZ_READ (R200). -/
def execNozRead (dt : Nat) (m : Mbox) (s : State) : Host.Outcome State Fault Refusal :=
  perform (m.wf) dt (fun s => s.submit 0x0702 m) s

/-- DISCOVER (R203). -/
def execDiscover (dt : Nat) (m : Mbox) (s : State) : Host.Outcome State Fault Refusal :=
  perform (m.wf && m.arg 8 != 1 && m.arg 8 != 2) dt (fun s => s.submit 0x0801 m) s

/-- READ_BOND (R202). -/
def execReadBond (dt : Nat) (m : Mbox) (s : State) : Host.Outcome State Fault Refusal :=
  perform (m.wf && m.arg 8 == 1) dt (fun s => s.submit 0x0801 m) s

/-- READ_NODES (R202). -/
def execReadNodes (dt : Nat) (m : Mbox) (s : State) : Host.Outcome State Fault Refusal :=
  perform (m.wf && m.arg 8 == 2) dt (fun s => s.submit 0x0801 m) s

/-- PAIR_SWAP (R346). -/
def execPairSwap (dt : Nat) (m : Mbox) (s : State) : Host.Outcome State Fault Refusal :=
  perform (m.wf) dt (fun s => s.submit 0x0901 m) s

/-- PAIR_JOIN (R348). -/
def execPairJoin (dt : Nat) (m : Mbox) (partner : PInfo) (s : State) : Host.Outcome State Fault Refusal :=
  perform (m.wf) dt (fun s => (s.modButt (fun b => { b with partnerInfo := partner })).submit 0x0902 m) s

/-- PAIR_LEAVE (R348). -/
def execPairLeave (dt : Nat) (m : Mbox) (s : State) : Host.Outcome State Fault Refusal :=
  perform (m.wf) dt (fun s => s.submit 0x0903 m) s

/-- PAIR_TAKE (R348). -/
def execPairTake (dt : Nat) (m : Mbox) (s : State) : Host.Outcome State Fault Refusal :=
  perform (m.wf) dt (fun s => s.submit 0x0904 m) s

/-- PAIR_INFO (R348). -/
def execPairInfo (dt : Nat) (m : Mbox) (s : State) : Host.Outcome State Fault Refusal :=
  perform (m.wf) dt (fun s => s.submit 0x0905 m) s

/-- GANG_FORM (R353). -/
def execGangForm (dt : Nat) (m : Mbox) (members : List GInfo) (s : State) : Host.Outcome State Fault Refusal :=
  perform (m.wf && members.length ≤ 3) dt (fun s => (s.modButt (fun b => { b with info := members })).submit 0x0A01 m) s

/-- GANG_DISSOLVE (R348). -/
def execGangDissolve (dt : Nat) (m : Mbox) (s : State) : Host.Outcome State Fault Refusal :=
  perform (m.wf) dt (fun s => s.submit 0x0A02 m) s

/-- GANG_INFO (R348). -/
def execGangInfo (dt : Nat) (m : Mbox) (s : State) : Host.Outcome State Fault Refusal :=
  perform (m.wf) dt (fun s => s.submit 0x0A03 m) s

/-- TIME_ACCEPT_STEP (R373). -/
def execTimeAcceptStep (dt : Nat) (m : Mbox) (s : State) : Host.Outcome State Fault Refusal :=
  perform (m.wf) dt (fun s => s.submit 0x0B01 m) s

/-- TIME_SET (R374). -/
def execTimeSet (dt : Nat) (m : Mbox) (s : State) : Host.Outcome State Fault Refusal :=
  perform (m.wf) dt (fun s => s.submit 0x0B02 m) s

/-- TIME_STATUS (R375). -/
def execTimeStatus (dt : Nat) (m : Mbox) (s : State) : Host.Outcome State Fault Refusal :=
  perform (m.wf) dt (fun s => s.submit 0x0B03 m) s

/-- LAMP_SET (R397). -/
def execLampSet (dt : Nat) (m : Mbox) (s : State) : Host.Outcome State Fault Refusal :=
  perform (m.wf) dt (fun s => s.submit 0x0C01 m) s

/-- LAMP_READ (R398). -/
def execLampRead (dt : Nat) (m : Mbox) (s : State) : Host.Outcome State Fault Refusal :=
  perform (m.wf) dt (fun s => s.submit 0x0C02 m) s

/-- LAMP_CLEAR_SHORT (R397). -/
def execLampClearShort (dt : Nat) (m : Mbox) (s : State) : Host.Outcome State Fault Refusal :=
  perform (m.wf && m.arg 8 != 1) dt (fun s => s.submit 0x0C03 m) s

/-- LAMP_CLEAR_PINS (R403). -/
def execLampClearPins (dt : Nat) (m : Mbox) (s : State) : Host.Outcome State Fault Refusal :=
  perform (m.wf && m.arg 8 == 1) dt (fun s => s.submit 0x0C03 m) s

/-- PANEL_SET (R402). -/
def execPanelSet (dt : Nat) (m : Mbox) (s : State) : Host.Outcome State Fault Refusal :=
  perform (m.wf) dt (fun s => s.submit 0x0C04 m) s

/-- COPING_READ (R423). -/
def execCopingRead (dt : Nat) (m : Mbox) (s : State) : Host.Outcome State Fault Refusal :=
  perform (m.wf) dt (fun s => s.submit 0x0D01 m) s

/-- COPING_CAL (R423). -/
def execCopingCal (dt : Nat) (m : Mbox) (s : State) : Host.Outcome State Fault Refusal :=
  perform (m.wf) dt (fun s => s.submit 0x0D02 m) s

/-- PLINTH_LOG_READ (R444). -/
def execPlinthLogRead (dt : Nat) (m : Mbox) (s : State) : Host.Outcome State Fault Refusal :=
  perform (m.wf) dt (fun s => s.submit 0x0E01 m) s

/-- PLINTH_FW (R444). -/
def execPlinthFw (dt : Nat) (m : Mbox) (s : State) : Host.Outcome State Fault Refusal :=
  perform (m.wf) dt (fun s => s.submit 0x0E02 m) s

/-- PLINTH_FW_SELECT (R444). -/
def execPlinthFwSelect (dt : Nat) (m : Mbox) (s : State) : Host.Outcome State Fault Refusal :=
  perform (m.wf) dt (fun s => s.submit 0x0E03 m) s

/-- UNKNOWN_VERB (R56). -/
def execUnknownVerb (dt : Nat) (verb : Nat) (m : Mbox) (s : State) : Host.Outcome State Fault Refusal :=
  perform (m.wf && verb < 65536 && !(verbTable.contains verb)) dt (fun s => s.submit verb m) s

end Sys2Proof.Machine
end

