-- ==== Sys2Proof/Machine/RowsNodes.lean ====
section
/-! DEFINITION. The head node commands: what each does. -/

namespace Sys2Proof.Machine

open Sys2Proof

/-- NODE_FRAME (R286). -/
def execNodeFrame (dt : Nat) (id : Nat) (port : Nat) (k : Nat) (len : Nat) (bits : Nat) (s : State) : Host.Outcome State Fault Refusal :=
  perform (port < 2 && k < 4 && len ≤ 65536 && bits < 2 ^ len) dt (fun s => s.nodeFrame id port k len bits) s

/-- NODE_RENEW (R294). -/
def execNodeRenew (dt : Nat) (id : Nat) (port : Nat) (k : Nat) (len : Nat) (bits : Nat) (s : State) : Host.Outcome State Fault Refusal :=
  perform (port < 2 && k < 4 && len ≤ 65536 && bits < 2 ^ len) dt (fun s => s.nodeLease 0 id port k len bits) s

/-- NODE_ACQUIRE (R295). -/
def execNodeAcquire (dt : Nat) (id : Nat) (port : Nat) (k : Nat) (len : Nat) (bits : Nat) (s : State) : Host.Outcome State Fault Refusal :=
  perform (port < 2 && k < 4 && len ≤ 65536 && bits < 2 ^ len) dt (fun s => s.nodeAcquire id port k len bits) s

/-- NODE_RELEASE (R295). -/
def execNodeRelease (dt : Nat) (id : Nat) (port : Nat) (k : Nat) (len : Nat) (bits : Nat) (s : State) : Host.Outcome State Fault Refusal :=
  perform (port < 2 && k < 4 && len ≤ 65536 && bits < 2 ^ len) dt (fun s => s.nodeLease 2 id port k len bits) s

/-- NODE_REST (R296). -/
def execNodeRest (dt : Nat) (id : Nat) (port : Nat) (k : Nat) (len : Nat) (bits : Nat) (s : State) : Host.Outcome State Fault Refusal :=
  perform (port < 2 && k < 4 && len ≤ 65536 && bits < 2 ^ len) dt (fun s => s.nodeLease 3 id port k len bits) s

/-- NODE_CANCEL (R296). -/
def execNodeCancel (dt : Nat) (id : Nat) (port : Nat) (k : Nat) (len : Nat) (bits : Nat) (s : State) : Host.Outcome State Fault Refusal :=
  perform (port < 2 && k < 4 && len ≤ 65536 && bits < 2 ^ len) dt (fun s => s.nodeLease 4 id port k len bits) s

/-- NODE_CONFIG (R305). -/
def execNodeConfig (dt : Nat) (id : Nat) (port : Nat) (k : Nat) (len : Nat) (bits : Nat) (s : State) : Host.Outcome State Fault Refusal :=
  perform (port < 2 && k < 4 && len ≤ 65536 && bits < 2 ^ len) dt (fun s => s.nodeConfig id port k len bits) s

/-- NODE_TIME (R290). -/
def execNodeTime (dt : Nat) (id : Nat) (port : Nat) (k : Nat) (len : Nat) (bits : Nat) (s : State) : Host.Outcome State Fault Refusal :=
  perform (port < 2 && k < 4 && len ≤ 65536 && bits < 2 ^ len) dt (fun s => s.nodeTimeUnit id port k len bits) s

/-- NODE_ECHO (R291). -/
def execNodeEcho (dt : Nat) (id : Nat) (port : Nat) (k : Nat) (len : Nat) (bits : Nat) (turn : Nat) (s : State) : Host.Outcome State Fault Refusal :=
  perform (port < 2 && k < 4 && len ≤ 65536 && bits < 2 ^ len && turn ≤ 150000) dt (fun s => s.nodeEcho id port k len bits turn) s

/-- NODE_DISCOVER (R300). -/
def execNodeDiscover (dt : Nat) (id : Nat) (port : Nat) (k : Nat) (len : Nat) (bits : Nat) (s : State) : Host.Outcome State Fault Refusal :=
  perform (port < 2 && k < 4 && len ≤ 65536 && bits < 2 ^ len) dt (fun s => s.nodeDiscover id port k len bits) s

/-- NODE_LEASE_EXPIRY (R295). -/
def execNodeLeaseExpiry (dt : Nat) (id : Nat) (s : State) : Host.Outcome State Fault Refusal :=
  perform true dt (fun s => s.nodeExpiry id) s

/-- NODE_ROW_FIRE (R287). -/
def execNodeRowFire (dt : Nat) (id : Nat) (head : Nat) (row : Nat) (s : State) : Host.Outcome State Fault Refusal :=
  perform (row < 4) dt (fun s => s.nodeRowFire id head row) s

/-- NODE_STATUS_SEND (R301). -/
def execNodeStatusSend (dt : Nat) (id : Nat) (port : Nat) (k : Nat) (s : State) : Host.Outcome State Fault Refusal :=
  perform (port < 2 && k < 4) dt (fun s => s.nodeStatusSend id port k) s

/-- NODE_TEMPS_SEND (R301). -/
def execNodeTempsSend (dt : Nat) (id : Nat) (port : Nat) (temps : List Int) (s : State) : Host.Outcome State Fault Refusal :=
  perform (port < 2) dt (fun s => s.nodeTempsSend id port temps) s

/-- NODE_RESET (R295). -/
def execNodeReset (dt : Nat) (id : Nat) (lanesA : Nat) (lanesB : Nat) (heads : List Nat) (maxK : Nat) (s : State) : Host.Outcome State Fault Refusal :=
  perform (id < 2 ^ 32 && 1 ≤ lanesA && lanesA ≤ 4 && 1 ≤ lanesB && lanesB ≤ 4 && heads.length ≤ 48 && heads.eraseDups.length == heads.length && heads.all (· < 720) && maxK < 2048) dt (fun s => s.nodeReset id lanesA lanesB maxK heads) s

/-- NODE_RECEIVER_ALIGNMENT (R281). -/
def execNodeReceiverAlignment (dt : Nat) (id : Nat) (port : Nat) (k : Nat) (ok : Bool) (s : State) : Host.Outcome State Fault Refusal :=
  perform (port < 2 && k < 4) dt (fun s => s.nodeAlign id port k ok) s

/-- HEAD_FAULT (R301). -/
def execHeadFault (dt : Nat) (id : Nat) (head : Nat) (faulty : Bool) (s : State) : Host.Outcome State Fault Refusal :=
  perform (head < 720) dt (fun s => s.nodeHeadFault id head faulty) s

/-- NODE_TIME_OK_TIMEOUT (R290). -/
def execNodeTimeOkTimeout (dt : Nat) (id : Nat) (s : State) : Host.Outcome State Fault Refusal :=
  perform true dt (fun s => s.nodeTimeout id) s

end Sys2Proof.Machine
end

