-- ==== Sys2Proof/Machine/RowsPlumb.lean ====
section
/-! DEFINITION. The interlock and supervision commands: what each does. -/

namespace Sys2Proof.Machine

open Sys2Proof

/-- FIELD_INPUT_CHANGE (R311). -/
def execFieldInputChange (dt : Nat) (inp : Nat) (level : Bool) (ua : Nat) (s : State) : Host.Outcome State Fault Refusal :=
  perform (inp < 24) dt (fun s => s.fieldInput inp level ua) s

/-- ESTOP_DISC (R316). -/
def execEstopDisc (dt : Nat) (s : State) : Host.Outcome State Fault Refusal :=
  perform true dt (fun s => s.estopDisc) s

/-- FIELD_SUPPLY (R316). -/
def execFieldSupply (dt : Nat) (mv : Int) (s : State) : Host.Outcome State Fault Refusal :=
  perform true dt (fun s => s.fieldSupply mv) s

/-- OUTPUT_FAULT (R313). -/
def execOutputFault (dt : Nat) (output : Nat) (kind : Nat) (s : State) : Host.Outcome State Fault Refusal :=
  perform (output < 16 && kind < 3) dt (fun s => s.outputFault output kind) s

/-- OPEN_LOAD (R313). -/
def execOpenLoad (dt : Nat) (load : LoadIn) (s : State) : Host.Outcome State Fault Refusal :=
  perform (load.output < 12) dt (fun s => s.openLoad load.output load.ua) s

/-- THERM_OK_CHANGE (R310). -/
def execThermOkChange (dt : Nat) (tj : ThermIn) (s : State) : Host.Outcome State Fault Refusal :=
  perform true dt (fun s => s.thermChange tj.tj0 tj.tj1) s

/-- WATCHDOG_KEY (R314). -/
def execWatchdogKey (dt : Nat) (s : State) : Host.Outcome State Fault Refusal :=
  perform true dt (fun s => s.wdogKey) s

/-- WATCHDOG (R314). -/
def execWatchdog (dt : Nat) (wrong : Bool) (s : State) : Host.Outcome State Fault Refusal :=
  perform true dt (fun s => s.watchdog wrong) s

/-- HEARTBEAT_SCAN (R315). -/
def execHeartbeatScan (dt : Nat) (beats : List (Nat × Nat)) (s : State) : Host.Outcome State Fault Refusal :=
  perform (beats.all (fun p => p.1 < 16 && p.1 != 13)) dt (fun s => s.heartbeats beats) s

end Sys2Proof.Machine
end

