-- ==== Sys2Proof/Machine/RowsPower.lean ====
section
/-! DEFINITION. The power, reset, boot and PCIe link commands: what each does. -/

namespace Sys2Proof.Machine

open Sys2Proof

/-- V_AUX_APPLIED (R80). -/
def execVAuxApplied (dt : Nat) (sel : Nat) (mv : Nat) (s : State) : Host.Outcome State Fault Refusal :=
  perform (sel < 4 && decide (10000 ≤ mv) && decide (mv ≤ 14500)) dt (fun s => if s.ident.opState = .off then State.supply 1 4 mv (s.modPlinth (fun p => { p with addrSel := sel })) else s) s

/-- KEEP_RESET (R453). -/
def execKeepReset (dt : Nat) (s : State) : Host.Outcome State Fault Refusal :=
  perform true dt (fun s => s.keepReset) s

/-- SUPPLY_THRESHOLD (R448). -/
def execSupplyThreshold (dt : Nat) (input : Nat) (kind : Nat) (mv : Int) (s : State) : Host.Outcome State Fault Refusal :=
  perform (input < 4 && kind == supplyKind input mv) dt (fun s => s.supply input kind mv) s

/-- SUPPLIES_LOST (R447). -/
def execSuppliesLost (dt : Nat) (s : State) : Host.Outcome State Fault Refusal :=
  perform true dt (fun s => (s.modPower (fun p => { p with mainOk := false, auxOk := false, vMain := 0, vAux := 0, mainGoodAt := none })).auxLost) s

/-- AUTO_ON (R449). -/
def execAutoOn (dt : Nat) (s : State) : Host.Outcome State Fault Refusal :=
  perform true dt (fun s => s.autoOn) s

/-- DOMAIN_POWER_GOOD (R450). -/
def execDomainPowerGood (dt : Nat) (s : State) : Host.Outcome State Fault Refusal :=
  perform true dt (fun s => s.powerGood) s

/-- POWER_GOOD_MISSED (R451). -/
def execPowerGoodMissed (dt : Nat) (d : Nat) (s : State) : Host.Outcome State Fault Refusal :=
  perform (decide (2 ≤ d) && d < 12) dt (fun s => s.powerMissed d) s

/-- POWER_GOOD_LOST (R451). -/
def execPowerGoodLost (dt : Nat) (d : Nat) (s : State) : Host.Outcome State Fault Refusal :=
  perform (decide (2 ≤ d) && d < 12) dt (fun s => s.powerLost d) s

/-- BOOT_END (R459). -/
def execBootEnd (dt : Nat) (crcA : Bool) (crcB : Bool) (test : Nat) (fence0 : List Nat) (fence1 : List Nat) (s : State) : Host.Outcome State Fault Refusal :=
  perform (decide (test = 0 ∨ (3 ≤ test ∧ test ≤ 5)) && fence0.all (· < 28) && fence1.all (· < 28)) dt (fun s => s.bootEnd crcA crcB test fence0 fence1) s

/-- BOOT_TIMEOUT (R459). -/
def execBootTimeout (dt : Nat) (s : State) : Host.Outcome State Fault Refusal :=
  perform true dt (fun s => s.bootTimeout) s

/-- FUNCTION_RESET (R454). -/
def execFunctionReset (dt : Nat) (fn : Nat) (down : Bool) (s : State) : Host.Outcome State Fault Refusal :=
  perform (fn < 2) dt (fun s => s.whenOn (fun s => (s.functionReset fn).linkDown1 fn down)) s

/-- LINK_TRAINED (R455). -/
def execLinkTrained (dt : Nat) (fn : Nat) (lanes : Nat) (rate : Nat) (mrrs : Nat) (mps : Nat) (extTag : Bool) (s : State) : Host.Outcome State Fault Refusal :=
  perform (fn < 2 && [1, 2, 4, 8, 16].contains lanes && [25, 50, 80, 160, 320].contains rate && [128, 256, 512, 1024, 2048, 4096].contains mrrs && [128, 256, 512, 1024, 2048, 4096].contains mps) dt (fun s => s.whenPowered (6 + fn) (fun s => (s.linkTrained fn { up := true, lanes := lanes, rate := rate, mrrs := mrrs, mps := mps, extTag := extTag }).updateCeil)) s

/-- PCIE_LINK_LOST (R101). -/
def execPcieLinkLost (dt : Nat) (fn : Nat) (s : State) : Host.Outcome State Fault Refusal :=
  perform (fn < 2) dt (fun s => s.whenOn (fun s => (s.linkLost fn).linkDown1 fn true)) s

/-- HARDWARE_SHUTDOWN (R417). -/
def execHardwareShutdown (dt : Nat) (w : Nat) (tj : Int) (s : State) : Host.Outcome State Fault Refusal :=
  perform (w < 2) dt (fun s => s.thermalShutdown w tj) s

/-- THERMAL_RESTART (R418). -/
def execThermalRestart (dt : Nat) (t0 : Int) (t1 : Int) (s : State) : Host.Outcome State Fault Refusal :=
  perform true dt (fun s => s.thermalRestart t0 t1) s

end Sys2Proof.Machine
end

