-- ==== Sys2Proof/Machine/RowsThermal.lean ====
section
/-! DEFINITION. The temperature and calibration commands: what each does. -/

namespace Sys2Proof.Machine

open Sys2Proof

/-- SENSOR_SAMPLE (R412). -/
def execSensorSample (dt : Nat) (temps : List (Option Int)) (pMeas : Nat) (tj0 : Option Int) (tj1 : Option Int) (s : State) : Host.Outcome State Fault Refusal :=
  perform (temps.length ≤ 32) dt (fun s => s.sensorSample temps pMeas tj0 tj1) s

/-- CAL_RUN_END (R421). -/
def execCalRunEnd (dt : Nat) (block : Nat) (trims : List Nat) (quality : Nat) (diff : Nat) (s : State) : Host.Outcome State Fault Refusal :=
  perform (block < 108 && trims.all (· < 65536) && quality < 65536) dt (fun s => s.calRunEnd block trims quality diff) s

/-- REFERENCE_COMPARE (R422). -/
def execReferenceCompare (dt : Nat) (diff : Int) (s : State) : Host.Outcome State Fault Refusal :=
  perform true dt (fun s => s.referenceCompare diff) s

end Sys2Proof.Machine
end

