-- ==== Sys2Proof/Machine/RowsTime.lean ====
section
/-! DEFINITION. The press time and Ethernet commands: what each does. -/

namespace Sys2Proof.Machine

open Sys2Proof

/-- SYNC (R365). -/
def execSync (dt : Nat) (p : Nat) (sent : Bool) (m : PtpId) (t1 : Option Nat) (s : State) : Host.Outcome State Fault Refusal :=
  perform (p < 2 && m.seq < 65536 && m.domain < 256) dt (fun s => s.syncMsg p sent m t1) s

/-- FOLLOW_UP (R365). -/
def execFollowUp (dt : Nat) (p : Nat) (sent : Bool) (m : PtpId) (t1 : Nat) (s : State) : Host.Outcome State Fault Refusal :=
  perform (p < 2 && m.seq < 65536 && m.domain < 256) dt (fun s => s.followUp p sent m t1) s

/-- DELAY_REQ (R365). -/
def execDelayReq (dt : Nat) (p : Nat) (sent : Bool) (m : PtpId) (s : State) : Host.Outcome State Fault Refusal :=
  perform (p < 2 && m.seq < 65536 && m.domain < 256) dt (fun s => s.delayReq p sent m) s

/-- DELAY_RESP (R367). -/
def execDelayResp (dt : Nat) (p : Nat) (m : PtpId) (t4 : Nat) (s : State) : Host.Outcome State Fault Refusal :=
  perform (p < 2 && m.seq < 65536 && m.domain < 256) dt (fun s => s.delayResp p m t4) s

/-- PDELAY_REQ (R365). -/
def execPdelayReq (dt : Nat) (p : Nat) (sent : Bool) (m : PtpId) (turn : Nat) (s : State) : Host.Outcome State Fault Refusal :=
  perform (p < 2 && m.seq < 65536 && m.domain < 256) dt (fun s => s.pdelayReq p sent m turn) s

/-- PDELAY_RESP (R365). -/
def execPdelayResp (dt : Nat) (p : Nat) (m : PtpId) (t2 : Nat) (t3 : Option Nat) (s : State) : Host.Outcome State Fault Refusal :=
  perform (p < 2 && m.seq < 65536 && m.domain < 256) dt (fun s => s.pdelayResp p m t2 t3) s

/-- PDELAY_RESP_FOLLOW_UP (R367). -/
def execPdelayRespFollowUp (dt : Nat) (p : Nat) (m : PtpId) (t3 : Nat) (s : State) : Host.Outcome State Fault Refusal :=
  perform (p < 2 && m.seq < 65536 && m.domain < 256) dt (fun s => s.pdelayFollowUp p m t3) s

/-- ANNOUNCE (R365). -/
def execAnnounce (dt : Nat) (p : Nat) (io : AnnounceIo) (fields : List Nat) (s : State) : Host.Outcome State Fault Refusal :=
  perform (p < 2 && fields.length == 10) dt (fun s => s.announceMsg p io fields) s

/-- ARP (R365). -/
def execArp (dt : Nat) (p : Nat) (addr : Nat) (s : State) : Host.Outcome State Fault Refusal :=
  perform (p < 2 && addr < 2 ^ 32) dt (fun s => s.ipAnswer p 0x0806 addr) s

/-- ICMP_ECHO (R365). -/
def execIcmpEcho (dt : Nat) (p : Nat) (addr : Nat) (s : State) : Host.Outcome State Fault Refusal :=
  perform (p < 2 && addr < 2 ^ 32) dt (fun s => s.ipAnswer p 1 addr) s

/-- ANNOUNCE_TIMEOUT (R368). -/
def execAnnounceTimeout (dt : Nat) (s : State) : Host.Outcome State Fault Refusal :=
  perform true dt (fun s => s.announceTimeout) s

/-- STEP_APPLY (R371). -/
def execStepApply (dt : Nat) (s : State) : Host.Outcome State Fault Refusal :=
  perform true dt (fun s => s.whenOn (fun s => s.stepApply)) s

/-- RTC_COPY (R364). -/
def execRtcCopy (dt : Nat) (s : State) : Host.Outcome State Fault Refusal :=
  perform true dt (fun s => s.rtcCopy) s

/-- PPS_IN_EDGE (R379). -/
def execPpsInEdge (dt : Nat) (s : State) : Host.Outcome State Fault Refusal :=
  perform true dt (fun s => s.ppsIn) s

/-- PPS_OUT (R378). -/
def execPpsOut (dt : Nat) (s : State) : Host.Outcome State Fault Refusal :=
  perform true dt (fun s => s.ppsOut) s

/-- REF10_LOST (R380). -/
def execRef10Lost (dt : Nat) (s : State) : Host.Outcome State Fault Refusal :=
  perform true dt (fun s => s.ref10 false) s

/-- REF10_RESTORED (R380). -/
def execRef10Restored (dt : Nat) (s : State) : Host.Outcome State Fault Refusal :=
  perform true dt (fun s => s.ref10 true) s

/-- CAM_PULSE (R377). -/
def execCamPulse (dt : Nat) (k : Nat) (course : Nat) (s : State) : Host.Outcome State Fault Refusal :=
  perform (k < 4) dt (fun s => s.camPulse k course) s

/-- ETHERNET_LINK (R365). -/
def execEthernetLink (dt : Nat) (p : Nat) (up : Bool) (s : State) : Host.Outcome State Fault Refusal :=
  perform (p < 2) dt (fun s => s.ethernetLink p up) s

end Sys2Proof.Machine
end

