-- ==== Sys2Proof/Machine/RowsTiming.lean ====
section
/-! DEFINITION. The course, lift, speed and action commands: what each does. -/

namespace Sys2Proof.Machine

open Sys2Proof

/-- ACTION_AT_COURSE (R258). -/
def execActionAtCourse (dt : Nat) (id : Nat) (s : State) : Host.Outcome State Fault Refusal :=
  perform true dt (fun s => s.whenOn (fun s => s.actionAtCourse id)) s

/-- ACTION_AT_TIME (R376). -/
def execActionAtTime (dt : Nat) (id : Nat) (s : State) : Host.Outcome State Fault Refusal :=
  perform true dt (fun s => s.whenOn (fun s => s.actionAtTime id)) s

/-- COURSE_RECORD (R27). -/
def execCourseRecord (dt : Nat) (course : Nat) (fire : Nat) (s : State) : Host.Outcome State Fault Refusal :=
  perform (course < 2 ^ 64 && fire < 2 ^ 64) dt (fun s => s.courseRecord course (fire % 2 ^ 32)) s

/-- TIE_REPLAY (R30). -/
def execTieReplay (dt : Nat) (failed : TieIn) (s : State) : Host.Outcome State Fault Refusal :=
  perform (failed.dest < 2 && failed.back < 32 && failed.errors.all (· < 2 ^ 144)) dt (fun s => s.tieReplay failed.dest failed.back failed.errors) s

/-- SEAM_DEADLINE_MISS (R30). -/
def execSeamDeadlineMiss (dt : Nat) (s : State) : Host.Outcome State Fault Refusal :=
  perform true dt (fun s => s.whenOn (fun s => s.seamMissed)) s

/-- TIE_TRAINING_LOST (R30). -/
def execTieTrainingLost (dt : Nat) (s : State) : Host.Outcome State Fault Refusal :=
  perform true dt (fun s => s.whenOn (fun s => s.tieLost)) s

/-- LOCKSTEP (R26). -/
def execLockstep (dt : Nat) (w : Nat) (s : State) : Host.Outcome State Fault Refusal :=
  perform (w < 2) dt (fun s => s.whenOn (fun s => s.lockstep w)) s

/-- LIFT_TOKEN (R241). -/
def execLiftToken (dt : Nat) (lift : Nat) (s : State) : Host.Outcome State Fault Refusal :=
  perform true dt (fun s => s.whenOn (fun s => s.liftToken lift)) s

/-- COMMIT_TOKEN (R31). -/
def execCommitToken (dt : Nat) (s : State) : Host.Outcome State Fault Refusal :=
  perform true dt (fun s => s.whenOn (fun s => s.commitToken)) s

/-- LIFT_SCREENED (R22). -/
def execLiftScreened (dt : Nat) (w : Nat) (lift : Nat) (audit : Bool) (s : State) : Host.Outcome State Fault Refusal :=
  perform (w < 2) dt (fun s => s.whenOn (fun s => s.screened w lift audit)) s

/-- COURSE_RELEASE (R239). -/
def execCourseRelease (dt : Nat) (s : State) : Host.Outcome State Fault Refusal :=
  perform true dt (fun s => s.whenOn (fun s => s.courseRelease)) s

/-- COURSE_FIRE (R66). -/
def execCourseFire (dt : Nat) (s : State) : Host.Outcome State Fault Refusal :=
  perform true dt (fun s => s.whenOn (fun s => s.courseFire.swapWhenReady)) s

/-- LIFT_BOUNDARY (R22). -/
def execLiftBoundary (dt : Nat) (seam : List SeamUpset) (s : State) : Host.Outcome State Fault Refusal :=
  perform (seam.all (fun u => u.w < 2 && u.bar < 12 && u.idx < 491520 && u.value < (if u.states then 4 else 256))) dt (fun s => s.whenOn (fun s => s.liftBoundary seam)) s

/-- SPEED_LOOP_CYCLE (R254). -/
def execSpeedLoopCycle (dt : Nat) (s : State) : Host.Outcome State Fault Refusal :=
  perform true dt (fun s => s.whenOn (fun s => s.speedCycle)) s

/-- OVERSPEED_CLEAR (R259). -/
def execOverspeedClear (dt : Nat) (s : State) : Host.Outcome State Fault Refusal :=
  perform true dt (fun s => s.whenOn (fun s => s.overspeedClear)) s

/-- WEB_AT_REST (R254). -/
def execWebAtRest (dt : Nat) (s : State) : Host.Outcome State Fault Refusal :=
  perform true dt (fun s => s.whenOn (fun s => s.atRest.swapWhenReady)) s

/-- CEILING (R263). -/
def execCeiling (dt : Nat) (s : State) : Host.Outcome State Fault Refusal :=
  perform true dt (fun s => s.whenOn (fun s => s.ceilCheck)) s

/-- RESUME_BEGIN (R265). -/
def execResumeBegin (dt : Nat) (s : State) : Host.Outcome State Fault Refusal :=
  perform true dt (fun s => s.whenOn (fun s => s.resumeBegin)) s

/-- REJECT_EDGE (R270). -/
def execRejectEdge (dt : Nat) (s : State) : Host.Outcome State Fault Refusal :=
  perform true dt (fun s => s.whenOn (fun s => s.rejectEdge)) s

/-- QUANTA_LOST_REPORT (R201). -/
def execQuantaLostReport (dt : Nat) (w : Nat) (s : State) : Host.Outcome State Fault Refusal :=
  perform (w < 2) dt (fun s => s.whenOn (fun s => s.quantaReport w)) s

/-- SATURATION_REPORT (R175). -/
def execSaturationReport (dt : Nat) (w : Nat) (s : State) : Host.Outcome State Fault Refusal :=
  perform (w < 2) dt (fun s => s.whenOn (fun s => s.saturationReport w)) s

/-- ACTION_PULSE_END (R77). -/
def execActionPulseEnd (dt : Nat) (output : Nat) (s : State) : Host.Outcome State Fault Refusal :=
  perform (output < 20) dt (fun s => s.whenOn (fun s => s.pulseEnd output)) s

end Sys2Proof.Machine
end

