-- ==== Sys2Proof/Machine/RowsWeb.lean ====
section
/-! DEFINITION. The encoder, hall and mark commands: what each does. -/

namespace Sys2Proof.Machine

open Sys2Proof

/-- MARK_EDGE (R249). -/
def execMarkEdge (dt : Nat) (run : MarkRun) (s : State) : Host.Outcome State Fault Refusal :=
  perform (run.k < 13) dt (fun s => s.whenOn (fun s => s.markIn run)) s

/-- MARK_MISS (R249). -/
def execMarkMiss (dt : Nat) (k : Nat) (s : State) : Host.Outcome State Fault Refusal :=
  perform (k < 13) dt (fun s => s.whenOn (fun s => s.markMiss k)) s

/-- POSITION_CHANGE (R221). -/
def execPositionChange (dt : Nat) (enc : Nat) (inp : EncIn) (s : State) : Host.Outcome State Fault Refusal :=
  perform (enc < 2 && inp.wf) dt (fun s => s.whenOn (fun s => s.encoderIn enc inp)) s

/-- ILLEGAL_TRANSITION (R216). -/
def execIllegalTransition (dt : Nat) (enc : Nat) (a : Bool) (b : Bool) (run : Held) (s : State) : Host.Outcome State Fault Refusal :=
  perform (enc < 2) dt (fun s => s.whenOn (fun s => s.linesIn enc { n := run.n, a := a, b := b, z := run.z })) s

/-- RADIUS_FAULT (R220). -/
def execRadiusFault (dt : Nat) (enc : Nat) (samples : List (Int × Int)) (s : State) : Host.Outcome State Fault Refusal :=
  perform (enc < 2 && samples.all adcOk) dt (fun s => s.whenOn (fun s => samples.foldl (fun (s : State) p => s.adcIn enc p) s)) s

/-- INDEX (R222). -/
def execIndex (dt : Nat) (enc : Nat) (pins : Pins) (s : State) : Host.Outcome State Fault Refusal :=
  perform (enc < 2) dt (fun s => s.whenOn (fun s => s.linesIn enc pins)) s

/-- MISSING_INDEX (R223). -/
def execMissingIndex (dt : Nat) (enc : Nat) (s : State) : Host.Outcome State Fault Refusal :=
  perform (enc < 2) dt (fun s => s.whenOn (fun s => s.missingIndex enc)) s

/-- PAIR_STATUS_CHANGE (R224). -/
def execPairStatusChange (dt : Nat) (enc : Nat) (k : Nat) (v : PairIn) (s : State) : Host.Outcome State Fault Refusal :=
  perform (enc < 2 && k < 3) dt (fun s => s.whenOn (fun s => s.pairStatus enc k v)) s

/-- HALL_CHANGE (R227). -/
def execHallChange (dt : Nat) (run : HallRun) (s : State) : Host.Outcome State Fault Refusal :=
  perform (run.code < 8) dt (fun s => s.hallIn run) s

/-- CHECK_WINDOW (R229). -/
def execCheckWindow (dt : Nat) (s : State) : Host.Outcome State Fault Refusal :=
  perform true dt (fun s => s.whenOn (fun s => s.checkWindow)) s

/-- SUPPLY_OVERLOAD (R478). -/
def execSupplyOverload (dt : Nat) (supply : SupplyIn) (s : State) : Host.Outcome State Fault Refusal :=
  perform (supply.k < 4) dt (fun s => s.supplyOverload supply.k supply.limit) s

/-- ILLEGAL_TRANSITION_REPORT (R216). -/
def execIllegalTransitionReport (dt : Nat) (enc : Nat) (s : State) : Host.Outcome State Fault Refusal :=
  perform (enc < 2) dt (fun s => s.whenOn (fun s => s.illegalReport enc)) s

/-- HALL_REPORT (R227). -/
def execHallReport (dt : Nat) (s : State) : Host.Outcome State Fault Refusal :=
  perform true dt (fun s => s.whenOn (fun s => s.hallReport)) s

end Sys2Proof.Machine
end

