-- ==== Sys2Proof/Machine/RowsZarnetrum.lean ====
section
/-! DEFINITION. The Zarnetrum requests and the Plinth events: what each does. -/

namespace Sys2Proof.Machine

open Sys2Proof

/-- IDENT (R430). -/
def execIdent (dt : Nat) (r : ZReq) (s : State) : Host.Outcome State Fault Refusal :=
  perform (r.wf) dt (fun s => s.zIdent r) s

/-- STATUS (R431). -/
def execStatus (dt : Nat) (r : ZReq) (s : State) : Host.Outcome State Fault Refusal :=
  perform (r.wf) dt (fun s => s.zStatus r) s

/-- ZARNETRUM_TEMPS (R430). -/
def execZarnetrumTemps (dt : Nat) (r : ZReq) (s : State) : Host.Outcome State Fault Refusal :=
  perform (r.wf) dt (fun s => s.zTemps r) s

/-- PAIR (R430). -/
def execPair (dt : Nat) (r : ZReq) (s : State) : Host.Outcome State Fault Refusal :=
  perform (r.wf) dt (fun s => s.zPair r) s

/-- SETTINGS (R432). -/
def execSettings (dt : Nat) (r : ZReq) (s : State) : Host.Outcome State Fault Refusal :=
  perform (r.wf) dt (fun s => s.zSettings r) s

/-- POWER_ON (R433). -/
def execPowerOn (dt : Nat) (r : ZReq) (s : State) : Host.Outcome State Fault Refusal :=
  perform (r.wf) dt (fun s => s.zPowerOn r) s

/-- POWER_OFF (R434). -/
def execPowerOff (dt : Nat) (r : ZReq) (ack : Bool) (s : State) : Host.Outcome State Fault Refusal :=
  perform (r.wf) dt (fun s => s.zPowerOff r ack) s

/-- POWER_CYCLE (R430). -/
def execPowerCycle (dt : Nat) (r : ZReq) (ack : Bool) (s : State) : Host.Outcome State Fault Refusal :=
  perform (r.wf) dt (fun s => s.zPowerCycle r ack) s

/-- REST_REQ (R435). -/
def execRestReq (dt : Nat) (r : ZReq) (ack : Bool) (s : State) : Host.Outcome State Fault Refusal :=
  perform (r.wf) dt (fun s => s.zRestReq r ack) s

/-- FORCE (R435). -/
def execForce (dt : Nat) (r : ZReq) (s : State) : Host.Outcome State Fault Refusal :=
  perform (r.wf) dt (fun s => s.zForce r) s

/-- LOCKOUT_CLEAR (R436). -/
def execLockoutClear (dt : Nat) (r : ZReq) (s : State) : Host.Outcome State Fault Refusal :=
  perform (r.wf) dt (fun s => s.zLockoutClear r) s

/-- LOG_INFO (R430). -/
def execLogInfo (dt : Nat) (r : ZReq) (s : State) : Host.Outcome State Fault Refusal :=
  perform (r.wf) dt (fun s => s.zLogInfo r) s

/-- LOG_READ (R430). -/
def execLogRead (dt : Nat) (r : ZReq) (s : State) : Host.Outcome State Fault Refusal :=
  perform (r.wf) dt (fun s => s.zLogRead r) s

/-- FW_OPEN (R442). -/
def execFwOpen (dt : Nat) (r : ZReq) (s : State) : Host.Outcome State Fault Refusal :=
  perform (r.wf) dt (fun s => s.zFwOpen r) s

/-- FW_DATA (R442). -/
def execFwData (dt : Nat) (r : ZReq) (s : State) : Host.Outcome State Fault Refusal :=
  perform (r.wf) dt (fun s => s.zFwData r) s

/-- FW_CLOSE (R442). -/
def execFwClose (dt : Nat) (r : ZReq) (s : State) : Host.Outcome State Fault Refusal :=
  perform (r.wf) dt (fun s => s.zFwClose r) s

/-- FW_SELECT (R443). -/
def execFwSelect (dt : Nat) (r : ZReq) (s : State) : Host.Outcome State Fault Refusal :=
  perform (r.wf) dt (fun s => s.zFwSelect r) s

/-- FW_SESSION_TIMEOUT (R442). -/
def execFwSessionTimeout (dt : Nat) (s : State) : Host.Outcome State Fault Refusal :=
  perform true dt (fun s => s.fwTimeout) s

/-- ALERT_RESPONSE (R432). -/
def execAlertResponse (dt : Nat) (s : State) : Host.Outcome State Fault Refusal :=
  perform true dt (fun s => s.alertResponse) s

/-- STATUS_MIRROR_COPY (R425). -/
def execStatusMirrorCopy (dt : Nat) (s : State) : Host.Outcome State Fault Refusal :=
  perform true dt (fun s => s.mirrorCopy) s

/-- LOG_COMMIT (R438). -/
def execLogCommit (dt : Nat) (s : State) : Host.Outcome State Fault Refusal :=
  perform true dt (fun s => s.logCommit) s

/-- TAMPER (R441). -/
def execTamper (dt : Nat) (s : State) : Host.Outcome State Fault Refusal :=
  perform true dt (fun s => s.tamperOpen) s

/-- FLASH_REFRESH (R460). -/
def execFlashRefresh (dt : Nat) (bad : List Nat) (s : State) : Host.Outcome State Fault Refusal :=
  perform (bad.all (· < 4)) dt (fun s => s.flashRefresh bad) s

/-- UNKNOWN_OP (R430). -/
def execUnknownOp (dt : Nat) (r : ZReq) (op : Nat) (s : State) : Host.Outcome State Fault Refusal :=
  perform (r.wf && op < 256 && !(zarnetrumOps.contains op)) dt (fun s => s.zUnknown op r) s

/-- REQUEST_DISCARDED (R429). -/
def execRequestDiscarded (dt : Nat) (frame : ZFrame) (s : State) : Host.Outcome State Fault Refusal :=
  perform (frame.op < 256 && frame.req.wf) dt (fun s => s.discardRequest frame.op frame.req) s

end Sys2Proof.Machine
end

