-- ==== Sys2Proof/Machine/Dispatch.lean ====
section
/-! DEFINITION. One arm per command of the table: each calls the meaning of that command. -/

namespace Sys2Proof.Machine

open Sys2Proof

/-- The effect of a command on everything but the queue. -/
def exec (i : Instr) (s : State) : Host.Outcome State Fault Refusal :=
  match i with
  | .vAuxApplied dt sel mv => Sys2Proof.Machine.execVAuxApplied dt sel mv s
  | .keepReset dt => Sys2Proof.Machine.execKeepReset dt s
  | .supplyThreshold dt input kind mv => Sys2Proof.Machine.execSupplyThreshold dt input kind mv s
  | .suppliesLost dt => Sys2Proof.Machine.execSuppliesLost dt s
  | .autoOn dt => Sys2Proof.Machine.execAutoOn dt s
  | .domainPowerGood dt => Sys2Proof.Machine.execDomainPowerGood dt s
  | .powerGoodMissed dt d => Sys2Proof.Machine.execPowerGoodMissed dt d s
  | .powerGoodLost dt d => Sys2Proof.Machine.execPowerGoodLost dt d s
  | .bootEnd dt crcA crcB test fence0 fence1 => Sys2Proof.Machine.execBootEnd dt crcA crcB test fence0 fence1 s
  | .bootTimeout dt => Sys2Proof.Machine.execBootTimeout dt s
  | .functionReset dt fn down => Sys2Proof.Machine.execFunctionReset dt fn down s
  | .linkTrained dt fn lanes rate mrrs mps extTag => Sys2Proof.Machine.execLinkTrained dt fn lanes rate mrrs mps extTag s
  | .pcieLinkLost dt fn => Sys2Proof.Machine.execPcieLinkLost dt fn s
  | .registerWrite dt fn off bytes => Sys2Proof.Machine.execRegisterWrite dt fn off bytes s
  | .responseRead dt ch slot off n => Sys2Proof.Machine.execResponseRead dt ch slot off n s
  | .intCauseClear dt fn clear again => Sys2Proof.Machine.execIntCauseClear dt fn clear again s
  | .intEnableWrite dt fn value => Sys2Proof.Machine.execIntEnableWrite dt fn value s
  | .overflowClear dt => Sys2Proof.Machine.execOverflowClear dt s
  | .sysInfo dt m => Sys2Proof.Machine.execSysInfo dt m s
  | .sysPing dt m => Sys2Proof.Machine.execSysPing dt m s
  | .sysEventRing dt m => Sys2Proof.Machine.execSysEventRing dt m s
  | .sysResetWarm dt m => Sys2Proof.Machine.execSysResetWarm dt m s
  | .sysResetCold dt m => Sys2Proof.Machine.execSysResetCold dt m s
  | .stateArm dt m => Sys2Proof.Machine.execStateArm dt m s
  | .stateDisarm dt m => Sys2Proof.Machine.execStateDisarm dt m s
  | .stateRest dt m => Sys2Proof.Machine.execStateRest dt m s
  | .stateClear dt m => Sys2Proof.Machine.execStateClear dt m s
  | .cfgStage dt m => Sys2Proof.Machine.execCfgStage dt m s
  | .cfgCheck dt m => Sys2Proof.Machine.execCfgCheck dt m s
  | .cfgCommit dt m => Sys2Proof.Machine.execCfgCommit dt m s
  | .cfgCancel dt m => Sys2Proof.Machine.execCfgCancel dt m s
  | .cfgDiscard dt m => Sys2Proof.Machine.execCfgDiscard dt m s
  | .cfgRead dt m => Sys2Proof.Machine.execCfgRead dt m s
  | .jobOpen dt m => Sys2Proof.Machine.execJobOpen dt m s
  | .jobSubmitAttach dt m => Sys2Proof.Machine.execJobSubmitAttach dt m s
  | .jobSubmitDetach dt m => Sys2Proof.Machine.execJobSubmitDetach dt m s
  | .jobSubmitEnd dt m => Sys2Proof.Machine.execJobSubmitEnd dt m s
  | .jobStart dt m => Sys2Proof.Machine.execJobStart dt m s
  | .jobPause dt m => Sys2Proof.Machine.execJobPause dt m s
  | .jobContinue dt m => Sys2Proof.Machine.execJobContinue dt m s
  | .jobAbort dt m => Sys2Proof.Machine.execJobAbort dt m s
  | .jobClose dt m => Sys2Proof.Machine.execJobClose dt m s
  | .jobStatus dt m => Sys2Proof.Machine.execJobStatus dt m s
  | .evtAtCourse dt m => Sys2Proof.Machine.execEvtAtCourse dt m s
  | .evtAtTime dt m => Sys2Proof.Machine.execEvtAtTime dt m s
  | .evtCancel dt m => Sys2Proof.Machine.execEvtCancel dt m s
  | .evtList dt m => Sys2Proof.Machine.execEvtList dt m s
  | .actionAtCourse dt id => Sys2Proof.Machine.execActionAtCourse dt id s
  | .actionAtTime dt id => Sys2Proof.Machine.execActionAtTime dt id s
  | .densUpdate dt m => Sys2Proof.Machine.execDensUpdate dt m s
  | .densRead dt m => Sys2Proof.Machine.execDensRead dt m s
  | .densFreeze dt m => Sys2Proof.Machine.execDensFreeze dt m s
  | .nozMap dt m => Sys2Proof.Machine.execNozMap dt m s
  | .nozRead dt m => Sys2Proof.Machine.execNozRead dt m s
  | .discover dt m => Sys2Proof.Machine.execDiscover dt m s
  | .readBond dt m => Sys2Proof.Machine.execReadBond dt m s
  | .readNodes dt m => Sys2Proof.Machine.execReadNodes dt m s
  | .pairSwap dt m => Sys2Proof.Machine.execPairSwap dt m s
  | .pairJoin dt m partner => Sys2Proof.Machine.execPairJoin dt m partner s
  | .pairLeave dt m => Sys2Proof.Machine.execPairLeave dt m s
  | .pairTake dt m => Sys2Proof.Machine.execPairTake dt m s
  | .pairInfo dt m => Sys2Proof.Machine.execPairInfo dt m s
  | .gangForm dt m members => Sys2Proof.Machine.execGangForm dt m members s
  | .gangDissolve dt m => Sys2Proof.Machine.execGangDissolve dt m s
  | .gangInfo dt m => Sys2Proof.Machine.execGangInfo dt m s
  | .timeAcceptStep dt m => Sys2Proof.Machine.execTimeAcceptStep dt m s
  | .timeSet dt m => Sys2Proof.Machine.execTimeSet dt m s
  | .timeStatus dt m => Sys2Proof.Machine.execTimeStatus dt m s
  | .lampSet dt m => Sys2Proof.Machine.execLampSet dt m s
  | .lampRead dt m => Sys2Proof.Machine.execLampRead dt m s
  | .lampClearShort dt m => Sys2Proof.Machine.execLampClearShort dt m s
  | .lampClearPins dt m => Sys2Proof.Machine.execLampClearPins dt m s
  | .panelSet dt m => Sys2Proof.Machine.execPanelSet dt m s
  | .copingRead dt m => Sys2Proof.Machine.execCopingRead dt m s
  | .copingCal dt m => Sys2Proof.Machine.execCopingCal dt m s
  | .plinthLogRead dt m => Sys2Proof.Machine.execPlinthLogRead dt m s
  | .plinthFw dt m => Sys2Proof.Machine.execPlinthFw dt m s
  | .plinthFwSelect dt m => Sys2Proof.Machine.execPlinthFwSelect dt m s
  | .ident dt r => Sys2Proof.Machine.execIdent dt r s
  | .status dt r => Sys2Proof.Machine.execStatus dt r s
  | .zarnetrumTemps dt r => Sys2Proof.Machine.execZarnetrumTemps dt r s
  | .pair dt r => Sys2Proof.Machine.execPair dt r s
  | .settings dt r => Sys2Proof.Machine.execSettings dt r s
  | .powerOn dt r => Sys2Proof.Machine.execPowerOn dt r s
  | .powerOff dt r ack => Sys2Proof.Machine.execPowerOff dt r ack s
  | .powerCycle dt r ack => Sys2Proof.Machine.execPowerCycle dt r ack s
  | .restReq dt r ack => Sys2Proof.Machine.execRestReq dt r ack s
  | .force dt r => Sys2Proof.Machine.execForce dt r s
  | .lockoutClear dt r => Sys2Proof.Machine.execLockoutClear dt r s
  | .logInfo dt r => Sys2Proof.Machine.execLogInfo dt r s
  | .logRead dt r => Sys2Proof.Machine.execLogRead dt r s
  | .fwOpen dt r => Sys2Proof.Machine.execFwOpen dt r s
  | .fwData dt r => Sys2Proof.Machine.execFwData dt r s
  | .fwClose dt r => Sys2Proof.Machine.execFwClose dt r s
  | .fwSelect dt r => Sys2Proof.Machine.execFwSelect dt r s
  | .fwSessionTimeout dt => Sys2Proof.Machine.execFwSessionTimeout dt s
  | .alertResponse dt => Sys2Proof.Machine.execAlertResponse dt s
  | .ringBaseWrite dt fn ch value => Sys2Proof.Machine.execRingBaseWrite dt fn ch value s
  | .enable dt fn ch host => Sys2Proof.Machine.execEnable dt fn ch host s
  | .abort dt fn ch => Sys2Proof.Machine.execAbort dt fn ch s
  | .disable dt fn ch => Sys2Proof.Machine.execDisable dt fn ch s
  | .tailWrite dt fn ch value host => Sys2Proof.Machine.execTailWrite dt fn ch value host s
  | .sourceDestinationFree dt fn => Sys2Proof.Machine.execSourceDestinationFree dt fn s
  | .readCompletion dt fn ch k err beat host runMin => Sys2Proof.Machine.execReadCompletion dt fn ch k err beat host runMin s
  | .completionTimeout dt fn ch k => Sys2Proof.Machine.execCompletionTimeout dt fn ch k s
  | .admissionEnd dt fn ch => Sys2Proof.Machine.execAdmissionEnd dt fn ch s
  | .descriptorEnd dt fn ch => Sys2Proof.Machine.execDescriptorEnd dt fn ch s
  | .compressionResume dt job => Sys2Proof.Machine.execCompressionResume dt job s
  | .eventRingWrite dt => Sys2Proof.Machine.execEventRingWrite dt s
  | .bar2Read dt fn off n => Sys2Proof.Machine.execBar2Read dt fn off n s
  | .bar2Write dt fn off bytes => Sys2Proof.Machine.execBar2Write dt fn off bytes s
  | .bar2DroppedRead dt fn => Sys2Proof.Machine.execBar2DroppedRead dt fn s
  | .snapReq dt fn => Sys2Proof.Machine.execSnapReq dt fn s
  | .timeNowLowRead dt rd => Sys2Proof.Machine.execTimeNowLowRead dt rd s
  | .stripPipelineDecode dt w memErr pieces => Sys2Proof.Machine.execStripPipelineDecode dt w memErr pieces s
  | .memoryError dt w target addr item => Sys2Proof.Machine.execMemoryError dt w target addr item s
  | .scrubReport dt unit words => Sys2Proof.Machine.execScrubReport dt unit words s
  | .courseRecord dt course fire => Sys2Proof.Machine.execCourseRecord dt course fire s
  | .tieReplay dt failed => Sys2Proof.Machine.execTieReplay dt failed s
  | .seamDeadlineMiss dt => Sys2Proof.Machine.execSeamDeadlineMiss dt s
  | .tieTrainingLost dt => Sys2Proof.Machine.execTieTrainingLost dt s
  | .lockstep dt w => Sys2Proof.Machine.execLockstep dt w s
  | .liftToken dt lift => Sys2Proof.Machine.execLiftToken dt lift s
  | .commitToken dt => Sys2Proof.Machine.execCommitToken dt s
  | .liftScreened dt w lift audit => Sys2Proof.Machine.execLiftScreened dt w lift audit s
  | .courseRelease dt => Sys2Proof.Machine.execCourseRelease dt s
  | .courseFire dt => Sys2Proof.Machine.execCourseFire dt s
  | .liftBoundary dt seam => Sys2Proof.Machine.execLiftBoundary dt seam s
  | .speedLoopCycle dt => Sys2Proof.Machine.execSpeedLoopCycle dt s
  | .overspeedClear dt => Sys2Proof.Machine.execOverspeedClear dt s
  | .webAtRest dt => Sys2Proof.Machine.execWebAtRest dt s
  | .ceiling dt => Sys2Proof.Machine.execCeiling dt s
  | .resumeBegin dt => Sys2Proof.Machine.execResumeBegin dt s
  | .rejectEdge dt => Sys2Proof.Machine.execRejectEdge dt s
  | .markEdge dt run => Sys2Proof.Machine.execMarkEdge dt run s
  | .markMiss dt k => Sys2Proof.Machine.execMarkMiss dt k s
  | .positionChange dt enc inp => Sys2Proof.Machine.execPositionChange dt enc inp s
  | .illegalTransition dt enc a b run => Sys2Proof.Machine.execIllegalTransition dt enc a b run s
  | .radiusFault dt enc samples => Sys2Proof.Machine.execRadiusFault dt enc samples s
  | .index dt enc pins => Sys2Proof.Machine.execIndex dt enc pins s
  | .missingIndex dt enc => Sys2Proof.Machine.execMissingIndex dt enc s
  | .pairStatusChange dt enc k v => Sys2Proof.Machine.execPairStatusChange dt enc k v s
  | .hallChange dt run => Sys2Proof.Machine.execHallChange dt run s
  | .checkWindow dt => Sys2Proof.Machine.execCheckWindow dt s
  | .supplyOverload dt supply => Sys2Proof.Machine.execSupplyOverload dt supply s
  | .fieldInputChange dt inp level ua => Sys2Proof.Machine.execFieldInputChange dt inp level ua s
  | .estopDisc dt => Sys2Proof.Machine.execEstopDisc dt s
  | .fieldSupply dt mv => Sys2Proof.Machine.execFieldSupply dt mv s
  | .outputFault dt output kind => Sys2Proof.Machine.execOutputFault dt output kind s
  | .openLoad dt load => Sys2Proof.Machine.execOpenLoad dt load s
  | .thermOkChange dt tj => Sys2Proof.Machine.execThermOkChange dt tj s
  | .watchdogKey dt => Sys2Proof.Machine.execWatchdogKey dt s
  | .watchdog dt wrong => Sys2Proof.Machine.execWatchdog dt wrong s
  | .heartbeatScan dt beats => Sys2Proof.Machine.execHeartbeatScan dt beats s
  | .aliveTick dt => Sys2Proof.Machine.execAliveTick dt s
  | .laneRxAligned dt l => Sys2Proof.Machine.execLaneRxAligned dt l s
  | .laneRxUnaligned dt l => Sys2Proof.Machine.execLaneRxUnaligned dt l s
  | .hello dt l len bits => Sys2Proof.Machine.execHello dt l len bits s
  | .identTimeout dt l => Sys2Proof.Machine.execIdentTimeout dt l s
  | .echoReply dt l len bits rtt => Sys2Proof.Machine.execEchoReply dt l len bits rtt s
  | .delayTimeout dt l => Sys2Proof.Machine.execDelayTimeout dt l s
  | .statusUnit dt l len bits => Sys2Proof.Machine.execStatusUnit dt l len bits s
  | .tempsUnit dt l len bits => Sys2Proof.Machine.execTempsUnit dt l len bits s
  | .statusTimeout dt l => Sys2Proof.Machine.execStatusTimeout dt l s
  | .unalignedTimeout dt l => Sys2Proof.Machine.execUnalignedTimeout dt l s
  | .lostTimeout dt l => Sys2Proof.Machine.execLostTimeout dt l s
  | .discovery dt => Sys2Proof.Machine.execDiscovery dt s
  | .timeSend dt l => Sys2Proof.Machine.execTimeSend dt l s
  | .echoSend dt l => Sys2Proof.Machine.execEchoSend dt l s
  | .discoverSend dt l => Sys2Proof.Machine.execDiscoverSend dt l s
  | .renewSend dt id => Sys2Proof.Machine.execRenewSend dt id s
  | .acquireRetry dt id => Sys2Proof.Machine.execAcquireRetry dt id s
  | .restSend dt => Sys2Proof.Machine.execRestSend dt s
  | .nodeFrame dt id port k len bits => Sys2Proof.Machine.execNodeFrame dt id port k len bits s
  | .nodeRenew dt id port k len bits => Sys2Proof.Machine.execNodeRenew dt id port k len bits s
  | .nodeAcquire dt id port k len bits => Sys2Proof.Machine.execNodeAcquire dt id port k len bits s
  | .nodeRelease dt id port k len bits => Sys2Proof.Machine.execNodeRelease dt id port k len bits s
  | .nodeRest dt id port k len bits => Sys2Proof.Machine.execNodeRest dt id port k len bits s
  | .nodeCancel dt id port k len bits => Sys2Proof.Machine.execNodeCancel dt id port k len bits s
  | .nodeConfig dt id port k len bits => Sys2Proof.Machine.execNodeConfig dt id port k len bits s
  | .nodeTime dt id port k len bits => Sys2Proof.Machine.execNodeTime dt id port k len bits s
  | .nodeEcho dt id port k len bits turn => Sys2Proof.Machine.execNodeEcho dt id port k len bits turn s
  | .nodeDiscover dt id port k len bits => Sys2Proof.Machine.execNodeDiscover dt id port k len bits s
  | .nodeLeaseExpiry dt id => Sys2Proof.Machine.execNodeLeaseExpiry dt id s
  | .nodeRowFire dt id head row => Sys2Proof.Machine.execNodeRowFire dt id head row s
  | .nodeStatusSend dt id port k => Sys2Proof.Machine.execNodeStatusSend dt id port k s
  | .nodeTempsSend dt id port temps => Sys2Proof.Machine.execNodeTempsSend dt id port temps s
  | .nodeReset dt id lanesA lanesB heads maxK => Sys2Proof.Machine.execNodeReset dt id lanesA lanesB heads maxK s
  | .beat dt side role op phase unit => Sys2Proof.Machine.execBeat dt side role op phase unit s
  | .beatSend dt side => Sys2Proof.Machine.execBeatSend dt side s
  | .buttressLinkDown dt side lanes => Sys2Proof.Machine.execButtressLinkDown dt side lanes s
  | .buttressLinkUp dt side lanes => Sys2Proof.Machine.execButtressLinkUp dt side lanes s
  | .mirror dt lift item off bytes => Sys2Proof.Machine.execMirror dt lift item off bytes s
  | .epochEnd dt lift units ecrc => Sys2Proof.Machine.execEpochEnd dt lift units ecrc s
  | .progress dt course => Sys2Proof.Machine.execProgress dt course s
  | .handover dt fDone oneMore cause => Sys2Proof.Machine.execHandover dt fDone oneMore cause s
  | .msg dt side unit => Sys2Proof.Machine.execMsg dt side unit s
  | .forwardAckTimeout dt ch slot => Sys2Proof.Machine.execForwardAckTimeout dt ch slot s
  | .gsync dt side unit => Sys2Proof.Machine.execGsync dt side unit s
  | .gtime dt side request echo => Sys2Proof.Machine.execGtime dt side request echo s
  | .gseam dt side course levels crc => Sys2Proof.Machine.execGseam dt side course levels crc s
  | .offsetMeasure dt => Sys2Proof.Machine.execOffsetMeasure dt s
  | .pairFormation dt digest fw offset prefer => Sys2Proof.Machine.execPairFormation dt digest fw offset prefer s
  | .resync dt => Sys2Proof.Machine.execResync dt s
  | .takeover dt => Sys2Proof.Machine.execTakeover dt s
  | .acquireTimeout dt => Sys2Proof.Machine.execAcquireTimeout dt s
  | .swapAtReady dt => Sys2Proof.Machine.execSwapAtReady dt s
  | .autoSwap dt => Sys2Proof.Machine.execAutoSwap dt s
  | .sinceSwapTick dt => Sys2Proof.Machine.execSinceSwapTick dt s
  | .heartbeatSend dt => Sys2Proof.Machine.execHeartbeatSend dt s
  | .heartbeatDatagram dt member fields => Sys2Proof.Machine.execHeartbeatDatagram dt member fields s
  | .hbOkTimeout dt => Sys2Proof.Machine.execHbOkTimeout dt s
  | .sync dt p sent m t1 => Sys2Proof.Machine.execSync dt p sent m t1 s
  | .followUp dt p sent m t1 => Sys2Proof.Machine.execFollowUp dt p sent m t1 s
  | .delayReq dt p sent m => Sys2Proof.Machine.execDelayReq dt p sent m s
  | .delayResp dt p m t4 => Sys2Proof.Machine.execDelayResp dt p m t4 s
  | .pdelayReq dt p sent m turn => Sys2Proof.Machine.execPdelayReq dt p sent m turn s
  | .pdelayResp dt p m t2 t3 => Sys2Proof.Machine.execPdelayResp dt p m t2 t3 s
  | .pdelayRespFollowUp dt p m t3 => Sys2Proof.Machine.execPdelayRespFollowUp dt p m t3 s
  | .announce dt p io fields => Sys2Proof.Machine.execAnnounce dt p io fields s
  | .arp dt p addr => Sys2Proof.Machine.execArp dt p addr s
  | .icmpEcho dt p addr => Sys2Proof.Machine.execIcmpEcho dt p addr s
  | .announceTimeout dt => Sys2Proof.Machine.execAnnounceTimeout dt s
  | .stepApply dt => Sys2Proof.Machine.execStepApply dt s
  | .rtcCopy dt => Sys2Proof.Machine.execRtcCopy dt s
  | .ppsInEdge dt => Sys2Proof.Machine.execPpsInEdge dt s
  | .ppsOut dt => Sys2Proof.Machine.execPpsOut dt s
  | .ref10Lost dt => Sys2Proof.Machine.execRef10Lost dt s
  | .ref10Restored dt => Sys2Proof.Machine.execRef10Restored dt s
  | .camPulse dt k course => Sys2Proof.Machine.execCamPulse dt k course s
  | .chainFrameStart dt => Sys2Proof.Machine.execChainFrameStart dt s
  | .chainReturnEnd dt chain words ended => Sys2Proof.Machine.execChainReturnEnd dt chain words ended s
  | .chainRestFrame dt => Sys2Proof.Machine.execChainRestFrame dt s
  | .driverLatch dt driver inp => Sys2Proof.Machine.execDriverLatch dt driver inp s
  | .driverShareTimeout dt driver => Sys2Proof.Machine.execDriverShareTimeout dt driver s
  | .matrixRowSlot dt ohm ua => Sys2Proof.Machine.execMatrixRowSlot dt ohm ua s
  | .rowOvercurrent dt sw => Sys2Proof.Machine.execRowOvercurrent dt sw s
  | .sensorSample dt temps pMeas tj0 tj1 => Sys2Proof.Machine.execSensorSample dt temps pMeas tj0 tj1 s
  | .calRunEnd dt block trims quality diff => Sys2Proof.Machine.execCalRunEnd dt block trims quality diff s
  | .referenceCompare dt diff => Sys2Proof.Machine.execReferenceCompare dt diff s
  | .hardwareShutdown dt w tj => Sys2Proof.Machine.execHardwareShutdown dt w tj s
  | .thermalRestart dt t0 t1 => Sys2Proof.Machine.execThermalRestart dt t0 t1 s
  | .statusMirrorCopy dt => Sys2Proof.Machine.execStatusMirrorCopy dt s
  | .logCommit dt => Sys2Proof.Machine.execLogCommit dt s
  | .tamper dt => Sys2Proof.Machine.execTamper dt s
  | .flashRefresh dt bad => Sys2Proof.Machine.execFlashRefresh dt bad s
  | .quantaLostReport dt w => Sys2Proof.Machine.execQuantaLostReport dt w s
  | .saturationReport dt w => Sys2Proof.Machine.execSaturationReport dt w s
  | .ethernetLink dt p up => Sys2Proof.Machine.execEthernetLink dt p up s
  | .nodeReceiverAlignment dt id port k ok => Sys2Proof.Machine.execNodeReceiverAlignment dt id port k ok s
  | .headFault dt id head faulty => Sys2Proof.Machine.execHeadFault dt id head faulty s
  | .nodeTimeOkTimeout dt id => Sys2Proof.Machine.execNodeTimeOkTimeout dt id s
  | .unknownVerb dt verb m => Sys2Proof.Machine.execUnknownVerb dt verb m s
  | .unknownOp dt r op => Sys2Proof.Machine.execUnknownOp dt r op s
  | .requestDiscarded dt frame => Sys2Proof.Machine.execRequestDiscarded dt frame s
  | .illegalTransitionReport dt enc => Sys2Proof.Machine.execIllegalTransitionReport dt enc s
  | .hallReport dt => Sys2Proof.Machine.execHallReport dt s
  | .actionPulseEnd dt output => Sys2Proof.Machine.execActionPulseEnd dt output s

end Sys2Proof.Machine
end

