-- ==== Sys2Proof/Safety.lean ====
section
/-! DEFINITION. What a safe step is, and the vocabulary that the claims share: what a command leaves, and a mailbox command that
can be taken and run at once. -/

namespace Sys2Proof.Safety

open Sys2Proof Sys2Proof.Machine

/-! ## Safe steps -/

/-- The step goes on: no fault and no refusal. -/
def GoesOn (s : State) : Prop := ∃ t, step s = .next t

/-- No high-voltage output is on: outputs 0 to 11 (R313). -/
def HighVoltageOff (s : State) : Prop := ∀ b, b < 12 → s.outCmd.getLsbD b = false

/-! ## What a command leaves -/

/-- What a command leaves: `dt` ns pass, it does `f`, what follows at once happens (the mailbox commands that wait run, what is due is
sent), and the queue of commands is as it was (R50, log entry 14). -/
def after (dt : Nat) (f : State → State) (s : State) : State := { (f (s.opens dt)).closes with pending := s.pending }

/-! ## Mailbox commands -/

/-- Every mailbox channel is empty: nothing waits and nothing runs. -/
def ChannelsFree (s : State) : Prop :=
  ∀ c, c < 4 → (s.chan c).queue = [] ∧ (s.chan c).running = false ∧ (s.chan c).mute = false

/-- A command on an empty mailbox that the module takes and runs at once: the mailbox of Wythe 0 is reachable, no channel holds
a command, the image is not ROM only, and neither the pair role nor the place in a gang refuses it (R49, R332, R354, R459). The state is
the one in which the command arrives. -/
def Usable (verb : Nat) (m : Mbox) (s : State) : Prop :=
  m.wf = true ∧ s.reachable 0 = true ∧ s.mbox.length = 4 ∧ ChannelsFree s ∧
    (s.ident.romOnly = true → verb = 0x0101 ∨ verb = 0x0104) ∧
    s.roleRefusal (cmdOf verb m) = none ∧ s.aloneInRest (cmdOf verb m) = false

/-- The state in which such a command runs: its command area is written, it is the running command of its channel, and the Keystone of
Wythe 1 has its part (R25). -/
def running (verb : Nat) (m : Mbox) (s : State) : State :=
  ((s.submit verb m).modChan m.ch (fun x => { x with running := true })).keystones (cmdOf verb m)

/-- What is left once a running command has done its work: the Keystone of Wythe 1 has done its part (R25); a pair or gang carries the
command on (R332, R354); if it is then complete its response is written; the commands that wait then run, and what is due is sent. -/
def answered (c : Nat) (q : QCmd) (t : State) (rep : Option Reply) (s : State) : State :=
  let r := State.carry c q (t.keystoneDone q, rep)
  { (settleGo 255 (match r.2 with
      | some rep => r.1.respond c rep
      | none => r.1)).sends with pending := s.pending }

/-- No reserved bit of the header is set, and no argument byte outside the named fields (R14, R504). -/
def Tidy (q : QCmd) (named : List (Nat × Nat)) : Prop := q.headerFault = none ∧ q.stray named = none

/-- The states in which a verb is accepted (R55, and the verb tables of the owning chapters). -/
def acceptedIn (q : QCmd) (o : OpState) : Bool :=
  let idle := o == .rest || o == .ready || o == .fault
  let restReady := o == .rest || o == .ready
  let armed := o == .ready || o == .printing || o == .holding
  let live := armed || o == .rest || o == .fault
  let v := q.verb
  if v = 0x0101 ∨ v = 0x0102 then live || o == .boot
  else if v = 0x0103 ∨ v = 0x0B01 ∨ v = 0x0B02 ∨ v = 0x0E02 ∨ v = 0x0E03 then idle
  else if v = 0x0104 then o == .rest || o == .fault
  else if v = 0x0201 then o == .rest
  else if v = 0x0202 then o == .ready
  else if v = 0x0204 then o == .fault
  else if v = 0x0404 then o == .printing
  else if v = 0x0405 then o == .holding
  else if v = 0x0401 ∨ v = 0x0402 ∨ v = 0x0403 ∨ v = 0x0406 ∨ v = 0x0501 ∨ v = 0x0502 ∨ v = 0x0601 ∨ v = 0x0603 ∨ v = 0x0701 ∨
      v = 0x0C01 then armed
  else if v = 0x0801 then (if q.byte 8 = 0 then restReady else live)
  else if v = 0x0901 then
    (if q.byte 8 = 0 then restReady else if q.byte 8 = 1 then armed else if q.byte 8 = 2 then o == .printing else live)
  else if v = 0x0902 ∨ v = 0x0903 ∨ v = 0x0A01 ∨ v = 0x0A02 then restReady
  else if v = 0x0904 then restReady || o == .holding
  else live

end Sys2Proof.Safety
end

