-- ==== Sys2Proof/Certificates/Slice0/Obligations.lean ====
section
/-! DEFINITION. The statements for the provers. What is named rests on the spec as OBLIGATIONS.json says; where a statement carries a choice
of the model, its docstring says so. -/

open Sys2Proof Sys2Proof.Machine Sys2Proof.Safety

/-- For every command c and state s with c at the front of its queue, step s is exec of c on s with the rest of the queue. -/
def Obligations.StepRunsTheFrontCommand : Prop :=
  ∀ (c : Instr) (rest : List Instr) (s : State), s.pending = c :: rest → step s = exec c { s with pending := rest }

/-- With no command waiting, step answers the same state: the block has no clock of its own in the model, which is the model's choice
(DESIGN CHOICE, log entry 14). -/
def Obligations.StepIdlesOnAnEmptyQueue : Prop :=
  ∀ s : State, s.pending = [] → step s = .next s

/-- For every command c and state s, exec answers a next state whose queue is that of s: it neither faults nor refuses. A command
whose operands nothing outside the module can carry (not well-formed: the model's choice, log entry 14) leaves the state as it is. -/
def Obligations.WellFormedCommandsComplete : Prop :=
  ∀ (c : Instr) (s : State),
    (∃ t, exec c s = .next t ∧ t.pending = s.pending) ∧ (c.wf = false → exec c s = .next s)

/-- From every state, as many steps as commands wait lead, without fault or refusal, to a state with an empty queue, and a step on a
state with a command waiting takes exactly that one off the queue. -/
def Obligations.QueueDrains : Prop :=
  (∀ s : State, ∃ t, core.run s.pending.length s = .next t ∧ t.pending = []) ∧
    (∀ (c : Instr) (rest : List Instr) (s : State), s.pending = c :: rest → ∃ t, step s = .next t ∧ t.pending = rest)

/-- For every state s whose memories (host memory, the HBM stacks and the SRAM of both wythes) are canonical, if step s answers a next
state t, the memories of t are canonical. That is what makes equal memories equal data: strictly rising addresses and no byte
equal to what an unlisted address reads as. -/
def Obligations.StepKeepsMemoriesCanonical : Prop :=
  ∀ s t : State, s.store.ok → step s = .next t → t.store.ok

/-- State.reset lists no byte in any memory, which is canonical. -/
def Obligations.ResetMemoriesAreCanonical : Prop :=
  State.reset.store.ok ∧ State.reset.store.host = [] ∧ State.reset.store.hbm00 = [] ∧ State.reset.store.sram0 = []

/-- Writing a byte to a memory in canonical form makes that address read the byte and leaves every other address as it was; writing a
list of bytes does the same for every address in and outside its range. -/
def Obligations.MemoryReadAfterWrite : Prop :=
  (∀ (m : Mem) (a : Nat) (v : Byte), m.wf = true → (m.set a v).get a = v ∧ ∀ b, b ≠ a → (m.set a v).get b = m.get b) ∧
    (∀ (m : Mem) (a : Nat) (bytes : List Nat), m.wf = true →
      (∀ i, i < bytes.length → (m.write a bytes).get (a + i) = BitVec.ofNat 8 (bytes.getD i 0)) ∧
      ∀ b, b < a ∨ a + bytes.length ≤ b → (m.write a bytes).get b = m.get b)

/-- For every command c and states s and t: if exec c s answers next t and t is in PRINTING, then s is in READY, PRINTING or HOLDING.
No command, and no chain of mailbox commands that a command lets run, takes the module to PRINTING from OFF, STANDBY, BOOT, REST
or FAULT. -/
def Obligations.PrintingIsEnteredOnlyFromReadyOrHolding : Prop :=
  ∀ (c : Instr) (s t : State), exec c s = .next t → t.ident.opState = .printing →
    s.ident.opState = .ready ∨ s.ident.opState = .printing ∨ s.ident.opState = .holding

/-- State.reset is the machine as the main-domain reset leaves it, before BOOT ends (the choice of that instant is the model's, log
entry 38): BOOT, no cause latched, trims and targets of registration 0, throttle step 0 and not FROZEN, TIME_VALID 0, no event
ring, interrupts cleared and not enabled, no configuration in force, no job, no lamp lit, no node known, no command waiting. -/
def Obligations.ResetState : Prop :=
  let s := State.reset;
    s.ident.opState = .boot ∧ s.plumb.latched = 0 ∧ s.plumb.firstCause = none ∧ (∀ b, b < 12 → s.quoin.trim.getD b 0 = 0) ∧
    s.coping.step = 0 ∧ s.coping.frozen = false ∧ s.time.valid = false ∧ s.ring.valid = false ∧
    s.fn0.int.cause = 0 ∧ s.fn0.int.enable = 0 ∧ s.fn1.int.cause = 0 ∧ s.fn1.int.enable = 0 ∧
    s.cfg.gen = 0 ∧ s.cfg.force = [] ∧ s.jobs.opened = [] ∧ s.acts.pend = [] ∧ s.corbel.lit = false ∧ s.pending = []

/-- Ringing the doorbell of a slot while every channel is empty, with a verb that some chapter lists and that neither the pair role
nor the gang refuses, runs that verb in the state in which its command area is written and it is the running command of its
channel; what is left is its answer. -/
def Obligations.MailboxCommandRuns : Prop :=
  ∀ (verb dt : Nat) (m : Mbox) (s : State), Usable verb m (s.opens dt) → verb ∈ verbTable →
    after dt (fun s => s.submit verb m) s =
      answered m.ch (cmdOf verb m) (runVerb m.ch (cmdOf verb m) (running verb m (s.opens dt))).1
        (runVerb m.ch (cmdOf verb m) (running verb m (s.opens dt))).2 s

/-- Where the slot is queued or running, the submission of any verb changes nothing on the mailbox but DB_BUSY of that channel, and
nothing else but host memory, which the host itself wrote before. -/
def Obligations.BusySlotIgnoresDoorbell : Prop :=
  ∀ (verb : Nat) (m : Mbox) (s : State), s.reachable 0 = true → ((s.hostLoad m.host).chan m.ch).busySlot m.slot = true →
    s.submit verb m = (s.hostLoad m.host).modChan m.ch (fun x => { x with dbBusy := true })

/-- Where the mailbox is reachable and the slot is free, the submission writes the command area, clears the slot's COMPLETE bit, puts
a response with the new VERB, TAG and PHASE, RESULT PENDING and all other fields 0 in its response area, and queues the command
behind those of its channel, at the next place in the order of the doorbells. That is all, but for a STATE.REST that is accepted
and stands behind other commands of its channel: it acts at once. -/
def Obligations.DoorbellTakesTheCommand : Prop :=
  ∀ (verb : Nat) (m : Mbox) (s : State), s.reachable 0 = true → ((s.hostLoad m.host).chan m.ch).busySlot m.slot = false →
    let h := s.hostLoad m.host
    let t := h.modChan m.ch (fun x => { x with
      area := x.area.write (64 * m.slot) (areaBytes verb m)
      complete := setBit x.complete m.slot false
      rsp := assocSet m.slot { verb := verb, tag := m.tag, phase := m.phase, result := Res.pending } x.rsp
      queue := x.queue ++ [cmdOf verb m]
      order := x.order ++ [h.nextPlace] })
    (verb ≠ 0x0203 ∨ (t.chan m.ch).queue.length < 2 → s.submit verb m = t) ∧
    (verb = 0x0203 → 2 ≤ (t.chan m.ch).queue.length → t.live = true → t.ident.romOnly = false → (cmdOf verb m).fault [] [] = none →
      s.submit verb m = (t.modChan m.ch (fun x => { x with queue := x.queue.map (fun y =>
        if y.verb = 0x0203 ∧ y.slot = m.slot then { y with acted := true } else y) })).toRest) ∧
    (∀ c, c < 4 → ∀ n ∈ (h.chan c).order, n < h.nextPlace) ∧
    ({ verb := verb, tag := m.tag, phase := m.phase, result := Res.pending } : Rsp).bytes =
      leBytes 2 verb ++ leBytes 2 m.tag ++ [bit m.phase, Res.pending, 0, 0] ++ List.replicate 56 0

/-- For every listed verb and every operating state that the verb tables do not accept it in, the verb changes nothing and answers,
with the present operating state as DETAIL, IN_REST in REST and FAULT and BAD_STATE in every other state, BOOT among them. -/
def Obligations.WrongStateAnswers : Prop :=
  ∀ (ch : Nat) (q : QCmd) (s : State), q.verb ∈ verbTable → acceptedIn q s.ident.opState = false →
    runVerb ch q s = (s, some (Reply.fail
      (if s.ident.opState = .rest ∨ s.ident.opState = .fault then Res.inRest else Res.badState) s.ident.opState.code))

/-- For every listed verb in a state that accepts it, a reserved bit of byte 4, more than 56 argument bytes in byte 5 or a reserved
half-word at byte 6 that is not 0 makes it change nothing and answer BAD_ARG with the offset of the first such byte. -/
def Obligations.UntidyCommandsAreBadArg : Prop :=
  ∀ (ch : Nat) (q : QCmd) (s : State) (o : Nat), q.verb ∈ verbTable → acceptedIn q s.ident.opState = true →
    q.headerFault = some o → runVerb ch q s = (s, some (Reply.badArg o))

/-- UNKNOWN_VERB on an empty mailbox completes with UNSUPPORTED, DETAIL 0, and changes nothing but the response. -/
def Obligations.UnlistedVerbIsUnsupported : Prop :=
  ∀ (dt verb : Nat) (m : Mbox) (s : State), (Instr.unknownVerb dt verb m).wf = true → Usable verb m (s.opens dt) →
    let u := ((s.opens dt).submit verb m).modChan m.ch (fun x => { x with running := true })
    exec (.unknownVerb dt verb m) s = .next
      { (settleGo 255 (u.respond m.ch (Reply.fail Res.unsupported 0))).sends with pending := s.pending }

/-- Outside STATE.ARM and STATE.DISARM of a standby in REST, a listed verb that the ACTIVE alone accepts changes nothing on a standby
and answers NOT_HOLDER with DETAIL 2, and on an isolated module with DETAIL 3. -/
def Obligations.PairRolesRefuse : Prop :=
  ∀ (ch : Nat) (q : QCmd) (s : State), q.verb ∈ verbTable → s.ident.romOnly = false → activeOnly q = true →
    s.aloneInRest q = false →
    (s.butt.role = .standby → s.runCmd ch q = (s, some (Reply.fail Res.notHolder 2))) ∧
    (s.butt.role = .isolated → s.runCmd ch q = (s, some (Reply.fail Res.notHolder 3)))

/-- With the role not ACTIVE and no gang, a command that has run is answered as it is. On an ACTIVE whose pair link is up, one that
succeeds and is of the forwarded kind goes to the standby in a MSG unit and stays pending, remembered as forwarded; with the link
down it completes with WARN and DETAIL 0x0901, and the mirror is no longer valid. -/
def Obligations.CarryOfACompletedCommand : Prop :=
  ∀ (ch : Nat) (q : QCmd) (t : State) (rep : Reply),
    (t.butt.role ≠ .active → t.butt.gang = false → State.carry ch q (t, some rep) = (t, some rep)) ∧
    (t.butt.role = .active → forwarded q = true → rep.result = 0 → t.pairUp = true →
      State.carry ch q (t, some rep) =
        ((t.buttSend (.butt t.pairSide 0x25 (t.msgFields ch q rep))).modButt (fun b => { b with fwd := b.fwd ++
          [{ ch := ch, slot := q.slot, at_ := t.clock.up, data := rep.data, warn := rep.warn, detail := rep.detail, late := rep.late,
             keep := false, verb := q.verb }] }), none)) ∧
    (t.butt.role = .active → forwarded q = true → rep.result = 0 → t.pairUp = false →
      State.carry ch q (t, some rep) = (t.setMirror false 3, some { rep with warn := true, detail := 0x0901 }))

/-- On an empty mailbox: SYS.INFO answers the identity words of both wythes, 80 lanes, 56 Mortar units, the Plinth firmware version
and the serial; SYS.PING answers the 48 bytes of ARGS; SYS.EVENT_RING with exponent 0 removes the event ring, and with an exponent
from 16 to 24 and an address aligned to its size sets it, its indexes at 0; SYS.RESET answers OK, notes the image that byte 9
names for the next BOOT, and has the reset begin, warm or cold, 100 µs later. Nothing else of the state in which the command runs
changes. -/
def Obligations.SystemCommands : Prop :=
  (∀ (dt : Nat) (m : Mbox) (s : State),
      let a := s.opens dt
      let q := cmdOf 0x0101 m
      let u := running 0x0101 m a
      Usable 0x0101 m a →
      Tidy q [] →
      exec (.sysInfo dt m) s = .next (answered m.ch q u (some (Reply.ok (
        ([0, 4, 8, 12].flatMap (fun o => leBytes 4 (u.identWord 0 o))) ++ ([0, 4, 8, 12].flatMap (fun o => leBytes 4 (u.identWord 1 o))) ++
        [80, 56, 0, 0] ++ leBytes 4 u.plinth.fwVersion ++ leBytes 8 u.ident.serial))) s)) ∧
    (∀ (dt : Nat) (m : Mbox) (s : State),
      let a := s.opens dt
      let q := cmdOf 0x0102 m
      let u := running 0x0102 m a
      Usable 0x0102 m a →
      Tidy q [(8, 48)] →
      exec (.sysPing dt m) s = .next (answered m.ch q u (some (Reply.ok ((List.range 48).map (fun i => m.arg (8 + i))))) s)) ∧
    (∀ (dt : Nat) (m : Mbox) (s : State),
      let a := s.opens dt
      let q := cmdOf 0x0103 m
      let u := running 0x0103 m a
      Usable 0x0103 m a →
      a.idleState = true →
      Tidy q [(8, 9)] →
      q.byte 16 = 0 →
      exec (.sysEventRing dt m) s = .next (answered m.ch q { u with ring := { overflow := u.ring.overflow, lost := u.ring.lost } } (some {}) s)) ∧
    (∀ (dt : Nat) (m : Mbox) (s : State),
      let a := s.opens dt
      let q := cmdOf 0x0103 m
      let u := running 0x0103 m a
      Usable 0x0103 m a →
      a.idleState = true →
      Tidy q [(8, 9)] →
      16 ≤ q.byte 16 →
      q.byte 16 ≤ 24 →
      q.num 8 8 % 2 ^ q.byte 16 = 0 →
      exec (.sysEventRing dt m) s = .next (answered m.ch q { u with ring := { valid := true, base := q.num 8 8, exp := q.byte 16, overflow := u.ring.overflow, lost := u.ring.lost } } (some {}) s)) ∧
    (∀ (dt : Nat) (m : Mbox) (s : State),
      let a := s.opens dt
      let q := cmdOf 0x0104 m
      let u := running 0x0104 m a
      Usable 0x0104 m a →
      a.inRest = true →
      Tidy q [(8, 2)] →
      q.byte 8 = 0 →
      q.byte 9 = 0 ∨ (q.byte 9 ≤ 2 ∧ (u.plinth.img (q.byte 9 - 1)).valid = true) →
      exec (.sysResetWarm dt m) s = .next (answered m.ch q ((u.modPlinth (fun p => { p with imgOverride := if q.byte 9 = 0 then none else some (q.byte 9 - 1) })).modPower
        (fun p => { p with resetDue := some (u.clock.up + 100000, false) })) (some {}) s)) ∧
    (∀ (dt : Nat) (m : Mbox) (s : State),
      let a := s.opens dt
      let q := cmdOf 0x0104 m
      let u := running 0x0104 m a
      Usable 0x0104 m a →
      a.inRest = true →
      Tidy q [(8, 2)] →
      q.byte 8 = 1 →
      q.byte 9 = 0 ∨ (q.byte 9 ≤ 2 ∧ (u.plinth.img (q.byte 9 - 1)).valid = true) →
      exec (.sysResetCold dt m) s = .next (answered m.ch q ((u.modPlinth (fun p => { p with imgOverride := if q.byte 9 = 0 then none else some (q.byte 9 - 1) })).modPower
        (fun p => { p with resetDue := some (u.clock.up + 100000, true) })) (some {}) s))

/-- On an empty mailbox: STATE.ARM in REST, with nothing that R60 names in the way, leaves the module in READY, with no first cause
kept; STATE.DISARM in READY and STATE.REST in READY, PRINTING or HOLDING enter REST; STATE.REST in REST and FAULT changes nothing;
STATE.CLEAR in FAULT, once every latched cause has been removed, clears every latch and leaves the module in REST. All these
answer OK. While a latched cause has not been removed, STATE.CLEAR answers HW_FAULT with the first of them and changes nothing. -/
def Obligations.StateCommands : Prop :=
  (∀ (dt : Nat) (m : Mbox) (s : State),
      let a := s.opens dt
      let q := cmdOf 0x0201 m
      let u := running 0x0201 m a
      Usable 0x0201 m a →
      a.ident.opState = .rest →
      Tidy q [] →
      u.armRefusal = none →
      exec (.stateArm dt m) s = .next (answered m.ch q u.arm (some {}) s) ∧
      u.arm.ident.opState = .ready ∧ u.arm.plumb.firstCause = none) ∧
    (∀ (dt : Nat) (m : Mbox) (s : State),
      let a := s.opens dt
      let q := cmdOf 0x0202 m
      let u := running 0x0202 m a
      Usable 0x0202 m a →
      a.ident.opState = .ready →
      Tidy q [] →
      exec (.stateDisarm dt m) s = .next (answered m.ch q (u.enterRest .rest []) (some {}) s) ∧
      (u.enterRest .rest []).ident.opState = .rest) ∧
    (∀ (dt : Nat) (m : Mbox) (s : State),
      let a := s.opens dt
      let q := cmdOf 0x0203 m
      let u := running 0x0203 m a
      Usable 0x0203 m a →
      a.armed = true →
      Tidy q [] →
      exec (.stateRest dt m) s = .next (answered m.ch q (u.enterRest .rest []) (some {}) s) ∧
      (u.enterRest .rest []).ident.opState = .rest) ∧
    (∀ (dt : Nat) (m : Mbox) (s : State),
      let a := s.opens dt
      let q := cmdOf 0x0203 m
      let u := running 0x0203 m a
      Usable 0x0203 m a →
      a.inRest = true →
      Tidy q [] →
      exec (.stateRest dt m) s = .next (answered m.ch q u (some {}) s)) ∧
    (∀ (dt : Nat) (m : Mbox) (s : State),
      let a := s.opens dt
      let q := cmdOf 0x0204 m
      let u := running 0x0204 m a
      Usable 0x0204 m a →
      a.ident.opState = .fault →
      Tidy q [] →
      u.firstUnremoved = none →
      exec (.stateClear dt m) s = .next (answered m.ch q u.clearLatches (some {}) s) ∧
      u.clearLatches.ident.opState = .rest ∧ u.clearLatches.plumb.latched = 0) ∧
    (∀ (dt : Nat) (m : Mbox) (b : Nat) (s : State),
      let a := s.opens dt
      let q := cmdOf 0x0204 m
      let u := running 0x0204 m a
      Usable 0x0204 m a →
      a.ident.opState = .fault →
      Tidy q [] →
      u.firstUnremoved = some b →
      exec (.stateClear dt m) s = .next (answered m.ch q u (some (Reply.fail Res.hwFault b)) s))

/-- In REST, STATE.ARM changes nothing and answers: CHECK_FAIL 0x0001 without a configuration in force; else HW_FAULT with the lowest
cause present; else CHECK_FAIL 0x0006 when the screening capacity does not suffice; else CHECK_FAIL 0x0005 without a discovery
under the LANE_TABLE in force that passed, or with a bond that the configuration in force no longer allows; else, unless the
module is a standby, NOT_HOLDER with the first installed head it holds no lease of. -/
def Obligations.ArmRefusals : Prop :=
  (∀ (ch : Nat) (q : QCmd) (s : State), q.verb = 0x0201 → s.ident.opState = .rest → Tidy q [] →
      let fails (r d : Nat) : Prop := runVerb ch q s = (s, some (Reply.fail r d))
      (s.cfg.gen = 0 → fails Res.checkFail 0x0001) ∧
      (s.cfg.gen ≠ 0 → ∀ b, lowestBit 32 s.present.toNat = some b → fails Res.hwFault b) ∧
      (s.cfg.gen ≠ 0 → s.present = 0 →
        ((s.capacityFault (s.sec SecId.barGeometry) (s.sec SecId.profile)).isSome = true → fails Res.checkFail 0x0006) ∧
        (s.capacityFault (s.sec SecId.barGeometry) (s.sec SecId.profile) = none →
          (s.bondFound = false ∨ s.laneLoadNow.isSome = true → fails Res.checkFail 0x0005) ∧
          (s.bondFound = true → s.laneLoadNow = none → ∀ g, s.unheldHead = some g → s.butt.role ≠ .standby → fails Res.notHolder g))))

/-- On an empty mailbox, in a state that accepts them and with good arguments: CFG.STAGE puts its inline or fetched bytes into the
named section of the shadow set (or sets the length of MORTAR), mirrors the piece to Wythe 1 in class CTRL of the Tie, and answers
the new SHADOW_GEN; each wythe fetches its own share of a bulk table over its own function; CFG.CHECK with no failure remembers
the generation judged and answers it, with failures it answers CHECK_FAIL with the first check code and changes nothing;
CFG.CANCEL without a pending commit answers OK, ends a pending one whose lift is still open, and answers LATE 0x0304 to one whose
lift is not and to one that has been applied at once and is being carried to the pair or gang; CFG.DISCARD without a pending
commit copies the set in force to the shadow set; while a CFG.CHECK is being carried, or a commit is pending, CFG.STAGE and
CFG.DISCARD answer BUSY with DETAIL 0x0302 or 0x0303; CFG.READ copies the bytes of the named section to host memory through
channel 15. -/
def Obligations.ConfigurationCommands : Prop :=
  (∀ (dt : Nat) (m : Mbox) (s : State),
      let a := s.opens dt
      let q := cmdOf 0x0301 m
      let u := running 0x0301 m a
      Usable 0x0301 m a →
      a.live = true →
      Tidy q [(8, 1), (12, 4), (16, 8), (24, 32), (56, 4)] →
      secLen (q.byte 8) ≠ 0 →
      q.num 12 4 < secLen (q.byte 8) →
      q.num 56 4 ≠ 0 →
      q.num 12 4 + q.num 56 4 ≤ secLen (q.byte 8) →
      q.num 16 8 = 0 →
      q.num 56 4 ≤ 32 →
      u.checkRuns = false →
      u.commitPending = false →
      exec (.cfgStage dt m) s = .next (answered m.ch q ((u.stage (q.byte 8) (q.num 12 4) ((List.range (q.num 56 4)).map (fun i => m.arg (24 + i)))).tieSend 0 tieCtrl (ctrlStage (q.byte 8) (q.num 12 4) 0 ((List.range (q.num 56 4)).map (fun i => m.arg (24 + i))))) (some (Reply.ok (leBytes 8 (u.cfg.shadowGen + 1).toNat))) s)) ∧
    (∀ (dt : Nat) (m : Mbox) (s : State),
      let a := s.opens dt
      let q := cmdOf 0x0301 m
      let u := running 0x0301 m a
      Usable 0x0301 m a →
      a.live = true →
      Tidy q [(8, 1), (12, 4), (16, 8), (24, 32), (56, 4)] →
      secLen (q.byte 8) ≠ 0 →
      q.num 12 4 < secLen (q.byte 8) →
      q.num 56 4 ≠ 0 →
      q.num 12 4 + q.num 56 4 ≤ secLen (q.byte 8) →
      q.num 16 8 ≠ 0 →
      q.num 16 8 % 64 = 0 →
      m.fetchFail = false →
      u.checkRuns = false →
      u.commitPending = false →
      exec (.cfgStage dt m) s = .next (answered m.ch q ((((u.ownFetch (stageShares (q.byte 8) (q.num 12 4) (q.num 56 4)).1 (stageShares (q.byte 8) (q.num 12 4) (q.num 56 4)).2)).stage (q.byte 8) (q.num 12 4) (u.store.host.read (q.num 16 8) (q.num 56 4))).tieSend 0 tieCtrl (ctrlStage (q.byte 8) (q.num 12 4) (q.num 16 8) (u.store.host.read (q.num 16 8) (q.num 56 4)))) (some (Reply.ok (leBytes 8 (u.cfg.shadowGen + 1).toNat))) s)) ∧
    (∀ (dt : Nat) (m : Mbox) (s : State),
      let a := s.opens dt
      let q := cmdOf 0x0301 m
      let u := running 0x0301 m a
      Usable 0x0301 m a →
      a.live = true →
      Tidy q [(8, 1), (12, 4), (16, 8), (24, 32), (56, 4)] →
      q.byte 8 = SecId.mortar →
      q.num 56 4 = 0 →
      q.num 16 8 = 0 →
      mortarMin ≤ q.num 12 4 →
      q.num 12 4 ≤ (u.shadow SecId.mortar).len →
      u.checkRuns = false →
      u.commitPending = false →
      exec (.cfgStage dt m) s = .next (answered m.ch q ((u.stage SecId.mortar (q.num 12 4) []).tieSend 0 tieCtrl (ctrlStage SecId.mortar (q.num 12 4) 0 [])) (some (Reply.ok (leBytes 8 (u.cfg.shadowGen + 1).toNat))) s)) ∧
    (∀ (dt : Nat) (m : Mbox) (s : State),
      let a := s.opens dt
      let q := cmdOf 0x0302 m
      let u := running 0x0302 m a
      Usable 0x0302 m a →
      a.live = true →
      Tidy q [] →
      exec (.cfgCheck dt m) s = .next (answered m.ch q (match u.checkFails with
        | [] => u.modCfg (fun x => { x with checked := some x.shadowGen.toNat })
        | _ :: _ => u) (some (match u.checkFails with
        | [] => Reply.ok (leBytes 8 u.cfg.shadowGen.toNat)
        | c :: l => { result := Res.checkFail, detail := c.code,
                      data := leBytes 8 u.cfg.shadowGen.toNat ++ leBytes 4 (c :: l).length ++ leBytes 4 c.section_ ++ leBytes 8 c.measured ++ leBytes 8 c.limit })) s)) ∧
    (∀ (dt : Nat) (m : Mbox) (s : State),
      let a := s.opens dt
      let q := cmdOf 0x0304 m
      let u := running 0x0304 m a
      Usable 0x0304 m a →
      a.live = true →
      Tidy q [] →
      u.cfg.pend = none →
      u.commitRuns = false →
      exec (.cfgCancel dt m) s = .next (answered m.ch q u (some (Reply.ok [])) s)) ∧
    (∀ (dt : Nat) (m : Mbox) (s : State),
      let a := s.opens dt
      let q := cmdOf 0x0304 m
      let u := running 0x0304 m a
      Usable 0x0304 m a →
      a.live = true →
      Tidy q [] →
      u.cfg.pend = none →
      u.commitRuns = true →
      exec (.cfgCancel dt m) s = .next (answered m.ch q u (some (Reply.fail Res.late 0x0304)) s)) ∧
    (∀ (dt : Nat) (m : Mbox) (s : State),
      let a := s.opens dt
      let q := cmdOf 0x0304 m
      let u := running 0x0304 m a
      Usable 0x0304 m a →
      a.live = true →
      Tidy q [] →
      ∀ p : Pend, u.cfg.pend = some p →
      u.liftOpen p.lift = true →
      exec (.cfgCancel dt m) s = .next (answered m.ch q (u.endPend Res.late 0x0304) (some (Reply.ok (leBytes 8 1 ++ leBytes 8 p.gen))) s)) ∧
    (∀ (dt : Nat) (m : Mbox) (s : State),
      let a := s.opens dt
      let q := cmdOf 0x0301 m
      let u := running 0x0301 m a
      Usable 0x0301 m a →
      a.live = true →
      Tidy q [(8, 1), (12, 4), (16, 8), (24, 32), (56, 4)] →
      secLen (q.byte 8) ≠ 0 →
      q.num 12 4 < secLen (q.byte 8) →
      q.num 56 4 ≠ 0 →
      q.num 12 4 + q.num 56 4 ≤ secLen (q.byte 8) →
      q.num 16 8 = 0 →
      q.num 56 4 ≤ 32 →
      (u.checkRuns = true ∨ u.commitPending = true) →
      exec (.cfgStage dt m) s = .next (answered m.ch q u (some (Reply.fail Res.busy (if u.checkRuns = true then 0x0302 else 0x0303))) s)) ∧
    (∀ (dt : Nat) (m : Mbox) (s : State),
      let a := s.opens dt
      let q := cmdOf 0x0305 m
      let u := running 0x0305 m a
      Usable 0x0305 m a →
      a.live = true →
      Tidy q [] →
      (u.checkRuns = true ∨ u.commitPending = true) →
      exec (.cfgDiscard dt m) s = .next (answered m.ch q u (some (Reply.fail Res.busy (if u.checkRuns = true then 0x0302 else 0x0303))) s)) ∧
    (∀ (dt : Nat) (m : Mbox) (s : State),
      let a := s.opens dt
      let q := cmdOf 0x0305 m
      let u := running 0x0305 m a
      Usable 0x0305 m a →
      a.live = true →
      Tidy q [] →
      u.checkRuns = false →
      u.commitPending = false →
      exec (.cfgDiscard dt m) s = .next (answered m.ch q (u.modCfg (fun x => { x with shadow := x.force, shadowGen := x.shadowGen + 1, touched := [] })) (some (Reply.ok (leBytes 8 (u.cfg.shadowGen + 1).toNat))) s)) ∧
    (∀ (dt : Nat) (m : Mbox) (s : State),
      let a := s.opens dt
      let q := cmdOf 0x0306 m
      let u := running 0x0306 m a
      Usable 0x0306 m a →
      a.live = true →
      Tidy q [(8, 2), (12, 4), (16, 8), (24, 4)] →
      secLen (q.byte 8) ≠ 0 →
      q.byte 9 = 0 →
      ∀ c : Sec, assoc (q.byte 8) a.cfg.shadow = some c →
      q.num 12 4 < c.len →
      q.num 16 8 % 64 = 0 →
      q.num 24 4 ≠ 0 →
      q.num 12 4 + q.num 24 4 ≤ c.len →
      m.fetchFail = false →
      exec (.cfgRead dt m) s = .next (answered m.ch q (u.copyOut (q.num 16 8) (c.mem.read (q.num 12 4) (q.num 24 4))) (some (Reply.ok (leBytes 8 u.cfg.shadowGen.toNat ++ leBytes 4 c.len))) s)) ∧
    (∀ (dt : Nat) (m : Mbox) (s : State),
      let a := s.opens dt
      let q := cmdOf 0x0306 m
      let u := running 0x0306 m a
      Usable 0x0306 m a →
      a.live = true →
      Tidy q [(8, 2), (12, 4), (16, 8), (24, 4)] →
      secLen (q.byte 8) ≠ 0 →
      q.byte 9 = 1 →
      ∀ c : Sec, assoc (q.byte 8) a.cfg.force = some c →
      q.num 12 4 < c.len →
      q.num 16 8 % 64 = 0 →
      q.num 24 4 ≠ 0 →
      q.num 12 4 + q.num 24 4 ≤ c.len →
      m.fetchFail = false →
      exec (.cfgRead dt m) s = .next (answered m.ch q (u.copyOut (q.num 16 8) (c.mem.read (q.num 12 4) (q.num 24 4))) (some (Reply.ok (leBytes 8 u.cfg.gen ++ leBytes 4 c.len))) s)) ∧
    (∀ (dt : Nat) (m : Mbox) (s : State),
      let a := s.opens dt
      let q := cmdOf 0x0304 m
      let u := running 0x0304 m a
      Usable 0x0304 m a →
      a.live = true →
      Tidy q [] →
      ∀ p : Pend, u.cfg.pend = some p →
      u.liftOpen p.lift = false →
      exec (.cfgCancel dt m) s = .next (answered m.ch q u (some (Reply.fail Res.late 0x0304)) s))

/-- On an empty mailbox, for the generation that was checked and with no commit pending: an immediate commit outside PRINTING and
HOLDING applies the set at once; a commit at a lift or course, in REST or FAULT, applies at once with WARN and DETAIL 0x0303; in
READY, PRINTING and HOLDING it is accepted for its lift while that lift is open (no change of an idle section in PRINTING and
HOLDING), and else under AT_ONCE for the earliest lift, with LATE_MARK; accepted, it stays pending, and its token goes to Wythe 1
in class SYNC of the Tie. The committed set goes to Wythe 1 in class CTRL. -/
def Obligations.CommitAccepted : Prop :=
  (∀ (dt : Nat) (m : Mbox) (s : State),
      let a := s.opens dt
      let q := cmdOf 0x0303 m
      let u := running 0x0303 m a
      Usable 0x0303 m a →
      a.live = true →
      Tidy q [(8, 8), (16, 1), (24, 8)] →
      q.byte 16 = 0 →
      q.num 24 8 = 0 →
      a.printHold = false →
      q.num 8 8 = u.cfg.shadowGen.toNat →
      u.cfg.checked = some u.cfg.shadowGen.toNat →
      u.checkRuns = false →
      u.commitPending = false →
      exec (.cfgCommit dt m) s = .next (answered m.ch q ((u.tieSendAll 0 tieCtrl (ctrlCommit (u.pendOf m.ch m.slot 0 false))).applySet (u.pendOf m.ch m.slot 0 false) none) (some { data := commitData none u.cfg.shadowGen.toNat }) s)) ∧
    (∀ (dt : Nat) (m : Mbox) (lift : Nat) (s : State),
      let a := s.opens dt
      let q := cmdOf 0x0303 m
      let u := running 0x0303 m a
      Usable 0x0303 m a →
      a.live = true →
      Tidy q [(8, 8), (16, 1), (24, 8)] →
      (q.byte 16 = 1 ∧ lift = q.num 24 8) ∨ (q.byte 16 = 2 ∧ lift = ceilDiv (q.num 24 8) 256) →
      a.inRest = true →
      lift ≤ u.presentLift + 4096 →
      q.num 8 8 = u.cfg.shadowGen.toNat →
      u.cfg.checked = some u.cfg.shadowGen.toNat →
      u.checkRuns = false →
      u.commitPending = false →
      exec (.cfgCommit dt m) s = .next (answered m.ch q ((u.tieSendAll 0 tieCtrl (ctrlCommit (u.pendOf m.ch m.slot 0 false))).applySet (u.pendOf m.ch m.slot 0 false) none) (some { data := commitData none u.cfg.shadowGen.toNat, warn := true, detail := 0x0303 }) s)) ∧
    (∀ (dt : Nat) (m : Mbox) (lift : Nat) (s : State),
      let a := s.opens dt
      let q := cmdOf 0x0303 m
      let u := running 0x0303 m a
      Usable 0x0303 m a →
      a.armed = true →
      Tidy q [(8, 8), (16, 1), (24, 8)] →
      (q.byte 16 = 1 ∧ lift = q.num 24 8) ∨ (q.byte 16 = 2 ∧ lift = ceilDiv (q.num 24 8) 256) →
      (u.idleChange = false ∨ a.printHold = false) →
      lift ≤ u.presentLift + 4096 →
      u.liftOpen lift = true →
      q.num 8 8 = u.cfg.shadowGen.toNat →
      u.cfg.checked = some u.cfg.shadowGen.toNat →
      u.checkRuns = false →
      u.commitPending = false →
      exec (.cfgCommit dt m) s = .next (answered m.ch q ((((u.modCfg (fun x => { x with pend := some (u.pendOf m.ch m.slot lift false) })).tieSend 0 tieSync [1, (lift : Int)]).tieSendAll 0 tieCtrl (ctrlCommit (u.pendOf m.ch m.slot lift false))).gangSay [0, lift]) none s)) ∧
    (∀ (dt : Nat) (m : Mbox) (lift : Nat) (s : State),
      let a := s.opens dt
      let q := cmdOf 0x0303 m
      let u := running 0x0303 m a
      Usable 0x0303 m a →
      a.armed = true →
      Tidy q [(8, 8), (16, 1), (24, 8)] →
      (q.byte 16 = 1 ∧ lift = q.num 24 8) ∨ (q.byte 16 = 2 ∧ lift = ceilDiv (q.num 24 8) 256) →
      (u.idleChange = false ∨ a.printHold = false) →
      lift ≤ u.presentLift + 4096 →
      u.liftOpen lift = false →
      m.atOnce = true →
      q.num 8 8 = u.cfg.shadowGen.toNat →
      u.cfg.checked = some u.cfg.shadowGen.toNat →
      u.checkRuns = false →
      u.commitPending = false →
      exec (.cfgCommit dt m) s = .next (answered m.ch q ((((u.modCfg (fun x => { x with pend := some (u.pendOf m.ch m.slot u.earliestLift true) })).tieSend 0 tieSync [1, (u.earliestLift : Int)]).tieSendAll 0 tieCtrl (ctrlCommit (u.pendOf m.ch m.slot u.earliestLift true))).gangSay [0, u.earliestLift]) none s))

/-- On an empty mailbox, in a state that accepts them and with good arguments: ATTACH binds channels that no other job holds; DETACH
releases channels with no unfinished SOURCE descriptor of the job; END declares the last line; JOB.START queues an open job at the
named boundary (in READY with the web at rest also at one nearer than the earliest), at the earliest one, or under AT_ONCE at the
earliest with LATE_MARK; JOB.PAUSE in PRINTING requests a controlled stop; JOB.CONTINUE in HOLDING releases the pause; JOB.ABORT
ends a started job; JOB.CLOSE frees a job that is not started or has ended, with its lines and strips, and SPEED_CEIL follows;
JOB.STATUS reports. In a gang whose time offset is above 50 ns JOB.START answers MISMATCH 3, and a started job is not closed:
BAD_STATE; both change nothing. The job that byte 8 names exists. -/
def Obligations.JobCommands : Prop :=
  (∀ (dt : Nat) (m : Mbox) (s : State),
      let a := s.opens dt
      let q := cmdOf 0x0402 m
      let u := running 0x0402 m a
      Usable 0x0402 m a →
      a.armed = true →
      Tidy q [(8, 6), (16, 8)] →
      ∀ j : Job, u.job (q.byte 8) = some j →
      q.byte 9 = 1 →
      q.num 10 2 < 16384 →
      q.num 12 2 < 16384 →
      (∀ o ∈ u.jobs.opened, o.id ≠ j.id → o.chan0 &&& BitVec.ofNat 14 (q.num 10 2) = 0 ∧ o.chan1 &&& BitVec.ofNat 14 (q.num 12 2) = 0) →
      exec (.jobSubmitAttach dt m) s = .next (answered m.ch q (u.setJob { j with chan0 := j.chan0 ||| BitVec.ofNat 14 (q.num 10 2), chan1 := j.chan1 ||| BitVec.ofNat 14 (q.num 12 2) }) (some {}) s)) ∧
    (∀ (dt : Nat) (m : Mbox) (s : State),
      let a := s.opens dt
      let q := cmdOf 0x0402 m
      let u := running 0x0402 m a
      Usable 0x0402 m a →
      a.armed = true →
      Tidy q [(8, 6), (16, 8)] →
      ∀ j : Job, u.job (q.byte 8) = some j →
      q.byte 9 = 2 →
      q.num 10 2 < 16384 →
      q.num 12 2 < 16384 →
      (∀ c, c < 14 → (BitVec.ofNat 14 (q.num 10 2)).getLsbD c = true → j.bound 0 c = true → (u.ch 0 c).descs.any (fun d => d.op == 1 && d.job == j.id) = false) →
      (∀ c, c < 14 → (BitVec.ofNat 14 (q.num 12 2)).getLsbD c = true → j.bound 1 c = true → (u.ch 1 c).descs.any (fun d => d.op == 1 && d.job == j.id) = false) →
      exec (.jobSubmitDetach dt m) s = .next (answered m.ch q (u.setJob { j with chan0 := j.chan0 &&& ~~~(BitVec.ofNat 14 (q.num 10 2)), chan1 := j.chan1 &&& ~~~(BitVec.ofNat 14 (q.num 12 2)) }) (some {}) s)) ∧
    (∀ (dt : Nat) (m : Mbox) (s : State),
      let a := s.opens dt
      let q := cmdOf 0x0402 m
      let u := running 0x0402 m a
      Usable 0x0402 m a →
      a.armed = true →
      Tidy q [(8, 6), (16, 8)] →
      ∀ j : Job, u.job (q.byte 8) = some j →
      q.byte 9 = 3 →
      q.num 10 2 < 16384 →
      q.num 12 2 < 16384 →
      q.num 16 8 ≠ 0 →
      (j.length = 0 ∧ j.repeats = false ∨ j.linesOf j.length = q.num 16 8) →
      exec (.jobSubmitEnd dt m) s = .next (answered m.ch q ((u.setJob { j with endLine := some (q.num 16 8) }).starvation) (some {}) s)) ∧
    (∀ (dt : Nat) (m : Mbox) (s : State),
      let a := s.opens dt
      let q := cmdOf 0x0403 m
      let u := running 0x0403 m a
      Usable 0x0403 m a →
      a.armed = true →
      Tidy q [(8, 2), (16, 8)] →
      ∀ j : Job, u.job (q.byte 8) = some j →
      j.state = 0 →
      q.byte 9 = 0 →
      q.num 16 8 = 0 →
      (u.butt.gang = false ∨ u.butt.offset.natAbs ≤ 50) →
      exec (.jobStart dt m) s = .next (answered m.ch q (u.queueJob j (256 * u.earliestLift)) (some { data := leBytes 8 (256 * u.earliestLift) }) s)) ∧
    (∀ (dt : Nat) (m : Mbox) (s : State),
      let a := s.opens dt
      let q := cmdOf 0x0403 m
      let u := running 0x0403 m a
      Usable 0x0403 m a →
      a.armed = true →
      Tidy q [(8, 2), (16, 8)] →
      ∀ j : Job, u.job (q.byte 8) = some j →
      j.state = 0 →
      q.byte 9 = 1 →
      ceilDiv (q.num 16 8) 256 ≤ u.presentLift + 4096 →
      (u.butt.gang = false ∨ u.butt.offset.natAbs ≤ 50) →
      u.earliestLift ≤ ceilDiv (q.num 16 8) 256 →
      exec (.jobStart dt m) s = .next (answered m.ch q (u.queueJob j (256 * ceilDiv (q.num 16 8) 256)) (some { data := leBytes 8 (256 * ceilDiv (q.num 16 8) 256) }) s)) ∧
    (∀ (dt : Nat) (m : Mbox) (s : State),
      let a := s.opens dt
      let q := cmdOf 0x0403 m
      let u := running 0x0403 m a
      Usable 0x0403 m a →
      a.ident.opState = .ready →
      Tidy q [(8, 2), (16, 8)] →
      ∀ j : Job, u.job (q.byte 8) = some j →
      j.state = 0 →
      q.byte 9 = 1 →
      ceilDiv (q.num 16 8) 256 ≤ u.presentLift + 4096 →
      (u.butt.gang = false ∨ u.butt.offset.natAbs ≤ 50) →
      u.webAtRest = true →
      u.nextRelease < q.num 16 8 →
      exec (.jobStart dt m) s = .next (answered m.ch q (u.queueJob j (256 * ceilDiv (q.num 16 8) 256)) (some { data := leBytes 8 (256 * ceilDiv (q.num 16 8) 256) }) s)) ∧
    (∀ (dt : Nat) (m : Mbox) (s : State),
      let a := s.opens dt
      let q := cmdOf 0x0403 m
      let u := running 0x0403 m a
      Usable 0x0403 m a →
      a.printHold = true →
      Tidy q [(8, 2), (16, 8)] →
      ∀ j : Job, u.job (q.byte 8) = some j →
      j.state = 0 →
      q.byte 9 = 1 →
      ceilDiv (q.num 16 8) 256 ≤ u.presentLift + 4096 →
      (u.butt.gang = false ∨ u.butt.offset.natAbs ≤ 50) →
      ceilDiv (q.num 16 8) 256 < u.earliestLift →
      m.atOnce = true →
      exec (.jobStart dt m) s = .next (answered m.ch q (u.queueJob j (256 * u.earliestLift)) (some { data := leBytes 8 (256 * u.earliestLift), late := true }) s)) ∧
    (∀ (dt : Nat) (m : Mbox) (s : State),
      let a := s.opens dt
      let q := cmdOf 0x0404 m
      let u := running 0x0404 m a
      Usable 0x0404 m a →
      a.ident.opState = .printing →
      Tidy q [] →
      exec (.jobPause dt m) s = .next (answered m.ch q ((u.modJobs (fun x => { x with paused := true })).trigger 1 none 0) (some {}) s) ∧
      ((u.modJobs (fun x => { x with paused := true })).trigger 1 none 0).ident.opState = .holding) ∧
    (∀ (dt : Nat) (m : Mbox) (s : State),
      let a := s.opens dt
      let q := cmdOf 0x0405 m
      let u := running 0x0405 m a
      Usable 0x0405 m a →
      a.ident.opState = .holding →
      Tidy q [] →
      exec (.jobContinue dt m) s = .next (answered m.ch q (u.modJobs (fun x => { x with paused := false })) (some {}) s)) ∧
    (∀ (dt : Nat) (m : Mbox) (s : State),
      let a := s.opens dt
      let q := cmdOf 0x0406 m
      let u := running 0x0406 m a
      Usable 0x0406 m a →
      a.armed = true →
      Tidy q [(8, 1)] →
      ∀ j : Job, u.job (q.byte 8) = some j →
      (j.state = 1 ∨ j.state = 2) →
      exec (.jobAbort dt m) s = .next (answered m.ch q (u.abortJob j) (some {}) s)) ∧
    (∀ (dt : Nat) (m : Mbox) (s : State),
      let a := s.opens dt
      let q := cmdOf 0x0407 m
      let u := running 0x0407 m a
      Usable 0x0407 m a →
      a.live = true →
      Tidy q [(8, 1)] →
      ∀ j : Job, u.job (q.byte 8) = some j →
      j.state ≠ 1 →
      j.state ≠ 2 →
      exec (.jobClose dt m) s = .next (answered m.ch q ((u.modJobs (fun x => { x with
        opened := x.opened.filter (·.id != j.id), lines := x.lines.filter (·.job != j.id), strips := x.strips.filter (·.job != j.id), order := x.order.filter (· != j.id) })).updateCeil) (some {}) s)) ∧
    (∀ (dt : Nat) (m : Mbox) (s : State),
      let a := s.opens dt
      let q := cmdOf 0x0408 m
      let u := running 0x0408 m a
      Usable 0x0408 m a →
      a.live = true →
      Tidy q [(8, 1)] →
      ∀ j : Job, u.job (q.byte 8) = some j →
      exec (.jobStatus dt m) s = .next (answered m.ch q u (some (Reply.ok (u.jobReport j))) s)) ∧
    (∀ (dt : Nat) (m : Mbox) (s : State),
      let a := s.opens dt
      let q := cmdOf 0x0403 m
      let u := running 0x0403 m a
      Usable 0x0403 m a →
      a.armed = true →
      Tidy q [(8, 2), (16, 8)] →
      ∀ j : Job, u.job (q.byte 8) = some j →
      j.state = 0 →
      (q.byte 9 = 0 ∧ q.num 16 8 = 0 ∨ q.byte 9 = 1 ∧ ceilDiv (q.num 16 8) 256 ≤ u.presentLift + 4096) →
      u.butt.gang = true →
      50 < u.butt.offset.natAbs →
      exec (.jobStart dt m) s = .next (answered m.ch q u (some (Reply.fail Res.mismatch 3)) s)) ∧
    (∀ (dt : Nat) (m : Mbox) (s : State),
      let a := s.opens dt
      let q := cmdOf 0x0407 m
      let u := running 0x0407 m a
      Usable 0x0407 m a →
      a.live = true →
      Tidy q [(8, 1)] →
      ∀ j : Job, u.job (q.byte 8) = some j →
      (j.state = 1 ∨ j.state = 2) →
      exec (.jobClose dt m) s = .next (answered m.ch q u (some (Reply.fail Res.badState u.ident.opState.code)) s))

/-- On an empty mailbox, in READY, PRINTING or HOLDING with good arguments and fewer than 16 open jobs: where both wythes can place
the job, JOB.OPEN adds it to the open jobs with the lowest id that none of them holds, claims its extents, marks the edges that
face another gang member (their margin is the 32 columns of R352), and answers the placement report, and SPEED_CEIL follows; where
one cannot, it changes nothing and answers NO_SPACE with DETAIL 0x0010 or 0x0011. The free-value counter, which only keys values
the spec leaves open, moves on with the job (log entry 1). -/
def Obligations.JobOpenPlaces : Prop :=
  (∀ (dt : Nat) (m : Mbox) (s : State),
      let a := s.opens dt
      let q := cmdOf 0x0401 m
      let u := running 0x0401 m a
      let rh := field (q.num 32 4) 8 8
      let exp := field (q.num 32 4) 16 4
      let rep := q.byte 8 == 0
      let j0 : Job := { id := u.freeJobId, repeats := rep, ashlar := q.byte 9 == 1, mask := BitVec.ofNat 12 (q.num 10 2),
                        xHalf := q.byte 12 == 1, yHalf := q.byte 13 == 1, length := q.num 16 8, tile := q.num 24 8,
                        noComp := bitAt (q.num 32 4) 0, ratio16 := if rh = 0 then 32 else rh, key := u.freeCtr,
                        first := m.first, width := m.width, east := u.neighbour 0, west := u.neighbour 1 }
      let ring := if exp = 0 then 6 else exp
      let geo := u.sec SecId.barGeometry
      Usable 0x0401 m a → a.armed = true → Tidy q [(8, 6), (16, 20)] → q.byte 8 ≤ 1 → q.byte 9 ≤ 1 → q.num 10 2 ≠ 0 → q.num 10 2 < 4096 → q.byte 12 ≤ 1 →
      q.byte 13 ≤ 1 → (rep = true → q.num 16 8 ≠ 0 ∧ q.num 24 8 ≠ 0) → (rep = false → q.num 24 8 = 0) →
      (rep = true ∨ exp = 0 ∨ (6 ≤ exp ∧ exp ≤ 10)) → (rh = 0 ∨ 16 ≤ rh) → field (q.num 32 4) 1 7 = 0 → field (q.num 32 4) 20 12 = 0 →
      u.jobs.opened.length < 16 →
      (∀ a b, u.placeJob j0 ring 0 = some a → u.placeJob j0 ring 1 = some b →
        let j : Job := { j0 with place0 := a.1, ring0 := a.2, place1 := b.1, ring1 := b.2,
                                 ext0 := { j0 with place0 := a.1, ring0 := a.2, place1 := b.1, ring1 := b.2 }.extentsFor geo 0 a.1 a.2 1 1,
                                 ext1 := { j0 with place0 := a.1, ring0 := a.2, place1 := b.1, ring1 := b.2 }.extentsFor geo 1 b.1 b.2 1 1 }
        let t := ({ u with freeCtr := u.freeCtr + 1 }.modJobs (fun x => { x with opened := x.opened ++ [j] })).claimExtents j.id |>.updateCeil
        exec (.jobOpen dt m) s = .next (answered m.ch q t (some (Reply.ok (t.openReport j))) s)) ∧
      (u.placeJob j0 ring 0 = none → exec (.jobOpen dt m) s = .next (answered m.ch q u (some (Reply.fail Res.noSpace 0x0010)) s)) ∧
      (∀ a, u.placeJob j0 ring 0 = some a → u.placeJob j0 ring 1 = none →
        exec (.jobOpen dt m) s = .next (answered m.ch q u (some (Reply.fail Res.noSpace 0x0011)) s)))

/-- On an empty mailbox, in a state that accepts them and with good arguments: an action whose moment has not passed is added to the
pending actions under the next id, which is answered; under AT_ONCE an action whose moment has passed runs at once in READY and
waits for the next lift boundary in PRINTING and HOLDING, with LATE_MARK; EVT.CANCEL removes a pending action, and answers LATE
with the stamp of one that ran; EVT.LIST copies the pending actions, in ascending id, to host memory. -/
def Obligations.EventCommands : Prop :=
  (∀ (dt : Nat) (m : Mbox) (s : State),
      let a := s.opens dt
      let q := cmdOf 0x0501 m
      let u := running 0x0501 m a
      Usable 0x0501 m a →
      a.armed = true →
      Tidy q [(8, 10), (20, 4)] →
      actionOk (q.byte 17) = true →
      u.outputBad (q.byte 17) (q.num 20 4) = false →
      u.acts.pend.length < 1024 →
      u.coursePassed (q.num 8 8) (q.byte 16) = false →
      exec (.evtAtCourse dt m) s = .next (answered m.ch q ((u.schedule { byTime := false, code := q.byte 17, arg := q.num 20 4, moment := q.num 8 8, frac := q.byte 16 }).anticipate) (some { data := leBytes 4 u.acts.nextId }) s)) ∧
    (∀ (dt : Nat) (m : Mbox) (s : State),
      let a := s.opens dt
      let q := cmdOf 0x0501 m
      let u := running 0x0501 m a
      Usable 0x0501 m a →
      a.printHold = true →
      Tidy q [(8, 10), (20, 4)] →
      actionOk (q.byte 17) = true →
      u.outputBad (q.byte 17) (q.num 20 4) = false →
      u.acts.pend.length < 1024 →
      u.coursePassed (q.num 8 8) (q.byte 16) = true →
      m.atOnce = true →
      exec (.evtAtCourse dt m) s = .next (answered m.ch q ((u.schedule { byTime := false, code := q.byte 17, arg := q.num 20 4, moment := q.num 8 8, frac := q.byte 16, late := true }).anticipate) (some { data := leBytes 4 u.acts.nextId, late := true }) s)) ∧
    (∀ (dt : Nat) (m : Mbox) (s : State),
      let a := s.opens dt
      let q := cmdOf 0x0501 m
      let u := running 0x0501 m a
      Usable 0x0501 m a →
      a.ident.opState = .ready →
      Tidy q [(8, 10), (20, 4)] →
      actionOk (q.byte 17) = true →
      u.outputBad (q.byte 17) (q.num 20 4) = false →
      u.acts.pend.length < 1024 →
      u.coursePassed (q.num 8 8) (q.byte 16) = true →
      m.atOnce = true →
      exec (.evtAtCourse dt m) s = .next (answered m.ch q ((u.schedule { byTime := false, code := q.byte 17, arg := q.num 20 4, moment := q.num 8 8, frac := q.byte 16, late := true }).runAction true { byTime := false, code := q.byte 17, arg := q.num 20 4, moment := q.num 8 8, frac := q.byte 16, id := u.acts.nextId, late := true }) (some { data := leBytes 4 u.acts.nextId, late := true }) s)) ∧
    (∀ (dt : Nat) (m : Mbox) (s : State),
      let a := s.opens dt
      let q := cmdOf 0x0502 m
      let u := running 0x0502 m a
      Usable 0x0502 m a →
      a.armed = true →
      Tidy q [(8, 8), (17, 1), (20, 4)] →
      bitAt (q.num 8 8) 0 = false →
      actionOk (q.byte 17) = true →
      u.outputBad (q.byte 17) (q.num 20 4) = false →
      u.acts.pend.length < 1024 →
      u.now + 10000 ≤ q.num 8 8 →
      exec (.evtAtTime dt m) s = .next (answered m.ch q ((u.schedule { byTime := true, code := q.byte 17, arg := q.num 20 4, moment := q.num 8 8, frac := 0 }).anticipate) (some { data := leBytes 4 u.acts.nextId }) s)) ∧
    (∀ (dt : Nat) (m : Mbox) (s : State),
      let a := s.opens dt
      let q := cmdOf 0x0503 m
      let u := running 0x0503 m a
      Usable 0x0503 m a →
      a.live = true →
      Tidy q [(8, 4)] →
      u.acts.pend.any (·.id == q.num 8 4) = true →
      exec (.evtCancel dt m) s = .next (answered m.ch q ((u.acts.pend.filter (·.id == q.num 8 4)).foldl (fun (t : State) a => t.unqueue a) (u.modActs (fun x => { x with pend := x.pend.filter (·.id != q.num 8 4) }))) (some {}) s)) ∧
    (∀ (dt : Nat) (m : Mbox) (s : State),
      let a := s.opens dt
      let q := cmdOf 0x0503 m
      let u := running 0x0503 m a
      Usable 0x0503 m a →
      a.live = true →
      Tidy q [(8, 4)] →
      u.acts.pend.any (·.id == q.num 8 4) = false →
      ∀ t : Nat, assoc (q.num 8 4) u.acts.done = some t →
      exec (.evtCancel dt m) s = .next (answered m.ch q u (some { result := Res.late, detail := 0x0503, data := leBytes 8 t }) s)) ∧
    (∀ (dt : Nat) (m : Mbox) (s : State),
      let a := s.opens dt
      let q := cmdOf 0x0504 m
      let u := running 0x0504 m a
      Usable 0x0504 m a →
      a.live = true →
      Tidy q [(8, 4), (16, 8)] →
      q.num 8 4 ≠ 0 →
      q.num 8 4 ≤ 1024 →
      q.num 16 8 % 64 = 0 →
      m.fetchFail = false →
      exec (.evtList dt m) s = .next (answered m.ch q (u.copyOut (q.num 16 8) (((u.acts.pend.foldr insertAct []).take (q.num 8 4)).flatMap Act.bytes)) (some (Reply.ok (leBytes 4 ((u.acts.pend.foldr insertAct []).take (q.num 8 4)).length ++ leBytes 4 u.acts.pend.length))) s)) ∧
    (∀ (dt : Nat) (m : Mbox) (s : State),
      let a := s.opens dt
      let q := cmdOf 0x0502 m
      let u := running 0x0502 m a
      Usable 0x0502 m a →
      a.printHold = true →
      Tidy q [(8, 8), (17, 1), (20, 4)] →
      bitAt (q.num 8 8) 0 = false →
      actionOk (q.byte 17) = true →
      u.outputBad (q.byte 17) (q.num 20 4) = false →
      u.acts.pend.length < 1024 →
      q.num 8 8 < u.now + 10000 →
      m.atOnce = true →
      exec (.evtAtTime dt m) s = .next (answered m.ch q ((u.schedule { byTime := true, code := q.byte 17, arg := q.num 20 4, moment := q.num 8 8, frac := 0, late := true }).anticipate) (some { data := leBytes 4 u.acts.nextId, late := true }) s)) ∧
    (∀ (dt : Nat) (m : Mbox) (s : State),
      let a := s.opens dt
      let q := cmdOf 0x0502 m
      let u := running 0x0502 m a
      Usable 0x0502 m a →
      a.ident.opState = .ready →
      Tidy q [(8, 8), (17, 1), (20, 4)] →
      bitAt (q.num 8 8) 0 = false →
      actionOk (q.byte 17) = true →
      u.outputBad (q.byte 17) (q.num 20 4) = false →
      u.acts.pend.length < 1024 →
      q.num 8 8 < u.now + 10000 →
      m.atOnce = true →
      exec (.evtAtTime dt m) s = .next (answered m.ch q ((u.schedule { byTime := true, code := q.byte 17, arg := q.num 20 4, moment := q.num 8 8, frac := 0, late := true }).runAction true { byTime := true, code := q.byte 17, arg := q.num 20 4, moment := q.num 8 8, frac := 0, id := u.acts.nextId, late := true }) (some { data := leBytes 4 u.acts.nextId, late := true }) s))

/-- On an empty mailbox, in a state that accepts them and with good arguments: DENS.UPDATE judges and applies its entries, inline or
fetched from host memory through channel 14 of both functions, each wythe its own share, as the density rules say; DENS.FREEZE
changes the freeze bits its mask names and answers them; DENS.READ copies the active codes, the target codes or the row records of
a bar to host memory. -/
def Obligations.DensityCommands : Prop :=
  (∀ (dt : Nat) (m : Mbox) (s : State),
      let a := s.opens dt
      let q := cmdOf 0x0601 m
      let u := running 0x0601 m a
      Usable 0x0601 m a →
      a.armed = true →
      Tidy q [(8, 6), (16, 4), (24, 32)] →
      q.byte 8 ≤ 7 →
      q.byte 9 % 16 ≠ 0 →
      q.byte 9 / 16 ≤ 12 →
      q.num 10 4 ≠ 0 →
      q.num 10 4 ≤ 8 →
      q.num 16 4 ≤ 120991 →
      q.num 16 4 + (q.num 10 4 - 1) * 2 ^ (q.byte 9 / 16) ≤ 120991 →
      q.num 32 8 = 0 →
      exec (.densUpdate dt m) s = .next (answered m.ch q (u.densUpdate (q.byte 8) (q.byte 9 % 16) (q.byte 9 / 16) (q.num 16 4) (q.num 24 8) m.atOnce (entries16 ((List.range 16).map (fun i => m.arg (40 + i))) (q.num 10 4))).1 (u.densUpdate (q.byte 8) (q.byte 9 % 16) (q.byte 9 / 16) (q.num 16 4) (q.num 24 8) m.atOnce (entries16 ((List.range 16).map (fun i => m.arg (40 + i))) (q.num 10 4))).2 s)) ∧
    (∀ (dt : Nat) (m : Mbox) (s : State),
      let a := s.opens dt
      let q := cmdOf 0x0601 m
      let u := running 0x0601 m a
      Usable 0x0601 m a →
      a.armed = true →
      Tidy q [(8, 6), (16, 4), (24, 32)] →
      q.byte 8 ≤ 7 →
      q.byte 9 % 16 ≠ 0 →
      q.byte 9 / 16 ≤ 12 →
      q.num 10 4 ≠ 0 →
      q.num 10 4 ≤ 120992 →
      q.num 16 4 ≤ 120991 →
      q.num 16 4 + (q.num 10 4 - 1) * 2 ^ (q.byte 9 / 16) ≤ 120991 →
      q.num 32 8 ≠ 0 →
      q.num 32 8 % 64 = 0 →
      m.fetchFail = false →
      exec (.densUpdate dt m) s = .next (answered m.ch q ((u.ownFetch (densShares (q.num 16 4) (q.byte 9 / 16) (q.num 10 4)).1 (densShares (q.num 16 4) (q.byte 9 / 16) (q.num 10 4)).2).densUpdate (q.byte 8) (q.byte 9 % 16) (q.byte 9 / 16) (q.num 16 4) (q.num 24 8) m.atOnce (entries16 (u.store.host.read (q.num 32 8) (2 * q.num 10 4)) (q.num 10 4))).1 ((u.ownFetch (densShares (q.num 16 4) (q.byte 9 / 16) (q.num 10 4)).1 (densShares (q.num 16 4) (q.byte 9 / 16) (q.num 10 4)).2).densUpdate (q.byte 8) (q.byte 9 % 16) (q.byte 9 / 16) (q.num 16 4) (q.num 24 8) m.atOnce (entries16 (u.store.host.read (q.num 32 8) (2 * q.num 10 4)) (q.num 10 4))).2 s)) ∧
    (∀ (dt : Nat) (m : Mbox) (s : State),
      let a := s.opens dt
      let q := cmdOf 0x0603 m
      let u := running 0x0603 m a
      Usable 0x0603 m a →
      a.armed = true →
      Tidy q [(8, 4)] →
      q.num 8 2 < 4096 →
      q.num 10 2 < 4096 →
      exec (.densFreeze dt m) s = .next (answered m.ch q (u.modTone (fun t => { t with freeze := (t.freeze &&& ~~~(BitVec.ofNat 12 (q.num 10 2))) ||| (BitVec.ofNat 12 (q.num 8 2) &&& BitVec.ofNat 12 (q.num 10 2)) })) (some (Reply.ok (leBytes 2 u.tone.freeze.toNat))) s)) ∧
    (∀ (dt : Nat) (m : Mbox) (s : State),
      let a := s.opens dt
      let q := cmdOf 0x0602 m
      let u := running 0x0602 m a
      Usable 0x0602 m a →
      a.live = true →
      Tidy q [(8, 2), (16, 8)] →
      q.byte 8 ≤ 11 →
      q.byte 9 = 1 →
      q.num 16 8 % 64 = 0 →
      m.fetchFail = false →
      exec (.densRead dt m) s = .next (answered m.ch q (u.copyOut (q.num 16 8) ((u.tone.target.getD (q.byte 8) ⟨128, []⟩).list barNozzles)) (some {}) s)) ∧
    (∀ (dt : Nat) (m : Mbox) (s : State),
      let a := s.opens dt
      let q := cmdOf 0x0602 m
      let u := running 0x0602 m a
      Usable 0x0602 m a →
      a.live = true →
      Tidy q [(8, 2), (16, 8)] →
      q.byte 8 ≤ 11 →
      q.byte 9 = 0 →
      q.num 16 8 % 64 = 0 →
      m.fetchFail = false →
      exec (.densRead dt m) s = .next (answered m.ch q (u.copyOut (q.num 16 8) ((u.tone.active.getD (q.byte 8) ⟨128, []⟩).list barNozzles)) (some {}) s)) ∧
    (∀ (dt : Nat) (m : Mbox) (s : State),
      let a := s.opens dt
      let q := cmdOf 0x0602 m
      let u := running 0x0602 m a
      Usable 0x0602 m a →
      a.live = true →
      Tidy q [(8, 2), (16, 8)] →
      q.byte 8 ≤ 11 →
      q.byte 9 = 2 →
      q.num 16 8 % 64 = 0 →
      m.fetchFail = false →
      exec (.densRead dt m) s = .next (answered m.ch q (u.copyOut (q.num 16 8) (u.rowRecords (q.byte 8))) (some {}) s))

/-- On an empty mailbox, in a state that accepts them and with good arguments: NOZ.MAP with valid inline entries applies them at once
in READY, at the present lift, and in PRINTING and HOLDING keeps them pending for its lift while that lift is open, and for the
earliest lift where it names none, or under AT_ONCE a lift that is no longer open; fetched entries come through channel 14 of both
functions and are taken the same way; NOZ.READ copies the states or the head records of a bar; LANE.BOND discovers, in REST and
READY, where a bond that does not pass answers CHECK_FAIL 0x0005 in READY, or copies the bond or the node records to host memory. -/
def Obligations.NozzleAndBondCommands : Prop :=
  (∀ (dt : Nat) (m : Mbox) (s : State),
      let a := s.opens dt
      let q := cmdOf 0x0701 m
      let u := running 0x0701 m a
      Usable 0x0701 m a →
      a.ident.opState = .ready →
      Tidy q [(8, 12), (24, 32)] →
      q.num 16 4 ≠ 0 →
      q.num 16 4 ≤ 6 →
      q.num 24 8 = 0 →
      (∀ w ∈ (entries32 ((List.range 24).map (fun i => m.arg (32 + i))) (q.num 16 4)), u.nozEntryOk w = true) →
      exec (.nozMap dt m) s = .next (answered m.ch q (u.mapNozzles u.presentLift false ((entries32 ((List.range 24).map (fun i => m.arg (32 + i))) (q.num 16 4)).map nozEntry)).1 (u.mapNozzles u.presentLift false ((entries32 ((List.range 24).map (fun i => m.arg (32 + i))) (q.num 16 4)).map nozEntry)).2 s)) ∧
    (∀ (dt : Nat) (m : Mbox) (s : State),
      let a := s.opens dt
      let q := cmdOf 0x0701 m
      let u := running 0x0701 m a
      Usable 0x0701 m a →
      a.printHold = true →
      Tidy q [(8, 12), (24, 32)] →
      q.num 16 4 ≠ 0 →
      q.num 16 4 ≤ 6 →
      q.num 24 8 = 0 →
      (∀ w ∈ (entries32 ((List.range 24).map (fun i => m.arg (32 + i))) (q.num 16 4)), u.nozEntryOk w = true) →
      u.point.pend.length < 64 →
      q.num 8 8 ≠ 2 ^ 64 - 1 →
      q.num 8 8 ≤ u.presentLift + 4096 →
      u.liftOpen (q.num 8 8) = true →
      exec (.nozMap dt m) s = .next (answered m.ch q { u with point := { u.point with pend := u.point.pend ++ [{ lift := q.num 8 8, entries := (entries32 ((List.range 24).map (fun i => m.arg (32 + i))) (q.num 16 4)).map nozEntry }] } } (u.mapNozzles (q.num 8 8) false ((entries32 ((List.range 24).map (fun i => m.arg (32 + i))) (q.num 16 4)).map nozEntry)).2 s)) ∧
    (∀ (dt : Nat) (m : Mbox) (l : Bool) (s : State),
      let a := s.opens dt
      let q := cmdOf 0x0701 m
      let u := running 0x0701 m a
      Usable 0x0701 m a →
      a.printHold = true →
      Tidy q [(8, 12), (24, 32)] →
      q.num 16 4 ≠ 0 →
      q.num 16 4 ≤ 6 →
      q.num 24 8 = 0 →
      (∀ w ∈ (entries32 ((List.range 24).map (fun i => m.arg (32 + i))) (q.num 16 4)), u.nozEntryOk w = true) →
      u.point.pend.length < 64 →
      (q.num 8 8 = 2 ^ 64 - 1 ∧ l = false) ∨ (q.num 8 8 ≤ u.presentLift + 4096 ∧ q.num 8 8 ≠ 2 ^ 64 - 1 ∧ u.liftOpen (q.num 8 8) = false ∧ m.atOnce = true ∧ l = true) →
      exec (.nozMap dt m) s = .next (answered m.ch q { u with point := { u.point with pend := u.point.pend ++ [{ lift := u.earliestLift, entries := (entries32 ((List.range 24).map (fun i => m.arg (32 + i))) (q.num 16 4)).map nozEntry }] } } (u.mapNozzles u.earliestLift l ((entries32 ((List.range 24).map (fun i => m.arg (32 + i))) (q.num 16 4)).map nozEntry)).2 s)) ∧
    (∀ (dt : Nat) (m : Mbox) (s : State),
      let a := s.opens dt
      let q := cmdOf 0x0701 m
      let u := running 0x0701 m a
      Usable 0x0701 m a →
      a.ident.opState = .ready →
      Tidy q [(8, 12), (24, 32)] →
      q.num 16 4 ≠ 0 →
      q.num 16 4 ≤ 65536 →
      q.num 24 8 ≠ 0 →
      q.num 24 8 % 64 = 0 →
      m.fetchFail = false →
      (∀ w ∈ (entries32 (u.store.host.read (q.num 24 8) (4 * q.num 16 4)) (q.num 16 4)), (u.ownFetch (4 * q.num 16 4) (4 * q.num 16 4)).nozEntryOk w = true) →
      exec (.nozMap dt m) s = .next (answered m.ch q ((u.ownFetch (4 * q.num 16 4) (4 * q.num 16 4)).mapNozzles (u.ownFetch (4 * q.num 16 4) (4 * q.num 16 4)).presentLift false ((entries32 (u.store.host.read (q.num 24 8) (4 * q.num 16 4)) (q.num 16 4)).map nozEntry)).1 ((u.ownFetch (4 * q.num 16 4) (4 * q.num 16 4)).mapNozzles (u.ownFetch (4 * q.num 16 4) (4 * q.num 16 4)).presentLift false ((entries32 (u.store.host.read (q.num 24 8) (4 * q.num 16 4)) (q.num 16 4)).map nozEntry)).2 s)) ∧
    (∀ (dt : Nat) (m : Mbox) (s : State),
      let a := s.opens dt
      let q := cmdOf 0x0702 m
      let u := running 0x0702 m a
      Usable 0x0702 m a →
      a.live = true →
      Tidy q [(8, 2), (16, 8)] →
      q.byte 8 ≤ 11 →
      q.byte 9 ≤ 1 →
      q.num 16 8 % 64 = 0 →
      m.fetchFail = false →
      exec (.nozRead dt m) s = .next (answered m.ch q (u.copyOut (q.num 16 8) (if q.byte 9 = 0 then u.barStates (q.byte 8) else u.headRecords (q.byte 8))) (some {}) s)) ∧
    (∀ (dt : Nat) (m : Mbox) (s : State),
      let a := s.opens dt
      let q := cmdOf 0x0801 m
      let u := running 0x0801 m a
      Usable 0x0801 m a →
      a.restReady = true →
      Tidy q [(8, 1), (16, 8)] →
      q.byte 8 = 0 →
      q.num 16 8 % 64 = 0 →
      ((u.discover true).2 = none ∨ a.ident.opState = .rest) →
      exec (.discover dt m) s = .next (answered m.ch q (u.discover true).1 (some {}) s)) ∧
    (∀ (dt : Nat) (m : Mbox) (s : State),
      let a := s.opens dt
      let q := cmdOf 0x0801 m
      let u := running 0x0801 m a
      Usable 0x0801 m a →
      a.live = true →
      Tidy q [(8, 1), (16, 8)] →
      q.byte 8 = 1 →
      q.num 16 8 % 64 = 0 →
      m.fetchFail = false →
      exec (.readBond dt m) s = .next (answered m.ch q (u.copyOut (q.num 16 8) u.bondRecords) (some {}) s)) ∧
    (∀ (dt : Nat) (m : Mbox) (s : State),
      let a := s.opens dt
      let q := cmdOf 0x0801 m
      let u := running 0x0801 m a
      Usable 0x0801 m a →
      a.live = true →
      Tidy q [(8, 1), (16, 8)] →
      q.byte 8 = 2 →
      q.num 16 8 % 64 = 0 →
      m.fetchFail = false →
      exec (.readNodes dt m) s = .next (answered m.ch q (u.copyOut (q.num 16 8) u.nodeRecords) (some {}) s)) ∧
    (∀ (dt : Nat) (m : Mbox) (f : Nat) (l : Bool) (s : State),
      let a := s.opens dt
      let q := cmdOf 0x0701 m
      let u := running 0x0701 m a
      Usable 0x0701 m a →
      a.printHold = true →
      Tidy q [(8, 12), (24, 32)] →
      q.num 16 4 ≠ 0 →
      q.num 16 4 ≤ 65536 →
      q.num 24 8 ≠ 0 →
      q.num 24 8 % 64 = 0 →
      m.fetchFail = false →
      (∀ w ∈ (entries32 (u.store.host.read (q.num 24 8) (4 * q.num 16 4)) (q.num 16 4)), (u.ownFetch (4 * q.num 16 4) (4 * q.num 16 4)).nozEntryOk w = true) →
      (u.ownFetch (4 * q.num 16 4) (4 * q.num 16 4)).point.pend.length < 64 →
      (q.num 8 8 = 2 ^ 64 - 1 ∧ f = (u.ownFetch (4 * q.num 16 4) (4 * q.num 16 4)).earliestLift ∧ l = false) ∨ (q.num 8 8 ≤ u.presentLift + 4096 ∧ q.num 8 8 ≠ 2 ^ 64 - 1 ∧ ((u.ownFetch (4 * q.num 16 4) (4 * q.num 16 4)).liftOpen (q.num 8 8) = true ∧ f = q.num 8 8 ∧ l = false ∨ (u.ownFetch (4 * q.num 16 4) (4 * q.num 16 4)).liftOpen (q.num 8 8) = false ∧ m.atOnce = true ∧ f = (u.ownFetch (4 * q.num 16 4) (4 * q.num 16 4)).earliestLift ∧ l = true)) →
      exec (.nozMap dt m) s = .next (answered m.ch q ((u.ownFetch (4 * q.num 16 4) (4 * q.num 16 4)).mapNozzles f l ((entries32 (u.store.host.read (q.num 24 8) (4 * q.num 16 4)) (q.num 16 4)).map nozEntry)).1 ((u.ownFetch (4 * q.num 16 4) (4 * q.num 16 4)).mapNozzles f l ((entries32 (u.store.host.read (q.num 24 8) (4 * q.num 16 4)) (q.num 16 4)).map nozEntry)).2 s)) ∧
    (∀ (dt : Nat) (m : Mbox) (s : State),
      let a := s.opens dt
      let q := cmdOf 0x0801 m
      let u := running 0x0801 m a
      Usable 0x0801 m a →
      a.ident.opState = .ready →
      Tidy q [(8, 1), (16, 8)] →
      q.byte 8 = 0 →
      q.num 16 8 % 64 = 0 →
      ((u.discover true).2.isSome = true) →
      exec (.discover dt m) s = .next (answered m.ch q (u.discover true).1 (some (Reply.fail Res.checkFail 0x0005)) s))

/-- On an empty mailbox, in a state that accepts them and with good arguments: PAIR.SWAP of an ACTIVE whose partner is ready and that
has no swap pending stays pending as a swap of its mode; PAIR.JOIN of an isolated module joins an ACTIVE partner whose digest,
firmware and time offset agree as its standby, with nothing mirrored yet, answers MISMATCH with what does not agree, and with a
partner that is not ACTIVE forms a pair where formation comes about; PAIR.LEAVE leaves the module isolated; PAIR.TAKE of a standby
or isolated module with no node of an installed head leased elsewhere makes it ACTIVE and acquires, and in HOLDING ends every
started job, and with such a node answers NOT_HOLDER with its head and changes nothing; a module that leaves the role STANDBY
first takes the forwarded changes that no epoch has brought; PAIR.INFO reports. -/
def Obligations.PairCommands : Prop :=
  (∀ (dt : Nat) (m : Mbox) (s : State),
      let a := s.opens dt
      let q := cmdOf 0x0901 m
      let u := running 0x0901 m a
      Usable 0x0901 m a →
      (q.byte 8 = 0 ∧ a.restReady = true) ∨ (q.byte 8 = 1 ∧ a.armed = true) →
      Tidy q [(8, 1)] →
      u.butt.role = .active →
      u.butt.swapPend = none →
      u.butt.swapOff = none →
      u.butt.swapAt = none →
      u.partnerReady = true →
      exec (.pairSwap dt m) s = .next (answered m.ch q ((u.modButt (fun b => { b with swapPend := some (q.byte 8, m.ch, m.slot) })).swapWhenReady) none s)) ∧
    (∀ (dt : Nat) (m : Mbox) (s : State),
      let a := s.opens dt
      let q := cmdOf 0x0901 m
      let u := running 0x0901 m a
      Usable 0x0901 m a →
      q.byte 8 = 2 →
      a.ident.opState = .printing →
      Tidy q [(8, 1)] →
      u.butt.role = .active →
      u.butt.swapPend = none →
      u.butt.swapOff = none →
      u.butt.swapAt = none →
      u.partnerReady = true →
      exec (.pairSwap dt m) s = .next (answered m.ch q (((u.modButt (fun b => { b with swapPend := some (2, m.ch, m.slot) })).trigger 6 none 0).swapWhenReady) none s)) ∧
    (∀ (dt : Nat) (m : Mbox) (p : PInfo) (s : State),
      let a := (s.opens dt).modButt (fun b => { b with partnerInfo := p })
      let q := cmdOf 0x0902 m
      let u := running 0x0902 m a
      Usable 0x0902 m a → a.restReady = true → Tidy q [] → u.butt.role = .isolated → u.pairUp = true → u.butt.partnerRole = .active →
      (u.pairMismatch p.digest p.fw p.offset = none →
        exec (.pairJoin dt m p) s = .next (answered m.ch q
          ((u.setRole .standby).modButt Butt.freshMirror)
          (some {}) s)) ∧
      (∀ d, u.pairMismatch p.digest p.fw p.offset = some d →
        exec (.pairJoin dt m p) s = .next (answered m.ch q (u.buttRecord 0x1501 0 [u.butt.role.code, u.butt.role.code, d])
          (some (Reply.fail Res.mismatch d)) s))) ∧
    (∀ (dt : Nat) (m : Mbox) (p : PInfo) (s : State),
      let a := (s.opens dt).modButt (fun b => { b with partnerInfo := p })
      let q := cmdOf 0x0902 m
      let u := running 0x0902 m a
      let r := u.formPair p.digest p.fw p.offset p.prefer
      Usable 0x0902 m a → a.restReady = true → Tidy q [] → u.butt.role = .isolated → u.pairUp = true → u.butt.partnerRole ≠ .active →
      r.2 = none → r.1.butt.role ≠ .isolated →
      exec (.pairJoin dt m p) s = .next (answered m.ch q r.1 (some {}) s)) ∧
    (∀ (dt : Nat) (m : Mbox) (s : State),
      let a := s.opens dt
      let q := cmdOf 0x0903 m
      let u := running 0x0903 m a
      Usable 0x0903 m a →
      a.restReady = true →
      Tidy q [] →
      u.butt.role = .active →
      exec (.pairLeave dt m) s = .next (answered m.ch q ((u.releaseAll).setRole .isolated) (some {}) s)) ∧
    (∀ (dt : Nat) (m : Mbox) (s : State),
      let a := s.opens dt
      let q := cmdOf 0x0903 m
      let u := running 0x0903 m a
      Usable 0x0903 m a →
      a.restReady = true →
      Tidy q [] →
      (u.butt.role = .standby ∨ u.butt.role = .isolated) →
      exec (.pairLeave dt m) s = .next (answered m.ch q (u.takeChanges.setRole .isolated) (some {}) s)) ∧
    (∀ (dt : Nat) (m : Mbox) (s : State),
      let a := s.opens dt
      let q := cmdOf 0x0904 m
      let u := running 0x0904 m a
      Usable 0x0904 m a →
      a.restReady = true →
      Tidy q [] →
      (u.butt.role = .standby ∨ u.butt.role = .isolated) →
      u.foreignHead = none →
      exec (.pairTake dt m) s = .next (answered m.ch q ((u.takeChanges.setRole .active).acquireAll) (some {}) s)) ∧
    (∀ (dt : Nat) (m : Mbox) (s : State),
      let a := s.opens dt
      let q := cmdOf 0x0904 m
      let u := running 0x0904 m a
      Usable 0x0904 m a →
      a.ident.opState = .holding →
      Tidy q [] →
      (u.butt.role = .standby ∨ u.butt.role = .isolated) →
      u.foreignHead = none →
      exec (.pairTake dt m) s = .next (answered m.ch q (((u.takeChanges.setRole .active).acquireAll).abortStarted) (some {}) s)) ∧
    (∀ (dt : Nat) (m : Mbox) (s : State),
      let a := s.opens dt
      let q := cmdOf 0x0904 m
      let u := running 0x0904 m a
      Usable 0x0904 m a →
      (a.restReady = true ∨ a.ident.opState = .holding) →
      Tidy q [] →
      (u.butt.role = .standby ∨ u.butt.role = .isolated) →
      ∀ g : Nat, u.foreignHead = some g →
      exec (.pairTake dt m) s = .next (answered m.ch q u (some (Reply.fail Res.notHolder g)) s)) ∧
    (∀ (dt : Nat) (m : Mbox) (s : State),
      let a := s.opens dt
      let q := cmdOf 0x0905 m
      let u := running 0x0905 m a
      Usable 0x0905 m a →
      a.live = true →
      Tidy q [] →
      exec (.pairInfo dt m) s = .next (answered m.ch q u (some (Reply.ok (packed 0x0905 [u.butt.partnerRole.code, u.butt.partnerState.code,
        (u.butt.partnerInfo.digest : Int), (u.butt.partnerInfo.fw : Int), u.butt.offset, bit u.butt.mirrorOk, (onesOr u.butt.epoch : Int)]))) s))

/-- On an empty mailbox, in REST or READY at member 0: GANG.FORM with no mismatch among the members forms the gang with its record and
answers their values; with a mismatch it forms none, writes the record and answers MISMATCH with the first reason; GANG.DISSOLVE
ends the gang. GANG.INFO reports in every state but BOOT. -/
def Obligations.GangCommands : Prop :=
  (∀ (dt : Nat) (m : Mbox) (l : List GInfo) (s : State),
      let a := (s.opens dt).modButt (fun b => { b with info := l })
      let q := cmdOf 0x0A01 m
      let u := running 0x0A01 m a
      Usable 0x0A01 m a → l.length ≤ 3 → a.restReady = true → Tidy q [] → u.memberZero = true →
      (u.gangMismatch = none → exec (.gangForm dt m l) s = .next (answered m.ch q
        (((((u.modButt (fun b => { b with gang := true })).gangSay [9]).buttRecord 0x1508 0 [0, 0]).updateCeil))
        (some (Reply.ok (gangData 0x0A01 (u.gangInfo :: l)))) s)) ∧
      (∀ d, u.gangMismatch = some d → exec (.gangForm dt m l) s = .next (answered m.ch q (u.buttRecord 0x1508 0 [d, 0])
        (some { result := Res.mismatch, detail := d, data := gangData 0x0A01 (u.gangInfo :: l) }) s))) ∧
    (∀ (dt : Nat) (m : Mbox) (s : State),
      let a := s.opens dt
      let q := cmdOf 0x0A02 m
      let u := running 0x0A02 m a
      Usable 0x0A02 m a →
      a.restReady = true →
      Tidy q [] →
      u.memberZero = true →
      exec (.gangDissolve dt m) s = .next (answered m.ch q (((u.gangSay [10]).modButt (fun b => { b with gang := false, ceils := [], settled := [], stops := [] })).updateCeil) (some {}) s)) ∧
    (∀ (dt : Nat) (m : Mbox) (s : State),
      let a := s.opens dt
      let q := cmdOf 0x0A03 m
      let u := running 0x0A03 m a
      Usable 0x0A03 m a →
      a.live = true →
      Tidy q [] →
      exec (.gangInfo dt m) s = .next (answered m.ch q u (some (Reply.ok (packed 0x0A03 ((List.range ((u.sec SecId.gang).fld 0 2 3)).flatMap u.memberInfo)))) s))

/-- On an empty mailbox, in REST, READY or FAULT, with no action by time pending and no other step waiting, TIME.ACCEPT_STEP naming
the refused step by its number asks for that step and stays pending until it takes effect; naming another, it answers MISMATCH
0x0B01 and changes nothing. With an action by time pending it answers BUSY 0x0502, with another step waiting BUSY with the verb
that asked for it, and changes nothing. TIME.STATUS reports in every state but BOOT. -/
def Obligations.TimeCommands : Prop :=
  (∀ (dt : Nat) (m : Mbox) (s : State),
      let a := s.opens dt
      let q := cmdOf 0x0B01 m
      let u := running 0x0B01 m a
      Usable 0x0B01 m a →
      a.idleState = true →
      Tidy q [(8, 2)] →
      u.acts.pend.any (·.byTime) = false →
      u.time.stepReq = none →
      u.time.stepPending = true →
      q.num 8 2 = u.time.stepSeq.toNat →
      exec (.timeAcceptStep dt m) s = .next (answered m.ch q (u.askStep (-u.time.stepOffset, none, 0x0B01, m.ch, m.slot)) none s)) ∧
    (∀ (dt : Nat) (m : Mbox) (s : State),
      let a := s.opens dt
      let q := cmdOf 0x0B01 m
      let u := running 0x0B01 m a
      Usable 0x0B01 m a →
      a.idleState = true →
      Tidy q [(8, 2)] →
      u.acts.pend.any (·.byTime) = false →
      u.time.stepReq = none →
      (u.time.stepPending = false ∨ q.num 8 2 ≠ u.time.stepSeq.toNat) →
      exec (.timeAcceptStep dt m) s = .next (answered m.ch q u (some (Reply.fail Res.mismatch 0x0B01)) s)) ∧
    (∀ (dt : Nat) (m : Mbox) (s : State),
      let a := s.opens dt
      let q := cmdOf 0x0B01 m
      let u := running 0x0B01 m a
      Usable 0x0B01 m a →
      a.idleState = true →
      Tidy q [(8, 2)] →
      u.acts.pend.any (·.byTime) = true →
      exec (.timeAcceptStep dt m) s = .next (answered m.ch q u (some (Reply.fail Res.busy 0x0502)) s)) ∧
    (∀ (dt : Nat) (m : Mbox) (s : State),
      let a := s.opens dt
      let q := cmdOf 0x0B01 m
      let u := running 0x0B01 m a
      Usable 0x0B01 m a →
      a.idleState = true →
      Tidy q [(8, 2)] →
      u.acts.pend.any (·.byTime) = false →
      ∀ r : Int × Option Nat × Nat × Nat × Nat, u.time.stepReq = some r →
      exec (.timeAcceptStep dt m) s = .next (answered m.ch q u (some (Reply.fail Res.busy r.2.2.1)) s)) ∧
    (∀ (dt : Nat) (m : Mbox) (s : State),
      let a := s.opens dt
      let q := cmdOf 0x0B03 m
      let u := running 0x0B03 m a
      Usable 0x0B03 m a →
      a.live = true →
      Tidy q [] →
      exec (.timeStatus dt m) s = .next (answered m.ch q u (some (Reply.ok (packed 0x0B03 ([(u.time.port0.state : Int), (u.time.port1.state : Int), (bit (tmP2p u.tsec) : Int),
        (u.time.gmId : Int)] ++ u.dataSet.map Int.ofNat)))) s))

/-- On an empty mailbox, in a state that accepts them and with good arguments: LAMP.SET gives the groups of the mask the level, and
LAMP.READ copies the records of a chain; LAMP.CLEAR 0 clears the SHORT latches and LAMP.CLEAR 1 the matrix pin latches. -/
def Obligations.LampAndPanelCommands : Prop :=
  (∀ (dt : Nat) (m : Mbox) (s : State),
      let a := s.opens dt
      let q := cmdOf 0x0C01 m
      let u := running 0x0C01 m a
      Usable 0x0C01 m a →
      a.armed = true →
      Tidy q [(8, 4)] →
      q.num 8 2 ≠ 0 →
      q.num 10 2 ≤ 4000 →
      exec (.lampSet dt m) s = .next (answered m.ch q (u.modCorbel (fun x => { x with
        level := x.level.zipIdx.map (fun p => if bitAt (q.num 8 2) p.2 then q.num 10 2 else p.1), lit := true })) (some {}) s)) ∧
    (∀ (dt : Nat) (m : Mbox) (s : State),
      let a := s.opens dt
      let q := cmdOf 0x0C02 m
      let u := running 0x0C02 m a
      Usable 0x0C02 m a →
      a.live = true →
      Tidy q [(8, 2), (16, 8)] →
      q.byte 8 ≤ 3 →
      q.byte 9 ≤ 1 →
      q.num 16 8 % 64 = 0 →
      m.fetchFail = false →
      exec (.lampRead dt m) s = .next (answered m.ch q (u.copyOut (q.num 16 8) (if q.byte 9 = 0 then u.channelRecords (q.byte 8) else u.driverRecords (q.byte 8))) (some {}) s)) ∧
    (∀ (dt : Nat) (m : Mbox) (s : State),
      let a := s.opens dt
      let q := cmdOf 0x0C03 m
      let u := running 0x0C03 m a
      Usable 0x0C03 m a →
      a.live = true →
      Tidy q [(8, 1)] →
      q.byte 8 = 0 →
      exec (.lampClearShort dt m) s = .next (answered m.ch q u.clearShorts (some {}) s)) ∧
    (∀ (dt : Nat) (m : Mbox) (s : State),
      let a := s.opens dt
      let q := cmdOf 0x0C03 m
      let u := running 0x0C03 m a
      Usable 0x0C03 m a →
      a.live = true →
      Tidy q [(8, 1)] →
      q.byte 8 = 1 →
      exec (.lampClearPins dt m) s = .next (answered m.ch q { u with panel := { u.panel with pinLatch := 0, failed := 0, rowLatched := 0 } } (some {}) s))

/-- On an empty mailbox, in a state that accepts it: with COUNT 1 to 23 and no BLINK of 3 among the entries of bytes 10 to 55,
PANEL.SET sets CODE of the indicator at the row and column of each entry, in order (the code kept holds CODE and BLINK), and
answers OK; with COUNT out of range it answers BAD_ARG at 8, and with COUNT in range and a BLINK of 3 it answers BAD_ARG at the
first such entry; refused, it changes nothing. After the entries are applied, a later entry for the same indicator wins. -/
def Obligations.PanelSet : Prop :=
  (∀ (dt : Nat) (m : Mbox) (s : State),
      let a := s.opens dt
      let q := cmdOf 0x0C04 m
      let u := running 0x0C04 m a
      let n := q.byte 8
      let e := fun i => q.num (10 + 2 * i) 2
      Usable 0x0C04 m a → a.live = true → Tidy q [(8, 1), (10, 46)] →
      (1 ≤ n → n ≤ 23 → (∀ i, i < n → field (e i) 14 2 ≠ 3) →
        exec (.panelSet dt m) s = .next (answered m.ch q { u with panel := { u.panel with
          codes := (List.range n).foldl (fun (c : SMap) i => c.set (16 * field (e i) 0 4 + field (e i) 4 4) (field (e i) 8 8)) u.panel.codes } }
          (some {}) s)) ∧
      ((n = 0 ∨ 23 < n) → exec (.panelSet dt m) s = .next (answered m.ch q u (some (Reply.badArg 8)) s)) ∧
      (∀ k, 1 ≤ n → n ≤ 23 → k < n → field (e k) 14 2 = 3 → (∀ i, i < k → field (e i) 14 2 ≠ 3) →
        exec (.panelSet dt m) s = .next (answered m.ch q u (some (Reply.badArg (10 + 2 * k))) s))) ∧
    (∀ (c : SMap) (i v : Nat), (c.set i v).get i = v)

/-- On an empty mailbox, in a state that accepts them and with good arguments: COPING.READ copies the block records; COPING.CAL queues
the blocks of its range and starts a run; PLINTH.LOG_READ copies log entries; PLINTH.FW without a session open writes a whole
fetched image and ends the session with the slot valid where it checks; PLINTH.FW_SELECT selects a valid slot. -/
def Obligations.CopingAndPlinthCommands : Prop :=
  (∀ (dt : Nat) (m : Mbox) (s : State),
      let a := s.opens dt
      let q := cmdOf 0x0D01 m
      let u := running 0x0D01 m a
      Usable 0x0D01 m a →
      a.live = true →
      Tidy q [(16, 8)] →
      q.num 16 8 % 64 = 0 →
      m.fetchFail = false →
      exec (.copingRead dt m) s = .next (answered m.ch q (u.copyOut (q.num 16 8) (u.coping.cal.flatMap Cal.bytes)) (some {}) s)) ∧
    (∀ (dt : Nat) (m : Mbox) (s : State),
      let a := s.opens dt
      let q := cmdOf 0x0D02 m
      let u := running 0x0D02 m a
      Usable 0x0D02 m a →
      a.live = true →
      Tidy q [(8, 2)] →
      q.byte 8 ≤ q.byte 9 →
      q.byte 9 ≤ 107 →
      exec (.copingCal dt m) s = .next (answered m.ch q (((List.range (q.byte 9 + 1 - q.byte 8)).foldl (fun (t : State) i => t.calQueue (q.byte 8 + i)) u).calStart) (some {}) s)) ∧
    (∀ (dt : Nat) (m : Mbox) (s : State),
      let a := s.opens dt
      let q := cmdOf 0x0E01 m
      let u := running 0x0E01 m a
      Usable 0x0E01 m a →
      a.live = true →
      Tidy q [(8, 16)] →
      q.num 12 4 ≠ 0 →
      q.num 12 4 ≤ 2048 →
      q.num 16 8 % 64 = 0 →
      m.fetchFail = false →
      exec (.plinthLogRead dt m) s = .next (answered m.ch q (u.copyOut (q.num 16 8) ((u.logFrom (q.num 8 4) (q.num 12 4)).flatMap LogEntry.bytes)) (some (Reply.ok (packed 0x0E01 [(((u.logFrom (q.num 8 4) (q.num 12 4)).head?.map (·.seq)).getD (q.num 8 4) : Nat),
        ((u.logFrom (q.num 8 4) (q.num 12 4)).length : Int)]))) s)) ∧
    (∀ (dt : Nat) (m : Mbox) (x : Fw) (s : State),
      let a := s.opens dt
      let q := cmdOf 0x0E02 m
      let u := running 0x0E02 m a
      let v := (u.ownFetch (q.num 24 4) 0).fwOpen (q.byte 8) (q.num 24 4)
      let w := (v.fwChunk x 0 (v.store.host.read (q.num 16 8) (q.num 24 4))).1
      Usable 0x0E02 m a → a.idleState = true → Tidy q [(8, 1), (16, 16)] → q.byte 8 ≤ 1 → q.num 24 4 ≤ fwLimit (q.byte 8) → u.plinth.fw = none →
      m.fetchFail = false → v.plinth.fw = some x → w.fwGood { x with endOff := q.num 24 4 } (q.num 28 4) = true →
      exec (.plinthFw dt m) s = .next (answered m.ch q (w.fwEnd true Res.ok) (some {}) s)) ∧
    (∀ (dt : Nat) (m : Mbox) (s : State),
      let a := s.opens dt
      let q := cmdOf 0x0E03 m
      let u := running 0x0E03 m a
      Usable 0x0E03 m a →
      a.idleState = true →
      Tidy q [(8, 2)] →
      q.byte 8 ≤ 1 →
      q.byte 9 ≤ 1 →
      (u.plinth.image (q.byte 8) (q.byte 9)).valid = true →
      exec (.plinthFwSelect dt m) s = .next (answered m.ch q (u.fwSelect (q.byte 8) (q.byte 9) false) (some {}) s))

/-- Every power, reset, boot and PCIe link command that something can carry answers a next state: its time passes, it has its effect,
the mailbox commands that wait then run, what is due is sent, and the queue is as it was. Where its row belongs to the main
domains, or to a host access of a function, that is said for main domains that are on and a function whose register space can be
reached. -/
def Obligations.PowerCommandsComplete : Prop :=
  (∀ (dt : Nat) (sel : Nat) (mv : Nat) (s : State), (Instr.vAuxApplied dt sel mv).wf = true →
      exec (.vAuxApplied dt sel mv) s = .next (after dt (fun s => if s.ident.opState = .off then State.supply 1 4 mv (s.modPlinth (fun p => { p with addrSel := sel })) else s) s)) ∧
    (∀ (dt : Nat) (s : State), (Instr.keepReset dt).wf = true →
      exec (.keepReset dt) s = .next (after dt (fun s => s.keepReset) s)) ∧
    (∀ (dt : Nat) (input : Nat) (kind : Nat) (mv : Int) (s : State), (Instr.supplyThreshold dt input kind mv).wf = true →
      exec (.supplyThreshold dt input kind mv) s = .next (after dt (fun s => s.supply input kind mv) s)) ∧
    (∀ (dt : Nat) (s : State), (Instr.suppliesLost dt).wf = true →
      exec (.suppliesLost dt) s = .next (after dt (fun s => (s.modPower (fun p => { p with mainOk := false, auxOk := false, vMain := 0, vAux := 0, mainGoodAt := none })).auxLost) s)) ∧
    (∀ (dt : Nat) (s : State), (Instr.autoOn dt).wf = true →
      exec (.autoOn dt) s = .next (after dt (fun s => s.autoOn) s)) ∧
    (∀ (dt : Nat) (s : State), (Instr.domainPowerGood dt).wf = true →
      exec (.domainPowerGood dt) s = .next (after dt (fun s => s.powerGood) s)) ∧
    (∀ (dt : Nat) (d : Nat) (s : State), (Instr.powerGoodMissed dt d).wf = true →
      exec (.powerGoodMissed dt d) s = .next (after dt (fun s => s.powerMissed d) s)) ∧
    (∀ (dt : Nat) (d : Nat) (s : State), (Instr.powerGoodLost dt d).wf = true →
      exec (.powerGoodLost dt d) s = .next (after dt (fun s => s.powerLost d) s)) ∧
    (∀ (dt : Nat) (crcA : Bool) (crcB : Bool) (test : Nat) (fence0 : List Nat) (fence1 : List Nat) (s : State), (Instr.bootEnd dt crcA crcB test fence0 fence1).wf = true →
      exec (.bootEnd dt crcA crcB test fence0 fence1) s = .next (after dt (fun s => s.bootEnd crcA crcB test fence0 fence1) s)) ∧
    (∀ (dt : Nat) (s : State), (Instr.bootTimeout dt).wf = true →
      exec (.bootTimeout dt) s = .next (after dt (fun s => s.bootTimeout) s)) ∧
    (∀ (dt : Nat) (fn : Nat) (down : Bool) (s : State), (Instr.functionReset dt fn down).wf = true → (s.opens dt).mainOn = true →
      exec (.functionReset dt fn down) s = .next (after dt (fun s => (s.functionReset fn).linkDown1 fn down) s)) ∧
    (∀ (dt : Nat) (fn : Nat) (lanes : Nat) (rate : Nat) (mrrs : Nat) (mps : Nat) (extTag : Bool) (s : State), (Instr.linkTrained dt fn lanes rate mrrs mps extTag).wf = true →
      exec (.linkTrained dt fn lanes rate mrrs mps extTag) s = .next (after dt (fun s => s.whenPowered (6 + fn) (fun s => (s.linkTrained fn { up := true, lanes := lanes, rate := rate, mrrs := mrrs, mps := mps, extTag := extTag }).updateCeil)) s)) ∧
    (∀ (dt : Nat) (fn : Nat) (s : State), (Instr.pcieLinkLost dt fn).wf = true → (s.opens dt).mainOn = true →
      exec (.pcieLinkLost dt fn) s = .next (after dt (fun s => (s.linkLost fn).linkDown1 fn true) s)) ∧
    (∀ (dt : Nat) (w : Nat) (tj : Int) (s : State), (Instr.hardwareShutdown dt w tj).wf = true →
      exec (.hardwareShutdown dt w tj) s = .next (after dt (fun s => s.thermalShutdown w tj) s)) ∧
    (∀ (dt : Nat) (t0 : Int) (t1 : Int) (s : State), (Instr.thermalRestart dt t0 t1).wf = true →
      exec (.thermalRestart dt t0 t1) s = .next (after dt (fun s => s.thermalRestart t0 t1) s))

/-- Every side-band, log and firmware command that something can carry answers a next state: its time passes, it has its effect, the
mailbox commands that wait then run, what is due is sent, and the queue is as it was. Where its row belongs to the main domains,
or to a host access of a function, that is said for main domains that are on and a function whose register space can be reached. -/
def Obligations.ZarnetrumCommandsComplete : Prop :=
  (∀ (dt : Nat) (r : ZReq) (s : State), (Instr.ident dt r).wf = true →
      exec (.ident dt r) s = .next (after dt (fun s => s.zIdent r) s)) ∧
    (∀ (dt : Nat) (r : ZReq) (s : State), (Instr.status dt r).wf = true →
      exec (.status dt r) s = .next (after dt (fun s => s.zStatus r) s)) ∧
    (∀ (dt : Nat) (r : ZReq) (s : State), (Instr.zarnetrumTemps dt r).wf = true →
      exec (.zarnetrumTemps dt r) s = .next (after dt (fun s => s.zTemps r) s)) ∧
    (∀ (dt : Nat) (r : ZReq) (s : State), (Instr.pair dt r).wf = true →
      exec (.pair dt r) s = .next (after dt (fun s => s.zPair r) s)) ∧
    (∀ (dt : Nat) (r : ZReq) (s : State), (Instr.settings dt r).wf = true →
      exec (.settings dt r) s = .next (after dt (fun s => s.zSettings r) s)) ∧
    (∀ (dt : Nat) (r : ZReq) (s : State), (Instr.powerOn dt r).wf = true →
      exec (.powerOn dt r) s = .next (after dt (fun s => s.zPowerOn r) s)) ∧
    (∀ (dt : Nat) (r : ZReq) (ack : Bool) (s : State), (Instr.powerOff dt r ack).wf = true →
      exec (.powerOff dt r ack) s = .next (after dt (fun s => s.zPowerOff r ack) s)) ∧
    (∀ (dt : Nat) (r : ZReq) (ack : Bool) (s : State), (Instr.powerCycle dt r ack).wf = true →
      exec (.powerCycle dt r ack) s = .next (after dt (fun s => s.zPowerCycle r ack) s)) ∧
    (∀ (dt : Nat) (r : ZReq) (ack : Bool) (s : State), (Instr.restReq dt r ack).wf = true →
      exec (.restReq dt r ack) s = .next (after dt (fun s => s.zRestReq r ack) s)) ∧
    (∀ (dt : Nat) (r : ZReq) (s : State), (Instr.force dt r).wf = true →
      exec (.force dt r) s = .next (after dt (fun s => s.zForce r) s)) ∧
    (∀ (dt : Nat) (r : ZReq) (s : State), (Instr.lockoutClear dt r).wf = true →
      exec (.lockoutClear dt r) s = .next (after dt (fun s => s.zLockoutClear r) s)) ∧
    (∀ (dt : Nat) (r : ZReq) (s : State), (Instr.logInfo dt r).wf = true →
      exec (.logInfo dt r) s = .next (after dt (fun s => s.zLogInfo r) s)) ∧
    (∀ (dt : Nat) (r : ZReq) (s : State), (Instr.logRead dt r).wf = true →
      exec (.logRead dt r) s = .next (after dt (fun s => s.zLogRead r) s)) ∧
    (∀ (dt : Nat) (r : ZReq) (s : State), (Instr.fwOpen dt r).wf = true →
      exec (.fwOpen dt r) s = .next (after dt (fun s => s.zFwOpen r) s)) ∧
    (∀ (dt : Nat) (r : ZReq) (s : State), (Instr.fwData dt r).wf = true →
      exec (.fwData dt r) s = .next (after dt (fun s => s.zFwData r) s)) ∧
    (∀ (dt : Nat) (r : ZReq) (s : State), (Instr.fwClose dt r).wf = true →
      exec (.fwClose dt r) s = .next (after dt (fun s => s.zFwClose r) s)) ∧
    (∀ (dt : Nat) (r : ZReq) (s : State), (Instr.fwSelect dt r).wf = true →
      exec (.fwSelect dt r) s = .next (after dt (fun s => s.zFwSelect r) s)) ∧
    (∀ (dt : Nat) (r : ZReq) (op : Nat) (s : State), (Instr.unknownOp dt r op).wf = true →
      exec (.unknownOp dt r op) s = .next (after dt (fun s => s.zUnknown op r) s)) ∧
    (∀ (dt : Nat) (frame : ZFrame) (s : State), (Instr.requestDiscarded dt frame).wf = true →
      exec (.requestDiscarded dt frame) s = .next (after dt (fun s => s.discardRequest frame.op frame.req) s)) ∧
    (∀ (dt : Nat) (s : State), (Instr.fwSessionTimeout dt).wf = true →
      exec (.fwSessionTimeout dt) s = .next (after dt (fun s => s.fwTimeout) s)) ∧
    (∀ (dt : Nat) (s : State), (Instr.alertResponse dt).wf = true →
      exec (.alertResponse dt) s = .next (after dt (fun s => s.alertResponse) s)) ∧
    (∀ (dt : Nat) (s : State), (Instr.logCommit dt).wf = true →
      exec (.logCommit dt) s = .next (after dt (fun s => s.logCommit) s)) ∧
    (∀ (dt : Nat) (s : State), (Instr.tamper dt).wf = true →
      exec (.tamper dt) s = .next (after dt (fun s => s.tamperOpen) s)) ∧
    (∀ (dt : Nat) (bad : List Nat) (s : State), (Instr.flashRefresh dt bad).wf = true →
      exec (.flashRefresh dt bad) s = .next (after dt (fun s => s.flashRefresh bad) s)) ∧
    (∀ (dt : Nat) (s : State), (Instr.statusMirrorCopy dt).wf = true →
      exec (.statusMirrorCopy dt) s = .next (after dt (fun s => s.mirrorCopy) s))

/-- Every host register, interrupt, BAR2 and event ring command that something can carry answers a next state: its time passes, it has
its effect, the mailbox commands that wait then run, what is due is sent, and the queue is as it was. Where its row belongs to the
main domains, or to a host access of a function, that is said for main domains that are on and a function whose register space can
be reached. -/
def Obligations.HostAccessesComplete : Prop :=
  (∀ (dt : Nat) (fn : Nat) (off : Nat) (bytes : List Nat) (s : State), (Instr.registerWrite dt fn off bytes).wf = true →
      exec (.registerWrite dt fn off bytes) s = .next (after dt (fun s => s.registerWrite fn off bytes) s)) ∧
    (∀ (dt : Nat) (ch : Nat) (slot : Nat) (off : Nat) (n : Nat) (s : State), (Instr.responseRead dt ch slot off n).wf = true →
      exec (.responseRead dt ch slot off n) s = .next (after dt (fun s => s.responseRead ch slot off n) s)) ∧
    (∀ (dt : Nat) (fn : Nat) (clear : Nat) (again : Nat) (s : State), (Instr.intCauseClear dt fn clear again).wf = true →
      exec (.intCauseClear dt fn clear again) s = .next (after dt (fun s => s.intCauseClear fn clear again) s)) ∧
    (∀ (dt : Nat) (fn : Nat) (value : Nat) (s : State), (Instr.intEnableWrite dt fn value).wf = true →
      exec (.intEnableWrite dt fn value) s = .next (after dt (fun s => s.intEnable fn value) s)) ∧
    (∀ (dt : Nat) (s : State), (Instr.overflowClear dt).wf = true →
      exec (.overflowClear dt) s = .next (after dt (fun s => s.overflowClear) s)) ∧
    (∀ (dt : Nat) (fn : Nat) (s : State), (Instr.snapReq dt fn).wf = true →
      exec (.snapReq dt fn) s = .next (after dt (fun s => s.snapshot fn) s)) ∧
    (∀ (dt : Nat) (rd : TimeRead × Nat) (s : State), (Instr.timeNowLowRead dt rd).wf = true →
      exec (.timeNowLowRead dt rd) s = .next (after dt (fun s => s.timeNowRead rd.1 rd.2) s)) ∧
    (∀ (dt : Nat) (fn : Nat) (off : Nat) (n : Nat) (s : State), (Instr.bar2Read dt fn off n).wf = true →
      exec (.bar2Read dt fn off n) s = .next (after dt (fun s => s.bar2Host fn off n) s)) ∧
    (∀ (dt : Nat) (fn : Nat) (off : Nat) (bytes : List Nat) (s : State), (Instr.bar2Write dt fn off bytes).wf = true → (s.opens dt).reachable fn = true →
      exec (.bar2Write dt fn off bytes) s = .next (after dt (fun s => s.bar2Write fn off bytes) s)) ∧
    (∀ (dt : Nat) (fn : Nat) (s : State), (Instr.bar2DroppedRead dt fn).wf = true →
      exec (.bar2DroppedRead dt fn) s = .next (after dt (fun s => s.droppedRead fn) s)) ∧
    (∀ (dt : Nat) (s : State), (Instr.eventRingWrite dt).wf = true → (s.opens dt).mainOn = true →
      exec (.eventRingWrite dt) s = .next (after dt (fun s => s.ringWrite) s)) ∧
    (∀ (dt : Nat) (s : State), (Instr.aliveTick dt).wf = true →
      exec (.aliveTick dt) s = .next (after dt (fun s => s.aliveTick) s))

/-- Every transfer, strip pipeline and memory error command that something can carry answers a next state: its time passes, it has its
effect, the mailbox commands that wait then run, what is due is sent, and the queue is as it was. Where its row belongs to the
main domains, or to a host access of a function, that is said for main domains that are on and a function whose register space can
be reached. -/
def Obligations.TransferCommandsComplete : Prop :=
  (∀ (dt : Nat) (fn : Nat) (ch : Nat) (value : Nat) (s : State), (Instr.ringBaseWrite dt fn ch value).wf = true → ch < 14 → (s.opens dt).reachable fn = true →
      exec (.ringBaseWrite dt fn ch value) s = .next (after dt (fun s => s.ringBaseWrite fn ch value) s)) ∧
    (∀ (dt : Nat) (fn : Nat) (ch : Nat) (host : List (Nat × List Nat)) (s : State), (Instr.enable dt fn ch host).wf = true → ch < 14 → (s.opens dt).reachable fn = true →
      exec (.enable dt fn ch host) s = .next (after dt (fun s => (s.hostLoad host).chanEnable fn ch) s)) ∧
    (∀ (dt : Nat) (fn : Nat) (ch : Nat) (s : State), (Instr.abort dt fn ch).wf = true → ch < 14 → (s.opens dt).reachable fn = true →
      exec (.abort dt fn ch) s = .next (after dt (fun s => s.chanAbort fn ch false) s)) ∧
    (∀ (dt : Nat) (fn : Nat) (ch : Nat) (s : State), (Instr.disable dt fn ch).wf = true → ch < 14 → (s.opens dt).reachable fn = true →
      exec (.disable dt fn ch) s = .next (after dt (fun s => s.chanDisable fn ch) s)) ∧
    (∀ (dt : Nat) (fn : Nat) (ch : Nat) (value : Nat) (host : List (Nat × List Nat)) (s : State), (Instr.tailWrite dt fn ch value host).wf = true → ch < 14 → (s.opens dt).reachable fn = true →
      exec (.tailWrite dt fn ch value host) s = .next (after dt (fun s => (s.hostLoad host).tailWrite fn ch value) s)) ∧
    (∀ (dt : Nat) (fn : Nat) (s : State), (Instr.sourceDestinationFree dt fn).wf = true → (s.opens dt).mainOn = true →
      exec (.sourceDestinationFree dt fn) s = .next (after dt (fun s => s.pump fn) s)) ∧
    (∀ (dt : Nat) (fn : Nat) (ch : Nat) (k : Nat) (err : Nat) (beat : Bool) (host : List (Nat × List Nat)) (runMin : Nat) (s : State), (Instr.readCompletion dt fn ch k err beat host runMin).wf = true → (s.opens dt).mainOn = true →
      exec (.readCompletion dt fn ch k err beat host runMin) s = .next (after dt (fun s => State.complete fn ch k err beat runMin (s.hostLoad host)) s)) ∧
    (∀ (dt : Nat) (fn : Nat) (ch : Nat) (k : Nat) (s : State), (Instr.completionTimeout dt fn ch k).wf = true → (s.opens dt).mainOn = true →
      exec (.completionTimeout dt fn ch k) s = .next (after dt (fun s => s.complete fn ch k 3 false 1) s)) ∧
    (∀ (dt : Nat) (fn : Nat) (ch : Nat) (s : State), (Instr.admissionEnd dt fn ch).wf = true → (s.opens dt).mainOn = true →
      exec (.admissionEnd dt fn ch) s = .next (after dt (fun s => (s.admission fn ch).pump fn) s)) ∧
    (∀ (dt : Nat) (fn : Nat) (ch : Nat) (s : State), (Instr.descriptorEnd dt fn ch).wf = true → (s.opens dt).mainOn = true →
      exec (.descriptorEnd dt fn ch) s = .next (after dt (fun s => let r := s.endDesc fn ch; if r.2 then r.1.starvation else r.1) s)) ∧
    (∀ (dt : Nat) (job : Nat) (s : State), (Instr.compressionResume dt job).wf = true → (s.opens dt).mainOn = true →
      exec (.compressionResume dt job) s = .next (after dt (fun s => s.compressResume job) s)) ∧
    (∀ (dt : Nat) (w : Nat) (memErr : Bool) (pieces : List (List Nat)) (s : State), (Instr.stripPipelineDecode dt w memErr pieces).wf = true →
      exec (.stripPipelineDecode dt w memErr pieces) s = .next (after dt (fun s => s.pipelineDecode w memErr pieces) s)) ∧
    (∀ (dt : Nat) (w : Nat) (target : Nat) (addr : Nat) (item : MemUse) (s : State), (Instr.memoryError dt w target addr item).wf = true →
      exec (.memoryError dt w target addr item) s = .next (after dt (fun s => s.memoryError w target addr item) s)) ∧
    (∀ (dt : Nat) (unit : Nat) (words : List (Nat × Nat × MemUse)) (s : State), (Instr.scrubReport dt unit words).wf = true →
      exec (.scrubReport dt unit words) s = .next (after dt (fun s => s.scrubReport unit words) s))

/-- Every course, lift, Tie and action command that something can carry answers a next state: its time passes, it has its effect, the
mailbox commands that wait then run, what is due is sent, and the queue is as it was. Where its row belongs to the main domains,
or to a host access of a function, that is said for main domains that are on and a function whose register space can be reached. -/
def Obligations.CourseCommandsComplete : Prop :=
  (∀ (dt : Nat) (course : Nat) (fire : Nat) (s : State), (Instr.courseRecord dt course fire).wf = true →
      exec (.courseRecord dt course fire) s = .next (after dt (fun s => s.courseRecord course (fire % 2 ^ 32)) s)) ∧
    (∀ (dt : Nat) (failed : TieIn) (s : State), (Instr.tieReplay dt failed).wf = true →
      exec (.tieReplay dt failed) s = .next (after dt (fun s => s.tieReplay failed.dest failed.back failed.errors) s)) ∧
    (∀ (dt : Nat) (s : State), (Instr.seamDeadlineMiss dt).wf = true → (s.opens dt).mainOn = true →
      exec (.seamDeadlineMiss dt) s = .next (after dt (fun s => s.seamMissed) s)) ∧
    (∀ (dt : Nat) (s : State), (Instr.tieTrainingLost dt).wf = true → (s.opens dt).mainOn = true →
      exec (.tieTrainingLost dt) s = .next (after dt (fun s => s.tieLost) s)) ∧
    (∀ (dt : Nat) (w : Nat) (s : State), (Instr.lockstep dt w).wf = true → (s.opens dt).mainOn = true →
      exec (.lockstep dt w) s = .next (after dt (fun s => s.lockstep w) s)) ∧
    (∀ (dt : Nat) (lift : Nat) (s : State), (Instr.liftToken dt lift).wf = true → (s.opens dt).mainOn = true →
      exec (.liftToken dt lift) s = .next (after dt (fun s => s.liftToken lift) s)) ∧
    (∀ (dt : Nat) (s : State), (Instr.commitToken dt).wf = true → (s.opens dt).mainOn = true →
      exec (.commitToken dt) s = .next (after dt (fun s => s.commitToken) s)) ∧
    (∀ (dt : Nat) (w : Nat) (lift : Nat) (audit : Bool) (s : State), (Instr.liftScreened dt w lift audit).wf = true → (s.opens dt).mainOn = true →
      exec (.liftScreened dt w lift audit) s = .next (after dt (fun s => s.screened w lift audit) s)) ∧
    (∀ (dt : Nat) (s : State), (Instr.courseRelease dt).wf = true → (s.opens dt).mainOn = true →
      exec (.courseRelease dt) s = .next (after dt (fun s => s.courseRelease) s)) ∧
    (∀ (dt : Nat) (s : State), (Instr.courseFire dt).wf = true → (s.opens dt).mainOn = true →
      exec (.courseFire dt) s = .next (after dt (fun s => s.courseFire.swapWhenReady) s)) ∧
    (∀ (dt : Nat) (seam : List SeamUpset) (s : State), (Instr.liftBoundary dt seam).wf = true → (s.opens dt).mainOn = true →
      exec (.liftBoundary dt seam) s = .next (after dt (fun s => s.liftBoundary seam) s)) ∧
    (∀ (dt : Nat) (s : State), (Instr.speedLoopCycle dt).wf = true → (s.opens dt).mainOn = true →
      exec (.speedLoopCycle dt) s = .next (after dt (fun s => s.speedCycle) s)) ∧
    (∀ (dt : Nat) (s : State), (Instr.overspeedClear dt).wf = true → (s.opens dt).mainOn = true →
      exec (.overspeedClear dt) s = .next (after dt (fun s => s.overspeedClear) s)) ∧
    (∀ (dt : Nat) (s : State), (Instr.webAtRest dt).wf = true → (s.opens dt).mainOn = true →
      exec (.webAtRest dt) s = .next (after dt (fun s => s.atRest.swapWhenReady) s)) ∧
    (∀ (dt : Nat) (s : State), (Instr.ceiling dt).wf = true → (s.opens dt).mainOn = true →
      exec (.ceiling dt) s = .next (after dt (fun s => s.ceilCheck) s)) ∧
    (∀ (dt : Nat) (s : State), (Instr.resumeBegin dt).wf = true → (s.opens dt).mainOn = true →
      exec (.resumeBegin dt) s = .next (after dt (fun s => s.resumeBegin) s)) ∧
    (∀ (dt : Nat) (s : State), (Instr.rejectEdge dt).wf = true → (s.opens dt).mainOn = true →
      exec (.rejectEdge dt) s = .next (after dt (fun s => s.rejectEdge) s)) ∧
    (∀ (dt : Nat) (id : Nat) (s : State), (Instr.actionAtCourse dt id).wf = true → (s.opens dt).mainOn = true →
      exec (.actionAtCourse dt id) s = .next (after dt (fun s => s.actionAtCourse id) s)) ∧
    (∀ (dt : Nat) (id : Nat) (s : State), (Instr.actionAtTime dt id).wf = true → (s.opens dt).mainOn = true →
      exec (.actionAtTime dt id) s = .next (after dt (fun s => s.actionAtTime id) s)) ∧
    (∀ (dt : Nat) (output : Nat) (s : State), (Instr.actionPulseEnd dt output).wf = true → (s.opens dt).mainOn = true →
      exec (.actionPulseEnd dt output) s = .next (after dt (fun s => s.pulseEnd output) s)) ∧
    (∀ (dt : Nat) (w : Nat) (s : State), (Instr.quantaLostReport dt w).wf = true → (s.opens dt).mainOn = true →
      exec (.quantaLostReport dt w) s = .next (after dt (fun s => s.quantaReport w) s)) ∧
    (∀ (dt : Nat) (w : Nat) (s : State), (Instr.saturationReport dt w).wf = true → (s.opens dt).mainOn = true →
      exec (.saturationReport dt w) s = .next (after dt (fun s => s.saturationReport w) s))

/-- Every web sensing command that something can carry answers a next state: its time passes, it has its effect, the mailbox commands
that wait then run, what is due is sent, and the queue is as it was. Where its row belongs to the main domains, or to a host
access of a function, that is said for main domains that are on and a function whose register space can be reached. -/
def Obligations.WebCommandsComplete : Prop :=
  (∀ (dt : Nat) (run : MarkRun) (s : State), (Instr.markEdge dt run).wf = true → (s.opens dt).mainOn = true →
      exec (.markEdge dt run) s = .next (after dt (fun s => s.markIn run) s)) ∧
    (∀ (dt : Nat) (k : Nat) (s : State), (Instr.markMiss dt k).wf = true → (s.opens dt).mainOn = true →
      exec (.markMiss dt k) s = .next (after dt (fun s => s.markMiss k) s)) ∧
    (∀ (dt : Nat) (enc : Nat) (inp : EncIn) (s : State), (Instr.positionChange dt enc inp).wf = true → (s.opens dt).mainOn = true →
      exec (.positionChange dt enc inp) s = .next (after dt (fun s => s.encoderIn enc inp) s)) ∧
    (∀ (dt : Nat) (enc : Nat) (a : Bool) (b : Bool) (run : Held) (s : State), (Instr.illegalTransition dt enc a b run).wf = true → (s.opens dt).mainOn = true →
      exec (.illegalTransition dt enc a b run) s = .next (after dt (fun s => s.linesIn enc { n := run.n, a := a, b := b, z := run.z }) s)) ∧
    (∀ (dt : Nat) (enc : Nat) (samples : List (Int × Int)) (s : State), (Instr.radiusFault dt enc samples).wf = true → (s.opens dt).mainOn = true →
      exec (.radiusFault dt enc samples) s = .next (after dt (fun s => samples.foldl (fun (s : State) p => s.adcIn enc p) s) s)) ∧
    (∀ (dt : Nat) (enc : Nat) (pins : Pins) (s : State), (Instr.index dt enc pins).wf = true → (s.opens dt).mainOn = true →
      exec (.index dt enc pins) s = .next (after dt (fun s => s.linesIn enc pins) s)) ∧
    (∀ (dt : Nat) (enc : Nat) (s : State), (Instr.missingIndex dt enc).wf = true → (s.opens dt).mainOn = true →
      exec (.missingIndex dt enc) s = .next (after dt (fun s => s.missingIndex enc) s)) ∧
    (∀ (dt : Nat) (enc : Nat) (k : Nat) (v : PairIn) (s : State), (Instr.pairStatusChange dt enc k v).wf = true → (s.opens dt).mainOn = true →
      exec (.pairStatusChange dt enc k v) s = .next (after dt (fun s => s.pairStatus enc k v) s)) ∧
    (∀ (dt : Nat) (run : HallRun) (s : State), (Instr.hallChange dt run).wf = true →
      exec (.hallChange dt run) s = .next (after dt (fun s => s.hallIn run) s)) ∧
    (∀ (dt : Nat) (s : State), (Instr.checkWindow dt).wf = true → (s.opens dt).mainOn = true →
      exec (.checkWindow dt) s = .next (after dt (fun s => s.checkWindow) s)) ∧
    (∀ (dt : Nat) (supply : SupplyIn) (s : State), (Instr.supplyOverload dt supply).wf = true →
      exec (.supplyOverload dt supply) s = .next (after dt (fun s => s.supplyOverload supply.k supply.limit) s)) ∧
    (∀ (dt : Nat) (enc : Nat) (s : State), (Instr.illegalTransitionReport dt enc).wf = true → (s.opens dt).mainOn = true →
      exec (.illegalTransitionReport dt enc) s = .next (after dt (fun s => s.illegalReport enc) s)) ∧
    (∀ (dt : Nat) (s : State), (Instr.hallReport dt).wf = true → (s.opens dt).mainOn = true →
      exec (.hallReport dt) s = .next (after dt (fun s => s.hallReport) s))

/-- Every field input, output and watchdog command that something can carry answers a next state: its time passes, it has its effect,
the mailbox commands that wait then run, what is due is sent, and the queue is as it was. Where its row belongs to the main
domains, or to a host access of a function, that is said for main domains that are on and a function whose register space can be
reached. -/
def Obligations.PlumbCommandsComplete : Prop :=
  (∀ (dt : Nat) (inp : Nat) (level : Bool) (ua : Nat) (s : State), (Instr.fieldInputChange dt inp level ua).wf = true →
      exec (.fieldInputChange dt inp level ua) s = .next (after dt (fun s => s.fieldInput inp level ua) s)) ∧
    (∀ (dt : Nat) (s : State), (Instr.estopDisc dt).wf = true →
      exec (.estopDisc dt) s = .next (after dt (fun s => s.estopDisc) s)) ∧
    (∀ (dt : Nat) (mv : Int) (s : State), (Instr.fieldSupply dt mv).wf = true →
      exec (.fieldSupply dt mv) s = .next (after dt (fun s => s.fieldSupply mv) s)) ∧
    (∀ (dt : Nat) (output : Nat) (kind : Nat) (s : State), (Instr.outputFault dt output kind).wf = true →
      exec (.outputFault dt output kind) s = .next (after dt (fun s => s.outputFault output kind) s)) ∧
    (∀ (dt : Nat) (load : LoadIn) (s : State), (Instr.openLoad dt load).wf = true →
      exec (.openLoad dt load) s = .next (after dt (fun s => s.openLoad load.output load.ua) s)) ∧
    (∀ (dt : Nat) (tj : ThermIn) (s : State), (Instr.thermOkChange dt tj).wf = true →
      exec (.thermOkChange dt tj) s = .next (after dt (fun s => s.thermChange tj.tj0 tj.tj1) s)) ∧
    (∀ (dt : Nat) (s : State), (Instr.watchdogKey dt).wf = true →
      exec (.watchdogKey dt) s = .next (after dt (fun s => s.wdogKey) s)) ∧
    (∀ (dt : Nat) (wrong : Bool) (s : State), (Instr.watchdog dt wrong).wf = true →
      exec (.watchdog dt wrong) s = .next (after dt (fun s => s.watchdog wrong) s)) ∧
    (∀ (dt : Nat) (beats : List (Nat × Nat)) (s : State), (Instr.heartbeatScan dt beats).wf = true →
      exec (.heartbeatScan dt beats) s = .next (after dt (fun s => s.heartbeats beats) s))

/-- Every lane, lease and discovery command that something can carry answers a next state: its time passes, it has its effect, the
mailbox commands that wait then run, what is due is sent, and the queue is as it was. Where its row belongs to the main domains,
or to a host access of a function, that is said for main domains that are on and a function whose register space can be reached. -/
def Obligations.LaneCommandsComplete : Prop :=
  (∀ (dt : Nat) (l : Nat) (s : State), (Instr.laneRxAligned dt l).wf = true → (s.opens dt).mainOn = true →
      exec (.laneRxAligned dt l) s = .next (after dt (fun s => s.rxAligned l) s)) ∧
    (∀ (dt : Nat) (l : Nat) (s : State), (Instr.laneRxUnaligned dt l).wf = true → (s.opens dt).mainOn = true →
      exec (.laneRxUnaligned dt l) s = .next (after dt (fun s => s.rxUnaligned l) s)) ∧
    (∀ (dt : Nat) (l : Nat) (s : State), (Instr.identTimeout dt l).wf = true → (s.opens dt).mainOn = true →
      exec (.identTimeout dt l) s = .next (after dt (fun s => s.identTimeout l) s)) ∧
    (∀ (dt : Nat) (l : Nat) (s : State), (Instr.delayTimeout dt l).wf = true → (s.opens dt).mainOn = true →
      exec (.delayTimeout dt l) s = .next (after dt (fun s => s.delayTimeout l) s)) ∧
    (∀ (dt : Nat) (l : Nat) (s : State), (Instr.statusTimeout dt l).wf = true → (s.opens dt).mainOn = true →
      exec (.statusTimeout dt l) s = .next (after dt (fun s => s.statusTimeout l) s)) ∧
    (∀ (dt : Nat) (l : Nat) (s : State), (Instr.unalignedTimeout dt l).wf = true → (s.opens dt).mainOn = true →
      exec (.unalignedTimeout dt l) s = .next (after dt (fun s => s.unalignedTimeout l) s)) ∧
    (∀ (dt : Nat) (l : Nat) (s : State), (Instr.lostTimeout dt l).wf = true → (s.opens dt).mainOn = true →
      exec (.lostTimeout dt l) s = .next (after dt (fun s => s.lostTimeout l) s)) ∧
    (∀ (dt : Nat) (l : Nat) (s : State), (Instr.timeSend dt l).wf = true → (s.opens dt).mainOn = true →
      exec (.timeSend dt l) s = .next (after dt (fun s => s.timeSend l) s)) ∧
    (∀ (dt : Nat) (l : Nat) (s : State), (Instr.echoSend dt l).wf = true → (s.opens dt).mainOn = true →
      exec (.echoSend dt l) s = .next (after dt (fun s => s.echoSend l) s)) ∧
    (∀ (dt : Nat) (l : Nat) (s : State), (Instr.discoverSend dt l).wf = true → (s.opens dt).mainOn = true →
      exec (.discoverSend dt l) s = .next (after dt (fun s => s.discoverSend l) s)) ∧
    (∀ (dt : Nat) (l : Nat) (len : Nat) (bits : Nat) (s : State), (Instr.hello dt l len bits).wf = true → (s.opens dt).mainOn = true →
      exec (.hello dt l len bits) s = .next (after dt (fun s => s.helloUnit l len bits) s)) ∧
    (∀ (dt : Nat) (l : Nat) (len : Nat) (bits : Nat) (s : State), (Instr.statusUnit dt l len bits).wf = true → (s.opens dt).mainOn = true →
      exec (.statusUnit dt l len bits) s = .next (after dt (fun s => s.statusUnit l len bits) s)) ∧
    (∀ (dt : Nat) (l : Nat) (len : Nat) (bits : Nat) (s : State), (Instr.tempsUnit dt l len bits).wf = true → (s.opens dt).mainOn = true →
      exec (.tempsUnit dt l len bits) s = .next (after dt (fun s => s.tempsUnit l len bits) s)) ∧
    (∀ (dt : Nat) (l : Nat) (len : Nat) (bits : Nat) (rtt : Nat) (s : State), (Instr.echoReply dt l len bits rtt).wf = true → (s.opens dt).mainOn = true →
      exec (.echoReply dt l len bits rtt) s = .next (after dt (fun s => s.echoReply l len bits rtt) s)) ∧
    (∀ (dt : Nat) (s : State), (Instr.discovery dt).wf = true → (s.opens dt).mainOn = true →
      exec (.discovery dt) s = .next (after dt (fun s => s.discovery) s)) ∧
    (∀ (dt : Nat) (id : Nat) (s : State), (Instr.renewSend dt id).wf = true → (s.opens dt).mainOn = true →
      exec (.renewSend dt id) s = .next (after dt (fun s => s.renewSend id) s)) ∧
    (∀ (dt : Nat) (id : Nat) (s : State), (Instr.acquireRetry dt id).wf = true → (s.opens dt).mainOn = true →
      exec (.acquireRetry dt id) s = .next (after dt (fun s => s.acquireRetry id) s)) ∧
    (∀ (dt : Nat) (s : State), (Instr.restSend dt).wf = true → (s.opens dt).mainOn = true →
      exec (.restSend dt) s = .next (after dt (fun s => s.restSend) s))

/-- Every node command that something can carry answers a next state: its time passes, it has its effect, the mailbox commands that
wait then run, what is due is sent, and the queue is as it was. Where its row belongs to the main domains, or to a host access of
a function, that is said for main domains that are on and a function whose register space can be reached. -/
def Obligations.NodeCommandsComplete : Prop :=
  (∀ (dt : Nat) (id : Nat) (port : Nat) (k : Nat) (len : Nat) (bits : Nat) (s : State), (Instr.nodeFrame dt id port k len bits).wf = true →
      exec (.nodeFrame dt id port k len bits) s = .next (after dt (fun s => s.nodeFrame id port k len bits) s)) ∧
    (∀ (dt : Nat) (id : Nat) (port : Nat) (k : Nat) (len : Nat) (bits : Nat) (s : State), (Instr.nodeRenew dt id port k len bits).wf = true →
      exec (.nodeRenew dt id port k len bits) s = .next (after dt (fun s => s.nodeLease 0 id port k len bits) s)) ∧
    (∀ (dt : Nat) (id : Nat) (port : Nat) (k : Nat) (len : Nat) (bits : Nat) (s : State), (Instr.nodeRelease dt id port k len bits).wf = true →
      exec (.nodeRelease dt id port k len bits) s = .next (after dt (fun s => s.nodeLease 2 id port k len bits) s)) ∧
    (∀ (dt : Nat) (id : Nat) (port : Nat) (k : Nat) (len : Nat) (bits : Nat) (s : State), (Instr.nodeRest dt id port k len bits).wf = true →
      exec (.nodeRest dt id port k len bits) s = .next (after dt (fun s => s.nodeLease 3 id port k len bits) s)) ∧
    (∀ (dt : Nat) (id : Nat) (port : Nat) (k : Nat) (len : Nat) (bits : Nat) (s : State), (Instr.nodeCancel dt id port k len bits).wf = true →
      exec (.nodeCancel dt id port k len bits) s = .next (after dt (fun s => s.nodeLease 4 id port k len bits) s)) ∧
    (∀ (dt : Nat) (id : Nat) (port : Nat) (k : Nat) (len : Nat) (bits : Nat) (s : State), (Instr.nodeAcquire dt id port k len bits).wf = true →
      exec (.nodeAcquire dt id port k len bits) s = .next (after dt (fun s => s.nodeAcquire id port k len bits) s)) ∧
    (∀ (dt : Nat) (id : Nat) (port : Nat) (k : Nat) (len : Nat) (bits : Nat) (s : State), (Instr.nodeConfig dt id port k len bits).wf = true →
      exec (.nodeConfig dt id port k len bits) s = .next (after dt (fun s => s.nodeConfig id port k len bits) s)) ∧
    (∀ (dt : Nat) (id : Nat) (port : Nat) (k : Nat) (len : Nat) (bits : Nat) (s : State), (Instr.nodeTime dt id port k len bits).wf = true →
      exec (.nodeTime dt id port k len bits) s = .next (after dt (fun s => s.nodeTimeUnit id port k len bits) s)) ∧
    (∀ (dt : Nat) (id : Nat) (port : Nat) (k : Nat) (len : Nat) (bits : Nat) (s : State), (Instr.nodeDiscover dt id port k len bits).wf = true →
      exec (.nodeDiscover dt id port k len bits) s = .next (after dt (fun s => s.nodeDiscover id port k len bits) s)) ∧
    (∀ (dt : Nat) (id : Nat) (port : Nat) (k : Nat) (len : Nat) (bits : Nat) (turn : Nat) (s : State), (Instr.nodeEcho dt id port k len bits turn).wf = true →
      exec (.nodeEcho dt id port k len bits turn) s = .next (after dt (fun s => s.nodeEcho id port k len bits turn) s)) ∧
    (∀ (dt : Nat) (id : Nat) (s : State), (Instr.nodeLeaseExpiry dt id).wf = true →
      exec (.nodeLeaseExpiry dt id) s = .next (after dt (fun s => s.nodeExpiry id) s)) ∧
    (∀ (dt : Nat) (id : Nat) (head : Nat) (row : Nat) (s : State), (Instr.nodeRowFire dt id head row).wf = true →
      exec (.nodeRowFire dt id head row) s = .next (after dt (fun s => s.nodeRowFire id head row) s)) ∧
    (∀ (dt : Nat) (id : Nat) (port : Nat) (k : Nat) (s : State), (Instr.nodeStatusSend dt id port k).wf = true →
      exec (.nodeStatusSend dt id port k) s = .next (after dt (fun s => s.nodeStatusSend id port k) s)) ∧
    (∀ (dt : Nat) (id : Nat) (port : Nat) (temps : List Int) (s : State), (Instr.nodeTempsSend dt id port temps).wf = true →
      exec (.nodeTempsSend dt id port temps) s = .next (after dt (fun s => s.nodeTempsSend id port temps) s)) ∧
    (∀ (dt : Nat) (id : Nat) (lanesA : Nat) (lanesB : Nat) (heads : List Nat) (maxK : Nat) (s : State), (Instr.nodeReset dt id lanesA lanesB heads maxK).wf = true →
      exec (.nodeReset dt id lanesA lanesB heads maxK) s = .next (after dt (fun s => s.nodeReset id lanesA lanesB maxK heads) s)) ∧
    (∀ (dt : Nat) (id : Nat) (port : Nat) (k : Nat) (ok : Bool) (s : State), (Instr.nodeReceiverAlignment dt id port k ok).wf = true →
      exec (.nodeReceiverAlignment dt id port k ok) s = .next (after dt (fun s => s.nodeAlign id port k ok) s)) ∧
    (∀ (dt : Nat) (id : Nat) (head : Nat) (faulty : Bool) (s : State), (Instr.headFault dt id head faulty).wf = true →
      exec (.headFault dt id head faulty) s = .next (after dt (fun s => s.nodeHeadFault id head faulty) s)) ∧
    (∀ (dt : Nat) (id : Nat) (s : State), (Instr.nodeTimeOkTimeout dt id).wf = true →
      exec (.nodeTimeOkTimeout dt id) s = .next (after dt (fun s => s.nodeTimeout id) s))

/-- Every pair and gang link command that something can carry answers a next state: its time passes, it has its effect, the mailbox
commands that wait then run, what is due is sent, and the queue is as it was. Where its row belongs to the main domains, or to a
host access of a function, that is said for main domains that are on and a function whose register space can be reached. -/
def Obligations.ButtressCommandsComplete : Prop :=
  (∀ (dt : Nat) (side : Nat) (role : Nat) (op : Nat) (phase : Nat) (unit : BeatIn) (s : State), (Instr.beat dt side role op phase unit).wf = true → (s.opens dt).mainOn = true →
      exec (.beat dt side role op phase unit) s = .next (after dt (fun s => s.beat side role op phase unit) s)) ∧
    (∀ (dt : Nat) (side : Nat) (s : State), (Instr.beatSend dt side).wf = true → (s.opens dt).mainOn = true →
      exec (.beatSend dt side) s = .next (after dt (fun s => s.beatSend side) s)) ∧
    (∀ (dt : Nat) (side : Nat) (lanes : Nat) (s : State), (Instr.buttressLinkDown dt side lanes).wf = true → (s.opens dt).mainOn = true →
      exec (.buttressLinkDown dt side lanes) s = .next (after dt (fun s => s.linkDown side lanes) s)) ∧
    (∀ (dt : Nat) (side : Nat) (lanes : Nat) (s : State), (Instr.buttressLinkUp dt side lanes).wf = true → (s.opens dt).mainOn = true →
      exec (.buttressLinkUp dt side lanes) s = .next (after dt (fun s => s.linkUp side lanes) s)) ∧
    (∀ (dt : Nat) (lift : Nat) (item : Nat) (off : Nat) (bytes : List Nat) (s : State), (Instr.mirror dt lift item off bytes).wf = true → (s.opens dt).mainOn = true →
      exec (.mirror dt lift item off bytes) s = .next (after dt (fun s => s.mirrorUnit lift item off bytes) s)) ∧
    (∀ (dt : Nat) (lift : Nat) (units : Nat) (ecrc : Nat) (s : State), (Instr.epochEnd dt lift units ecrc).wf = true → (s.opens dt).mainOn = true →
      exec (.epochEnd dt lift units ecrc) s = .next (after dt (fun s => s.epochEnd lift units ecrc) s)) ∧
    (∀ (dt : Nat) (course : Nat) (s : State), (Instr.progress dt course).wf = true → (s.opens dt).mainOn = true →
      exec (.progress dt course) s = .next (after dt (fun s => s.progressUnit course) s)) ∧
    (∀ (dt : Nat) (fDone : Nat) (oneMore : Bool) (cause : Nat) (s : State), (Instr.handover dt fDone oneMore cause).wf = true → (s.opens dt).mainOn = true →
      exec (.handover dt fDone oneMore cause) s = .next (after dt (fun s => s.handoverUnit fDone oneMore cause) s)) ∧
    (∀ (dt : Nat) (side : Nat) (unit : BMsg) (s : State), (Instr.msg dt side unit).wf = true → (s.opens dt).mainOn = true →
      exec (.msg dt side unit) s = .next (after dt (fun s => s.msg side unit) s)) ∧
    (∀ (dt : Nat) (ch : Nat) (slot : Nat) (s : State), (Instr.forwardAckTimeout dt ch slot).wf = true → (s.opens dt).mainOn = true →
      exec (.forwardAckTimeout dt ch slot) s = .next (after dt (fun s => s.ackTimeout ch slot) s)) ∧
    (∀ (dt : Nat) (side : Nat) (unit : GMsg) (s : State), (Instr.gsync dt side unit).wf = true → (s.opens dt).mainOn = true →
      exec (.gsync dt side unit) s = .next (after dt (fun s => s.gsync side unit) s)) ∧
    (∀ (dt : Nat) (side : Nat) (request : Bool) (echo : GEcho) (s : State), (Instr.gtime dt side request echo).wf = true → (s.opens dt).mainOn = true →
      exec (.gtime dt side request echo) s = .next (after dt (fun s => s.gtime side request echo) s)) ∧
    (∀ (dt : Nat) (side : Nat) (course : Nat) (levels : List Nat) (crc : Option Nat) (s : State), (Instr.gseam dt side course levels crc).wf = true → (s.opens dt).mainOn = true →
      exec (.gseam dt side course levels crc) s = .next (after dt (fun s => s.gseam side course levels crc) s)) ∧
    (∀ (dt : Nat) (s : State), (Instr.offsetMeasure dt).wf = true → (s.opens dt).mainOn = true →
      exec (.offsetMeasure dt) s = .next (after dt (fun s => s.offsetMeasure) s)) ∧
    (∀ (dt : Nat) (digest : Nat) (fw : Nat) (offset : Int) (prefer : Bool) (s : State), (Instr.pairFormation dt digest fw offset prefer).wf = true → (s.opens dt).mainOn = true →
      exec (.pairFormation dt digest fw offset prefer) s = .next (after dt (fun s => ((s.partnerTold { digest, fw, offset, prefer }).formPair digest fw offset prefer).1) s)) ∧
    (∀ (dt : Nat) (s : State), (Instr.resync dt).wf = true → (s.opens dt).mainOn = true →
      exec (.resync dt) s = .next (after dt (fun s => s.resync) s)) ∧
    (∀ (dt : Nat) (s : State), (Instr.takeover dt).wf = true → (s.opens dt).mainOn = true →
      exec (.takeover dt) s = .next (after dt (fun s => s.takeover) s)) ∧
    (∀ (dt : Nat) (s : State), (Instr.acquireTimeout dt).wf = true → (s.opens dt).mainOn = true →
      exec (.acquireTimeout dt) s = .next (after dt (fun s => s.acquireTimeout) s)) ∧
    (∀ (dt : Nat) (s : State), (Instr.swapAtReady dt).wf = true → (s.opens dt).mainOn = true →
      exec (.swapAtReady dt) s = .next (after dt (fun s => s.swapWhenReady) s)) ∧
    (∀ (dt : Nat) (s : State), (Instr.autoSwap dt).wf = true → (s.opens dt).mainOn = true →
      exec (.autoSwap dt) s = .next (after dt (fun s => s.autoSwap) s)) ∧
    (∀ (dt : Nat) (s : State), (Instr.sinceSwapTick dt).wf = true → (s.opens dt).mainOn = true →
      exec (.sinceSwapTick dt) s = .next (after dt (fun s => s.sinceSwapTick) s)) ∧
    (∀ (dt : Nat) (s : State), (Instr.heartbeatSend dt).wf = true →
      exec (.heartbeatSend dt) s = .next (after dt (fun s => s.heartbeatSend) s)) ∧
    (∀ (dt : Nat) (member : Nat) (fields : List Nat) (s : State), (Instr.heartbeatDatagram dt member fields).wf = true →
      exec (.heartbeatDatagram dt member fields) s = .next (after dt (fun s => s.heartbeatIn member fields) s)) ∧
    (∀ (dt : Nat) (s : State), (Instr.hbOkTimeout dt).wf = true → (s.opens dt).mainOn = true →
      exec (.hbOkTimeout dt) s = .next (after dt (fun s => s.hbTimeout) s))

/-- Every press time and Ethernet command that something can carry answers a next state: its time passes, it has its effect, the
mailbox commands that wait then run, what is due is sent, and the queue is as it was. Where its row belongs to the main domains,
or to a host access of a function, that is said for main domains that are on and a function whose register space can be reached. -/
def Obligations.TimeEventsComplete : Prop :=
  (∀ (dt : Nat) (p : Nat) (sent : Bool) (m : PtpId) (t1 : Option Nat) (s : State), (Instr.sync dt p sent m t1).wf = true →
      exec (.sync dt p sent m t1) s = .next (after dt (fun s => s.syncMsg p sent m t1) s)) ∧
    (∀ (dt : Nat) (p : Nat) (sent : Bool) (m : PtpId) (t1 : Nat) (s : State), (Instr.followUp dt p sent m t1).wf = true →
      exec (.followUp dt p sent m t1) s = .next (after dt (fun s => s.followUp p sent m t1) s)) ∧
    (∀ (dt : Nat) (p : Nat) (sent : Bool) (m : PtpId) (s : State), (Instr.delayReq dt p sent m).wf = true →
      exec (.delayReq dt p sent m) s = .next (after dt (fun s => s.delayReq p sent m) s)) ∧
    (∀ (dt : Nat) (p : Nat) (m : PtpId) (t4 : Nat) (s : State), (Instr.delayResp dt p m t4).wf = true →
      exec (.delayResp dt p m t4) s = .next (after dt (fun s => s.delayResp p m t4) s)) ∧
    (∀ (dt : Nat) (p : Nat) (sent : Bool) (m : PtpId) (turn : Nat) (s : State), (Instr.pdelayReq dt p sent m turn).wf = true →
      exec (.pdelayReq dt p sent m turn) s = .next (after dt (fun s => s.pdelayReq p sent m turn) s)) ∧
    (∀ (dt : Nat) (p : Nat) (m : PtpId) (t2 : Nat) (t3 : Option Nat) (s : State), (Instr.pdelayResp dt p m t2 t3).wf = true →
      exec (.pdelayResp dt p m t2 t3) s = .next (after dt (fun s => s.pdelayResp p m t2 t3) s)) ∧
    (∀ (dt : Nat) (p : Nat) (m : PtpId) (t3 : Nat) (s : State), (Instr.pdelayRespFollowUp dt p m t3).wf = true →
      exec (.pdelayRespFollowUp dt p m t3) s = .next (after dt (fun s => s.pdelayFollowUp p m t3) s)) ∧
    (∀ (dt : Nat) (p : Nat) (io : AnnounceIo) (fields : List Nat) (s : State), (Instr.announce dt p io fields).wf = true →
      exec (.announce dt p io fields) s = .next (after dt (fun s => s.announceMsg p io fields) s)) ∧
    (∀ (dt : Nat) (p : Nat) (addr : Nat) (s : State), (Instr.arp dt p addr).wf = true →
      exec (.arp dt p addr) s = .next (after dt (fun s => s.ipAnswer p 0x0806 addr) s)) ∧
    (∀ (dt : Nat) (p : Nat) (addr : Nat) (s : State), (Instr.icmpEcho dt p addr).wf = true →
      exec (.icmpEcho dt p addr) s = .next (after dt (fun s => s.ipAnswer p 1 addr) s)) ∧
    (∀ (dt : Nat) (s : State), (Instr.announceTimeout dt).wf = true →
      exec (.announceTimeout dt) s = .next (after dt (fun s => s.announceTimeout) s)) ∧
    (∀ (dt : Nat) (s : State), (Instr.stepApply dt).wf = true → (s.opens dt).mainOn = true →
      exec (.stepApply dt) s = .next (after dt (fun s => s.stepApply) s)) ∧
    (∀ (dt : Nat) (s : State), (Instr.rtcCopy dt).wf = true →
      exec (.rtcCopy dt) s = .next (after dt (fun s => s.rtcCopy) s)) ∧
    (∀ (dt : Nat) (s : State), (Instr.ppsInEdge dt).wf = true →
      exec (.ppsInEdge dt) s = .next (after dt (fun s => s.ppsIn) s)) ∧
    (∀ (dt : Nat) (s : State), (Instr.ppsOut dt).wf = true →
      exec (.ppsOut dt) s = .next (after dt (fun s => s.ppsOut) s)) ∧
    (∀ (dt : Nat) (s : State), (Instr.ref10Lost dt).wf = true →
      exec (.ref10Lost dt) s = .next (after dt (fun s => s.ref10 false) s)) ∧
    (∀ (dt : Nat) (s : State), (Instr.ref10Restored dt).wf = true →
      exec (.ref10Restored dt) s = .next (after dt (fun s => s.ref10 true) s)) ∧
    (∀ (dt : Nat) (k : Nat) (course : Nat) (s : State), (Instr.camPulse dt k course).wf = true →
      exec (.camPulse dt k course) s = .next (after dt (fun s => s.camPulse k course) s)) ∧
    (∀ (dt : Nat) (p : Nat) (up : Bool) (s : State), (Instr.ethernetLink dt p up).wf = true →
      exec (.ethernetLink dt p up) s = .next (after dt (fun s => s.ethernetLink p up) s))

/-- Every lamp chain and indicator matrix command that something can carry answers a next state: its time passes, it has its effect,
the mailbox commands that wait then run, what is due is sent, and the queue is as it was. Where its row belongs to the main
domains, or to a host access of a function, that is said for main domains that are on and a function whose register space can be
reached. -/
def Obligations.LampEventsComplete : Prop :=
  (∀ (dt : Nat) (s : State), (Instr.chainFrameStart dt).wf = true →
      exec (.chainFrameStart dt) s = .next (after dt (fun s => s.nextFrame) s)) ∧
    (∀ (dt : Nat) (chain : Nat) (words : List (Option Nat)) (ended : Nat) (s : State), (Instr.chainReturnEnd dt chain words ended).wf = true →
      exec (.chainReturnEnd dt chain words ended) s = .next (after dt (fun s => if s.corbelOn then s.chainReturn chain words ended else s) s)) ∧
    (∀ (dt : Nat) (s : State), (Instr.chainRestFrame dt).wf = true →
      exec (.chainRestFrame dt) s = .next (after dt (fun s => s.restFrame) s)) ∧
    (∀ (dt : Nat) (driver : Nat) (inp : ChainIn) (s : State), (Instr.driverLatch dt driver inp).wf = true →
      exec (.driverLatch dt driver inp) s = .next (after dt (fun s => s.driverLatch driver inp) s)) ∧
    (∀ (dt : Nat) (driver : Nat) (s : State), (Instr.driverShareTimeout dt driver).wf = true →
      exec (.driverShareTimeout dt driver) s = .next (after dt (fun s => s.driverTimeout driver) s)) ∧
    (∀ (dt : Nat) (ohm : Nat) (ua : List Nat) (s : State), (Instr.matrixRowSlot dt ohm ua).wf = true →
      exec (.matrixRowSlot dt ohm ua) s = .next (after dt (fun s => s.matrixSlot ohm ua) s)) ∧
    (∀ (dt : Nat) (sw : RowIn) (s : State), (Instr.rowOvercurrent dt sw).wf = true →
      exec (.rowOvercurrent dt sw) s = .next (after dt (fun s => s.rowOvercurrent sw.row sw.ma) s))

/-- Every thermal, throttling and calibration command that something can carry answers a next state: its time passes, it has its
effect, the mailbox commands that wait then run, what is due is sent, and the queue is as it was. Where its row belongs to the
main domains, or to a host access of a function, that is said for main domains that are on and a function whose register space can
be reached. -/
def Obligations.ThermalEventsComplete : Prop :=
  (∀ (dt : Nat) (temps : List (Option Int)) (pMeas : Nat) (tj0 : Option Int) (tj1 : Option Int) (s : State), (Instr.sensorSample dt temps pMeas tj0 tj1).wf = true →
      exec (.sensorSample dt temps pMeas tj0 tj1) s = .next (after dt (fun s => s.sensorSample temps pMeas tj0 tj1) s)) ∧
    (∀ (dt : Nat) (block : Nat) (trims : List Nat) (quality : Nat) (diff : Nat) (s : State), (Instr.calRunEnd dt block trims quality diff).wf = true →
      exec (.calRunEnd dt block trims quality diff) s = .next (after dt (fun s => s.calRunEnd block trims quality diff) s)) ∧
    (∀ (dt : Nat) (diff : Int) (s : State), (Instr.referenceCompare dt diff).wf = true →
      exec (.referenceCompare dt diff) s = .next (after dt (fun s => s.referenceCompare diff) s))

/-- OFF is 0, STANDBY 1, BOOT 2, REST 3, READY 4, PRINTING 5, HOLDING 6 and FAULT 7, no state has a code from 8 on, and the STATE
register carries the code of the operating state in its low four bits and that of the previous one above them, on both functions. -/
def Obligations.OperatingStateCodes : Prop :=
  (OpState.code .off = 0 ∧ OpState.code .standby = 1 ∧ OpState.code .boot = 2 ∧ OpState.code .rest = 3 ∧ OpState.code .ready = 4 ∧
      OpState.code .printing = 5 ∧ OpState.code .holding = 6 ∧ OpState.code .fault = 7) ∧
    (∀ o : OpState, o.code < 8) ∧
    (∀ (s : State) (f : Nat), s.regWord f 0x10 % 16 = s.ident.opState.code ∧ s.regWord f 0x10 / 16 % 16 = s.ident.prevState.code)

/-- Raising vector v of a function sets its INT_CAUSE bit; where the bit was 0, the vector enabled and not masked, its MSI-X message
is sent, and where it is masked its pending bit is set instead; where the bit was 1 or the vector is not enabled, nothing is sent.
A W1C write clears the bits written 1 and sends nothing; where the source of such a vector fires in the same clock, its bit stays
set and a new message is sent. Enabling a vector whose bit is 1 sends its message at once. -/
def Obligations.InterruptMessages : Prop :=
  (∀ (f v : Nat) (s : State), v < 64 →
      let x := s.fn f
      let t := s.raise f v
      (t.fn f).int.cause = setBit x.int.cause v true ∧
      (x.int.cause.getLsbD v = true ∨ x.int.enable.getLsbD v = false → t.out = s.out ∧ (t.fn f).int.pba = x.int.pba) ∧
      (x.int.cause.getLsbD v = false → x.int.enable.getLsbD v = true →
        (x.int.masked.getLsbD v = false → t.out = msixOut f v x.int :: s.out) ∧
        (x.int.masked.getLsbD v = true → t.out = s.out ∧ (t.fn f).int.pba = setBit x.int.pba v true))) ∧
    (∀ (f c : Nat) (s : State), s.reachable f = true →
      ((s.intCauseClear f c 0).fn f).int.cause = (s.fn f).int.cause &&& ~~~(BitVec.ofNat 64 c) ∧ (s.intCauseClear f c 0).out = s.out) ∧
    (∀ (f v : Nat) (s : State), v < 64 → s.reachable f = true →
      let x := s.fn f
      let t := s.intCauseClear f (2 ^ v) (2 ^ v)
      (t.fn f).int.cause.getLsbD v = true ∧
      (x.int.enable.getLsbD v = true → x.int.masked.getLsbD v = false → t.out = msixOut f v x.int :: s.out)) ∧
    (∀ (f v : Nat) (s : State), v < 64 → s.reachable f = true →
      let x := s.fn f
      let t := s.intEnable f (setBit x.int.enable v true).toNat
      x.int.enable.getLsbD v = false → x.int.cause.getLsbD v = true → x.int.masked.getLsbD v = false →
      (t.fn f).int.enable = setBit x.int.enable v true ∧ t.out = msixOut f v x.int :: s.out)

/-- A read of a response area by the host sends its completion. Where it covers any of bytes 0 to 7 of a ready response, it then
clears COMPLETE bit s and the response shows READ_AGAIN, with all other content as before, and that is all; where it covers only
bytes 8 to 63, nothing else changes. A response that the module has just written shows READ_AGAIN 0. -/
def Obligations.ResponseReads : Prop :=
  (∀ (ch slot off n : Nat) (s : State), s.reachable 0 = true → ch < s.mbox.length → slot < 64 →
      let r := (s.chan ch).response slot
      let a := 0x10000 + 0x4000 * ch + 0x1000 + 64 * slot + off
      let u := s.send (.read 0 a (s.regRead 0 a n) false)
      let t := s.responseRead ch slot off n
      (off < 8 → 0 < n → r.ready = true →
        t = u.modChan ch (fun x => { x with rsp := assocSet slot { r with readAgain := true } x.rsp, complete := setBit x.complete slot false }) ∧
        (t.chan ch).response slot = { r with readAgain := true } ∧ (t.chan ch).complete.getLsbD slot = false) ∧
      (8 ≤ off → t = u)) ∧
    (∀ (r : Rsp) (i : Nat), i ≠ 4 → ({ r with readAgain := true } : Rsp).bytes.getD i 0 = r.bytes.getD i 0) ∧
    (∀ r : Rsp, bitAt (({ r with readAgain := true } : Rsp).bytes.getD 4 0) 1 = true ∧ bitAt (({ r with readAgain := false } : Rsp).bytes.getD 4 0) 1 = false) ∧
    (∀ (c : Nat) (q : QCmd) (rest : List QCmd) (rep : Reply) (s : State), c < s.mbox.length → (s.chan c).queue = q :: rest →
      (s.chan c).mute = false →
      ((s.respond c rep).chan c).response q.slot =
        { verb := q.verb, tag := q.tag, phase := q.phase, lateMark := rep.late, warn := rep.warn, result := rep.result,
          detail := rep.detail, stamp := s.now, data := rep.data, readAgain := false })

/-- TAIL_WRITE to a host channel of a reachable function whose RING_EXP is good: where TAIL − DONE_IDX, modulo 2^32, exceeds the ring
and the channel is not draining or aborting, the channel ignores the new TAIL and stops with ERR, RESULT NO_SPACE and DETAIL
0x0001; where it does not, TAIL is the new value and the channel goes on fetching. -/
def Obligations.TailWrites : Prop :=
  (∀ (dt fn ch value : Nat) (host : List (Nat × List Nat)) (s : State), (Instr.tailWrite dt fn ch value host).wf = true → ch < 14 →
      (s.opens dt).reachable fn = true →
      let x := ((s.opens dt).hostLoad host).ch fn ch
      let t := BitVec.ofNat 32 value
      x.expOk = true →
      (x.slots < (t - x.done).toNat → x.st ≠ .draining → x.st ≠ .aborting →
        exec (.tailWrite dt fn ch value host) s = .next (after dt (fun s => (s.hostLoad host).chanError fn ch Res.noSpace 1) s)) ∧
      ((t - x.done).toNat ≤ x.slots →
        exec (.tailWrite dt fn ch value host) s =
          .next (after dt (fun s => ((s.hostLoad host).modCh fn ch (fun x => { x with tail := t })).pump fn) s))) ∧
    (∀ (fn ch : Nat) (s : State), ch < (s.fn fn).ch.length →
      let c := (s.chanError fn ch Res.noSpace 1).ch fn ch
      c.st = .stopped ∧ c.err = true ∧ c.result = Res.noSpace ∧ c.detail = 1 ∧ c.tail = (s.ch fn ch).tail ∧ c.done = (s.ch fn ch).done)

/-- For a predictor P and a sample x of W bits and the residual e that is x − P modulo 2^W in the range −2^(W−1) to 2^(W−1) − 1: the
code m, 2e for e ≥ 0 and −2e − 1 for e < 0, is at least 0 and below 2^W, and the decoder rebuilds x, which is (P + e) mod 2^W. -/
def Obligations.ResidualsRebuild : Prop :=
  ∀ (w p x : Nat) (e k : Int), 1 ≤ w → p < 2 ^ w → x < 2 ^ w → e = x - p + k * 2 ^ w → -(2 ^ (w - 1)) ≤ e → e ≤ 2 ^ (w - 1) - 1 →
      let m : Int := if 0 ≤ e then 2 * e else -2 * e - 1
      0 ≤ m ∧ m < 2 ^ w ∧ rebuild w p m.toNat = x ∧ (x : Int) = (p + e) % 2 ^ w

/-- For a knee at or below the cap, the limiter leaves values up to the knee as they are and answers no more than the cap on every
16-bit value. The ink demand is the limiter output times 128 + S, rounded to 1/256, at most 65,535. A code steps by one toward its
target and reaches it after as many lifts as they differ. A measured entry moves a target code by no more than MAX_STEP, downward
for a positive error and upward for a negative one, within 0 to 255, and is noted as held at a limit exactly when the sum falls
outside that range. -/
def Obligations.InkAndDensityArithmetic : Prop :=
  (∀ knee cap t : Nat, knee ≤ cap → t ≤ 65535 → limit knee cap t ≤ cap ∧ (t ≤ knee → limit knee cap t = t)) ∧
    (∀ (c : Sec) (ch v S : Nat), let t := limit (toneKnee c ch) (toneCap c ch) (toneApply c ch v);
      inkDemand c ch v S = min 65535 ((t * (128 + S) + 128) / 2 ^ 8)) ∧
    (∀ a t : Nat, Nat.repeat (fun a => stepCode a t) (max a t - min a t) a = t ∧
      (stepCode a t = a ∨ stepCode a t = a + 1 ∨ stepCode a t + 1 = a)) ∧
    (∀ (gain t maxStep : Nat) (e : Int), t ≤ 255 →
      let r := densTarget gain e t maxStep
      r.1 ≤ 255 ∧ r.1 ≤ t + maxStep ∧ t ≤ r.1 + maxStep ∧ (0 ≤ e → r.1 ≤ t) ∧ (e ≤ 0 → t ≤ r.1) ∧
      (r.2 = true ↔ ((t : Int) + densDelta gain e t maxStep < 0 ∨ 255 < (t : Int) + densDelta gain e t maxStep)))

/-- With A leading B, each step of 0 → 2 → 3 → 1 → 0 counts +1, each reverse step −1, an unchanged state nothing, and a change of both
lines is illegal. On an encoder in quadrature mode, a legal change of accepted levels takes the new lines as the reference and
applies its counts, which POSITION adds exactly, with HWM the highest POSITION; an illegal one, short of the burst that is a
fault, takes the new lines as the reference, is counted, and leaves POSITION as it is. A line is accepted at its new level with
the FILTER-th sample in a row that holds it, and a shorter run leaves it as it was. -/
def Obligations.QuadratureCounts : Prop :=
  (∀ a0 b0 a b : Bool, let st := fun (a b : Bool) => 2 * bit a + bit b;
      let fwd := fun (x y : Nat) => (x = 0 ∧ y = 2) ∨ (x = 2 ∧ y = 3) ∨ (x = 3 ∧ y = 1) ∨ (x = 1 ∧ y = 0);
      (fwd (st a0 b0) (st a b) → quadStep (st a0 b0) (st a b) = .counts 1) ∧
      (fwd (st a b) (st a0 b0) → quadStep (st a0 b0) (st a b) = .counts (-1)) ∧
      (a = a0 → b = b0 → quadStep (st a0 b0) (st a b) = .counts 0) ∧
      (a ≠ a0 → b ≠ b0 → quadStep (st a0 b0) (st a b) = .illegal)) ∧
    (∀ (e : Nat) (a b setup : Bool) (u : Nat) (s : State), encMode s.esec e = 1 →
      let x := s.enc e
      let st := quadStep (2 * bit x.a + bit x.b) (2 * bit a + bit b)
      let t := s.lineStep e a b setup u
      (∀ d, st = .counts d → t = (s.setEnc e { x with a := a, b := b }).applyCount e d u) ∧
      (st = .illegal → x.illStamps.length < 16 →
        t = s.setEnc e { x with a := a, b := b, illegal := satInc (2 ^ 32 - 1) x.illegal, illSince := x.illSince + 1,
                                illStamps := (u :: x.illStamps).take 16 })) ∧
    (∀ (f n run : Nat) (acc lvl : Bool), run < f →
      (lvl = acc → lineTake f n acc lvl run = (none, 0)) ∧
      (lvl ≠ acc → f ≤ run + n → ∃ k, k ≤ n ∧ run + k = f ∧ lineTake f n acc lvl run = (some k, 0)) ∧
      (lvl ≠ acc → run + n < f → lineTake f n acc lvl run = (none, run + n))) ∧
    (∀ (now : Nat) (d : Int) (x : Enc), (x.count now d).pos = x.pos + d ∧ (x.count now d).hwm = max x.hwm (x.pos + d))

/-- A node that receives an ACQUIRE addressed to the port it came on, after an expiry that has come: with T_LEASE out of 2,000 to
50,000 µs it only sets ACQ_RESULT 4; held by the other port, only 2; free and with an epoch that is not later, only 3; with an
epoch 1 to 31 ahead, free or held by this port, it is held by this port under that epoch and T_LEASE, expires T_LEASE after its
own present time, and shows ACQ_RESULT 1. Rows it still holds from another port are kept when it was free, each to the E it had;
frames and rows of an older epoch of this port are gone. -/
def Obligations.NodeAcquires : Prop :=
  ∀ (id port k len bits : Nat) (s : State) (n : Node) (b : Body) (data : List Nat),
      (s.nodeExpiry id).nodeRx id port k 0x03 len bits = some (n, some b) → n.id = id → b.data = some data →
      let m := leaseRead (data.getD 0 0)
      let ahead := (m.epoch + 64 - n.epoch) % 64
      let inRange : Prop := 2000 ≤ m.tLease ∧ m.tLease ≤ 50000
      let t := s.nodeAcquire id port k len bits
      m.op = 1 → m.port = port →
      (¬inRange → t.node id = some { n with acqResult := 4 }) ∧
      (inRange → n.held = true → n.holder ≠ port → t.node id = some { n with acqResult := 2 }) ∧
      (inRange → n.held = false → ¬(1 ≤ ahead ∧ ahead ≤ 31) → t.node id = some { n with acqResult := 3 }) ∧
      (inRange → (n.held = false ∨ n.holder = port) → 1 ≤ ahead → ahead ≤ 31 →
        ∃ n', t.node id = some n' ∧ n'.held = true ∧ n'.holder = port ∧ n'.epoch = m.epoch ∧ n'.tLease = m.tLease ∧ n'.acqResult = 1 ∧
          n'.expiry = n.time s.clock.up + 1000 * m.tLease ∧
          (n.held = false → n.holder ≠ port → n'.rows = n.rows.map (fun r => { r with expiry := n.rowE r }) ∧ n'.frames = n.frames) ∧
          (n.held = true → n'.rows = [] ∧ n'.frames = []))

/-- In every state: HV_EN of bar b is commanded on exactly when the main domains and the field domain are on, the module is in READY,
PRINTING or HOLDING, bar b is installed, no cause is present, ESTOP_A, ESTOP_B, BAR_DOWN b and WEB_PRESENT are high, there is no
WEB_BREAK and no JAM, and WDOG_OK and THERM_OK are 1; LAMP_EN exactly when, of these, the domains, the state, no cause, both ESTOP
inputs, WDOG_OK and THERM_OK hold. Outside READY, PRINTING and HOLDING no high-voltage output, no lamp and no drive release is on,
and in REST, FAULT and BOOT, with the domains on, REJECT is. -/
def Obligations.FieldOutputGate : Prop :=
  (∀ (s : State) (b : Nat), b < 12 →
      (s.outCmd.getLsbD b = true ↔
        s.mainOn = true ∧ s.power.domains.getLsbD 10 = true ∧ s.armed = true ∧ bitAt (bgBarEn (s.sec SecId.barGeometry)) b = true ∧
        s.present = 0 ∧ s.input 15 = true ∧ s.input 16 = true ∧ s.input b = true ∧ s.input 12 = true ∧ s.breakOn = false ∧
        s.jamOn = false ∧ s.plumb.wdogOk = true ∧ s.plumb.thermOk = true)) ∧
    (∀ s : State, s.outCmd.getLsbD 12 = true ↔
      s.mainOn = true ∧ s.power.domains.getLsbD 10 = true ∧ s.armed = true ∧ s.present = 0 ∧ s.input 15 = true ∧ s.input 16 = true ∧
      s.plumb.wdogOk = true ∧ s.plumb.thermOk = true) ∧
    (∀ s : State, s.armed = false → HighVoltageOff s ∧ s.outCmd.getLsbD 12 = false ∧ s.outCmd.getLsbD 13 = false) ∧
    (∀ s : State, s.power.domains.getLsbD 10 = true → (s.ident.opState = .rest ∨ s.ident.opState = .fault ∨ s.ident.opState = .boot) →
      s.outCmd.getLsbD 14 = true)

/-- On an empty mailbox, in REST, READY or FAULT, with no action by time pending and no other step waiting: TIME.SET answers MISMATCH
0x0B02 when PHASE_SRC is not 0 and BAD_ARG, at its bytes, when bit 0 is 1, and changes nothing; otherwise it asks for its step and
stays pending. When that step takes effect, at a multiple of 125,000 ns outside PRINTING and HOLDING, press time becomes the value
carried, TIME_VALID is set and no step waits any more. -/
def Obligations.TimeSet : Prop :=
  (∀ (dt : Nat) (m : Mbox) (s : State),
      let a := s.opens dt
      let q := cmdOf 0x0B02 m
      let u := running 0x0B02 m a
      Usable 0x0B02 m a →
      a.idleState = true →
      Tidy q [(8, 8)] →
      bitAt (q.num 8 8) 0 = false →
      u.acts.pend.any (·.byTime) = false →
      u.time.stepReq = none →
      tmPhaseSrc u.tsec = 0 →
      exec (.timeSet dt m) s = .next (answered m.ch q (u.askStep (0, some (q.num 8 8), 0x0B02, m.ch, m.slot)) none s)) ∧
    (∀ (dt : Nat) (m : Mbox) (s : State),
      let a := s.opens dt
      let q := cmdOf 0x0B02 m
      let u := running 0x0B02 m a
      Usable 0x0B02 m a →
      a.idleState = true →
      Tidy q [(8, 8)] →
      bitAt (q.num 8 8) 0 = false →
      u.acts.pend.any (·.byTime) = false →
      u.time.stepReq = none →
      tmPhaseSrc u.tsec ≠ 0 →
      exec (.timeSet dt m) s = .next (answered m.ch q u (some (Reply.fail Res.mismatch 0x0B02)) s)) ∧
    (∀ (dt : Nat) (m : Mbox) (s : State),
      let a := s.opens dt
      let q := cmdOf 0x0B02 m
      let u := running 0x0B02 m a
      Usable 0x0B02 m a →
      a.idleState = true →
      Tidy q [(8, 8)] →
      bitAt (q.num 8 8) 0 = true →
      exec (.timeSet dt m) s = .next (answered m.ch q u (some (Reply.badArg 8)) s)) ∧
    (∀ (s : State) (d : Int) (v ch slot : Nat), s.time.stepReq = some (d, some v, 0x0B02, ch, slot) → s.now % 125000 = 0 → s.printHold = false → v < 2 ^ 64 →
      s.stepApply.clock.press = v ∧ s.stepApply.time.valid = true ∧ s.stepApply.time.stepReq = none)

/-- TAMPER, in every state in which the keep domain has supply (D1 is on, or VBAT is present), counts one more opening, up to 255, and
writes a record with CODE 0x1904 stamped from the real-time clock to the Aux queue, where it has room (a record that arrives more
than 20 ms after its stamp is committed at once, as the last entry of the log, with LATE_ORDER), and towards an event ring that is
set while the main domains are on; except for the Plinth and the waiting event ring nothing changes. Without supply to the keep
domain it changes nothing. -/
def Obligations.TamperOpening : Prop :=
  ∀ s : State,
      let t := s.tamperOpen
      (s.ident.opState = .off → s.power.batOk = false → t = s) ∧
      (s.ident.opState ≠ .off ∨ s.power.batOk = true →
      let n := satInc 255 s.plinth.tamper
      let e : Ev := { stamp := s.rtcStamp, source := srcKeep, code := 0x1904, detail := 0, data := [(n : Int)], rtc := true }
      t.plinth.tamper = n ∧ (s.lateRecord e = false → s.plinth.queue.length < 256 → t.plinth.queue = s.plinth.queue ++ [(s.clock.up, e)]) ∧
      (s.lateRecord e = true → t.plinth.queue = s.plinth.queue ∧
        t.plinth.log.getLast? = some { ev := e, seq := s.plinth.nextSeq.toNat, lateOrder := true } ∧ t.plinth.nextSeq = s.plinth.nextSeq + 1) ∧
      t.ring = (if s.mainOn = true ∧ s.ring.valid = true then { s.ring with wait := s.ring.wait ++ [e] } else s.ring) ∧
      { t with plinth := s.plinth, ring := s.ring } = s)

/-- On an empty mailbox, with good arguments and without AT_ONCE, these answer LATE with their verb code and change nothing: JOB.START
at a boundary before the earliest, in PRINTING and HOLDING; EVT.AT_COURSE and EVT.AT_TIME, with room for an action, whose moment
has passed; CFG.COMMIT of the checked set, and NOZ.MAP with room for a change, at a lift that is no longer open. -/
def Obligations.LateRefusals : Prop :=
  (∀ (dt : Nat) (m : Mbox) (s : State),
      let a := s.opens dt
      let q := cmdOf 0x0403 m
      let u := running 0x0403 m a
      Usable 0x0403 m a →
      a.printHold = true →
      Tidy q [(8, 2), (16, 8)] →
      ∀ j : Job, u.job (q.byte 8) = some j →
      j.state = 0 →
      q.byte 9 = 1 →
      ceilDiv (q.num 16 8) 256 ≤ u.presentLift + 4096 →
      (u.butt.gang = false ∨ u.butt.offset.natAbs ≤ 50) →
      ceilDiv (q.num 16 8) 256 < u.earliestLift →
      m.atOnce = false →
      exec (.jobStart dt m) s = .next (answered m.ch q u (some (Reply.fail Res.late 0x0403)) s)) ∧
    (∀ (dt : Nat) (m : Mbox) (s : State),
      let a := s.opens dt
      let q := cmdOf 0x0501 m
      let u := running 0x0501 m a
      Usable 0x0501 m a →
      a.armed = true →
      Tidy q [(8, 10), (20, 4)] →
      actionOk (q.byte 17) = true →
      u.outputBad (q.byte 17) (q.num 20 4) = false →
      u.acts.pend.length < 1024 →
      u.coursePassed (q.num 8 8) (q.byte 16) = true →
      m.atOnce = false →
      exec (.evtAtCourse dt m) s = .next (answered m.ch q u (some (Reply.fail Res.late 0x0501)) s)) ∧
    (∀ (dt : Nat) (m : Mbox) (s : State),
      let a := s.opens dt
      let q := cmdOf 0x0502 m
      let u := running 0x0502 m a
      Usable 0x0502 m a →
      a.armed = true →
      Tidy q [(8, 8), (17, 1), (20, 4)] →
      bitAt (q.num 8 8) 0 = false →
      actionOk (q.byte 17) = true →
      u.outputBad (q.byte 17) (q.num 20 4) = false →
      u.acts.pend.length < 1024 →
      q.num 8 8 < u.now + 10000 →
      m.atOnce = false →
      exec (.evtAtTime dt m) s = .next (answered m.ch q u (some (Reply.fail Res.late 0x0502)) s)) ∧
    (∀ (dt : Nat) (m : Mbox) (lift : Nat) (s : State),
      let a := s.opens dt
      let q := cmdOf 0x0303 m
      let u := running 0x0303 m a
      Usable 0x0303 m a →
      a.armed = true →
      Tidy q [(8, 8), (16, 1), (24, 8)] →
      (q.byte 16 = 1 ∧ lift = q.num 24 8) ∨ (q.byte 16 = 2 ∧ lift = ceilDiv (q.num 24 8) 256) →
      (u.idleChange = false ∨ a.printHold = false) →
      lift ≤ u.presentLift + 4096 →
      u.liftOpen lift = false →
      m.atOnce = false →
      q.num 8 8 = u.cfg.shadowGen.toNat →
      u.cfg.checked = some u.cfg.shadowGen.toNat →
      u.checkRuns = false →
      u.commitPending = false →
      exec (.cfgCommit dt m) s = .next (answered m.ch q u (some (Reply.fail Res.late 0x0303)) s)) ∧
    (∀ (dt : Nat) (m : Mbox) (s : State),
      let a := s.opens dt
      let q := cmdOf 0x0701 m
      let u := running 0x0701 m a
      Usable 0x0701 m a →
      a.printHold = true →
      Tidy q [(8, 12), (24, 32)] →
      q.num 16 4 ≠ 0 →
      q.num 16 4 ≤ 6 →
      q.num 24 8 = 0 →
      (∀ w ∈ (entries32 ((List.range 24).map (fun i => m.arg (32 + i))) (q.num 16 4)), u.nozEntryOk w = true) →
      u.point.pend.length < 64 →
      q.num 8 8 ≠ 2 ^ 64 - 1 →
      q.num 8 8 ≤ u.presentLift + 4096 →
      u.liftOpen (q.num 8 8) = false →
      m.atOnce = false →
      exec (.nozMap dt m) s = .next (answered m.ch q u (some (Reply.fail Res.late 0x0701)) s))

/-- The main-domain reset leaves the module in BOOT at press time 0 with the latched causes, the event log, the settings, the node
boards and the host memory as they were (and the PCIe links, which stay up where the domains stay on), and with no configuration
in force, no job, no action, no event ring, no command in the mailboxes, no interrupt cause, nothing on the Tie and empty memories
of its own. A reset that SYS.RESET has left due happens when its time passes, in a command or between commands, and not before;
done, it is no longer due. -/
def Obligations.MainDomainReset : Prop :=
  (∀ s : State,
      let t := s.reboot
      t.ident.opState = .boot ∧ t.power.booting = true ∧ t.clock.press = 0 ∧ t.clock.rtc = s.clock.rtc ∧ t.plumb.latched = s.plumb.latched ∧
      t.plinth.log = s.plinth.log ∧ t.plinth.queue = s.plinth.queue ∧ t.nodes = s.nodes ∧ t.store.host = s.store.host ∧
      t.fn0.link = s.fn0.link ∧ t.fn1.link = s.fn1.link ∧ t.cfg.gen = 0 ∧ t.cfg.force = [] ∧ t.jobs.opened = [] ∧ t.acts.pend = [] ∧
      t.ring.valid = false ∧ t.fn0.int.cause = 0 ∧ t.fn1.int.cause = 0 ∧ t.store.hbm00 = [] ∧ t.store.hbm01 = [] ∧ t.store.hbm10 = [] ∧
      t.store.hbm11 = [] ∧ t.store.sram0 = [] ∧ t.store.sram1 = [] ∧ t.tie.wait = [] ∧ (∀ c, c < 4 → (t.chan c).queue = []) ∧
      t.power.resetDue = none ∧ t.pending = s.pending) ∧
    (∀ (dt t : Nat) (cold : Bool) (s : State), s.power.resetDue = some (t, cold) →
      (s.clock.up + dt < t → s.opens dt = s.passes dt) ∧
      (t ≤ s.clock.up + dt →
        s.opens dt = (if cold then (s.passes (t - s.clock.up)).coldReset else (s.passes (t - s.clock.up)).reboot).passes (s.clock.up + dt - t))) ∧
    (∀ (dt : Nat) (s : State), s.power.resetDue = none → s.opens dt = s.passes dt)

/-- For every run of stream bits, and every run of fewer than 31 equal bits before it, removing the stuffed bits of the stuffed stream
gives the stream back, and stuffing adds at most one bit for every 31; scrambling body bits twice from the same SEQ gives them
back; and decoding a coded block gives its 128 data bits clean, and still gives them, corrected, when any one of its 36 symbols is
wrong by any nonzero amount. -/
def Obligations.LineCodingRoundTrips : Prop :=
  (∀ (bits : List Bool) (last : Bool) (run : Nat), run < 31 →
      unstuff (stuff bits last run) last run = some bits ∧ (stuff bits last run).length ≤ bits.length + (bits.length + run) / 31) ∧
    (∀ (seq : Nat) (bits : List Bool), scramble seq (scramble seq bits) = bits) ∧
    (∀ d : Nat, decodeBlock (encodeBlock d) = .clean (d % 2 ^ 128)) ∧
    (∀ d j e : Nat, j < 36 → 1 ≤ e → e < 16 → decodeBlock (encodeBlock d ^^^ e * 2 ^ (4 * j)) = .corrected (d % 2 ^ 128))
end

