-- ==== Sys2Proof/Laws/Exec.lean ====
section
/-! SUPPORT. What `exec` is for each command: `perform` of the condition under which something can carry the command and of what it does. -/

namespace Sys2Proof.Machine

open Sys2Proof

/-- A command that something can carry: its time passes, it acts, and what follows at once happens. -/
theorem perform_next (dt : Nat) (f : State → State) (s : State) :
    perform true dt f s = .next { (f (s.opens dt)).closes with pending := s.pending } := rfl

/-- A command that nothing can carry does nothing. -/
theorem perform_none (dt : Nat) (f : State → State) (s : State) : perform false dt f s = .next s := rfl

theorem exec_vAuxApplied (dt : Nat) (sel : Nat) (mv : Nat) (s : State) :
    exec (.vAuxApplied dt sel mv) s = perform (Instr.wf (.vAuxApplied dt sel mv)) dt (fun s => if s.ident.opState = .off then State.supply 1 4 mv (s.modPlinth (fun p => { p with addrSel := sel })) else s) s := rfl

theorem exec_keepReset (dt : Nat) (s : State) :
    exec (.keepReset dt) s = perform (Instr.wf (.keepReset dt)) dt (fun s => s.keepReset) s := rfl

theorem exec_supplyThreshold (dt : Nat) (input : Nat) (kind : Nat) (mv : Int) (s : State) :
    exec (.supplyThreshold dt input kind mv) s = perform (Instr.wf (.supplyThreshold dt input kind mv)) dt (fun s => s.supply input kind mv) s := rfl

theorem exec_suppliesLost (dt : Nat) (s : State) :
    exec (.suppliesLost dt) s = perform (Instr.wf (.suppliesLost dt)) dt (fun s => (s.modPower (fun p => { p with mainOk := false, auxOk := false, vMain := 0, vAux := 0, mainGoodAt := none })).auxLost) s := rfl

theorem exec_autoOn (dt : Nat) (s : State) :
    exec (.autoOn dt) s = perform (Instr.wf (.autoOn dt)) dt (fun s => s.autoOn) s := rfl

theorem exec_domainPowerGood (dt : Nat) (s : State) :
    exec (.domainPowerGood dt) s = perform (Instr.wf (.domainPowerGood dt)) dt (fun s => s.powerGood) s := rfl

theorem exec_powerGoodMissed (dt : Nat) (d : Nat) (s : State) :
    exec (.powerGoodMissed dt d) s = perform (Instr.wf (.powerGoodMissed dt d)) dt (fun s => s.powerMissed d) s := rfl

theorem exec_powerGoodLost (dt : Nat) (d : Nat) (s : State) :
    exec (.powerGoodLost dt d) s = perform (Instr.wf (.powerGoodLost dt d)) dt (fun s => s.powerLost d) s := rfl

theorem exec_bootEnd (dt : Nat) (crcA : Bool) (crcB : Bool) (test : Nat) (fence0 : List Nat) (fence1 : List Nat) (s : State) :
    exec (.bootEnd dt crcA crcB test fence0 fence1) s = perform (Instr.wf (.bootEnd dt crcA crcB test fence0 fence1)) dt (fun s => s.bootEnd crcA crcB test fence0 fence1) s := rfl

theorem exec_bootTimeout (dt : Nat) (s : State) :
    exec (.bootTimeout dt) s = perform (Instr.wf (.bootTimeout dt)) dt (fun s => s.bootTimeout) s := rfl

theorem exec_functionReset (dt : Nat) (fn : Nat) (down : Bool) (s : State) :
    exec (.functionReset dt fn down) s = perform (Instr.wf (.functionReset dt fn down)) dt (fun s => s.whenOn (fun s => (s.functionReset fn).linkDown1 fn down)) s := rfl

theorem exec_linkTrained (dt : Nat) (fn : Nat) (lanes : Nat) (rate : Nat) (mrrs : Nat) (mps : Nat) (extTag : Bool) (s : State) :
    exec (.linkTrained dt fn lanes rate mrrs mps extTag) s = perform (Instr.wf (.linkTrained dt fn lanes rate mrrs mps extTag)) dt (fun s => s.whenPowered (6 + fn) (fun s => (s.linkTrained fn { up := true, lanes := lanes, rate := rate, mrrs := mrrs, mps := mps, extTag := extTag }).updateCeil)) s := rfl

theorem exec_pcieLinkLost (dt : Nat) (fn : Nat) (s : State) :
    exec (.pcieLinkLost dt fn) s = perform (Instr.wf (.pcieLinkLost dt fn)) dt (fun s => s.whenOn (fun s => (s.linkLost fn).linkDown1 fn true)) s := rfl

theorem exec_registerWrite (dt : Nat) (fn : Nat) (off : Nat) (bytes : List Nat) (s : State) :
    exec (.registerWrite dt fn off bytes) s = perform (Instr.wf (.registerWrite dt fn off bytes)) dt (fun s => s.registerWrite fn off bytes) s := rfl

theorem exec_responseRead (dt : Nat) (ch : Nat) (slot : Nat) (off : Nat) (n : Nat) (s : State) :
    exec (.responseRead dt ch slot off n) s = perform (Instr.wf (.responseRead dt ch slot off n)) dt (fun s => s.responseRead ch slot off n) s := rfl

theorem exec_intCauseClear (dt : Nat) (fn : Nat) (clear : Nat) (again : Nat) (s : State) :
    exec (.intCauseClear dt fn clear again) s = perform (Instr.wf (.intCauseClear dt fn clear again)) dt (fun s => s.intCauseClear fn clear again) s := rfl

theorem exec_intEnableWrite (dt : Nat) (fn : Nat) (value : Nat) (s : State) :
    exec (.intEnableWrite dt fn value) s = perform (Instr.wf (.intEnableWrite dt fn value)) dt (fun s => s.intEnable fn value) s := rfl

theorem exec_overflowClear (dt : Nat) (s : State) :
    exec (.overflowClear dt) s = perform (Instr.wf (.overflowClear dt)) dt (fun s => s.overflowClear) s := rfl

theorem exec_sysInfo (dt : Nat) (m : Mbox) (s : State) :
    exec (.sysInfo dt m) s = perform (Instr.wf (.sysInfo dt m)) dt (fun s => s.submit 0x0101 m) s := rfl

theorem exec_sysPing (dt : Nat) (m : Mbox) (s : State) :
    exec (.sysPing dt m) s = perform (Instr.wf (.sysPing dt m)) dt (fun s => s.submit 0x0102 m) s := rfl

theorem exec_sysEventRing (dt : Nat) (m : Mbox) (s : State) :
    exec (.sysEventRing dt m) s = perform (Instr.wf (.sysEventRing dt m)) dt (fun s => s.submit 0x0103 m) s := rfl

theorem exec_sysResetWarm (dt : Nat) (m : Mbox) (s : State) :
    exec (.sysResetWarm dt m) s = perform (Instr.wf (.sysResetWarm dt m)) dt (fun s => s.submit 0x0104 m) s := rfl

theorem exec_sysResetCold (dt : Nat) (m : Mbox) (s : State) :
    exec (.sysResetCold dt m) s = perform (Instr.wf (.sysResetCold dt m)) dt (fun s => s.submit 0x0104 m) s := rfl

theorem exec_stateArm (dt : Nat) (m : Mbox) (s : State) :
    exec (.stateArm dt m) s = perform (Instr.wf (.stateArm dt m)) dt (fun s => s.submit 0x0201 m) s := rfl

theorem exec_stateDisarm (dt : Nat) (m : Mbox) (s : State) :
    exec (.stateDisarm dt m) s = perform (Instr.wf (.stateDisarm dt m)) dt (fun s => s.submit 0x0202 m) s := rfl

theorem exec_stateRest (dt : Nat) (m : Mbox) (s : State) :
    exec (.stateRest dt m) s = perform (Instr.wf (.stateRest dt m)) dt (fun s => s.submit 0x0203 m) s := rfl

theorem exec_stateClear (dt : Nat) (m : Mbox) (s : State) :
    exec (.stateClear dt m) s = perform (Instr.wf (.stateClear dt m)) dt (fun s => s.submit 0x0204 m) s := rfl

theorem exec_cfgStage (dt : Nat) (m : Mbox) (s : State) :
    exec (.cfgStage dt m) s = perform (Instr.wf (.cfgStage dt m)) dt (fun s => s.submit 0x0301 m) s := rfl

theorem exec_cfgCheck (dt : Nat) (m : Mbox) (s : State) :
    exec (.cfgCheck dt m) s = perform (Instr.wf (.cfgCheck dt m)) dt (fun s => s.submit 0x0302 m) s := rfl

theorem exec_cfgCommit (dt : Nat) (m : Mbox) (s : State) :
    exec (.cfgCommit dt m) s = perform (Instr.wf (.cfgCommit dt m)) dt (fun s => s.submit 0x0303 m) s := rfl

theorem exec_cfgCancel (dt : Nat) (m : Mbox) (s : State) :
    exec (.cfgCancel dt m) s = perform (Instr.wf (.cfgCancel dt m)) dt (fun s => s.submit 0x0304 m) s := rfl

theorem exec_cfgDiscard (dt : Nat) (m : Mbox) (s : State) :
    exec (.cfgDiscard dt m) s = perform (Instr.wf (.cfgDiscard dt m)) dt (fun s => s.submit 0x0305 m) s := rfl

theorem exec_cfgRead (dt : Nat) (m : Mbox) (s : State) :
    exec (.cfgRead dt m) s = perform (Instr.wf (.cfgRead dt m)) dt (fun s => s.submit 0x0306 m) s := rfl

theorem exec_jobOpen (dt : Nat) (m : Mbox) (s : State) :
    exec (.jobOpen dt m) s = perform (Instr.wf (.jobOpen dt m)) dt (fun s => s.submit 0x0401 m) s := rfl

theorem exec_jobSubmitAttach (dt : Nat) (m : Mbox) (s : State) :
    exec (.jobSubmitAttach dt m) s = perform (Instr.wf (.jobSubmitAttach dt m)) dt (fun s => s.submit 0x0402 m) s := rfl

theorem exec_jobSubmitDetach (dt : Nat) (m : Mbox) (s : State) :
    exec (.jobSubmitDetach dt m) s = perform (Instr.wf (.jobSubmitDetach dt m)) dt (fun s => s.submit 0x0402 m) s := rfl

theorem exec_jobSubmitEnd (dt : Nat) (m : Mbox) (s : State) :
    exec (.jobSubmitEnd dt m) s = perform (Instr.wf (.jobSubmitEnd dt m)) dt (fun s => s.submit 0x0402 m) s := rfl

theorem exec_jobStart (dt : Nat) (m : Mbox) (s : State) :
    exec (.jobStart dt m) s = perform (Instr.wf (.jobStart dt m)) dt (fun s => s.submit 0x0403 m) s := rfl

theorem exec_jobPause (dt : Nat) (m : Mbox) (s : State) :
    exec (.jobPause dt m) s = perform (Instr.wf (.jobPause dt m)) dt (fun s => s.submit 0x0404 m) s := rfl

theorem exec_jobContinue (dt : Nat) (m : Mbox) (s : State) :
    exec (.jobContinue dt m) s = perform (Instr.wf (.jobContinue dt m)) dt (fun s => s.submit 0x0405 m) s := rfl

theorem exec_jobAbort (dt : Nat) (m : Mbox) (s : State) :
    exec (.jobAbort dt m) s = perform (Instr.wf (.jobAbort dt m)) dt (fun s => s.submit 0x0406 m) s := rfl

theorem exec_jobClose (dt : Nat) (m : Mbox) (s : State) :
    exec (.jobClose dt m) s = perform (Instr.wf (.jobClose dt m)) dt (fun s => s.submit 0x0407 m) s := rfl

theorem exec_jobStatus (dt : Nat) (m : Mbox) (s : State) :
    exec (.jobStatus dt m) s = perform (Instr.wf (.jobStatus dt m)) dt (fun s => s.submit 0x0408 m) s := rfl

theorem exec_evtAtCourse (dt : Nat) (m : Mbox) (s : State) :
    exec (.evtAtCourse dt m) s = perform (Instr.wf (.evtAtCourse dt m)) dt (fun s => s.submit 0x0501 m) s := rfl

theorem exec_evtAtTime (dt : Nat) (m : Mbox) (s : State) :
    exec (.evtAtTime dt m) s = perform (Instr.wf (.evtAtTime dt m)) dt (fun s => s.submit 0x0502 m) s := rfl

theorem exec_evtCancel (dt : Nat) (m : Mbox) (s : State) :
    exec (.evtCancel dt m) s = perform (Instr.wf (.evtCancel dt m)) dt (fun s => s.submit 0x0503 m) s := rfl

theorem exec_evtList (dt : Nat) (m : Mbox) (s : State) :
    exec (.evtList dt m) s = perform (Instr.wf (.evtList dt m)) dt (fun s => s.submit 0x0504 m) s := rfl

theorem exec_actionAtCourse (dt : Nat) (id : Nat) (s : State) :
    exec (.actionAtCourse dt id) s = perform (Instr.wf (.actionAtCourse dt id)) dt (fun s => s.whenOn (fun s => s.actionAtCourse id)) s := rfl

theorem exec_actionAtTime (dt : Nat) (id : Nat) (s : State) :
    exec (.actionAtTime dt id) s = perform (Instr.wf (.actionAtTime dt id)) dt (fun s => s.whenOn (fun s => s.actionAtTime id)) s := rfl

theorem exec_densUpdate (dt : Nat) (m : Mbox) (s : State) :
    exec (.densUpdate dt m) s = perform (Instr.wf (.densUpdate dt m)) dt (fun s => s.submit 0x0601 m) s := rfl

theorem exec_densRead (dt : Nat) (m : Mbox) (s : State) :
    exec (.densRead dt m) s = perform (Instr.wf (.densRead dt m)) dt (fun s => s.submit 0x0602 m) s := rfl

theorem exec_densFreeze (dt : Nat) (m : Mbox) (s : State) :
    exec (.densFreeze dt m) s = perform (Instr.wf (.densFreeze dt m)) dt (fun s => s.submit 0x0603 m) s := rfl

theorem exec_nozMap (dt : Nat) (m : Mbox) (s : State) :
    exec (.nozMap dt m) s = perform (Instr.wf (.nozMap dt m)) dt (fun s => s.submit 0x0701 m) s := rfl

theorem exec_nozRead (dt : Nat) (m : Mbox) (s : State) :
    exec (.nozRead dt m) s = perform (Instr.wf (.nozRead dt m)) dt (fun s => s.submit 0x0702 m) s := rfl

theorem exec_discover (dt : Nat) (m : Mbox) (s : State) :
    exec (.discover dt m) s = perform (Instr.wf (.discover dt m)) dt (fun s => s.submit 0x0801 m) s := rfl

theorem exec_readBond (dt : Nat) (m : Mbox) (s : State) :
    exec (.readBond dt m) s = perform (Instr.wf (.readBond dt m)) dt (fun s => s.submit 0x0801 m) s := rfl

theorem exec_readNodes (dt : Nat) (m : Mbox) (s : State) :
    exec (.readNodes dt m) s = perform (Instr.wf (.readNodes dt m)) dt (fun s => s.submit 0x0801 m) s := rfl

theorem exec_pairSwap (dt : Nat) (m : Mbox) (s : State) :
    exec (.pairSwap dt m) s = perform (Instr.wf (.pairSwap dt m)) dt (fun s => s.submit 0x0901 m) s := rfl

theorem exec_pairJoin (dt : Nat) (m : Mbox) (partner : PInfo) (s : State) :
    exec (.pairJoin dt m partner) s = perform (Instr.wf (.pairJoin dt m partner)) dt (fun s => (s.modButt (fun b => { b with partnerInfo := partner })).submit 0x0902 m) s := rfl

theorem exec_pairLeave (dt : Nat) (m : Mbox) (s : State) :
    exec (.pairLeave dt m) s = perform (Instr.wf (.pairLeave dt m)) dt (fun s => s.submit 0x0903 m) s := rfl

theorem exec_pairTake (dt : Nat) (m : Mbox) (s : State) :
    exec (.pairTake dt m) s = perform (Instr.wf (.pairTake dt m)) dt (fun s => s.submit 0x0904 m) s := rfl

theorem exec_pairInfo (dt : Nat) (m : Mbox) (s : State) :
    exec (.pairInfo dt m) s = perform (Instr.wf (.pairInfo dt m)) dt (fun s => s.submit 0x0905 m) s := rfl

theorem exec_gangForm (dt : Nat) (m : Mbox) (members : List GInfo) (s : State) :
    exec (.gangForm dt m members) s = perform (Instr.wf (.gangForm dt m members)) dt (fun s => (s.modButt (fun b => { b with info := members })).submit 0x0A01 m) s := rfl

theorem exec_gangDissolve (dt : Nat) (m : Mbox) (s : State) :
    exec (.gangDissolve dt m) s = perform (Instr.wf (.gangDissolve dt m)) dt (fun s => s.submit 0x0A02 m) s := rfl

theorem exec_gangInfo (dt : Nat) (m : Mbox) (s : State) :
    exec (.gangInfo dt m) s = perform (Instr.wf (.gangInfo dt m)) dt (fun s => s.submit 0x0A03 m) s := rfl

theorem exec_timeAcceptStep (dt : Nat) (m : Mbox) (s : State) :
    exec (.timeAcceptStep dt m) s = perform (Instr.wf (.timeAcceptStep dt m)) dt (fun s => s.submit 0x0B01 m) s := rfl

theorem exec_timeSet (dt : Nat) (m : Mbox) (s : State) :
    exec (.timeSet dt m) s = perform (Instr.wf (.timeSet dt m)) dt (fun s => s.submit 0x0B02 m) s := rfl

theorem exec_timeStatus (dt : Nat) (m : Mbox) (s : State) :
    exec (.timeStatus dt m) s = perform (Instr.wf (.timeStatus dt m)) dt (fun s => s.submit 0x0B03 m) s := rfl

theorem exec_lampSet (dt : Nat) (m : Mbox) (s : State) :
    exec (.lampSet dt m) s = perform (Instr.wf (.lampSet dt m)) dt (fun s => s.submit 0x0C01 m) s := rfl

theorem exec_lampRead (dt : Nat) (m : Mbox) (s : State) :
    exec (.lampRead dt m) s = perform (Instr.wf (.lampRead dt m)) dt (fun s => s.submit 0x0C02 m) s := rfl

theorem exec_lampClearShort (dt : Nat) (m : Mbox) (s : State) :
    exec (.lampClearShort dt m) s = perform (Instr.wf (.lampClearShort dt m)) dt (fun s => s.submit 0x0C03 m) s := rfl

theorem exec_lampClearPins (dt : Nat) (m : Mbox) (s : State) :
    exec (.lampClearPins dt m) s = perform (Instr.wf (.lampClearPins dt m)) dt (fun s => s.submit 0x0C03 m) s := rfl

theorem exec_panelSet (dt : Nat) (m : Mbox) (s : State) :
    exec (.panelSet dt m) s = perform (Instr.wf (.panelSet dt m)) dt (fun s => s.submit 0x0C04 m) s := rfl

theorem exec_copingRead (dt : Nat) (m : Mbox) (s : State) :
    exec (.copingRead dt m) s = perform (Instr.wf (.copingRead dt m)) dt (fun s => s.submit 0x0D01 m) s := rfl

theorem exec_copingCal (dt : Nat) (m : Mbox) (s : State) :
    exec (.copingCal dt m) s = perform (Instr.wf (.copingCal dt m)) dt (fun s => s.submit 0x0D02 m) s := rfl

theorem exec_plinthLogRead (dt : Nat) (m : Mbox) (s : State) :
    exec (.plinthLogRead dt m) s = perform (Instr.wf (.plinthLogRead dt m)) dt (fun s => s.submit 0x0E01 m) s := rfl

theorem exec_plinthFw (dt : Nat) (m : Mbox) (s : State) :
    exec (.plinthFw dt m) s = perform (Instr.wf (.plinthFw dt m)) dt (fun s => s.submit 0x0E02 m) s := rfl

theorem exec_plinthFwSelect (dt : Nat) (m : Mbox) (s : State) :
    exec (.plinthFwSelect dt m) s = perform (Instr.wf (.plinthFwSelect dt m)) dt (fun s => s.submit 0x0E03 m) s := rfl

theorem exec_ident (dt : Nat) (r : ZReq) (s : State) :
    exec (.ident dt r) s = perform (Instr.wf (.ident dt r)) dt (fun s => s.zIdent r) s := rfl

theorem exec_status (dt : Nat) (r : ZReq) (s : State) :
    exec (.status dt r) s = perform (Instr.wf (.status dt r)) dt (fun s => s.zStatus r) s := rfl

theorem exec_zarnetrumTemps (dt : Nat) (r : ZReq) (s : State) :
    exec (.zarnetrumTemps dt r) s = perform (Instr.wf (.zarnetrumTemps dt r)) dt (fun s => s.zTemps r) s := rfl

theorem exec_pair (dt : Nat) (r : ZReq) (s : State) :
    exec (.pair dt r) s = perform (Instr.wf (.pair dt r)) dt (fun s => s.zPair r) s := rfl

theorem exec_settings (dt : Nat) (r : ZReq) (s : State) :
    exec (.settings dt r) s = perform (Instr.wf (.settings dt r)) dt (fun s => s.zSettings r) s := rfl

theorem exec_powerOn (dt : Nat) (r : ZReq) (s : State) :
    exec (.powerOn dt r) s = perform (Instr.wf (.powerOn dt r)) dt (fun s => s.zPowerOn r) s := rfl

theorem exec_powerOff (dt : Nat) (r : ZReq) (ack : Bool) (s : State) :
    exec (.powerOff dt r ack) s = perform (Instr.wf (.powerOff dt r ack)) dt (fun s => s.zPowerOff r ack) s := rfl

theorem exec_powerCycle (dt : Nat) (r : ZReq) (ack : Bool) (s : State) :
    exec (.powerCycle dt r ack) s = perform (Instr.wf (.powerCycle dt r ack)) dt (fun s => s.zPowerCycle r ack) s := rfl

theorem exec_restReq (dt : Nat) (r : ZReq) (ack : Bool) (s : State) :
    exec (.restReq dt r ack) s = perform (Instr.wf (.restReq dt r ack)) dt (fun s => s.zRestReq r ack) s := rfl

theorem exec_force (dt : Nat) (r : ZReq) (s : State) :
    exec (.force dt r) s = perform (Instr.wf (.force dt r)) dt (fun s => s.zForce r) s := rfl

theorem exec_lockoutClear (dt : Nat) (r : ZReq) (s : State) :
    exec (.lockoutClear dt r) s = perform (Instr.wf (.lockoutClear dt r)) dt (fun s => s.zLockoutClear r) s := rfl

theorem exec_logInfo (dt : Nat) (r : ZReq) (s : State) :
    exec (.logInfo dt r) s = perform (Instr.wf (.logInfo dt r)) dt (fun s => s.zLogInfo r) s := rfl

theorem exec_logRead (dt : Nat) (r : ZReq) (s : State) :
    exec (.logRead dt r) s = perform (Instr.wf (.logRead dt r)) dt (fun s => s.zLogRead r) s := rfl

theorem exec_fwOpen (dt : Nat) (r : ZReq) (s : State) :
    exec (.fwOpen dt r) s = perform (Instr.wf (.fwOpen dt r)) dt (fun s => s.zFwOpen r) s := rfl

theorem exec_fwData (dt : Nat) (r : ZReq) (s : State) :
    exec (.fwData dt r) s = perform (Instr.wf (.fwData dt r)) dt (fun s => s.zFwData r) s := rfl

theorem exec_fwClose (dt : Nat) (r : ZReq) (s : State) :
    exec (.fwClose dt r) s = perform (Instr.wf (.fwClose dt r)) dt (fun s => s.zFwClose r) s := rfl

theorem exec_fwSelect (dt : Nat) (r : ZReq) (s : State) :
    exec (.fwSelect dt r) s = perform (Instr.wf (.fwSelect dt r)) dt (fun s => s.zFwSelect r) s := rfl

theorem exec_fwSessionTimeout (dt : Nat) (s : State) :
    exec (.fwSessionTimeout dt) s = perform (Instr.wf (.fwSessionTimeout dt)) dt (fun s => s.fwTimeout) s := rfl

theorem exec_alertResponse (dt : Nat) (s : State) :
    exec (.alertResponse dt) s = perform (Instr.wf (.alertResponse dt)) dt (fun s => s.alertResponse) s := rfl

theorem exec_ringBaseWrite (dt : Nat) (fn : Nat) (ch : Nat) (value : Nat) (s : State) :
    exec (.ringBaseWrite dt fn ch value) s = perform (Instr.wf (.ringBaseWrite dt fn ch value)) dt (fun s => if ch < 14 then s.whenReach fn (fun s => s.ringBaseWrite fn ch value) else s) s := rfl

theorem exec_enable (dt : Nat) (fn : Nat) (ch : Nat) (host : List (Nat × List Nat)) (s : State) :
    exec (.enable dt fn ch host) s = perform (Instr.wf (.enable dt fn ch host)) dt (fun s => if ch < 14 then s.whenReach fn (fun s => (s.hostLoad host).chanEnable fn ch) else s) s := rfl

theorem exec_abort (dt : Nat) (fn : Nat) (ch : Nat) (s : State) :
    exec (.abort dt fn ch) s = perform (Instr.wf (.abort dt fn ch)) dt (fun s => if ch < 14 then s.whenReach fn (fun s => s.chanAbort fn ch false) else s) s := rfl

theorem exec_disable (dt : Nat) (fn : Nat) (ch : Nat) (s : State) :
    exec (.disable dt fn ch) s = perform (Instr.wf (.disable dt fn ch)) dt (fun s => if ch < 14 then s.whenReach fn (fun s => s.chanDisable fn ch) else s) s := rfl

theorem exec_tailWrite (dt : Nat) (fn : Nat) (ch : Nat) (value : Nat) (host : List (Nat × List Nat)) (s : State) :
    exec (.tailWrite dt fn ch value host) s = perform (Instr.wf (.tailWrite dt fn ch value host)) dt (fun s => if ch < 14 then s.whenReach fn (fun s => (s.hostLoad host).tailWrite fn ch value) else s) s := rfl

theorem exec_sourceDestinationFree (dt : Nat) (fn : Nat) (s : State) :
    exec (.sourceDestinationFree dt fn) s = perform (Instr.wf (.sourceDestinationFree dt fn)) dt (fun s => s.whenOn (fun s => s.pump fn)) s := rfl

theorem exec_readCompletion (dt : Nat) (fn : Nat) (ch : Nat) (k : Nat) (err : Nat) (beat : Bool) (host : List (Nat × List Nat)) (runMin : Nat) (s : State) :
    exec (.readCompletion dt fn ch k err beat host runMin) s = perform (Instr.wf (.readCompletion dt fn ch k err beat host runMin)) dt (fun s => s.whenOn (fun s => State.complete fn ch k err beat runMin (s.hostLoad host))) s := rfl

theorem exec_completionTimeout (dt : Nat) (fn : Nat) (ch : Nat) (k : Nat) (s : State) :
    exec (.completionTimeout dt fn ch k) s = perform (Instr.wf (.completionTimeout dt fn ch k)) dt (fun s => s.whenOn (fun s => s.complete fn ch k 3 false 1)) s := rfl

theorem exec_admissionEnd (dt : Nat) (fn : Nat) (ch : Nat) (s : State) :
    exec (.admissionEnd dt fn ch) s = perform (Instr.wf (.admissionEnd dt fn ch)) dt (fun s => s.whenOn (fun s => (s.admission fn ch).pump fn)) s := rfl

theorem exec_descriptorEnd (dt : Nat) (fn : Nat) (ch : Nat) (s : State) :
    exec (.descriptorEnd dt fn ch) s = perform (Instr.wf (.descriptorEnd dt fn ch)) dt (fun s => s.whenOn (fun s => let r := s.endDesc fn ch; if r.2 then r.1.starvation else r.1)) s := rfl

theorem exec_compressionResume (dt : Nat) (job : Nat) (s : State) :
    exec (.compressionResume dt job) s = perform (Instr.wf (.compressionResume dt job)) dt (fun s => s.whenOn (fun s => s.compressResume job)) s := rfl

theorem exec_eventRingWrite (dt : Nat) (s : State) :
    exec (.eventRingWrite dt) s = perform (Instr.wf (.eventRingWrite dt)) dt (fun s => s.whenOn (fun s => s.ringWrite)) s := rfl

theorem exec_bar2Read (dt : Nat) (fn : Nat) (off : Nat) (n : Nat) (s : State) :
    exec (.bar2Read dt fn off n) s = perform (Instr.wf (.bar2Read dt fn off n)) dt (fun s => s.bar2Host fn off n) s := rfl

theorem exec_bar2Write (dt : Nat) (fn : Nat) (off : Nat) (bytes : List Nat) (s : State) :
    exec (.bar2Write dt fn off bytes) s = perform (Instr.wf (.bar2Write dt fn off bytes)) dt (fun s => s.whenReach fn (fun s => s.bar2Write fn off bytes)) s := rfl

theorem exec_bar2DroppedRead (dt : Nat) (fn : Nat) (s : State) :
    exec (.bar2DroppedRead dt fn) s = perform (Instr.wf (.bar2DroppedRead dt fn)) dt (fun s => s.droppedRead fn) s := rfl

theorem exec_snapReq (dt : Nat) (fn : Nat) (s : State) :
    exec (.snapReq dt fn) s = perform (Instr.wf (.snapReq dt fn)) dt (fun s => s.snapshot fn) s := rfl

theorem exec_timeNowLowRead (dt : Nat) (rd : TimeRead × Nat) (s : State) :
    exec (.timeNowLowRead dt rd) s = perform (Instr.wf (.timeNowLowRead dt rd)) dt (fun s => s.timeNowRead rd.1 rd.2) s := rfl

theorem exec_stripPipelineDecode (dt : Nat) (w : Nat) (memErr : Bool) (pieces : List (List Nat)) (s : State) :
    exec (.stripPipelineDecode dt w memErr pieces) s = perform (Instr.wf (.stripPipelineDecode dt w memErr pieces)) dt (fun s => s.pipelineDecode w memErr pieces) s := rfl

theorem exec_memoryError (dt : Nat) (w : Nat) (target : Nat) (addr : Nat) (item : MemUse) (s : State) :
    exec (.memoryError dt w target addr item) s = perform (Instr.wf (.memoryError dt w target addr item)) dt (fun s => s.memoryError w target addr item) s := rfl

theorem exec_scrubReport (dt : Nat) (unit : Nat) (words : List (Nat × Nat × MemUse)) (s : State) :
    exec (.scrubReport dt unit words) s = perform (Instr.wf (.scrubReport dt unit words)) dt (fun s => s.scrubReport unit words) s := rfl

theorem exec_courseRecord (dt : Nat) (course : Nat) (fire : Nat) (s : State) :
    exec (.courseRecord dt course fire) s = perform (Instr.wf (.courseRecord dt course fire)) dt (fun s => s.courseRecord course (fire % 2 ^ 32)) s := rfl

theorem exec_tieReplay (dt : Nat) (failed : TieIn) (s : State) :
    exec (.tieReplay dt failed) s = perform (Instr.wf (.tieReplay dt failed)) dt (fun s => s.tieReplay failed.dest failed.back failed.errors) s := rfl

theorem exec_seamDeadlineMiss (dt : Nat) (s : State) :
    exec (.seamDeadlineMiss dt) s = perform (Instr.wf (.seamDeadlineMiss dt)) dt (fun s => s.whenOn (fun s => s.seamMissed)) s := rfl

theorem exec_tieTrainingLost (dt : Nat) (s : State) :
    exec (.tieTrainingLost dt) s = perform (Instr.wf (.tieTrainingLost dt)) dt (fun s => s.whenOn (fun s => s.tieLost)) s := rfl

theorem exec_lockstep (dt : Nat) (w : Nat) (s : State) :
    exec (.lockstep dt w) s = perform (Instr.wf (.lockstep dt w)) dt (fun s => s.whenOn (fun s => s.lockstep w)) s := rfl

theorem exec_liftToken (dt : Nat) (lift : Nat) (s : State) :
    exec (.liftToken dt lift) s = perform (Instr.wf (.liftToken dt lift)) dt (fun s => s.whenOn (fun s => s.liftToken lift)) s := rfl

theorem exec_commitToken (dt : Nat) (s : State) :
    exec (.commitToken dt) s = perform (Instr.wf (.commitToken dt)) dt (fun s => s.whenOn (fun s => s.commitToken)) s := rfl

theorem exec_liftScreened (dt : Nat) (w : Nat) (lift : Nat) (audit : Bool) (s : State) :
    exec (.liftScreened dt w lift audit) s = perform (Instr.wf (.liftScreened dt w lift audit)) dt (fun s => s.whenOn (fun s => s.screened w lift audit)) s := rfl

theorem exec_courseRelease (dt : Nat) (s : State) :
    exec (.courseRelease dt) s = perform (Instr.wf (.courseRelease dt)) dt (fun s => s.whenOn (fun s => s.courseRelease)) s := rfl

theorem exec_courseFire (dt : Nat) (s : State) :
    exec (.courseFire dt) s = perform (Instr.wf (.courseFire dt)) dt (fun s => s.whenOn (fun s => s.courseFire.swapWhenReady)) s := rfl

theorem exec_liftBoundary (dt : Nat) (seam : List SeamUpset) (s : State) :
    exec (.liftBoundary dt seam) s = perform (Instr.wf (.liftBoundary dt seam)) dt (fun s => s.whenOn (fun s => s.liftBoundary seam)) s := rfl

theorem exec_speedLoopCycle (dt : Nat) (s : State) :
    exec (.speedLoopCycle dt) s = perform (Instr.wf (.speedLoopCycle dt)) dt (fun s => s.whenOn (fun s => s.speedCycle)) s := rfl

theorem exec_overspeedClear (dt : Nat) (s : State) :
    exec (.overspeedClear dt) s = perform (Instr.wf (.overspeedClear dt)) dt (fun s => s.whenOn (fun s => s.overspeedClear)) s := rfl

theorem exec_webAtRest (dt : Nat) (s : State) :
    exec (.webAtRest dt) s = perform (Instr.wf (.webAtRest dt)) dt (fun s => s.whenOn (fun s => s.atRest.swapWhenReady)) s := rfl

theorem exec_ceiling (dt : Nat) (s : State) :
    exec (.ceiling dt) s = perform (Instr.wf (.ceiling dt)) dt (fun s => s.whenOn (fun s => s.ceilCheck)) s := rfl

theorem exec_resumeBegin (dt : Nat) (s : State) :
    exec (.resumeBegin dt) s = perform (Instr.wf (.resumeBegin dt)) dt (fun s => s.whenOn (fun s => s.resumeBegin)) s := rfl

theorem exec_rejectEdge (dt : Nat) (s : State) :
    exec (.rejectEdge dt) s = perform (Instr.wf (.rejectEdge dt)) dt (fun s => s.whenOn (fun s => s.rejectEdge)) s := rfl

theorem exec_markEdge (dt : Nat) (run : MarkRun) (s : State) :
    exec (.markEdge dt run) s = perform (Instr.wf (.markEdge dt run)) dt (fun s => s.whenOn (fun s => s.markIn run)) s := rfl

theorem exec_markMiss (dt : Nat) (k : Nat) (s : State) :
    exec (.markMiss dt k) s = perform (Instr.wf (.markMiss dt k)) dt (fun s => s.whenOn (fun s => s.markMiss k)) s := rfl

theorem exec_positionChange (dt : Nat) (enc : Nat) (inp : EncIn) (s : State) :
    exec (.positionChange dt enc inp) s = perform (Instr.wf (.positionChange dt enc inp)) dt (fun s => s.whenOn (fun s => s.encoderIn enc inp)) s := rfl

theorem exec_illegalTransition (dt : Nat) (enc : Nat) (a : Bool) (b : Bool) (run : Held) (s : State) :
    exec (.illegalTransition dt enc a b run) s = perform (Instr.wf (.illegalTransition dt enc a b run)) dt (fun s => s.whenOn (fun s => s.linesIn enc { n := run.n, a := a, b := b, z := run.z })) s := rfl

theorem exec_radiusFault (dt : Nat) (enc : Nat) (samples : List (Int × Int)) (s : State) :
    exec (.radiusFault dt enc samples) s = perform (Instr.wf (.radiusFault dt enc samples)) dt (fun s => s.whenOn (fun s => samples.foldl (fun (s : State) p => s.adcIn enc p) s)) s := rfl

theorem exec_index (dt : Nat) (enc : Nat) (pins : Pins) (s : State) :
    exec (.index dt enc pins) s = perform (Instr.wf (.index dt enc pins)) dt (fun s => s.whenOn (fun s => s.linesIn enc pins)) s := rfl

theorem exec_missingIndex (dt : Nat) (enc : Nat) (s : State) :
    exec (.missingIndex dt enc) s = perform (Instr.wf (.missingIndex dt enc)) dt (fun s => s.whenOn (fun s => s.missingIndex enc)) s := rfl

theorem exec_pairStatusChange (dt : Nat) (enc : Nat) (k : Nat) (v : PairIn) (s : State) :
    exec (.pairStatusChange dt enc k v) s = perform (Instr.wf (.pairStatusChange dt enc k v)) dt (fun s => s.whenOn (fun s => s.pairStatus enc k v)) s := rfl

theorem exec_hallChange (dt : Nat) (run : HallRun) (s : State) :
    exec (.hallChange dt run) s = perform (Instr.wf (.hallChange dt run)) dt (fun s => s.hallIn run) s := rfl

theorem exec_checkWindow (dt : Nat) (s : State) :
    exec (.checkWindow dt) s = perform (Instr.wf (.checkWindow dt)) dt (fun s => s.whenOn (fun s => s.checkWindow)) s := rfl

theorem exec_supplyOverload (dt : Nat) (supply : SupplyIn) (s : State) :
    exec (.supplyOverload dt supply) s = perform (Instr.wf (.supplyOverload dt supply)) dt (fun s => s.supplyOverload supply.k supply.limit) s := rfl

theorem exec_fieldInputChange (dt : Nat) (inp : Nat) (level : Bool) (ua : Nat) (s : State) :
    exec (.fieldInputChange dt inp level ua) s = perform (Instr.wf (.fieldInputChange dt inp level ua)) dt (fun s => s.fieldInput inp level ua) s := rfl

theorem exec_estopDisc (dt : Nat) (s : State) :
    exec (.estopDisc dt) s = perform (Instr.wf (.estopDisc dt)) dt (fun s => s.estopDisc) s := rfl

theorem exec_fieldSupply (dt : Nat) (mv : Int) (s : State) :
    exec (.fieldSupply dt mv) s = perform (Instr.wf (.fieldSupply dt mv)) dt (fun s => s.fieldSupply mv) s := rfl

theorem exec_outputFault (dt : Nat) (output : Nat) (kind : Nat) (s : State) :
    exec (.outputFault dt output kind) s = perform (Instr.wf (.outputFault dt output kind)) dt (fun s => s.outputFault output kind) s := rfl

theorem exec_openLoad (dt : Nat) (load : LoadIn) (s : State) :
    exec (.openLoad dt load) s = perform (Instr.wf (.openLoad dt load)) dt (fun s => s.openLoad load.output load.ua) s := rfl

theorem exec_thermOkChange (dt : Nat) (tj : ThermIn) (s : State) :
    exec (.thermOkChange dt tj) s = perform (Instr.wf (.thermOkChange dt tj)) dt (fun s => s.thermChange tj.tj0 tj.tj1) s := rfl

theorem exec_watchdogKey (dt : Nat) (s : State) :
    exec (.watchdogKey dt) s = perform (Instr.wf (.watchdogKey dt)) dt (fun s => s.wdogKey) s := rfl

theorem exec_watchdog (dt : Nat) (wrong : Bool) (s : State) :
    exec (.watchdog dt wrong) s = perform (Instr.wf (.watchdog dt wrong)) dt (fun s => s.watchdog wrong) s := rfl

theorem exec_heartbeatScan (dt : Nat) (beats : List (Nat × Nat)) (s : State) :
    exec (.heartbeatScan dt beats) s = perform (Instr.wf (.heartbeatScan dt beats)) dt (fun s => s.heartbeats beats) s := rfl

theorem exec_aliveTick (dt : Nat) (s : State) :
    exec (.aliveTick dt) s = perform (Instr.wf (.aliveTick dt)) dt (fun s => s.aliveTick) s := rfl

theorem exec_laneRxAligned (dt : Nat) (l : Nat) (s : State) :
    exec (.laneRxAligned dt l) s = perform (Instr.wf (.laneRxAligned dt l)) dt (fun s => s.whenOn (fun s => s.rxAligned l)) s := rfl

theorem exec_laneRxUnaligned (dt : Nat) (l : Nat) (s : State) :
    exec (.laneRxUnaligned dt l) s = perform (Instr.wf (.laneRxUnaligned dt l)) dt (fun s => s.whenOn (fun s => s.rxUnaligned l)) s := rfl

theorem exec_hello (dt : Nat) (l : Nat) (len : Nat) (bits : Nat) (s : State) :
    exec (.hello dt l len bits) s = perform (Instr.wf (.hello dt l len bits)) dt (fun s => s.whenOn (fun s => s.helloUnit l len bits)) s := rfl

theorem exec_identTimeout (dt : Nat) (l : Nat) (s : State) :
    exec (.identTimeout dt l) s = perform (Instr.wf (.identTimeout dt l)) dt (fun s => s.whenOn (fun s => s.identTimeout l)) s := rfl

theorem exec_echoReply (dt : Nat) (l : Nat) (len : Nat) (bits : Nat) (rtt : Nat) (s : State) :
    exec (.echoReply dt l len bits rtt) s = perform (Instr.wf (.echoReply dt l len bits rtt)) dt (fun s => s.whenOn (fun s => s.echoReply l len bits rtt)) s := rfl

theorem exec_delayTimeout (dt : Nat) (l : Nat) (s : State) :
    exec (.delayTimeout dt l) s = perform (Instr.wf (.delayTimeout dt l)) dt (fun s => s.whenOn (fun s => s.delayTimeout l)) s := rfl

theorem exec_statusUnit (dt : Nat) (l : Nat) (len : Nat) (bits : Nat) (s : State) :
    exec (.statusUnit dt l len bits) s = perform (Instr.wf (.statusUnit dt l len bits)) dt (fun s => s.whenOn (fun s => s.statusUnit l len bits)) s := rfl

theorem exec_tempsUnit (dt : Nat) (l : Nat) (len : Nat) (bits : Nat) (s : State) :
    exec (.tempsUnit dt l len bits) s = perform (Instr.wf (.tempsUnit dt l len bits)) dt (fun s => s.whenOn (fun s => s.tempsUnit l len bits)) s := rfl

theorem exec_statusTimeout (dt : Nat) (l : Nat) (s : State) :
    exec (.statusTimeout dt l) s = perform (Instr.wf (.statusTimeout dt l)) dt (fun s => s.whenOn (fun s => s.statusTimeout l)) s := rfl

theorem exec_unalignedTimeout (dt : Nat) (l : Nat) (s : State) :
    exec (.unalignedTimeout dt l) s = perform (Instr.wf (.unalignedTimeout dt l)) dt (fun s => s.whenOn (fun s => s.unalignedTimeout l)) s := rfl

theorem exec_lostTimeout (dt : Nat) (l : Nat) (s : State) :
    exec (.lostTimeout dt l) s = perform (Instr.wf (.lostTimeout dt l)) dt (fun s => s.whenOn (fun s => s.lostTimeout l)) s := rfl

theorem exec_discovery (dt : Nat) (s : State) :
    exec (.discovery dt) s = perform (Instr.wf (.discovery dt)) dt (fun s => s.whenOn (fun s => s.discovery)) s := rfl

theorem exec_timeSend (dt : Nat) (l : Nat) (s : State) :
    exec (.timeSend dt l) s = perform (Instr.wf (.timeSend dt l)) dt (fun s => s.whenOn (fun s => s.timeSend l)) s := rfl

theorem exec_echoSend (dt : Nat) (l : Nat) (s : State) :
    exec (.echoSend dt l) s = perform (Instr.wf (.echoSend dt l)) dt (fun s => s.whenOn (fun s => s.echoSend l)) s := rfl

theorem exec_discoverSend (dt : Nat) (l : Nat) (s : State) :
    exec (.discoverSend dt l) s = perform (Instr.wf (.discoverSend dt l)) dt (fun s => s.whenOn (fun s => s.discoverSend l)) s := rfl

theorem exec_renewSend (dt : Nat) (id : Nat) (s : State) :
    exec (.renewSend dt id) s = perform (Instr.wf (.renewSend dt id)) dt (fun s => s.whenOn (fun s => s.renewSend id)) s := rfl

theorem exec_acquireRetry (dt : Nat) (id : Nat) (s : State) :
    exec (.acquireRetry dt id) s = perform (Instr.wf (.acquireRetry dt id)) dt (fun s => s.whenOn (fun s => s.acquireRetry id)) s := rfl

theorem exec_restSend (dt : Nat) (s : State) :
    exec (.restSend dt) s = perform (Instr.wf (.restSend dt)) dt (fun s => s.whenOn (fun s => s.restSend)) s := rfl

theorem exec_nodeFrame (dt : Nat) (id : Nat) (port : Nat) (k : Nat) (len : Nat) (bits : Nat) (s : State) :
    exec (.nodeFrame dt id port k len bits) s = perform (Instr.wf (.nodeFrame dt id port k len bits)) dt (fun s => s.nodeFrame id port k len bits) s := rfl

theorem exec_nodeRenew (dt : Nat) (id : Nat) (port : Nat) (k : Nat) (len : Nat) (bits : Nat) (s : State) :
    exec (.nodeRenew dt id port k len bits) s = perform (Instr.wf (.nodeRenew dt id port k len bits)) dt (fun s => s.nodeLease 0 id port k len bits) s := rfl

theorem exec_nodeAcquire (dt : Nat) (id : Nat) (port : Nat) (k : Nat) (len : Nat) (bits : Nat) (s : State) :
    exec (.nodeAcquire dt id port k len bits) s = perform (Instr.wf (.nodeAcquire dt id port k len bits)) dt (fun s => s.nodeAcquire id port k len bits) s := rfl

theorem exec_nodeRelease (dt : Nat) (id : Nat) (port : Nat) (k : Nat) (len : Nat) (bits : Nat) (s : State) :
    exec (.nodeRelease dt id port k len bits) s = perform (Instr.wf (.nodeRelease dt id port k len bits)) dt (fun s => s.nodeLease 2 id port k len bits) s := rfl

theorem exec_nodeRest (dt : Nat) (id : Nat) (port : Nat) (k : Nat) (len : Nat) (bits : Nat) (s : State) :
    exec (.nodeRest dt id port k len bits) s = perform (Instr.wf (.nodeRest dt id port k len bits)) dt (fun s => s.nodeLease 3 id port k len bits) s := rfl

theorem exec_nodeCancel (dt : Nat) (id : Nat) (port : Nat) (k : Nat) (len : Nat) (bits : Nat) (s : State) :
    exec (.nodeCancel dt id port k len bits) s = perform (Instr.wf (.nodeCancel dt id port k len bits)) dt (fun s => s.nodeLease 4 id port k len bits) s := rfl

theorem exec_nodeConfig (dt : Nat) (id : Nat) (port : Nat) (k : Nat) (len : Nat) (bits : Nat) (s : State) :
    exec (.nodeConfig dt id port k len bits) s = perform (Instr.wf (.nodeConfig dt id port k len bits)) dt (fun s => s.nodeConfig id port k len bits) s := rfl

theorem exec_nodeTime (dt : Nat) (id : Nat) (port : Nat) (k : Nat) (len : Nat) (bits : Nat) (s : State) :
    exec (.nodeTime dt id port k len bits) s = perform (Instr.wf (.nodeTime dt id port k len bits)) dt (fun s => s.nodeTimeUnit id port k len bits) s := rfl

theorem exec_nodeEcho (dt : Nat) (id : Nat) (port : Nat) (k : Nat) (len : Nat) (bits : Nat) (turn : Nat) (s : State) :
    exec (.nodeEcho dt id port k len bits turn) s = perform (Instr.wf (.nodeEcho dt id port k len bits turn)) dt (fun s => s.nodeEcho id port k len bits turn) s := rfl

theorem exec_nodeDiscover (dt : Nat) (id : Nat) (port : Nat) (k : Nat) (len : Nat) (bits : Nat) (s : State) :
    exec (.nodeDiscover dt id port k len bits) s = perform (Instr.wf (.nodeDiscover dt id port k len bits)) dt (fun s => s.nodeDiscover id port k len bits) s := rfl

theorem exec_nodeLeaseExpiry (dt : Nat) (id : Nat) (s : State) :
    exec (.nodeLeaseExpiry dt id) s = perform (Instr.wf (.nodeLeaseExpiry dt id)) dt (fun s => s.nodeExpiry id) s := rfl

theorem exec_nodeRowFire (dt : Nat) (id : Nat) (head : Nat) (row : Nat) (s : State) :
    exec (.nodeRowFire dt id head row) s = perform (Instr.wf (.nodeRowFire dt id head row)) dt (fun s => s.nodeRowFire id head row) s := rfl

theorem exec_nodeStatusSend (dt : Nat) (id : Nat) (port : Nat) (k : Nat) (s : State) :
    exec (.nodeStatusSend dt id port k) s = perform (Instr.wf (.nodeStatusSend dt id port k)) dt (fun s => s.nodeStatusSend id port k) s := rfl

theorem exec_nodeTempsSend (dt : Nat) (id : Nat) (port : Nat) (temps : List Int) (s : State) :
    exec (.nodeTempsSend dt id port temps) s = perform (Instr.wf (.nodeTempsSend dt id port temps)) dt (fun s => s.nodeTempsSend id port temps) s := rfl

theorem exec_nodeReset (dt : Nat) (id : Nat) (lanesA : Nat) (lanesB : Nat) (heads : List Nat) (maxK : Nat) (s : State) :
    exec (.nodeReset dt id lanesA lanesB heads maxK) s = perform (Instr.wf (.nodeReset dt id lanesA lanesB heads maxK)) dt (fun s => s.nodeReset id lanesA lanesB maxK heads) s := rfl

theorem exec_beat (dt : Nat) (side : Nat) (role : Nat) (op : Nat) (phase : Nat) (unit : BeatIn) (s : State) :
    exec (.beat dt side role op phase unit) s = perform (Instr.wf (.beat dt side role op phase unit)) dt (fun s => s.whenOn (fun s => s.beat side role op phase unit)) s := rfl

theorem exec_beatSend (dt : Nat) (side : Nat) (s : State) :
    exec (.beatSend dt side) s = perform (Instr.wf (.beatSend dt side)) dt (fun s => s.whenOn (fun s => s.beatSend side)) s := rfl

theorem exec_buttressLinkDown (dt : Nat) (side : Nat) (lanes : Nat) (s : State) :
    exec (.buttressLinkDown dt side lanes) s = perform (Instr.wf (.buttressLinkDown dt side lanes)) dt (fun s => s.whenOn (fun s => s.linkDown side lanes)) s := rfl

theorem exec_buttressLinkUp (dt : Nat) (side : Nat) (lanes : Nat) (s : State) :
    exec (.buttressLinkUp dt side lanes) s = perform (Instr.wf (.buttressLinkUp dt side lanes)) dt (fun s => s.whenOn (fun s => s.linkUp side lanes)) s := rfl

theorem exec_mirror (dt : Nat) (lift : Nat) (item : Nat) (off : Nat) (bytes : List Nat) (s : State) :
    exec (.mirror dt lift item off bytes) s = perform (Instr.wf (.mirror dt lift item off bytes)) dt (fun s => s.whenOn (fun s => s.mirrorUnit lift item off bytes)) s := rfl

theorem exec_epochEnd (dt : Nat) (lift : Nat) (units : Nat) (ecrc : Nat) (s : State) :
    exec (.epochEnd dt lift units ecrc) s = perform (Instr.wf (.epochEnd dt lift units ecrc)) dt (fun s => s.whenOn (fun s => s.epochEnd lift units ecrc)) s := rfl

theorem exec_progress (dt : Nat) (course : Nat) (s : State) :
    exec (.progress dt course) s = perform (Instr.wf (.progress dt course)) dt (fun s => s.whenOn (fun s => s.progressUnit course)) s := rfl

theorem exec_handover (dt : Nat) (fDone : Nat) (oneMore : Bool) (cause : Nat) (s : State) :
    exec (.handover dt fDone oneMore cause) s = perform (Instr.wf (.handover dt fDone oneMore cause)) dt (fun s => s.whenOn (fun s => s.handoverUnit fDone oneMore cause)) s := rfl

theorem exec_msg (dt : Nat) (side : Nat) (unit : BMsg) (s : State) :
    exec (.msg dt side unit) s = perform (Instr.wf (.msg dt side unit)) dt (fun s => s.whenOn (fun s => s.msg side unit)) s := rfl

theorem exec_forwardAckTimeout (dt : Nat) (ch : Nat) (slot : Nat) (s : State) :
    exec (.forwardAckTimeout dt ch slot) s = perform (Instr.wf (.forwardAckTimeout dt ch slot)) dt (fun s => s.whenOn (fun s => s.ackTimeout ch slot)) s := rfl

theorem exec_gsync (dt : Nat) (side : Nat) (unit : GMsg) (s : State) :
    exec (.gsync dt side unit) s = perform (Instr.wf (.gsync dt side unit)) dt (fun s => s.whenOn (fun s => s.gsync side unit)) s := rfl

theorem exec_gtime (dt : Nat) (side : Nat) (request : Bool) (echo : GEcho) (s : State) :
    exec (.gtime dt side request echo) s = perform (Instr.wf (.gtime dt side request echo)) dt (fun s => s.whenOn (fun s => s.gtime side request echo)) s := rfl

theorem exec_gseam (dt : Nat) (side : Nat) (course : Nat) (levels : List Nat) (crc : Option Nat) (s : State) :
    exec (.gseam dt side course levels crc) s = perform (Instr.wf (.gseam dt side course levels crc)) dt (fun s => s.whenOn (fun s => s.gseam side course levels crc)) s := rfl

theorem exec_offsetMeasure (dt : Nat) (s : State) :
    exec (.offsetMeasure dt) s = perform (Instr.wf (.offsetMeasure dt)) dt (fun s => s.whenOn (fun s => s.offsetMeasure)) s := rfl

theorem exec_pairFormation (dt : Nat) (digest : Nat) (fw : Nat) (offset : Int) (prefer : Bool) (s : State) :
    exec (.pairFormation dt digest fw offset prefer) s = perform (Instr.wf (.pairFormation dt digest fw offset prefer)) dt (fun s => s.whenOn (fun s => ((s.partnerTold { digest, fw, offset, prefer }).formPair digest fw offset prefer).1)) s := rfl

theorem exec_resync (dt : Nat) (s : State) :
    exec (.resync dt) s = perform (Instr.wf (.resync dt)) dt (fun s => s.whenOn (fun s => s.resync)) s := rfl

theorem exec_takeover (dt : Nat) (s : State) :
    exec (.takeover dt) s = perform (Instr.wf (.takeover dt)) dt (fun s => s.whenOn (fun s => s.takeover)) s := rfl

theorem exec_acquireTimeout (dt : Nat) (s : State) :
    exec (.acquireTimeout dt) s = perform (Instr.wf (.acquireTimeout dt)) dt (fun s => s.whenOn (fun s => s.acquireTimeout)) s := rfl

theorem exec_swapAtReady (dt : Nat) (s : State) :
    exec (.swapAtReady dt) s = perform (Instr.wf (.swapAtReady dt)) dt (fun s => s.whenOn (fun s => s.swapWhenReady)) s := rfl

theorem exec_autoSwap (dt : Nat) (s : State) :
    exec (.autoSwap dt) s = perform (Instr.wf (.autoSwap dt)) dt (fun s => s.whenOn (fun s => s.autoSwap)) s := rfl

theorem exec_sinceSwapTick (dt : Nat) (s : State) :
    exec (.sinceSwapTick dt) s = perform (Instr.wf (.sinceSwapTick dt)) dt (fun s => s.whenOn (fun s => s.sinceSwapTick)) s := rfl

theorem exec_heartbeatSend (dt : Nat) (s : State) :
    exec (.heartbeatSend dt) s = perform (Instr.wf (.heartbeatSend dt)) dt (fun s => s.heartbeatSend) s := rfl

theorem exec_heartbeatDatagram (dt : Nat) (member : Nat) (fields : List Nat) (s : State) :
    exec (.heartbeatDatagram dt member fields) s = perform (Instr.wf (.heartbeatDatagram dt member fields)) dt (fun s => s.heartbeatIn member fields) s := rfl

theorem exec_hbOkTimeout (dt : Nat) (s : State) :
    exec (.hbOkTimeout dt) s = perform (Instr.wf (.hbOkTimeout dt)) dt (fun s => s.whenOn (fun s => s.hbTimeout)) s := rfl

theorem exec_sync (dt : Nat) (p : Nat) (sent : Bool) (m : PtpId) (t1 : Option Nat) (s : State) :
    exec (.sync dt p sent m t1) s = perform (Instr.wf (.sync dt p sent m t1)) dt (fun s => s.syncMsg p sent m t1) s := rfl

theorem exec_followUp (dt : Nat) (p : Nat) (sent : Bool) (m : PtpId) (t1 : Nat) (s : State) :
    exec (.followUp dt p sent m t1) s = perform (Instr.wf (.followUp dt p sent m t1)) dt (fun s => s.followUp p sent m t1) s := rfl

theorem exec_delayReq (dt : Nat) (p : Nat) (sent : Bool) (m : PtpId) (s : State) :
    exec (.delayReq dt p sent m) s = perform (Instr.wf (.delayReq dt p sent m)) dt (fun s => s.delayReq p sent m) s := rfl

theorem exec_delayResp (dt : Nat) (p : Nat) (m : PtpId) (t4 : Nat) (s : State) :
    exec (.delayResp dt p m t4) s = perform (Instr.wf (.delayResp dt p m t4)) dt (fun s => s.delayResp p m t4) s := rfl

theorem exec_pdelayReq (dt : Nat) (p : Nat) (sent : Bool) (m : PtpId) (turn : Nat) (s : State) :
    exec (.pdelayReq dt p sent m turn) s = perform (Instr.wf (.pdelayReq dt p sent m turn)) dt (fun s => s.pdelayReq p sent m turn) s := rfl

theorem exec_pdelayResp (dt : Nat) (p : Nat) (m : PtpId) (t2 : Nat) (t3 : Option Nat) (s : State) :
    exec (.pdelayResp dt p m t2 t3) s = perform (Instr.wf (.pdelayResp dt p m t2 t3)) dt (fun s => s.pdelayResp p m t2 t3) s := rfl

theorem exec_pdelayRespFollowUp (dt : Nat) (p : Nat) (m : PtpId) (t3 : Nat) (s : State) :
    exec (.pdelayRespFollowUp dt p m t3) s = perform (Instr.wf (.pdelayRespFollowUp dt p m t3)) dt (fun s => s.pdelayFollowUp p m t3) s := rfl

theorem exec_announce (dt : Nat) (p : Nat) (io : AnnounceIo) (fields : List Nat) (s : State) :
    exec (.announce dt p io fields) s = perform (Instr.wf (.announce dt p io fields)) dt (fun s => s.announceMsg p io fields) s := rfl

theorem exec_arp (dt : Nat) (p : Nat) (addr : Nat) (s : State) :
    exec (.arp dt p addr) s = perform (Instr.wf (.arp dt p addr)) dt (fun s => s.ipAnswer p 0x0806 addr) s := rfl

theorem exec_icmpEcho (dt : Nat) (p : Nat) (addr : Nat) (s : State) :
    exec (.icmpEcho dt p addr) s = perform (Instr.wf (.icmpEcho dt p addr)) dt (fun s => s.ipAnswer p 1 addr) s := rfl

theorem exec_announceTimeout (dt : Nat) (s : State) :
    exec (.announceTimeout dt) s = perform (Instr.wf (.announceTimeout dt)) dt (fun s => s.announceTimeout) s := rfl

theorem exec_stepApply (dt : Nat) (s : State) :
    exec (.stepApply dt) s = perform (Instr.wf (.stepApply dt)) dt (fun s => s.whenOn (fun s => s.stepApply)) s := rfl

theorem exec_rtcCopy (dt : Nat) (s : State) :
    exec (.rtcCopy dt) s = perform (Instr.wf (.rtcCopy dt)) dt (fun s => s.rtcCopy) s := rfl

theorem exec_ppsInEdge (dt : Nat) (s : State) :
    exec (.ppsInEdge dt) s = perform (Instr.wf (.ppsInEdge dt)) dt (fun s => s.ppsIn) s := rfl

theorem exec_ppsOut (dt : Nat) (s : State) :
    exec (.ppsOut dt) s = perform (Instr.wf (.ppsOut dt)) dt (fun s => s.ppsOut) s := rfl

theorem exec_ref10Lost (dt : Nat) (s : State) :
    exec (.ref10Lost dt) s = perform (Instr.wf (.ref10Lost dt)) dt (fun s => s.ref10 false) s := rfl

theorem exec_ref10Restored (dt : Nat) (s : State) :
    exec (.ref10Restored dt) s = perform (Instr.wf (.ref10Restored dt)) dt (fun s => s.ref10 true) s := rfl

theorem exec_camPulse (dt : Nat) (k : Nat) (course : Nat) (s : State) :
    exec (.camPulse dt k course) s = perform (Instr.wf (.camPulse dt k course)) dt (fun s => s.camPulse k course) s := rfl

theorem exec_chainFrameStart (dt : Nat) (s : State) :
    exec (.chainFrameStart dt) s = perform (Instr.wf (.chainFrameStart dt)) dt (fun s => s.nextFrame) s := rfl

theorem exec_chainReturnEnd (dt : Nat) (chain : Nat) (words : List (Option Nat)) (ended : Nat) (s : State) :
    exec (.chainReturnEnd dt chain words ended) s = perform (Instr.wf (.chainReturnEnd dt chain words ended)) dt (fun s => if s.corbelOn then s.chainReturn chain words ended else s) s := rfl

theorem exec_chainRestFrame (dt : Nat) (s : State) :
    exec (.chainRestFrame dt) s = perform (Instr.wf (.chainRestFrame dt)) dt (fun s => s.restFrame) s := rfl

theorem exec_driverLatch (dt : Nat) (driver : Nat) (inp : ChainIn) (s : State) :
    exec (.driverLatch dt driver inp) s = perform (Instr.wf (.driverLatch dt driver inp)) dt (fun s => s.driverLatch driver inp) s := rfl

theorem exec_driverShareTimeout (dt : Nat) (driver : Nat) (s : State) :
    exec (.driverShareTimeout dt driver) s = perform (Instr.wf (.driverShareTimeout dt driver)) dt (fun s => s.driverTimeout driver) s := rfl

theorem exec_matrixRowSlot (dt : Nat) (ohm : Nat) (ua : List Nat) (s : State) :
    exec (.matrixRowSlot dt ohm ua) s = perform (Instr.wf (.matrixRowSlot dt ohm ua)) dt (fun s => s.matrixSlot ohm ua) s := rfl

theorem exec_rowOvercurrent (dt : Nat) (sw : RowIn) (s : State) :
    exec (.rowOvercurrent dt sw) s = perform (Instr.wf (.rowOvercurrent dt sw)) dt (fun s => s.rowOvercurrent sw.row sw.ma) s := rfl

theorem exec_sensorSample (dt : Nat) (temps : List (Option Int)) (pMeas : Nat) (tj0 : Option Int) (tj1 : Option Int) (s : State) :
    exec (.sensorSample dt temps pMeas tj0 tj1) s = perform (Instr.wf (.sensorSample dt temps pMeas tj0 tj1)) dt (fun s => s.sensorSample temps pMeas tj0 tj1) s := rfl

theorem exec_calRunEnd (dt : Nat) (block : Nat) (trims : List Nat) (quality : Nat) (diff : Nat) (s : State) :
    exec (.calRunEnd dt block trims quality diff) s = perform (Instr.wf (.calRunEnd dt block trims quality diff)) dt (fun s => s.calRunEnd block trims quality diff) s := rfl

theorem exec_referenceCompare (dt : Nat) (diff : Int) (s : State) :
    exec (.referenceCompare dt diff) s = perform (Instr.wf (.referenceCompare dt diff)) dt (fun s => s.referenceCompare diff) s := rfl

theorem exec_hardwareShutdown (dt : Nat) (w : Nat) (tj : Int) (s : State) :
    exec (.hardwareShutdown dt w tj) s = perform (Instr.wf (.hardwareShutdown dt w tj)) dt (fun s => s.thermalShutdown w tj) s := rfl

theorem exec_thermalRestart (dt : Nat) (t0 : Int) (t1 : Int) (s : State) :
    exec (.thermalRestart dt t0 t1) s = perform (Instr.wf (.thermalRestart dt t0 t1)) dt (fun s => s.thermalRestart t0 t1) s := rfl

theorem exec_statusMirrorCopy (dt : Nat) (s : State) :
    exec (.statusMirrorCopy dt) s = perform (Instr.wf (.statusMirrorCopy dt)) dt (fun s => s.mirrorCopy) s := rfl

theorem exec_logCommit (dt : Nat) (s : State) :
    exec (.logCommit dt) s = perform (Instr.wf (.logCommit dt)) dt (fun s => s.logCommit) s := rfl

theorem exec_tamper (dt : Nat) (s : State) :
    exec (.tamper dt) s = perform (Instr.wf (.tamper dt)) dt (fun s => s.tamperOpen) s := rfl

theorem exec_flashRefresh (dt : Nat) (bad : List Nat) (s : State) :
    exec (.flashRefresh dt bad) s = perform (Instr.wf (.flashRefresh dt bad)) dt (fun s => s.flashRefresh bad) s := rfl

theorem exec_quantaLostReport (dt : Nat) (w : Nat) (s : State) :
    exec (.quantaLostReport dt w) s = perform (Instr.wf (.quantaLostReport dt w)) dt (fun s => s.whenOn (fun s => s.quantaReport w)) s := rfl

theorem exec_saturationReport (dt : Nat) (w : Nat) (s : State) :
    exec (.saturationReport dt w) s = perform (Instr.wf (.saturationReport dt w)) dt (fun s => s.whenOn (fun s => s.saturationReport w)) s := rfl

theorem exec_ethernetLink (dt : Nat) (p : Nat) (up : Bool) (s : State) :
    exec (.ethernetLink dt p up) s = perform (Instr.wf (.ethernetLink dt p up)) dt (fun s => s.ethernetLink p up) s := rfl

theorem exec_nodeReceiverAlignment (dt : Nat) (id : Nat) (port : Nat) (k : Nat) (ok : Bool) (s : State) :
    exec (.nodeReceiverAlignment dt id port k ok) s = perform (Instr.wf (.nodeReceiverAlignment dt id port k ok)) dt (fun s => s.nodeAlign id port k ok) s := rfl

theorem exec_headFault (dt : Nat) (id : Nat) (head : Nat) (faulty : Bool) (s : State) :
    exec (.headFault dt id head faulty) s = perform (Instr.wf (.headFault dt id head faulty)) dt (fun s => s.nodeHeadFault id head faulty) s := rfl

theorem exec_nodeTimeOkTimeout (dt : Nat) (id : Nat) (s : State) :
    exec (.nodeTimeOkTimeout dt id) s = perform (Instr.wf (.nodeTimeOkTimeout dt id)) dt (fun s => s.nodeTimeout id) s := rfl

theorem exec_unknownVerb (dt : Nat) (verb : Nat) (m : Mbox) (s : State) :
    exec (.unknownVerb dt verb m) s = perform (Instr.wf (.unknownVerb dt verb m)) dt (fun s => s.submit verb m) s := rfl

theorem exec_unknownOp (dt : Nat) (r : ZReq) (op : Nat) (s : State) :
    exec (.unknownOp dt r op) s = perform (Instr.wf (.unknownOp dt r op)) dt (fun s => s.zUnknown op r) s := rfl

theorem exec_requestDiscarded (dt : Nat) (frame : ZFrame) (s : State) :
    exec (.requestDiscarded dt frame) s = perform (Instr.wf (.requestDiscarded dt frame)) dt (fun s => s.discardRequest frame.op frame.req) s := rfl

theorem exec_illegalTransitionReport (dt : Nat) (enc : Nat) (s : State) :
    exec (.illegalTransitionReport dt enc) s = perform (Instr.wf (.illegalTransitionReport dt enc)) dt (fun s => s.whenOn (fun s => s.illegalReport enc)) s := rfl

theorem exec_hallReport (dt : Nat) (s : State) :
    exec (.hallReport dt) s = perform (Instr.wf (.hallReport dt)) dt (fun s => s.whenOn (fun s => s.hallReport)) s := rfl

theorem exec_actionPulseEnd (dt : Nat) (output : Nat) (s : State) :
    exec (.actionPulseEnd dt output) s = perform (Instr.wf (.actionPulseEnd dt output)) dt (fun s => s.whenOn (fun s => s.pulseEnd output)) s := rfl

/-- Every command is `perform` of the condition under which something can carry it. -/
theorem exec_perform (s : State) : ∀ c : Instr, ∃ dt f, exec c s = perform c.wf dt f s
  | .vAuxApplied dt sel mv => ⟨dt, _, exec_vAuxApplied dt sel mv s⟩
  | .keepReset dt => ⟨dt, _, exec_keepReset dt s⟩
  | .supplyThreshold dt input kind mv => ⟨dt, _, exec_supplyThreshold dt input kind mv s⟩
  | .suppliesLost dt => ⟨dt, _, exec_suppliesLost dt s⟩
  | .autoOn dt => ⟨dt, _, exec_autoOn dt s⟩
  | .domainPowerGood dt => ⟨dt, _, exec_domainPowerGood dt s⟩
  | .powerGoodMissed dt d => ⟨dt, _, exec_powerGoodMissed dt d s⟩
  | .powerGoodLost dt d => ⟨dt, _, exec_powerGoodLost dt d s⟩
  | .bootEnd dt crcA crcB test fence0 fence1 => ⟨dt, _, exec_bootEnd dt crcA crcB test fence0 fence1 s⟩
  | .bootTimeout dt => ⟨dt, _, exec_bootTimeout dt s⟩
  | .functionReset dt fn down => ⟨dt, _, exec_functionReset dt fn down s⟩
  | .linkTrained dt fn lanes rate mrrs mps extTag => ⟨dt, _, exec_linkTrained dt fn lanes rate mrrs mps extTag s⟩
  | .pcieLinkLost dt fn => ⟨dt, _, exec_pcieLinkLost dt fn s⟩
  | .registerWrite dt fn off bytes => ⟨dt, _, exec_registerWrite dt fn off bytes s⟩
  | .responseRead dt ch slot off n => ⟨dt, _, exec_responseRead dt ch slot off n s⟩
  | .intCauseClear dt fn clear again => ⟨dt, _, exec_intCauseClear dt fn clear again s⟩
  | .intEnableWrite dt fn value => ⟨dt, _, exec_intEnableWrite dt fn value s⟩
  | .overflowClear dt => ⟨dt, _, exec_overflowClear dt s⟩
  | .sysInfo dt m => ⟨dt, _, exec_sysInfo dt m s⟩
  | .sysPing dt m => ⟨dt, _, exec_sysPing dt m s⟩
  | .sysEventRing dt m => ⟨dt, _, exec_sysEventRing dt m s⟩
  | .sysResetWarm dt m => ⟨dt, _, exec_sysResetWarm dt m s⟩
  | .sysResetCold dt m => ⟨dt, _, exec_sysResetCold dt m s⟩
  | .stateArm dt m => ⟨dt, _, exec_stateArm dt m s⟩
  | .stateDisarm dt m => ⟨dt, _, exec_stateDisarm dt m s⟩
  | .stateRest dt m => ⟨dt, _, exec_stateRest dt m s⟩
  | .stateClear dt m => ⟨dt, _, exec_stateClear dt m s⟩
  | .cfgStage dt m => ⟨dt, _, exec_cfgStage dt m s⟩
  | .cfgCheck dt m => ⟨dt, _, exec_cfgCheck dt m s⟩
  | .cfgCommit dt m => ⟨dt, _, exec_cfgCommit dt m s⟩
  | .cfgCancel dt m => ⟨dt, _, exec_cfgCancel dt m s⟩
  | .cfgDiscard dt m => ⟨dt, _, exec_cfgDiscard dt m s⟩
  | .cfgRead dt m => ⟨dt, _, exec_cfgRead dt m s⟩
  | .jobOpen dt m => ⟨dt, _, exec_jobOpen dt m s⟩
  | .jobSubmitAttach dt m => ⟨dt, _, exec_jobSubmitAttach dt m s⟩
  | .jobSubmitDetach dt m => ⟨dt, _, exec_jobSubmitDetach dt m s⟩
  | .jobSubmitEnd dt m => ⟨dt, _, exec_jobSubmitEnd dt m s⟩
  | .jobStart dt m => ⟨dt, _, exec_jobStart dt m s⟩
  | .jobPause dt m => ⟨dt, _, exec_jobPause dt m s⟩
  | .jobContinue dt m => ⟨dt, _, exec_jobContinue dt m s⟩
  | .jobAbort dt m => ⟨dt, _, exec_jobAbort dt m s⟩
  | .jobClose dt m => ⟨dt, _, exec_jobClose dt m s⟩
  | .jobStatus dt m => ⟨dt, _, exec_jobStatus dt m s⟩
  | .evtAtCourse dt m => ⟨dt, _, exec_evtAtCourse dt m s⟩
  | .evtAtTime dt m => ⟨dt, _, exec_evtAtTime dt m s⟩
  | .evtCancel dt m => ⟨dt, _, exec_evtCancel dt m s⟩
  | .evtList dt m => ⟨dt, _, exec_evtList dt m s⟩
  | .actionAtCourse dt id => ⟨dt, _, exec_actionAtCourse dt id s⟩
  | .actionAtTime dt id => ⟨dt, _, exec_actionAtTime dt id s⟩
  | .densUpdate dt m => ⟨dt, _, exec_densUpdate dt m s⟩
  | .densRead dt m => ⟨dt, _, exec_densRead dt m s⟩
  | .densFreeze dt m => ⟨dt, _, exec_densFreeze dt m s⟩
  | .nozMap dt m => ⟨dt, _, exec_nozMap dt m s⟩
  | .nozRead dt m => ⟨dt, _, exec_nozRead dt m s⟩
  | .discover dt m => ⟨dt, _, exec_discover dt m s⟩
  | .readBond dt m => ⟨dt, _, exec_readBond dt m s⟩
  | .readNodes dt m => ⟨dt, _, exec_readNodes dt m s⟩
  | .pairSwap dt m => ⟨dt, _, exec_pairSwap dt m s⟩
  | .pairJoin dt m partner => ⟨dt, _, exec_pairJoin dt m partner s⟩
  | .pairLeave dt m => ⟨dt, _, exec_pairLeave dt m s⟩
  | .pairTake dt m => ⟨dt, _, exec_pairTake dt m s⟩
  | .pairInfo dt m => ⟨dt, _, exec_pairInfo dt m s⟩
  | .gangForm dt m members => ⟨dt, _, exec_gangForm dt m members s⟩
  | .gangDissolve dt m => ⟨dt, _, exec_gangDissolve dt m s⟩
  | .gangInfo dt m => ⟨dt, _, exec_gangInfo dt m s⟩
  | .timeAcceptStep dt m => ⟨dt, _, exec_timeAcceptStep dt m s⟩
  | .timeSet dt m => ⟨dt, _, exec_timeSet dt m s⟩
  | .timeStatus dt m => ⟨dt, _, exec_timeStatus dt m s⟩
  | .lampSet dt m => ⟨dt, _, exec_lampSet dt m s⟩
  | .lampRead dt m => ⟨dt, _, exec_lampRead dt m s⟩
  | .lampClearShort dt m => ⟨dt, _, exec_lampClearShort dt m s⟩
  | .lampClearPins dt m => ⟨dt, _, exec_lampClearPins dt m s⟩
  | .panelSet dt m => ⟨dt, _, exec_panelSet dt m s⟩
  | .copingRead dt m => ⟨dt, _, exec_copingRead dt m s⟩
  | .copingCal dt m => ⟨dt, _, exec_copingCal dt m s⟩
  | .plinthLogRead dt m => ⟨dt, _, exec_plinthLogRead dt m s⟩
  | .plinthFw dt m => ⟨dt, _, exec_plinthFw dt m s⟩
  | .plinthFwSelect dt m => ⟨dt, _, exec_plinthFwSelect dt m s⟩
  | .ident dt r => ⟨dt, _, exec_ident dt r s⟩
  | .status dt r => ⟨dt, _, exec_status dt r s⟩
  | .zarnetrumTemps dt r => ⟨dt, _, exec_zarnetrumTemps dt r s⟩
  | .pair dt r => ⟨dt, _, exec_pair dt r s⟩
  | .settings dt r => ⟨dt, _, exec_settings dt r s⟩
  | .powerOn dt r => ⟨dt, _, exec_powerOn dt r s⟩
  | .powerOff dt r ack => ⟨dt, _, exec_powerOff dt r ack s⟩
  | .powerCycle dt r ack => ⟨dt, _, exec_powerCycle dt r ack s⟩
  | .restReq dt r ack => ⟨dt, _, exec_restReq dt r ack s⟩
  | .force dt r => ⟨dt, _, exec_force dt r s⟩
  | .lockoutClear dt r => ⟨dt, _, exec_lockoutClear dt r s⟩
  | .logInfo dt r => ⟨dt, _, exec_logInfo dt r s⟩
  | .logRead dt r => ⟨dt, _, exec_logRead dt r s⟩
  | .fwOpen dt r => ⟨dt, _, exec_fwOpen dt r s⟩
  | .fwData dt r => ⟨dt, _, exec_fwData dt r s⟩
  | .fwClose dt r => ⟨dt, _, exec_fwClose dt r s⟩
  | .fwSelect dt r => ⟨dt, _, exec_fwSelect dt r s⟩
  | .fwSessionTimeout dt => ⟨dt, _, exec_fwSessionTimeout dt s⟩
  | .alertResponse dt => ⟨dt, _, exec_alertResponse dt s⟩
  | .ringBaseWrite dt fn ch value => ⟨dt, _, exec_ringBaseWrite dt fn ch value s⟩
  | .enable dt fn ch host => ⟨dt, _, exec_enable dt fn ch host s⟩
  | .abort dt fn ch => ⟨dt, _, exec_abort dt fn ch s⟩
  | .disable dt fn ch => ⟨dt, _, exec_disable dt fn ch s⟩
  | .tailWrite dt fn ch value host => ⟨dt, _, exec_tailWrite dt fn ch value host s⟩
  | .sourceDestinationFree dt fn => ⟨dt, _, exec_sourceDestinationFree dt fn s⟩
  | .readCompletion dt fn ch k err beat host runMin => ⟨dt, _, exec_readCompletion dt fn ch k err beat host runMin s⟩
  | .completionTimeout dt fn ch k => ⟨dt, _, exec_completionTimeout dt fn ch k s⟩
  | .admissionEnd dt fn ch => ⟨dt, _, exec_admissionEnd dt fn ch s⟩
  | .descriptorEnd dt fn ch => ⟨dt, _, exec_descriptorEnd dt fn ch s⟩
  | .compressionResume dt job => ⟨dt, _, exec_compressionResume dt job s⟩
  | .eventRingWrite dt => ⟨dt, _, exec_eventRingWrite dt s⟩
  | .bar2Read dt fn off n => ⟨dt, _, exec_bar2Read dt fn off n s⟩
  | .bar2Write dt fn off bytes => ⟨dt, _, exec_bar2Write dt fn off bytes s⟩
  | .bar2DroppedRead dt fn => ⟨dt, _, exec_bar2DroppedRead dt fn s⟩
  | .snapReq dt fn => ⟨dt, _, exec_snapReq dt fn s⟩
  | .timeNowLowRead dt rd => ⟨dt, _, exec_timeNowLowRead dt rd s⟩
  | .stripPipelineDecode dt w memErr pieces => ⟨dt, _, exec_stripPipelineDecode dt w memErr pieces s⟩
  | .memoryError dt w target addr item => ⟨dt, _, exec_memoryError dt w target addr item s⟩
  | .scrubReport dt unit words => ⟨dt, _, exec_scrubReport dt unit words s⟩
  | .courseRecord dt course fire => ⟨dt, _, exec_courseRecord dt course fire s⟩
  | .tieReplay dt failed => ⟨dt, _, exec_tieReplay dt failed s⟩
  | .seamDeadlineMiss dt => ⟨dt, _, exec_seamDeadlineMiss dt s⟩
  | .tieTrainingLost dt => ⟨dt, _, exec_tieTrainingLost dt s⟩
  | .lockstep dt w => ⟨dt, _, exec_lockstep dt w s⟩
  | .liftToken dt lift => ⟨dt, _, exec_liftToken dt lift s⟩
  | .commitToken dt => ⟨dt, _, exec_commitToken dt s⟩
  | .liftScreened dt w lift audit => ⟨dt, _, exec_liftScreened dt w lift audit s⟩
  | .courseRelease dt => ⟨dt, _, exec_courseRelease dt s⟩
  | .courseFire dt => ⟨dt, _, exec_courseFire dt s⟩
  | .liftBoundary dt seam => ⟨dt, _, exec_liftBoundary dt seam s⟩
  | .speedLoopCycle dt => ⟨dt, _, exec_speedLoopCycle dt s⟩
  | .overspeedClear dt => ⟨dt, _, exec_overspeedClear dt s⟩
  | .webAtRest dt => ⟨dt, _, exec_webAtRest dt s⟩
  | .ceiling dt => ⟨dt, _, exec_ceiling dt s⟩
  | .resumeBegin dt => ⟨dt, _, exec_resumeBegin dt s⟩
  | .rejectEdge dt => ⟨dt, _, exec_rejectEdge dt s⟩
  | .markEdge dt run => ⟨dt, _, exec_markEdge dt run s⟩
  | .markMiss dt k => ⟨dt, _, exec_markMiss dt k s⟩
  | .positionChange dt enc inp => ⟨dt, _, exec_positionChange dt enc inp s⟩
  | .illegalTransition dt enc a b run => ⟨dt, _, exec_illegalTransition dt enc a b run s⟩
  | .radiusFault dt enc samples => ⟨dt, _, exec_radiusFault dt enc samples s⟩
  | .index dt enc pins => ⟨dt, _, exec_index dt enc pins s⟩
  | .missingIndex dt enc => ⟨dt, _, exec_missingIndex dt enc s⟩
  | .pairStatusChange dt enc k v => ⟨dt, _, exec_pairStatusChange dt enc k v s⟩
  | .hallChange dt run => ⟨dt, _, exec_hallChange dt run s⟩
  | .checkWindow dt => ⟨dt, _, exec_checkWindow dt s⟩
  | .supplyOverload dt supply => ⟨dt, _, exec_supplyOverload dt supply s⟩
  | .fieldInputChange dt inp level ua => ⟨dt, _, exec_fieldInputChange dt inp level ua s⟩
  | .estopDisc dt => ⟨dt, _, exec_estopDisc dt s⟩
  | .fieldSupply dt mv => ⟨dt, _, exec_fieldSupply dt mv s⟩
  | .outputFault dt output kind => ⟨dt, _, exec_outputFault dt output kind s⟩
  | .openLoad dt load => ⟨dt, _, exec_openLoad dt load s⟩
  | .thermOkChange dt tj => ⟨dt, _, exec_thermOkChange dt tj s⟩
  | .watchdogKey dt => ⟨dt, _, exec_watchdogKey dt s⟩
  | .watchdog dt wrong => ⟨dt, _, exec_watchdog dt wrong s⟩
  | .heartbeatScan dt beats => ⟨dt, _, exec_heartbeatScan dt beats s⟩
  | .aliveTick dt => ⟨dt, _, exec_aliveTick dt s⟩
  | .laneRxAligned dt l => ⟨dt, _, exec_laneRxAligned dt l s⟩
  | .laneRxUnaligned dt l => ⟨dt, _, exec_laneRxUnaligned dt l s⟩
  | .hello dt l len bits => ⟨dt, _, exec_hello dt l len bits s⟩
  | .identTimeout dt l => ⟨dt, _, exec_identTimeout dt l s⟩
  | .echoReply dt l len bits rtt => ⟨dt, _, exec_echoReply dt l len bits rtt s⟩
  | .delayTimeout dt l => ⟨dt, _, exec_delayTimeout dt l s⟩
  | .statusUnit dt l len bits => ⟨dt, _, exec_statusUnit dt l len bits s⟩
  | .tempsUnit dt l len bits => ⟨dt, _, exec_tempsUnit dt l len bits s⟩
  | .statusTimeout dt l => ⟨dt, _, exec_statusTimeout dt l s⟩
  | .unalignedTimeout dt l => ⟨dt, _, exec_unalignedTimeout dt l s⟩
  | .lostTimeout dt l => ⟨dt, _, exec_lostTimeout dt l s⟩
  | .discovery dt => ⟨dt, _, exec_discovery dt s⟩
  | .timeSend dt l => ⟨dt, _, exec_timeSend dt l s⟩
  | .echoSend dt l => ⟨dt, _, exec_echoSend dt l s⟩
  | .discoverSend dt l => ⟨dt, _, exec_discoverSend dt l s⟩
  | .renewSend dt id => ⟨dt, _, exec_renewSend dt id s⟩
  | .acquireRetry dt id => ⟨dt, _, exec_acquireRetry dt id s⟩
  | .restSend dt => ⟨dt, _, exec_restSend dt s⟩
  | .nodeFrame dt id port k len bits => ⟨dt, _, exec_nodeFrame dt id port k len bits s⟩
  | .nodeRenew dt id port k len bits => ⟨dt, _, exec_nodeRenew dt id port k len bits s⟩
  | .nodeAcquire dt id port k len bits => ⟨dt, _, exec_nodeAcquire dt id port k len bits s⟩
  | .nodeRelease dt id port k len bits => ⟨dt, _, exec_nodeRelease dt id port k len bits s⟩
  | .nodeRest dt id port k len bits => ⟨dt, _, exec_nodeRest dt id port k len bits s⟩
  | .nodeCancel dt id port k len bits => ⟨dt, _, exec_nodeCancel dt id port k len bits s⟩
  | .nodeConfig dt id port k len bits => ⟨dt, _, exec_nodeConfig dt id port k len bits s⟩
  | .nodeTime dt id port k len bits => ⟨dt, _, exec_nodeTime dt id port k len bits s⟩
  | .nodeEcho dt id port k len bits turn => ⟨dt, _, exec_nodeEcho dt id port k len bits turn s⟩
  | .nodeDiscover dt id port k len bits => ⟨dt, _, exec_nodeDiscover dt id port k len bits s⟩
  | .nodeLeaseExpiry dt id => ⟨dt, _, exec_nodeLeaseExpiry dt id s⟩
  | .nodeRowFire dt id head row => ⟨dt, _, exec_nodeRowFire dt id head row s⟩
  | .nodeStatusSend dt id port k => ⟨dt, _, exec_nodeStatusSend dt id port k s⟩
  | .nodeTempsSend dt id port temps => ⟨dt, _, exec_nodeTempsSend dt id port temps s⟩
  | .nodeReset dt id lanesA lanesB heads maxK => ⟨dt, _, exec_nodeReset dt id lanesA lanesB heads maxK s⟩
  | .beat dt side role op phase unit => ⟨dt, _, exec_beat dt side role op phase unit s⟩
  | .beatSend dt side => ⟨dt, _, exec_beatSend dt side s⟩
  | .buttressLinkDown dt side lanes => ⟨dt, _, exec_buttressLinkDown dt side lanes s⟩
  | .buttressLinkUp dt side lanes => ⟨dt, _, exec_buttressLinkUp dt side lanes s⟩
  | .mirror dt lift item off bytes => ⟨dt, _, exec_mirror dt lift item off bytes s⟩
  | .epochEnd dt lift units ecrc => ⟨dt, _, exec_epochEnd dt lift units ecrc s⟩
  | .progress dt course => ⟨dt, _, exec_progress dt course s⟩
  | .handover dt fDone oneMore cause => ⟨dt, _, exec_handover dt fDone oneMore cause s⟩
  | .msg dt side unit => ⟨dt, _, exec_msg dt side unit s⟩
  | .forwardAckTimeout dt ch slot => ⟨dt, _, exec_forwardAckTimeout dt ch slot s⟩
  | .gsync dt side unit => ⟨dt, _, exec_gsync dt side unit s⟩
  | .gtime dt side request echo => ⟨dt, _, exec_gtime dt side request echo s⟩
  | .gseam dt side course levels crc => ⟨dt, _, exec_gseam dt side course levels crc s⟩
  | .offsetMeasure dt => ⟨dt, _, exec_offsetMeasure dt s⟩
  | .pairFormation dt digest fw offset prefer => ⟨dt, _, exec_pairFormation dt digest fw offset prefer s⟩
  | .resync dt => ⟨dt, _, exec_resync dt s⟩
  | .takeover dt => ⟨dt, _, exec_takeover dt s⟩
  | .acquireTimeout dt => ⟨dt, _, exec_acquireTimeout dt s⟩
  | .swapAtReady dt => ⟨dt, _, exec_swapAtReady dt s⟩
  | .autoSwap dt => ⟨dt, _, exec_autoSwap dt s⟩
  | .sinceSwapTick dt => ⟨dt, _, exec_sinceSwapTick dt s⟩
  | .heartbeatSend dt => ⟨dt, _, exec_heartbeatSend dt s⟩
  | .heartbeatDatagram dt member fields => ⟨dt, _, exec_heartbeatDatagram dt member fields s⟩
  | .hbOkTimeout dt => ⟨dt, _, exec_hbOkTimeout dt s⟩
  | .sync dt p sent m t1 => ⟨dt, _, exec_sync dt p sent m t1 s⟩
  | .followUp dt p sent m t1 => ⟨dt, _, exec_followUp dt p sent m t1 s⟩
  | .delayReq dt p sent m => ⟨dt, _, exec_delayReq dt p sent m s⟩
  | .delayResp dt p m t4 => ⟨dt, _, exec_delayResp dt p m t4 s⟩
  | .pdelayReq dt p sent m turn => ⟨dt, _, exec_pdelayReq dt p sent m turn s⟩
  | .pdelayResp dt p m t2 t3 => ⟨dt, _, exec_pdelayResp dt p m t2 t3 s⟩
  | .pdelayRespFollowUp dt p m t3 => ⟨dt, _, exec_pdelayRespFollowUp dt p m t3 s⟩
  | .announce dt p io fields => ⟨dt, _, exec_announce dt p io fields s⟩
  | .arp dt p addr => ⟨dt, _, exec_arp dt p addr s⟩
  | .icmpEcho dt p addr => ⟨dt, _, exec_icmpEcho dt p addr s⟩
  | .announceTimeout dt => ⟨dt, _, exec_announceTimeout dt s⟩
  | .stepApply dt => ⟨dt, _, exec_stepApply dt s⟩
  | .rtcCopy dt => ⟨dt, _, exec_rtcCopy dt s⟩
  | .ppsInEdge dt => ⟨dt, _, exec_ppsInEdge dt s⟩
  | .ppsOut dt => ⟨dt, _, exec_ppsOut dt s⟩
  | .ref10Lost dt => ⟨dt, _, exec_ref10Lost dt s⟩
  | .ref10Restored dt => ⟨dt, _, exec_ref10Restored dt s⟩
  | .camPulse dt k course => ⟨dt, _, exec_camPulse dt k course s⟩
  | .chainFrameStart dt => ⟨dt, _, exec_chainFrameStart dt s⟩
  | .chainReturnEnd dt chain words ended => ⟨dt, _, exec_chainReturnEnd dt chain words ended s⟩
  | .chainRestFrame dt => ⟨dt, _, exec_chainRestFrame dt s⟩
  | .driverLatch dt driver inp => ⟨dt, _, exec_driverLatch dt driver inp s⟩
  | .driverShareTimeout dt driver => ⟨dt, _, exec_driverShareTimeout dt driver s⟩
  | .matrixRowSlot dt ohm ua => ⟨dt, _, exec_matrixRowSlot dt ohm ua s⟩
  | .rowOvercurrent dt sw => ⟨dt, _, exec_rowOvercurrent dt sw s⟩
  | .sensorSample dt temps pMeas tj0 tj1 => ⟨dt, _, exec_sensorSample dt temps pMeas tj0 tj1 s⟩
  | .calRunEnd dt block trims quality diff => ⟨dt, _, exec_calRunEnd dt block trims quality diff s⟩
  | .referenceCompare dt diff => ⟨dt, _, exec_referenceCompare dt diff s⟩
  | .hardwareShutdown dt w tj => ⟨dt, _, exec_hardwareShutdown dt w tj s⟩
  | .thermalRestart dt t0 t1 => ⟨dt, _, exec_thermalRestart dt t0 t1 s⟩
  | .statusMirrorCopy dt => ⟨dt, _, exec_statusMirrorCopy dt s⟩
  | .logCommit dt => ⟨dt, _, exec_logCommit dt s⟩
  | .tamper dt => ⟨dt, _, exec_tamper dt s⟩
  | .flashRefresh dt bad => ⟨dt, _, exec_flashRefresh dt bad s⟩
  | .quantaLostReport dt w => ⟨dt, _, exec_quantaLostReport dt w s⟩
  | .saturationReport dt w => ⟨dt, _, exec_saturationReport dt w s⟩
  | .ethernetLink dt p up => ⟨dt, _, exec_ethernetLink dt p up s⟩
  | .nodeReceiverAlignment dt id port k ok => ⟨dt, _, exec_nodeReceiverAlignment dt id port k ok s⟩
  | .headFault dt id head faulty => ⟨dt, _, exec_headFault dt id head faulty s⟩
  | .nodeTimeOkTimeout dt id => ⟨dt, _, exec_nodeTimeOkTimeout dt id s⟩
  | .unknownVerb dt verb m => ⟨dt, _, exec_unknownVerb dt verb m s⟩
  | .unknownOp dt r op => ⟨dt, _, exec_unknownOp dt r op s⟩
  | .requestDiscarded dt frame => ⟨dt, _, exec_requestDiscarded dt frame s⟩
  | .illegalTransitionReport dt enc => ⟨dt, _, exec_illegalTransitionReport dt enc s⟩
  | .hallReport dt => ⟨dt, _, exec_hallReport dt s⟩
  | .actionPulseEnd dt output => ⟨dt, _, exec_actionPulseEnd dt output s⟩

end Sys2Proof.Machine
end

