-- ==== Sys2Proof/Laws/State.lean ====
section
/-! SUPPORT. What the named updates of State leave alone: one lemma per field and update, each true by computation. (The
proofs unfold the update first: a lemma that simp takes as definitional would not discharge the premises of the frame lemmas.) -/

namespace Sys2Proof.Machine

open Sys2Proof

section
variable (f : Tone → Tone) (s : State)
@[simp] theorem State.modTone_clock : (State.modTone f s).clock = s.clock := by
  unfold State.modTone; rfl
@[simp] theorem State.modTone_ident : (State.modTone f s).ident = s.ident := by
  unfold State.modTone; rfl
@[simp] theorem State.modTone_mbox : (State.modTone f s).mbox = s.mbox := by
  unfold State.modTone; rfl
@[simp] theorem State.modTone_ring : (State.modTone f s).ring = s.ring := by
  unfold State.modTone; rfl
@[simp] theorem State.modTone_cfg : (State.modTone f s).cfg = s.cfg := by
  unfold State.modTone; rfl
@[simp] theorem State.modTone_jobs : (State.modTone f s).jobs = s.jobs := by
  unfold State.modTone; rfl
@[simp] theorem State.modTone_acts : (State.modTone f s).acts = s.acts := by
  unfold State.modTone; rfl
@[simp] theorem State.modTone_fn0 : (State.modTone f s).fn0 = s.fn0 := by
  unfold State.modTone; rfl
@[simp] theorem State.modTone_fn1 : (State.modTone f s).fn1 = s.fn1 := by
  unfold State.modTone; rfl
@[simp] theorem State.modTone_store : (State.modTone f s).store = s.store := by
  unfold State.modTone; rfl
@[simp] theorem State.modTone_mortar : (State.modTone f s).mortar = s.mortar := by
  unfold State.modTone; rfl
@[simp] theorem State.modTone_point : (State.modTone f s).point = s.point := by
  unfold State.modTone; rfl
@[simp] theorem State.modTone_web : (State.modTone f s).web = s.web := by
  unfold State.modTone; rfl
@[simp] theorem State.modTone_lintel : (State.modTone f s).lintel = s.lintel := by
  unfold State.modTone; rfl
@[simp] theorem State.modTone_quoin : (State.modTone f s).quoin = s.quoin := by
  unfold State.modTone; rfl
@[simp] theorem State.modTone_ndeig : (State.modTone f s).ndeig = s.ndeig := by
  unfold State.modTone; rfl
@[simp] theorem State.modTone_nodes : (State.modTone f s).nodes = s.nodes := by
  unfold State.modTone; rfl
@[simp] theorem State.modTone_plumb : (State.modTone f s).plumb = s.plumb := by
  unfold State.modTone; rfl
@[simp] theorem State.modTone_butt : (State.modTone f s).butt = s.butt := by
  unfold State.modTone; rfl
@[simp] theorem State.modTone_time : (State.modTone f s).time = s.time := by
  unfold State.modTone; rfl
@[simp] theorem State.modTone_corbel : (State.modTone f s).corbel = s.corbel := by
  unfold State.modTone; rfl
@[simp] theorem State.modTone_panel : (State.modTone f s).panel = s.panel := by
  unfold State.modTone; rfl
@[simp] theorem State.modTone_coping : (State.modTone f s).coping = s.coping := by
  unfold State.modTone; rfl
@[simp] theorem State.modTone_plinth : (State.modTone f s).plinth = s.plinth := by
  unfold State.modTone; rfl
@[simp] theorem State.modTone_power : (State.modTone f s).power = s.power := by
  unfold State.modTone; rfl
@[simp] theorem State.modTone_tie : (State.modTone f s).tie = s.tie := by
  unfold State.modTone; rfl
@[simp] theorem State.modTone_freeCtr : (State.modTone f s).freeCtr = s.freeCtr := by
  unfold State.modTone; rfl
@[simp] theorem State.modTone_out : (State.modTone f s).out = s.out := by
  unfold State.modTone; rfl
@[simp] theorem State.modTone_pending : (State.modTone f s).pending = s.pending := by
  unfold State.modTone; rfl
end

section
variable (from_ cls : Nat) (fields : List Int) (s : State)
@[simp] theorem State.tieSend_clock : (State.tieSend from_ cls fields s).clock = s.clock := by
  unfold State.tieSend; rfl
@[simp] theorem State.tieSend_ident : (State.tieSend from_ cls fields s).ident = s.ident := by
  unfold State.tieSend; rfl
@[simp] theorem State.tieSend_mbox : (State.tieSend from_ cls fields s).mbox = s.mbox := by
  unfold State.tieSend; rfl
@[simp] theorem State.tieSend_ring : (State.tieSend from_ cls fields s).ring = s.ring := by
  unfold State.tieSend; rfl
@[simp] theorem State.tieSend_cfg : (State.tieSend from_ cls fields s).cfg = s.cfg := by
  unfold State.tieSend; rfl
@[simp] theorem State.tieSend_jobs : (State.tieSend from_ cls fields s).jobs = s.jobs := by
  unfold State.tieSend; rfl
@[simp] theorem State.tieSend_acts : (State.tieSend from_ cls fields s).acts = s.acts := by
  unfold State.tieSend; rfl
@[simp] theorem State.tieSend_fn0 : (State.tieSend from_ cls fields s).fn0 = s.fn0 := by
  unfold State.tieSend; rfl
@[simp] theorem State.tieSend_fn1 : (State.tieSend from_ cls fields s).fn1 = s.fn1 := by
  unfold State.tieSend; rfl
@[simp] theorem State.tieSend_store : (State.tieSend from_ cls fields s).store = s.store := by
  unfold State.tieSend; rfl
@[simp] theorem State.tieSend_mortar : (State.tieSend from_ cls fields s).mortar = s.mortar := by
  unfold State.tieSend; rfl
@[simp] theorem State.tieSend_tone : (State.tieSend from_ cls fields s).tone = s.tone := by
  unfold State.tieSend; rfl
@[simp] theorem State.tieSend_point : (State.tieSend from_ cls fields s).point = s.point := by
  unfold State.tieSend; rfl
@[simp] theorem State.tieSend_web : (State.tieSend from_ cls fields s).web = s.web := by
  unfold State.tieSend; rfl
@[simp] theorem State.tieSend_lintel : (State.tieSend from_ cls fields s).lintel = s.lintel := by
  unfold State.tieSend; rfl
@[simp] theorem State.tieSend_quoin : (State.tieSend from_ cls fields s).quoin = s.quoin := by
  unfold State.tieSend; rfl
@[simp] theorem State.tieSend_ndeig : (State.tieSend from_ cls fields s).ndeig = s.ndeig := by
  unfold State.tieSend; rfl
@[simp] theorem State.tieSend_nodes : (State.tieSend from_ cls fields s).nodes = s.nodes := by
  unfold State.tieSend; rfl
@[simp] theorem State.tieSend_plumb : (State.tieSend from_ cls fields s).plumb = s.plumb := by
  unfold State.tieSend; rfl
@[simp] theorem State.tieSend_butt : (State.tieSend from_ cls fields s).butt = s.butt := by
  unfold State.tieSend; rfl
@[simp] theorem State.tieSend_time : (State.tieSend from_ cls fields s).time = s.time := by
  unfold State.tieSend; rfl
@[simp] theorem State.tieSend_corbel : (State.tieSend from_ cls fields s).corbel = s.corbel := by
  unfold State.tieSend; rfl
@[simp] theorem State.tieSend_panel : (State.tieSend from_ cls fields s).panel = s.panel := by
  unfold State.tieSend; rfl
@[simp] theorem State.tieSend_coping : (State.tieSend from_ cls fields s).coping = s.coping := by
  unfold State.tieSend; rfl
@[simp] theorem State.tieSend_plinth : (State.tieSend from_ cls fields s).plinth = s.plinth := by
  unfold State.tieSend; rfl
@[simp] theorem State.tieSend_power : (State.tieSend from_ cls fields s).power = s.power := by
  unfold State.tieSend; rfl
@[simp] theorem State.tieSend_freeCtr : (State.tieSend from_ cls fields s).freeCtr = s.freeCtr := by
  unfold State.tieSend; rfl
@[simp] theorem State.tieSend_out : (State.tieSend from_ cls fields s).out = s.out := by
  unfold State.tieSend; rfl
@[simp] theorem State.tieSend_pending : (State.tieSend from_ cls fields s).pending = s.pending := by
  unfold State.tieSend; rfl
end

section
variable (side : Nat) (f : BLink → BLink) (s : State)
@[simp] theorem State.modBlink_clock : (State.modBlink side f s).clock = s.clock := by
  unfold State.modBlink
  split <;> rfl
@[simp] theorem State.modBlink_ident : (State.modBlink side f s).ident = s.ident := by
  unfold State.modBlink
  split <;> rfl
@[simp] theorem State.modBlink_mbox : (State.modBlink side f s).mbox = s.mbox := by
  unfold State.modBlink
  split <;> rfl
@[simp] theorem State.modBlink_ring : (State.modBlink side f s).ring = s.ring := by
  unfold State.modBlink
  split <;> rfl
@[simp] theorem State.modBlink_cfg : (State.modBlink side f s).cfg = s.cfg := by
  unfold State.modBlink
  split <;> rfl
@[simp] theorem State.modBlink_jobs : (State.modBlink side f s).jobs = s.jobs := by
  unfold State.modBlink
  split <;> rfl
@[simp] theorem State.modBlink_acts : (State.modBlink side f s).acts = s.acts := by
  unfold State.modBlink
  split <;> rfl
@[simp] theorem State.modBlink_fn0 : (State.modBlink side f s).fn0 = s.fn0 := by
  unfold State.modBlink
  split <;> rfl
@[simp] theorem State.modBlink_fn1 : (State.modBlink side f s).fn1 = s.fn1 := by
  unfold State.modBlink
  split <;> rfl
@[simp] theorem State.modBlink_store : (State.modBlink side f s).store = s.store := by
  unfold State.modBlink
  split <;> rfl
@[simp] theorem State.modBlink_mortar : (State.modBlink side f s).mortar = s.mortar := by
  unfold State.modBlink
  split <;> rfl
@[simp] theorem State.modBlink_tone : (State.modBlink side f s).tone = s.tone := by
  unfold State.modBlink
  split <;> rfl
@[simp] theorem State.modBlink_point : (State.modBlink side f s).point = s.point := by
  unfold State.modBlink
  split <;> rfl
@[simp] theorem State.modBlink_web : (State.modBlink side f s).web = s.web := by
  unfold State.modBlink
  split <;> rfl
@[simp] theorem State.modBlink_lintel : (State.modBlink side f s).lintel = s.lintel := by
  unfold State.modBlink
  split <;> rfl
@[simp] theorem State.modBlink_quoin : (State.modBlink side f s).quoin = s.quoin := by
  unfold State.modBlink
  split <;> rfl
@[simp] theorem State.modBlink_ndeig : (State.modBlink side f s).ndeig = s.ndeig := by
  unfold State.modBlink
  split <;> rfl
@[simp] theorem State.modBlink_nodes : (State.modBlink side f s).nodes = s.nodes := by
  unfold State.modBlink
  split <;> rfl
@[simp] theorem State.modBlink_plumb : (State.modBlink side f s).plumb = s.plumb := by
  unfold State.modBlink
  split <;> rfl
@[simp] theorem State.modBlink_time : (State.modBlink side f s).time = s.time := by
  unfold State.modBlink
  split <;> rfl
@[simp] theorem State.modBlink_corbel : (State.modBlink side f s).corbel = s.corbel := by
  unfold State.modBlink
  split <;> rfl
@[simp] theorem State.modBlink_panel : (State.modBlink side f s).panel = s.panel := by
  unfold State.modBlink
  split <;> rfl
@[simp] theorem State.modBlink_coping : (State.modBlink side f s).coping = s.coping := by
  unfold State.modBlink
  split <;> rfl
@[simp] theorem State.modBlink_plinth : (State.modBlink side f s).plinth = s.plinth := by
  unfold State.modBlink
  split <;> rfl
@[simp] theorem State.modBlink_power : (State.modBlink side f s).power = s.power := by
  unfold State.modBlink
  split <;> rfl
@[simp] theorem State.modBlink_tie : (State.modBlink side f s).tie = s.tie := by
  unfold State.modBlink
  split <;> rfl
@[simp] theorem State.modBlink_freeCtr : (State.modBlink side f s).freeCtr = s.freeCtr := by
  unfold State.modBlink
  split <;> rfl
@[simp] theorem State.modBlink_out : (State.modBlink side f s).out = s.out := by
  unfold State.modBlink
  split <;> rfl
@[simp] theorem State.modBlink_pending : (State.modBlink side f s).pending = s.pending := by
  unfold State.modBlink
  split <;> rfl
end

section
variable (f : Butt → Butt) (s : State)
@[simp] theorem State.modButt_clock : (State.modButt f s).clock = s.clock := by
  unfold State.modButt; rfl
@[simp] theorem State.modButt_ident : (State.modButt f s).ident = s.ident := by
  unfold State.modButt; rfl
@[simp] theorem State.modButt_mbox : (State.modButt f s).mbox = s.mbox := by
  unfold State.modButt; rfl
@[simp] theorem State.modButt_ring : (State.modButt f s).ring = s.ring := by
  unfold State.modButt; rfl
@[simp] theorem State.modButt_cfg : (State.modButt f s).cfg = s.cfg := by
  unfold State.modButt; rfl
@[simp] theorem State.modButt_jobs : (State.modButt f s).jobs = s.jobs := by
  unfold State.modButt; rfl
@[simp] theorem State.modButt_acts : (State.modButt f s).acts = s.acts := by
  unfold State.modButt; rfl
@[simp] theorem State.modButt_fn0 : (State.modButt f s).fn0 = s.fn0 := by
  unfold State.modButt; rfl
@[simp] theorem State.modButt_fn1 : (State.modButt f s).fn1 = s.fn1 := by
  unfold State.modButt; rfl
@[simp] theorem State.modButt_store : (State.modButt f s).store = s.store := by
  unfold State.modButt; rfl
@[simp] theorem State.modButt_mortar : (State.modButt f s).mortar = s.mortar := by
  unfold State.modButt; rfl
@[simp] theorem State.modButt_tone : (State.modButt f s).tone = s.tone := by
  unfold State.modButt; rfl
@[simp] theorem State.modButt_point : (State.modButt f s).point = s.point := by
  unfold State.modButt; rfl
@[simp] theorem State.modButt_web : (State.modButt f s).web = s.web := by
  unfold State.modButt; rfl
@[simp] theorem State.modButt_lintel : (State.modButt f s).lintel = s.lintel := by
  unfold State.modButt; rfl
@[simp] theorem State.modButt_quoin : (State.modButt f s).quoin = s.quoin := by
  unfold State.modButt; rfl
@[simp] theorem State.modButt_ndeig : (State.modButt f s).ndeig = s.ndeig := by
  unfold State.modButt; rfl
@[simp] theorem State.modButt_nodes : (State.modButt f s).nodes = s.nodes := by
  unfold State.modButt; rfl
@[simp] theorem State.modButt_plumb : (State.modButt f s).plumb = s.plumb := by
  unfold State.modButt; rfl
@[simp] theorem State.modButt_time : (State.modButt f s).time = s.time := by
  unfold State.modButt; rfl
@[simp] theorem State.modButt_corbel : (State.modButt f s).corbel = s.corbel := by
  unfold State.modButt; rfl
@[simp] theorem State.modButt_panel : (State.modButt f s).panel = s.panel := by
  unfold State.modButt; rfl
@[simp] theorem State.modButt_coping : (State.modButt f s).coping = s.coping := by
  unfold State.modButt; rfl
@[simp] theorem State.modButt_plinth : (State.modButt f s).plinth = s.plinth := by
  unfold State.modButt; rfl
@[simp] theorem State.modButt_power : (State.modButt f s).power = s.power := by
  unfold State.modButt; rfl
@[simp] theorem State.modButt_tie : (State.modButt f s).tie = s.tie := by
  unfold State.modButt; rfl
@[simp] theorem State.modButt_freeCtr : (State.modButt f s).freeCtr = s.freeCtr := by
  unfold State.modButt; rfl
@[simp] theorem State.modButt_out : (State.modButt f s).out = s.out := by
  unfold State.modButt; rfl
@[simp] theorem State.modButt_pending : (State.modButt f s).pending = s.pending := by
  unfold State.modButt; rfl
end

section
variable (f : Coping → Coping) (s : State)
@[simp] theorem State.modCoping_clock : (State.modCoping f s).clock = s.clock := by
  unfold State.modCoping; rfl
@[simp] theorem State.modCoping_ident : (State.modCoping f s).ident = s.ident := by
  unfold State.modCoping; rfl
@[simp] theorem State.modCoping_mbox : (State.modCoping f s).mbox = s.mbox := by
  unfold State.modCoping; rfl
@[simp] theorem State.modCoping_ring : (State.modCoping f s).ring = s.ring := by
  unfold State.modCoping; rfl
@[simp] theorem State.modCoping_cfg : (State.modCoping f s).cfg = s.cfg := by
  unfold State.modCoping; rfl
@[simp] theorem State.modCoping_jobs : (State.modCoping f s).jobs = s.jobs := by
  unfold State.modCoping; rfl
@[simp] theorem State.modCoping_acts : (State.modCoping f s).acts = s.acts := by
  unfold State.modCoping; rfl
@[simp] theorem State.modCoping_fn0 : (State.modCoping f s).fn0 = s.fn0 := by
  unfold State.modCoping; rfl
@[simp] theorem State.modCoping_fn1 : (State.modCoping f s).fn1 = s.fn1 := by
  unfold State.modCoping; rfl
@[simp] theorem State.modCoping_store : (State.modCoping f s).store = s.store := by
  unfold State.modCoping; rfl
@[simp] theorem State.modCoping_mortar : (State.modCoping f s).mortar = s.mortar := by
  unfold State.modCoping; rfl
@[simp] theorem State.modCoping_tone : (State.modCoping f s).tone = s.tone := by
  unfold State.modCoping; rfl
@[simp] theorem State.modCoping_point : (State.modCoping f s).point = s.point := by
  unfold State.modCoping; rfl
@[simp] theorem State.modCoping_web : (State.modCoping f s).web = s.web := by
  unfold State.modCoping; rfl
@[simp] theorem State.modCoping_lintel : (State.modCoping f s).lintel = s.lintel := by
  unfold State.modCoping; rfl
@[simp] theorem State.modCoping_quoin : (State.modCoping f s).quoin = s.quoin := by
  unfold State.modCoping; rfl
@[simp] theorem State.modCoping_ndeig : (State.modCoping f s).ndeig = s.ndeig := by
  unfold State.modCoping; rfl
@[simp] theorem State.modCoping_nodes : (State.modCoping f s).nodes = s.nodes := by
  unfold State.modCoping; rfl
@[simp] theorem State.modCoping_plumb : (State.modCoping f s).plumb = s.plumb := by
  unfold State.modCoping; rfl
@[simp] theorem State.modCoping_butt : (State.modCoping f s).butt = s.butt := by
  unfold State.modCoping; rfl
@[simp] theorem State.modCoping_time : (State.modCoping f s).time = s.time := by
  unfold State.modCoping; rfl
@[simp] theorem State.modCoping_corbel : (State.modCoping f s).corbel = s.corbel := by
  unfold State.modCoping; rfl
@[simp] theorem State.modCoping_panel : (State.modCoping f s).panel = s.panel := by
  unfold State.modCoping; rfl
@[simp] theorem State.modCoping_plinth : (State.modCoping f s).plinth = s.plinth := by
  unfold State.modCoping; rfl
@[simp] theorem State.modCoping_power : (State.modCoping f s).power = s.power := by
  unfold State.modCoping; rfl
@[simp] theorem State.modCoping_tie : (State.modCoping f s).tie = s.tie := by
  unfold State.modCoping; rfl
@[simp] theorem State.modCoping_freeCtr : (State.modCoping f s).freeCtr = s.freeCtr := by
  unfold State.modCoping; rfl
@[simp] theorem State.modCoping_out : (State.modCoping f s).out = s.out := by
  unfold State.modCoping; rfl
@[simp] theorem State.modCoping_pending : (State.modCoping f s).pending = s.pending := by
  unfold State.modCoping; rfl
end

section
variable (f : Corbel → Corbel) (s : State)
@[simp] theorem State.modCorbel_clock : (State.modCorbel f s).clock = s.clock := by
  unfold State.modCorbel; rfl
@[simp] theorem State.modCorbel_ident : (State.modCorbel f s).ident = s.ident := by
  unfold State.modCorbel; rfl
@[simp] theorem State.modCorbel_mbox : (State.modCorbel f s).mbox = s.mbox := by
  unfold State.modCorbel; rfl
@[simp] theorem State.modCorbel_ring : (State.modCorbel f s).ring = s.ring := by
  unfold State.modCorbel; rfl
@[simp] theorem State.modCorbel_cfg : (State.modCorbel f s).cfg = s.cfg := by
  unfold State.modCorbel; rfl
@[simp] theorem State.modCorbel_jobs : (State.modCorbel f s).jobs = s.jobs := by
  unfold State.modCorbel; rfl
@[simp] theorem State.modCorbel_acts : (State.modCorbel f s).acts = s.acts := by
  unfold State.modCorbel; rfl
@[simp] theorem State.modCorbel_fn0 : (State.modCorbel f s).fn0 = s.fn0 := by
  unfold State.modCorbel; rfl
@[simp] theorem State.modCorbel_fn1 : (State.modCorbel f s).fn1 = s.fn1 := by
  unfold State.modCorbel; rfl
@[simp] theorem State.modCorbel_store : (State.modCorbel f s).store = s.store := by
  unfold State.modCorbel; rfl
@[simp] theorem State.modCorbel_mortar : (State.modCorbel f s).mortar = s.mortar := by
  unfold State.modCorbel; rfl
@[simp] theorem State.modCorbel_tone : (State.modCorbel f s).tone = s.tone := by
  unfold State.modCorbel; rfl
@[simp] theorem State.modCorbel_point : (State.modCorbel f s).point = s.point := by
  unfold State.modCorbel; rfl
@[simp] theorem State.modCorbel_web : (State.modCorbel f s).web = s.web := by
  unfold State.modCorbel; rfl
@[simp] theorem State.modCorbel_lintel : (State.modCorbel f s).lintel = s.lintel := by
  unfold State.modCorbel; rfl
@[simp] theorem State.modCorbel_quoin : (State.modCorbel f s).quoin = s.quoin := by
  unfold State.modCorbel; rfl
@[simp] theorem State.modCorbel_ndeig : (State.modCorbel f s).ndeig = s.ndeig := by
  unfold State.modCorbel; rfl
@[simp] theorem State.modCorbel_nodes : (State.modCorbel f s).nodes = s.nodes := by
  unfold State.modCorbel; rfl
@[simp] theorem State.modCorbel_plumb : (State.modCorbel f s).plumb = s.plumb := by
  unfold State.modCorbel; rfl
@[simp] theorem State.modCorbel_butt : (State.modCorbel f s).butt = s.butt := by
  unfold State.modCorbel; rfl
@[simp] theorem State.modCorbel_time : (State.modCorbel f s).time = s.time := by
  unfold State.modCorbel; rfl
@[simp] theorem State.modCorbel_panel : (State.modCorbel f s).panel = s.panel := by
  unfold State.modCorbel; rfl
@[simp] theorem State.modCorbel_coping : (State.modCorbel f s).coping = s.coping := by
  unfold State.modCorbel; rfl
@[simp] theorem State.modCorbel_plinth : (State.modCorbel f s).plinth = s.plinth := by
  unfold State.modCorbel; rfl
@[simp] theorem State.modCorbel_power : (State.modCorbel f s).power = s.power := by
  unfold State.modCorbel; rfl
@[simp] theorem State.modCorbel_tie : (State.modCorbel f s).tie = s.tie := by
  unfold State.modCorbel; rfl
@[simp] theorem State.modCorbel_freeCtr : (State.modCorbel f s).freeCtr = s.freeCtr := by
  unfold State.modCorbel; rfl
@[simp] theorem State.modCorbel_out : (State.modCorbel f s).out = s.out := by
  unfold State.modCorbel; rfl
@[simp] theorem State.modCorbel_pending : (State.modCorbel f s).pending = s.pending := by
  unfold State.modCorbel; rfl
end

section
variable (f : Lintel → Lintel) (s : State)
@[simp] theorem State.modLintel_clock : (State.modLintel f s).clock = s.clock := by
  unfold State.modLintel; rfl
@[simp] theorem State.modLintel_ident : (State.modLintel f s).ident = s.ident := by
  unfold State.modLintel; rfl
@[simp] theorem State.modLintel_mbox : (State.modLintel f s).mbox = s.mbox := by
  unfold State.modLintel; rfl
@[simp] theorem State.modLintel_ring : (State.modLintel f s).ring = s.ring := by
  unfold State.modLintel; rfl
@[simp] theorem State.modLintel_cfg : (State.modLintel f s).cfg = s.cfg := by
  unfold State.modLintel; rfl
@[simp] theorem State.modLintel_jobs : (State.modLintel f s).jobs = s.jobs := by
  unfold State.modLintel; rfl
@[simp] theorem State.modLintel_acts : (State.modLintel f s).acts = s.acts := by
  unfold State.modLintel; rfl
@[simp] theorem State.modLintel_fn0 : (State.modLintel f s).fn0 = s.fn0 := by
  unfold State.modLintel; rfl
@[simp] theorem State.modLintel_fn1 : (State.modLintel f s).fn1 = s.fn1 := by
  unfold State.modLintel; rfl
@[simp] theorem State.modLintel_store : (State.modLintel f s).store = s.store := by
  unfold State.modLintel; rfl
@[simp] theorem State.modLintel_mortar : (State.modLintel f s).mortar = s.mortar := by
  unfold State.modLintel; rfl
@[simp] theorem State.modLintel_tone : (State.modLintel f s).tone = s.tone := by
  unfold State.modLintel; rfl
@[simp] theorem State.modLintel_point : (State.modLintel f s).point = s.point := by
  unfold State.modLintel; rfl
@[simp] theorem State.modLintel_web : (State.modLintel f s).web = s.web := by
  unfold State.modLintel; rfl
@[simp] theorem State.modLintel_quoin : (State.modLintel f s).quoin = s.quoin := by
  unfold State.modLintel; rfl
@[simp] theorem State.modLintel_ndeig : (State.modLintel f s).ndeig = s.ndeig := by
  unfold State.modLintel; rfl
@[simp] theorem State.modLintel_nodes : (State.modLintel f s).nodes = s.nodes := by
  unfold State.modLintel; rfl
@[simp] theorem State.modLintel_plumb : (State.modLintel f s).plumb = s.plumb := by
  unfold State.modLintel; rfl
@[simp] theorem State.modLintel_butt : (State.modLintel f s).butt = s.butt := by
  unfold State.modLintel; rfl
@[simp] theorem State.modLintel_time : (State.modLintel f s).time = s.time := by
  unfold State.modLintel; rfl
@[simp] theorem State.modLintel_corbel : (State.modLintel f s).corbel = s.corbel := by
  unfold State.modLintel; rfl
@[simp] theorem State.modLintel_panel : (State.modLintel f s).panel = s.panel := by
  unfold State.modLintel; rfl
@[simp] theorem State.modLintel_coping : (State.modLintel f s).coping = s.coping := by
  unfold State.modLintel; rfl
@[simp] theorem State.modLintel_plinth : (State.modLintel f s).plinth = s.plinth := by
  unfold State.modLintel; rfl
@[simp] theorem State.modLintel_power : (State.modLintel f s).power = s.power := by
  unfold State.modLintel; rfl
@[simp] theorem State.modLintel_tie : (State.modLintel f s).tie = s.tie := by
  unfold State.modLintel; rfl
@[simp] theorem State.modLintel_freeCtr : (State.modLintel f s).freeCtr = s.freeCtr := by
  unfold State.modLintel; rfl
@[simp] theorem State.modLintel_out : (State.modLintel f s).out = s.out := by
  unfold State.modLintel; rfl
@[simp] theorem State.modLintel_pending : (State.modLintel f s).pending = s.pending := by
  unfold State.modLintel; rfl
end

section
variable (f c : Nat) (g : Dma → Dma) (s : State)
@[simp] theorem State.modCh_clock : (State.modCh f c g s).clock = s.clock := by
  unfold State.modCh State.setFn
  split <;> rfl
@[simp] theorem State.modCh_ident : (State.modCh f c g s).ident = s.ident := by
  unfold State.modCh State.setFn
  split <;> rfl
@[simp] theorem State.modCh_mbox : (State.modCh f c g s).mbox = s.mbox := by
  unfold State.modCh State.setFn
  split <;> rfl
@[simp] theorem State.modCh_ring : (State.modCh f c g s).ring = s.ring := by
  unfold State.modCh State.setFn
  split <;> rfl
@[simp] theorem State.modCh_cfg : (State.modCh f c g s).cfg = s.cfg := by
  unfold State.modCh State.setFn
  split <;> rfl
@[simp] theorem State.modCh_jobs : (State.modCh f c g s).jobs = s.jobs := by
  unfold State.modCh State.setFn
  split <;> rfl
@[simp] theorem State.modCh_acts : (State.modCh f c g s).acts = s.acts := by
  unfold State.modCh State.setFn
  split <;> rfl
@[simp] theorem State.modCh_store : (State.modCh f c g s).store = s.store := by
  unfold State.modCh State.setFn
  split <;> rfl
@[simp] theorem State.modCh_mortar : (State.modCh f c g s).mortar = s.mortar := by
  unfold State.modCh State.setFn
  split <;> rfl
@[simp] theorem State.modCh_tone : (State.modCh f c g s).tone = s.tone := by
  unfold State.modCh State.setFn
  split <;> rfl
@[simp] theorem State.modCh_point : (State.modCh f c g s).point = s.point := by
  unfold State.modCh State.setFn
  split <;> rfl
@[simp] theorem State.modCh_web : (State.modCh f c g s).web = s.web := by
  unfold State.modCh State.setFn
  split <;> rfl
@[simp] theorem State.modCh_lintel : (State.modCh f c g s).lintel = s.lintel := by
  unfold State.modCh State.setFn
  split <;> rfl
@[simp] theorem State.modCh_quoin : (State.modCh f c g s).quoin = s.quoin := by
  unfold State.modCh State.setFn
  split <;> rfl
@[simp] theorem State.modCh_ndeig : (State.modCh f c g s).ndeig = s.ndeig := by
  unfold State.modCh State.setFn
  split <;> rfl
@[simp] theorem State.modCh_nodes : (State.modCh f c g s).nodes = s.nodes := by
  unfold State.modCh State.setFn
  split <;> rfl
@[simp] theorem State.modCh_plumb : (State.modCh f c g s).plumb = s.plumb := by
  unfold State.modCh State.setFn
  split <;> rfl
@[simp] theorem State.modCh_butt : (State.modCh f c g s).butt = s.butt := by
  unfold State.modCh State.setFn
  split <;> rfl
@[simp] theorem State.modCh_time : (State.modCh f c g s).time = s.time := by
  unfold State.modCh State.setFn
  split <;> rfl
@[simp] theorem State.modCh_corbel : (State.modCh f c g s).corbel = s.corbel := by
  unfold State.modCh State.setFn
  split <;> rfl
@[simp] theorem State.modCh_panel : (State.modCh f c g s).panel = s.panel := by
  unfold State.modCh State.setFn
  split <;> rfl
@[simp] theorem State.modCh_coping : (State.modCh f c g s).coping = s.coping := by
  unfold State.modCh State.setFn
  split <;> rfl
@[simp] theorem State.modCh_plinth : (State.modCh f c g s).plinth = s.plinth := by
  unfold State.modCh State.setFn
  split <;> rfl
@[simp] theorem State.modCh_power : (State.modCh f c g s).power = s.power := by
  unfold State.modCh State.setFn
  split <;> rfl
@[simp] theorem State.modCh_tie : (State.modCh f c g s).tie = s.tie := by
  unfold State.modCh State.setFn
  split <;> rfl
@[simp] theorem State.modCh_freeCtr : (State.modCh f c g s).freeCtr = s.freeCtr := by
  unfold State.modCh State.setFn
  split <;> rfl
@[simp] theorem State.modCh_out : (State.modCh f c g s).out = s.out := by
  unfold State.modCh State.setFn
  split <;> rfl
@[simp] theorem State.modCh_pending : (State.modCh f c g s).pending = s.pending := by
  unfold State.modCh State.setFn
  split <;> rfl
end

section
variable (f : Hold → Hold) (s : State)
@[simp] theorem State.modHold_clock : (State.modHold f s).clock = s.clock := by
  unfold State.modHold; rfl
@[simp] theorem State.modHold_ident : (State.modHold f s).ident = s.ident := by
  unfold State.modHold; rfl
@[simp] theorem State.modHold_mbox : (State.modHold f s).mbox = s.mbox := by
  unfold State.modHold; rfl
@[simp] theorem State.modHold_ring : (State.modHold f s).ring = s.ring := by
  unfold State.modHold; rfl
@[simp] theorem State.modHold_cfg : (State.modHold f s).cfg = s.cfg := by
  unfold State.modHold; rfl
@[simp] theorem State.modHold_jobs : (State.modHold f s).jobs = s.jobs := by
  unfold State.modHold; rfl
@[simp] theorem State.modHold_acts : (State.modHold f s).acts = s.acts := by
  unfold State.modHold; rfl
@[simp] theorem State.modHold_fn0 : (State.modHold f s).fn0 = s.fn0 := by
  unfold State.modHold; rfl
@[simp] theorem State.modHold_fn1 : (State.modHold f s).fn1 = s.fn1 := by
  unfold State.modHold; rfl
@[simp] theorem State.modHold_store : (State.modHold f s).store = s.store := by
  unfold State.modHold; rfl
@[simp] theorem State.modHold_mortar : (State.modHold f s).mortar = s.mortar := by
  unfold State.modHold; rfl
@[simp] theorem State.modHold_tone : (State.modHold f s).tone = s.tone := by
  unfold State.modHold; rfl
@[simp] theorem State.modHold_point : (State.modHold f s).point = s.point := by
  unfold State.modHold; rfl
@[simp] theorem State.modHold_web : (State.modHold f s).web = s.web := by
  unfold State.modHold; rfl
@[simp] theorem State.modHold_quoin : (State.modHold f s).quoin = s.quoin := by
  unfold State.modHold; rfl
@[simp] theorem State.modHold_ndeig : (State.modHold f s).ndeig = s.ndeig := by
  unfold State.modHold; rfl
@[simp] theorem State.modHold_nodes : (State.modHold f s).nodes = s.nodes := by
  unfold State.modHold; rfl
@[simp] theorem State.modHold_plumb : (State.modHold f s).plumb = s.plumb := by
  unfold State.modHold; rfl
@[simp] theorem State.modHold_butt : (State.modHold f s).butt = s.butt := by
  unfold State.modHold; rfl
@[simp] theorem State.modHold_time : (State.modHold f s).time = s.time := by
  unfold State.modHold; rfl
@[simp] theorem State.modHold_corbel : (State.modHold f s).corbel = s.corbel := by
  unfold State.modHold; rfl
@[simp] theorem State.modHold_panel : (State.modHold f s).panel = s.panel := by
  unfold State.modHold; rfl
@[simp] theorem State.modHold_coping : (State.modHold f s).coping = s.coping := by
  unfold State.modHold; rfl
@[simp] theorem State.modHold_plinth : (State.modHold f s).plinth = s.plinth := by
  unfold State.modHold; rfl
@[simp] theorem State.modHold_power : (State.modHold f s).power = s.power := by
  unfold State.modHold; rfl
@[simp] theorem State.modHold_tie : (State.modHold f s).tie = s.tie := by
  unfold State.modHold; rfl
@[simp] theorem State.modHold_freeCtr : (State.modHold f s).freeCtr = s.freeCtr := by
  unfold State.modHold; rfl
@[simp] theorem State.modHold_out : (State.modHold f s).out = s.out := by
  unfold State.modHold; rfl
@[simp] theorem State.modHold_pending : (State.modHold f s).pending = s.pending := by
  unfold State.modHold; rfl
end

section
variable (j : Job) (s : State)
@[simp] theorem State.setJob_clock : (State.setJob j s).clock = s.clock := by
  unfold State.setJob; rfl
@[simp] theorem State.setJob_ident : (State.setJob j s).ident = s.ident := by
  unfold State.setJob; rfl
@[simp] theorem State.setJob_mbox : (State.setJob j s).mbox = s.mbox := by
  unfold State.setJob; rfl
@[simp] theorem State.setJob_ring : (State.setJob j s).ring = s.ring := by
  unfold State.setJob; rfl
@[simp] theorem State.setJob_cfg : (State.setJob j s).cfg = s.cfg := by
  unfold State.setJob; rfl
@[simp] theorem State.setJob_acts : (State.setJob j s).acts = s.acts := by
  unfold State.setJob; rfl
@[simp] theorem State.setJob_fn0 : (State.setJob j s).fn0 = s.fn0 := by
  unfold State.setJob; rfl
@[simp] theorem State.setJob_fn1 : (State.setJob j s).fn1 = s.fn1 := by
  unfold State.setJob; rfl
@[simp] theorem State.setJob_store : (State.setJob j s).store = s.store := by
  unfold State.setJob; rfl
@[simp] theorem State.setJob_mortar : (State.setJob j s).mortar = s.mortar := by
  unfold State.setJob; rfl
@[simp] theorem State.setJob_tone : (State.setJob j s).tone = s.tone := by
  unfold State.setJob; rfl
@[simp] theorem State.setJob_point : (State.setJob j s).point = s.point := by
  unfold State.setJob; rfl
@[simp] theorem State.setJob_web : (State.setJob j s).web = s.web := by
  unfold State.setJob; rfl
@[simp] theorem State.setJob_lintel : (State.setJob j s).lintel = s.lintel := by
  unfold State.setJob; rfl
@[simp] theorem State.setJob_quoin : (State.setJob j s).quoin = s.quoin := by
  unfold State.setJob; rfl
@[simp] theorem State.setJob_ndeig : (State.setJob j s).ndeig = s.ndeig := by
  unfold State.setJob; rfl
@[simp] theorem State.setJob_nodes : (State.setJob j s).nodes = s.nodes := by
  unfold State.setJob; rfl
@[simp] theorem State.setJob_plumb : (State.setJob j s).plumb = s.plumb := by
  unfold State.setJob; rfl
@[simp] theorem State.setJob_butt : (State.setJob j s).butt = s.butt := by
  unfold State.setJob; rfl
@[simp] theorem State.setJob_time : (State.setJob j s).time = s.time := by
  unfold State.setJob; rfl
@[simp] theorem State.setJob_corbel : (State.setJob j s).corbel = s.corbel := by
  unfold State.setJob; rfl
@[simp] theorem State.setJob_panel : (State.setJob j s).panel = s.panel := by
  unfold State.setJob; rfl
@[simp] theorem State.setJob_coping : (State.setJob j s).coping = s.coping := by
  unfold State.setJob; rfl
@[simp] theorem State.setJob_plinth : (State.setJob j s).plinth = s.plinth := by
  unfold State.setJob; rfl
@[simp] theorem State.setJob_power : (State.setJob j s).power = s.power := by
  unfold State.setJob; rfl
@[simp] theorem State.setJob_tie : (State.setJob j s).tie = s.tie := by
  unfold State.setJob; rfl
@[simp] theorem State.setJob_freeCtr : (State.setJob j s).freeCtr = s.freeCtr := by
  unfold State.setJob; rfl
@[simp] theorem State.setJob_out : (State.setJob j s).out = s.out := by
  unfold State.setJob; rfl
@[simp] theorem State.setJob_pending : (State.setJob j s).pending = s.pending := by
  unfold State.setJob; rfl
end

section
variable (c : Nat) (f : Chan → Chan) (s : State)
@[simp] theorem State.modChan_clock : (State.modChan c f s).clock = s.clock := by
  unfold State.modChan; rfl
@[simp] theorem State.modChan_ident : (State.modChan c f s).ident = s.ident := by
  unfold State.modChan; rfl
@[simp] theorem State.modChan_ring : (State.modChan c f s).ring = s.ring := by
  unfold State.modChan; rfl
@[simp] theorem State.modChan_cfg : (State.modChan c f s).cfg = s.cfg := by
  unfold State.modChan; rfl
@[simp] theorem State.modChan_jobs : (State.modChan c f s).jobs = s.jobs := by
  unfold State.modChan; rfl
@[simp] theorem State.modChan_acts : (State.modChan c f s).acts = s.acts := by
  unfold State.modChan; rfl
@[simp] theorem State.modChan_fn0 : (State.modChan c f s).fn0 = s.fn0 := by
  unfold State.modChan; rfl
@[simp] theorem State.modChan_fn1 : (State.modChan c f s).fn1 = s.fn1 := by
  unfold State.modChan; rfl
@[simp] theorem State.modChan_store : (State.modChan c f s).store = s.store := by
  unfold State.modChan; rfl
@[simp] theorem State.modChan_mortar : (State.modChan c f s).mortar = s.mortar := by
  unfold State.modChan; rfl
@[simp] theorem State.modChan_tone : (State.modChan c f s).tone = s.tone := by
  unfold State.modChan; rfl
@[simp] theorem State.modChan_point : (State.modChan c f s).point = s.point := by
  unfold State.modChan; rfl
@[simp] theorem State.modChan_web : (State.modChan c f s).web = s.web := by
  unfold State.modChan; rfl
@[simp] theorem State.modChan_lintel : (State.modChan c f s).lintel = s.lintel := by
  unfold State.modChan; rfl
@[simp] theorem State.modChan_quoin : (State.modChan c f s).quoin = s.quoin := by
  unfold State.modChan; rfl
@[simp] theorem State.modChan_ndeig : (State.modChan c f s).ndeig = s.ndeig := by
  unfold State.modChan; rfl
@[simp] theorem State.modChan_nodes : (State.modChan c f s).nodes = s.nodes := by
  unfold State.modChan; rfl
@[simp] theorem State.modChan_plumb : (State.modChan c f s).plumb = s.plumb := by
  unfold State.modChan; rfl
@[simp] theorem State.modChan_butt : (State.modChan c f s).butt = s.butt := by
  unfold State.modChan; rfl
@[simp] theorem State.modChan_time : (State.modChan c f s).time = s.time := by
  unfold State.modChan; rfl
@[simp] theorem State.modChan_corbel : (State.modChan c f s).corbel = s.corbel := by
  unfold State.modChan; rfl
@[simp] theorem State.modChan_panel : (State.modChan c f s).panel = s.panel := by
  unfold State.modChan; rfl
@[simp] theorem State.modChan_coping : (State.modChan c f s).coping = s.coping := by
  unfold State.modChan; rfl
@[simp] theorem State.modChan_plinth : (State.modChan c f s).plinth = s.plinth := by
  unfold State.modChan; rfl
@[simp] theorem State.modChan_power : (State.modChan c f s).power = s.power := by
  unfold State.modChan; rfl
@[simp] theorem State.modChan_tie : (State.modChan c f s).tie = s.tie := by
  unfold State.modChan; rfl
@[simp] theorem State.modChan_freeCtr : (State.modChan c f s).freeCtr = s.freeCtr := by
  unfold State.modChan; rfl
@[simp] theorem State.modChan_out : (State.modChan c f s).out = s.out := by
  unfold State.modChan; rfl
@[simp] theorem State.modChan_pending : (State.modChan c f s).pending = s.pending := by
  unfold State.modChan; rfl
end

section
variable (l : Nat) (f : Lane → Lane) (s : State)
@[simp] theorem State.modLane_clock : (State.modLane l f s).clock = s.clock := by
  unfold State.modLane; rfl
@[simp] theorem State.modLane_ident : (State.modLane l f s).ident = s.ident := by
  unfold State.modLane; rfl
@[simp] theorem State.modLane_mbox : (State.modLane l f s).mbox = s.mbox := by
  unfold State.modLane; rfl
@[simp] theorem State.modLane_ring : (State.modLane l f s).ring = s.ring := by
  unfold State.modLane; rfl
@[simp] theorem State.modLane_cfg : (State.modLane l f s).cfg = s.cfg := by
  unfold State.modLane; rfl
@[simp] theorem State.modLane_jobs : (State.modLane l f s).jobs = s.jobs := by
  unfold State.modLane; rfl
@[simp] theorem State.modLane_acts : (State.modLane l f s).acts = s.acts := by
  unfold State.modLane; rfl
@[simp] theorem State.modLane_fn0 : (State.modLane l f s).fn0 = s.fn0 := by
  unfold State.modLane; rfl
@[simp] theorem State.modLane_fn1 : (State.modLane l f s).fn1 = s.fn1 := by
  unfold State.modLane; rfl
@[simp] theorem State.modLane_store : (State.modLane l f s).store = s.store := by
  unfold State.modLane; rfl
@[simp] theorem State.modLane_mortar : (State.modLane l f s).mortar = s.mortar := by
  unfold State.modLane; rfl
@[simp] theorem State.modLane_tone : (State.modLane l f s).tone = s.tone := by
  unfold State.modLane; rfl
@[simp] theorem State.modLane_point : (State.modLane l f s).point = s.point := by
  unfold State.modLane; rfl
@[simp] theorem State.modLane_web : (State.modLane l f s).web = s.web := by
  unfold State.modLane; rfl
@[simp] theorem State.modLane_lintel : (State.modLane l f s).lintel = s.lintel := by
  unfold State.modLane; rfl
@[simp] theorem State.modLane_quoin : (State.modLane l f s).quoin = s.quoin := by
  unfold State.modLane; rfl
@[simp] theorem State.modLane_nodes : (State.modLane l f s).nodes = s.nodes := by
  unfold State.modLane; rfl
@[simp] theorem State.modLane_plumb : (State.modLane l f s).plumb = s.plumb := by
  unfold State.modLane; rfl
@[simp] theorem State.modLane_butt : (State.modLane l f s).butt = s.butt := by
  unfold State.modLane; rfl
@[simp] theorem State.modLane_time : (State.modLane l f s).time = s.time := by
  unfold State.modLane; rfl
@[simp] theorem State.modLane_corbel : (State.modLane l f s).corbel = s.corbel := by
  unfold State.modLane; rfl
@[simp] theorem State.modLane_panel : (State.modLane l f s).panel = s.panel := by
  unfold State.modLane; rfl
@[simp] theorem State.modLane_coping : (State.modLane l f s).coping = s.coping := by
  unfold State.modLane; rfl
@[simp] theorem State.modLane_plinth : (State.modLane l f s).plinth = s.plinth := by
  unfold State.modLane; rfl
@[simp] theorem State.modLane_power : (State.modLane l f s).power = s.power := by
  unfold State.modLane; rfl
@[simp] theorem State.modLane_tie : (State.modLane l f s).tie = s.tie := by
  unfold State.modLane; rfl
@[simp] theorem State.modLane_freeCtr : (State.modLane l f s).freeCtr = s.freeCtr := by
  unfold State.modLane; rfl
@[simp] theorem State.modLane_out : (State.modLane l f s).out = s.out := by
  unfold State.modLane; rfl
@[simp] theorem State.modLane_pending : (State.modLane l f s).pending = s.pending := by
  unfold State.modLane; rfl
end

section
variable (x : Lease) (s : State)
@[simp] theorem State.setLease_clock : (State.setLease x s).clock = s.clock := by
  unfold State.setLease; rfl
@[simp] theorem State.setLease_ident : (State.setLease x s).ident = s.ident := by
  unfold State.setLease; rfl
@[simp] theorem State.setLease_mbox : (State.setLease x s).mbox = s.mbox := by
  unfold State.setLease; rfl
@[simp] theorem State.setLease_ring : (State.setLease x s).ring = s.ring := by
  unfold State.setLease; rfl
@[simp] theorem State.setLease_cfg : (State.setLease x s).cfg = s.cfg := by
  unfold State.setLease; rfl
@[simp] theorem State.setLease_jobs : (State.setLease x s).jobs = s.jobs := by
  unfold State.setLease; rfl
@[simp] theorem State.setLease_acts : (State.setLease x s).acts = s.acts := by
  unfold State.setLease; rfl
@[simp] theorem State.setLease_fn0 : (State.setLease x s).fn0 = s.fn0 := by
  unfold State.setLease; rfl
@[simp] theorem State.setLease_fn1 : (State.setLease x s).fn1 = s.fn1 := by
  unfold State.setLease; rfl
@[simp] theorem State.setLease_store : (State.setLease x s).store = s.store := by
  unfold State.setLease; rfl
@[simp] theorem State.setLease_mortar : (State.setLease x s).mortar = s.mortar := by
  unfold State.setLease; rfl
@[simp] theorem State.setLease_tone : (State.setLease x s).tone = s.tone := by
  unfold State.setLease; rfl
@[simp] theorem State.setLease_point : (State.setLease x s).point = s.point := by
  unfold State.setLease; rfl
@[simp] theorem State.setLease_web : (State.setLease x s).web = s.web := by
  unfold State.setLease; rfl
@[simp] theorem State.setLease_lintel : (State.setLease x s).lintel = s.lintel := by
  unfold State.setLease; rfl
@[simp] theorem State.setLease_quoin : (State.setLease x s).quoin = s.quoin := by
  unfold State.setLease; rfl
@[simp] theorem State.setLease_nodes : (State.setLease x s).nodes = s.nodes := by
  unfold State.setLease; rfl
@[simp] theorem State.setLease_plumb : (State.setLease x s).plumb = s.plumb := by
  unfold State.setLease; rfl
@[simp] theorem State.setLease_butt : (State.setLease x s).butt = s.butt := by
  unfold State.setLease; rfl
@[simp] theorem State.setLease_time : (State.setLease x s).time = s.time := by
  unfold State.setLease; rfl
@[simp] theorem State.setLease_corbel : (State.setLease x s).corbel = s.corbel := by
  unfold State.setLease; rfl
@[simp] theorem State.setLease_panel : (State.setLease x s).panel = s.panel := by
  unfold State.setLease; rfl
@[simp] theorem State.setLease_coping : (State.setLease x s).coping = s.coping := by
  unfold State.setLease; rfl
@[simp] theorem State.setLease_plinth : (State.setLease x s).plinth = s.plinth := by
  unfold State.setLease; rfl
@[simp] theorem State.setLease_power : (State.setLease x s).power = s.power := by
  unfold State.setLease; rfl
@[simp] theorem State.setLease_tie : (State.setLease x s).tie = s.tie := by
  unfold State.setLease; rfl
@[simp] theorem State.setLease_freeCtr : (State.setLease x s).freeCtr = s.freeCtr := by
  unfold State.setLease; rfl
@[simp] theorem State.setLease_out : (State.setLease x s).out = s.out := by
  unfold State.setLease; rfl
@[simp] theorem State.setLease_pending : (State.setLease x s).pending = s.pending := by
  unfold State.setLease; rfl
end

section
variable (n : Node) (s : State)
@[simp] theorem State.setNode_clock : (State.setNode n s).clock = s.clock := by
  unfold State.setNode; rfl
@[simp] theorem State.setNode_ident : (State.setNode n s).ident = s.ident := by
  unfold State.setNode; rfl
@[simp] theorem State.setNode_mbox : (State.setNode n s).mbox = s.mbox := by
  unfold State.setNode; rfl
@[simp] theorem State.setNode_ring : (State.setNode n s).ring = s.ring := by
  unfold State.setNode; rfl
@[simp] theorem State.setNode_cfg : (State.setNode n s).cfg = s.cfg := by
  unfold State.setNode; rfl
@[simp] theorem State.setNode_jobs : (State.setNode n s).jobs = s.jobs := by
  unfold State.setNode; rfl
@[simp] theorem State.setNode_acts : (State.setNode n s).acts = s.acts := by
  unfold State.setNode; rfl
@[simp] theorem State.setNode_fn0 : (State.setNode n s).fn0 = s.fn0 := by
  unfold State.setNode; rfl
@[simp] theorem State.setNode_fn1 : (State.setNode n s).fn1 = s.fn1 := by
  unfold State.setNode; rfl
@[simp] theorem State.setNode_store : (State.setNode n s).store = s.store := by
  unfold State.setNode; rfl
@[simp] theorem State.setNode_mortar : (State.setNode n s).mortar = s.mortar := by
  unfold State.setNode; rfl
@[simp] theorem State.setNode_tone : (State.setNode n s).tone = s.tone := by
  unfold State.setNode; rfl
@[simp] theorem State.setNode_point : (State.setNode n s).point = s.point := by
  unfold State.setNode; rfl
@[simp] theorem State.setNode_web : (State.setNode n s).web = s.web := by
  unfold State.setNode; rfl
@[simp] theorem State.setNode_lintel : (State.setNode n s).lintel = s.lintel := by
  unfold State.setNode; rfl
@[simp] theorem State.setNode_quoin : (State.setNode n s).quoin = s.quoin := by
  unfold State.setNode; rfl
@[simp] theorem State.setNode_ndeig : (State.setNode n s).ndeig = s.ndeig := by
  unfold State.setNode; rfl
@[simp] theorem State.setNode_plumb : (State.setNode n s).plumb = s.plumb := by
  unfold State.setNode; rfl
@[simp] theorem State.setNode_butt : (State.setNode n s).butt = s.butt := by
  unfold State.setNode; rfl
@[simp] theorem State.setNode_time : (State.setNode n s).time = s.time := by
  unfold State.setNode; rfl
@[simp] theorem State.setNode_corbel : (State.setNode n s).corbel = s.corbel := by
  unfold State.setNode; rfl
@[simp] theorem State.setNode_panel : (State.setNode n s).panel = s.panel := by
  unfold State.setNode; rfl
@[simp] theorem State.setNode_coping : (State.setNode n s).coping = s.coping := by
  unfold State.setNode; rfl
@[simp] theorem State.setNode_plinth : (State.setNode n s).plinth = s.plinth := by
  unfold State.setNode; rfl
@[simp] theorem State.setNode_power : (State.setNode n s).power = s.power := by
  unfold State.setNode; rfl
@[simp] theorem State.setNode_tie : (State.setNode n s).tie = s.tie := by
  unfold State.setNode; rfl
@[simp] theorem State.setNode_freeCtr : (State.setNode n s).freeCtr = s.freeCtr := by
  unfold State.setNode; rfl
@[simp] theorem State.setNode_out : (State.setNode n s).out = s.out := by
  unfold State.setNode; rfl
@[simp] theorem State.setNode_pending : (State.setNode n s).pending = s.pending := by
  unfold State.setNode; rfl
end

section
variable (k : Nat) (x : Fn) (s : State)
@[simp] theorem State.setFn_clock : (State.setFn k x s).clock = s.clock := by
  unfold State.setFn
  split <;> rfl
@[simp] theorem State.setFn_ident : (State.setFn k x s).ident = s.ident := by
  unfold State.setFn
  split <;> rfl
@[simp] theorem State.setFn_mbox : (State.setFn k x s).mbox = s.mbox := by
  unfold State.setFn
  split <;> rfl
@[simp] theorem State.setFn_ring : (State.setFn k x s).ring = s.ring := by
  unfold State.setFn
  split <;> rfl
@[simp] theorem State.setFn_cfg : (State.setFn k x s).cfg = s.cfg := by
  unfold State.setFn
  split <;> rfl
@[simp] theorem State.setFn_jobs : (State.setFn k x s).jobs = s.jobs := by
  unfold State.setFn
  split <;> rfl
@[simp] theorem State.setFn_acts : (State.setFn k x s).acts = s.acts := by
  unfold State.setFn
  split <;> rfl
@[simp] theorem State.setFn_store : (State.setFn k x s).store = s.store := by
  unfold State.setFn
  split <;> rfl
@[simp] theorem State.setFn_mortar : (State.setFn k x s).mortar = s.mortar := by
  unfold State.setFn
  split <;> rfl
@[simp] theorem State.setFn_tone : (State.setFn k x s).tone = s.tone := by
  unfold State.setFn
  split <;> rfl
@[simp] theorem State.setFn_point : (State.setFn k x s).point = s.point := by
  unfold State.setFn
  split <;> rfl
@[simp] theorem State.setFn_web : (State.setFn k x s).web = s.web := by
  unfold State.setFn
  split <;> rfl
@[simp] theorem State.setFn_lintel : (State.setFn k x s).lintel = s.lintel := by
  unfold State.setFn
  split <;> rfl
@[simp] theorem State.setFn_quoin : (State.setFn k x s).quoin = s.quoin := by
  unfold State.setFn
  split <;> rfl
@[simp] theorem State.setFn_ndeig : (State.setFn k x s).ndeig = s.ndeig := by
  unfold State.setFn
  split <;> rfl
@[simp] theorem State.setFn_nodes : (State.setFn k x s).nodes = s.nodes := by
  unfold State.setFn
  split <;> rfl
@[simp] theorem State.setFn_plumb : (State.setFn k x s).plumb = s.plumb := by
  unfold State.setFn
  split <;> rfl
@[simp] theorem State.setFn_butt : (State.setFn k x s).butt = s.butt := by
  unfold State.setFn
  split <;> rfl
@[simp] theorem State.setFn_time : (State.setFn k x s).time = s.time := by
  unfold State.setFn
  split <;> rfl
@[simp] theorem State.setFn_corbel : (State.setFn k x s).corbel = s.corbel := by
  unfold State.setFn
  split <;> rfl
@[simp] theorem State.setFn_panel : (State.setFn k x s).panel = s.panel := by
  unfold State.setFn
  split <;> rfl
@[simp] theorem State.setFn_coping : (State.setFn k x s).coping = s.coping := by
  unfold State.setFn
  split <;> rfl
@[simp] theorem State.setFn_plinth : (State.setFn k x s).plinth = s.plinth := by
  unfold State.setFn
  split <;> rfl
@[simp] theorem State.setFn_power : (State.setFn k x s).power = s.power := by
  unfold State.setFn
  split <;> rfl
@[simp] theorem State.setFn_tie : (State.setFn k x s).tie = s.tie := by
  unfold State.setFn
  split <;> rfl
@[simp] theorem State.setFn_freeCtr : (State.setFn k x s).freeCtr = s.freeCtr := by
  unfold State.setFn
  split <;> rfl
@[simp] theorem State.setFn_out : (State.setFn k x s).out = s.out := by
  unfold State.setFn
  split <;> rfl
@[simp] theorem State.setFn_pending : (State.setFn k x s).pending = s.pending := by
  unfold State.setFn
  split <;> rfl
end

section
variable (f : Plumb → Plumb) (s : State)
@[simp] theorem State.modPlumb_clock : (State.modPlumb f s).clock = s.clock := by
  unfold State.modPlumb; rfl
@[simp] theorem State.modPlumb_ident : (State.modPlumb f s).ident = s.ident := by
  unfold State.modPlumb; rfl
@[simp] theorem State.modPlumb_mbox : (State.modPlumb f s).mbox = s.mbox := by
  unfold State.modPlumb; rfl
@[simp] theorem State.modPlumb_ring : (State.modPlumb f s).ring = s.ring := by
  unfold State.modPlumb; rfl
@[simp] theorem State.modPlumb_cfg : (State.modPlumb f s).cfg = s.cfg := by
  unfold State.modPlumb; rfl
@[simp] theorem State.modPlumb_jobs : (State.modPlumb f s).jobs = s.jobs := by
  unfold State.modPlumb; rfl
@[simp] theorem State.modPlumb_acts : (State.modPlumb f s).acts = s.acts := by
  unfold State.modPlumb; rfl
@[simp] theorem State.modPlumb_fn0 : (State.modPlumb f s).fn0 = s.fn0 := by
  unfold State.modPlumb; rfl
@[simp] theorem State.modPlumb_fn1 : (State.modPlumb f s).fn1 = s.fn1 := by
  unfold State.modPlumb; rfl
@[simp] theorem State.modPlumb_store : (State.modPlumb f s).store = s.store := by
  unfold State.modPlumb; rfl
@[simp] theorem State.modPlumb_mortar : (State.modPlumb f s).mortar = s.mortar := by
  unfold State.modPlumb; rfl
@[simp] theorem State.modPlumb_tone : (State.modPlumb f s).tone = s.tone := by
  unfold State.modPlumb; rfl
@[simp] theorem State.modPlumb_point : (State.modPlumb f s).point = s.point := by
  unfold State.modPlumb; rfl
@[simp] theorem State.modPlumb_web : (State.modPlumb f s).web = s.web := by
  unfold State.modPlumb; rfl
@[simp] theorem State.modPlumb_lintel : (State.modPlumb f s).lintel = s.lintel := by
  unfold State.modPlumb; rfl
@[simp] theorem State.modPlumb_quoin : (State.modPlumb f s).quoin = s.quoin := by
  unfold State.modPlumb; rfl
@[simp] theorem State.modPlumb_ndeig : (State.modPlumb f s).ndeig = s.ndeig := by
  unfold State.modPlumb; rfl
@[simp] theorem State.modPlumb_nodes : (State.modPlumb f s).nodes = s.nodes := by
  unfold State.modPlumb; rfl
@[simp] theorem State.modPlumb_butt : (State.modPlumb f s).butt = s.butt := by
  unfold State.modPlumb; rfl
@[simp] theorem State.modPlumb_time : (State.modPlumb f s).time = s.time := by
  unfold State.modPlumb; rfl
@[simp] theorem State.modPlumb_corbel : (State.modPlumb f s).corbel = s.corbel := by
  unfold State.modPlumb; rfl
@[simp] theorem State.modPlumb_panel : (State.modPlumb f s).panel = s.panel := by
  unfold State.modPlumb; rfl
@[simp] theorem State.modPlumb_coping : (State.modPlumb f s).coping = s.coping := by
  unfold State.modPlumb; rfl
@[simp] theorem State.modPlumb_plinth : (State.modPlumb f s).plinth = s.plinth := by
  unfold State.modPlumb; rfl
@[simp] theorem State.modPlumb_power : (State.modPlumb f s).power = s.power := by
  unfold State.modPlumb; rfl
@[simp] theorem State.modPlumb_tie : (State.modPlumb f s).tie = s.tie := by
  unfold State.modPlumb; rfl
@[simp] theorem State.modPlumb_freeCtr : (State.modPlumb f s).freeCtr = s.freeCtr := by
  unfold State.modPlumb; rfl
@[simp] theorem State.modPlumb_out : (State.modPlumb f s).out = s.out := by
  unfold State.modPlumb; rfl
@[simp] theorem State.modPlumb_pending : (State.modPlumb f s).pending = s.pending := by
  unfold State.modPlumb; rfl
end

section
variable (f : Power → Power) (s : State)
@[simp] theorem State.modPower_clock : (State.modPower f s).clock = s.clock := by
  unfold State.modPower; rfl
@[simp] theorem State.modPower_ident : (State.modPower f s).ident = s.ident := by
  unfold State.modPower; rfl
@[simp] theorem State.modPower_mbox : (State.modPower f s).mbox = s.mbox := by
  unfold State.modPower; rfl
@[simp] theorem State.modPower_ring : (State.modPower f s).ring = s.ring := by
  unfold State.modPower; rfl
@[simp] theorem State.modPower_cfg : (State.modPower f s).cfg = s.cfg := by
  unfold State.modPower; rfl
@[simp] theorem State.modPower_jobs : (State.modPower f s).jobs = s.jobs := by
  unfold State.modPower; rfl
@[simp] theorem State.modPower_acts : (State.modPower f s).acts = s.acts := by
  unfold State.modPower; rfl
@[simp] theorem State.modPower_fn0 : (State.modPower f s).fn0 = s.fn0 := by
  unfold State.modPower; rfl
@[simp] theorem State.modPower_fn1 : (State.modPower f s).fn1 = s.fn1 := by
  unfold State.modPower; rfl
@[simp] theorem State.modPower_store : (State.modPower f s).store = s.store := by
  unfold State.modPower; rfl
@[simp] theorem State.modPower_mortar : (State.modPower f s).mortar = s.mortar := by
  unfold State.modPower; rfl
@[simp] theorem State.modPower_tone : (State.modPower f s).tone = s.tone := by
  unfold State.modPower; rfl
@[simp] theorem State.modPower_point : (State.modPower f s).point = s.point := by
  unfold State.modPower; rfl
@[simp] theorem State.modPower_web : (State.modPower f s).web = s.web := by
  unfold State.modPower; rfl
@[simp] theorem State.modPower_lintel : (State.modPower f s).lintel = s.lintel := by
  unfold State.modPower; rfl
@[simp] theorem State.modPower_quoin : (State.modPower f s).quoin = s.quoin := by
  unfold State.modPower; rfl
@[simp] theorem State.modPower_ndeig : (State.modPower f s).ndeig = s.ndeig := by
  unfold State.modPower; rfl
@[simp] theorem State.modPower_nodes : (State.modPower f s).nodes = s.nodes := by
  unfold State.modPower; rfl
@[simp] theorem State.modPower_plumb : (State.modPower f s).plumb = s.plumb := by
  unfold State.modPower; rfl
@[simp] theorem State.modPower_butt : (State.modPower f s).butt = s.butt := by
  unfold State.modPower; rfl
@[simp] theorem State.modPower_time : (State.modPower f s).time = s.time := by
  unfold State.modPower; rfl
@[simp] theorem State.modPower_corbel : (State.modPower f s).corbel = s.corbel := by
  unfold State.modPower; rfl
@[simp] theorem State.modPower_panel : (State.modPower f s).panel = s.panel := by
  unfold State.modPower; rfl
@[simp] theorem State.modPower_coping : (State.modPower f s).coping = s.coping := by
  unfold State.modPower; rfl
@[simp] theorem State.modPower_plinth : (State.modPower f s).plinth = s.plinth := by
  unfold State.modPower; rfl
@[simp] theorem State.modPower_tie : (State.modPower f s).tie = s.tie := by
  unfold State.modPower; rfl
@[simp] theorem State.modPower_freeCtr : (State.modPower f s).freeCtr = s.freeCtr := by
  unfold State.modPower; rfl
@[simp] theorem State.modPower_out : (State.modPower f s).out = s.out := by
  unfold State.modPower; rfl
@[simp] theorem State.modPower_pending : (State.modPower f s).pending = s.pending := by
  unfold State.modPower; rfl
end

section
variable (f : Plinth → Plinth) (s : State)
@[simp] theorem State.modPlinth_clock : (State.modPlinth f s).clock = s.clock := by
  unfold State.modPlinth; rfl
@[simp] theorem State.modPlinth_ident : (State.modPlinth f s).ident = s.ident := by
  unfold State.modPlinth; rfl
@[simp] theorem State.modPlinth_mbox : (State.modPlinth f s).mbox = s.mbox := by
  unfold State.modPlinth; rfl
@[simp] theorem State.modPlinth_ring : (State.modPlinth f s).ring = s.ring := by
  unfold State.modPlinth; rfl
@[simp] theorem State.modPlinth_cfg : (State.modPlinth f s).cfg = s.cfg := by
  unfold State.modPlinth; rfl
@[simp] theorem State.modPlinth_jobs : (State.modPlinth f s).jobs = s.jobs := by
  unfold State.modPlinth; rfl
@[simp] theorem State.modPlinth_acts : (State.modPlinth f s).acts = s.acts := by
  unfold State.modPlinth; rfl
@[simp] theorem State.modPlinth_fn0 : (State.modPlinth f s).fn0 = s.fn0 := by
  unfold State.modPlinth; rfl
@[simp] theorem State.modPlinth_fn1 : (State.modPlinth f s).fn1 = s.fn1 := by
  unfold State.modPlinth; rfl
@[simp] theorem State.modPlinth_store : (State.modPlinth f s).store = s.store := by
  unfold State.modPlinth; rfl
@[simp] theorem State.modPlinth_mortar : (State.modPlinth f s).mortar = s.mortar := by
  unfold State.modPlinth; rfl
@[simp] theorem State.modPlinth_tone : (State.modPlinth f s).tone = s.tone := by
  unfold State.modPlinth; rfl
@[simp] theorem State.modPlinth_point : (State.modPlinth f s).point = s.point := by
  unfold State.modPlinth; rfl
@[simp] theorem State.modPlinth_web : (State.modPlinth f s).web = s.web := by
  unfold State.modPlinth; rfl
@[simp] theorem State.modPlinth_lintel : (State.modPlinth f s).lintel = s.lintel := by
  unfold State.modPlinth; rfl
@[simp] theorem State.modPlinth_quoin : (State.modPlinth f s).quoin = s.quoin := by
  unfold State.modPlinth; rfl
@[simp] theorem State.modPlinth_ndeig : (State.modPlinth f s).ndeig = s.ndeig := by
  unfold State.modPlinth; rfl
@[simp] theorem State.modPlinth_nodes : (State.modPlinth f s).nodes = s.nodes := by
  unfold State.modPlinth; rfl
@[simp] theorem State.modPlinth_plumb : (State.modPlinth f s).plumb = s.plumb := by
  unfold State.modPlinth; rfl
@[simp] theorem State.modPlinth_butt : (State.modPlinth f s).butt = s.butt := by
  unfold State.modPlinth; rfl
@[simp] theorem State.modPlinth_time : (State.modPlinth f s).time = s.time := by
  unfold State.modPlinth; rfl
@[simp] theorem State.modPlinth_corbel : (State.modPlinth f s).corbel = s.corbel := by
  unfold State.modPlinth; rfl
@[simp] theorem State.modPlinth_panel : (State.modPlinth f s).panel = s.panel := by
  unfold State.modPlinth; rfl
@[simp] theorem State.modPlinth_coping : (State.modPlinth f s).coping = s.coping := by
  unfold State.modPlinth; rfl
@[simp] theorem State.modPlinth_power : (State.modPlinth f s).power = s.power := by
  unfold State.modPlinth; rfl
@[simp] theorem State.modPlinth_tie : (State.modPlinth f s).tie = s.tie := by
  unfold State.modPlinth; rfl
@[simp] theorem State.modPlinth_freeCtr : (State.modPlinth f s).freeCtr = s.freeCtr := by
  unfold State.modPlinth; rfl
@[simp] theorem State.modPlinth_out : (State.modPlinth f s).out = s.out := by
  unfold State.modPlinth; rfl
@[simp] theorem State.modPlinth_pending : (State.modPlinth f s).pending = s.pending := by
  unfold State.modPlinth; rfl
end

section
variable (f : Mortar → Mortar) (s : State)
@[simp] theorem State.modMortar_clock : (State.modMortar f s).clock = s.clock := by
  unfold State.modMortar; rfl
@[simp] theorem State.modMortar_ident : (State.modMortar f s).ident = s.ident := by
  unfold State.modMortar; rfl
@[simp] theorem State.modMortar_mbox : (State.modMortar f s).mbox = s.mbox := by
  unfold State.modMortar; rfl
@[simp] theorem State.modMortar_ring : (State.modMortar f s).ring = s.ring := by
  unfold State.modMortar; rfl
@[simp] theorem State.modMortar_cfg : (State.modMortar f s).cfg = s.cfg := by
  unfold State.modMortar; rfl
@[simp] theorem State.modMortar_jobs : (State.modMortar f s).jobs = s.jobs := by
  unfold State.modMortar; rfl
@[simp] theorem State.modMortar_acts : (State.modMortar f s).acts = s.acts := by
  unfold State.modMortar; rfl
@[simp] theorem State.modMortar_fn0 : (State.modMortar f s).fn0 = s.fn0 := by
  unfold State.modMortar; rfl
@[simp] theorem State.modMortar_fn1 : (State.modMortar f s).fn1 = s.fn1 := by
  unfold State.modMortar; rfl
@[simp] theorem State.modMortar_store : (State.modMortar f s).store = s.store := by
  unfold State.modMortar; rfl
@[simp] theorem State.modMortar_tone : (State.modMortar f s).tone = s.tone := by
  unfold State.modMortar; rfl
@[simp] theorem State.modMortar_point : (State.modMortar f s).point = s.point := by
  unfold State.modMortar; rfl
@[simp] theorem State.modMortar_web : (State.modMortar f s).web = s.web := by
  unfold State.modMortar; rfl
@[simp] theorem State.modMortar_lintel : (State.modMortar f s).lintel = s.lintel := by
  unfold State.modMortar; rfl
@[simp] theorem State.modMortar_quoin : (State.modMortar f s).quoin = s.quoin := by
  unfold State.modMortar; rfl
@[simp] theorem State.modMortar_ndeig : (State.modMortar f s).ndeig = s.ndeig := by
  unfold State.modMortar; rfl
@[simp] theorem State.modMortar_nodes : (State.modMortar f s).nodes = s.nodes := by
  unfold State.modMortar; rfl
@[simp] theorem State.modMortar_plumb : (State.modMortar f s).plumb = s.plumb := by
  unfold State.modMortar; rfl
@[simp] theorem State.modMortar_butt : (State.modMortar f s).butt = s.butt := by
  unfold State.modMortar; rfl
@[simp] theorem State.modMortar_time : (State.modMortar f s).time = s.time := by
  unfold State.modMortar; rfl
@[simp] theorem State.modMortar_corbel : (State.modMortar f s).corbel = s.corbel := by
  unfold State.modMortar; rfl
@[simp] theorem State.modMortar_panel : (State.modMortar f s).panel = s.panel := by
  unfold State.modMortar; rfl
@[simp] theorem State.modMortar_coping : (State.modMortar f s).coping = s.coping := by
  unfold State.modMortar; rfl
@[simp] theorem State.modMortar_plinth : (State.modMortar f s).plinth = s.plinth := by
  unfold State.modMortar; rfl
@[simp] theorem State.modMortar_power : (State.modMortar f s).power = s.power := by
  unfold State.modMortar; rfl
@[simp] theorem State.modMortar_tie : (State.modMortar f s).tie = s.tie := by
  unfold State.modMortar; rfl
@[simp] theorem State.modMortar_freeCtr : (State.modMortar f s).freeCtr = s.freeCtr := by
  unfold State.modMortar; rfl
@[simp] theorem State.modMortar_out : (State.modMortar f s).out = s.out := by
  unfold State.modMortar; rfl
@[simp] theorem State.modMortar_pending : (State.modMortar f s).pending = s.pending := by
  unfold State.modMortar; rfl
end

section
variable (lift : Nat) (f : LiftBuf → LiftBuf) (s : State)
@[simp] theorem State.modBuf_clock : (State.modBuf lift f s).clock = s.clock := by
  unfold State.modBuf; rfl
@[simp] theorem State.modBuf_ident : (State.modBuf lift f s).ident = s.ident := by
  unfold State.modBuf; rfl
@[simp] theorem State.modBuf_mbox : (State.modBuf lift f s).mbox = s.mbox := by
  unfold State.modBuf; rfl
@[simp] theorem State.modBuf_ring : (State.modBuf lift f s).ring = s.ring := by
  unfold State.modBuf; rfl
@[simp] theorem State.modBuf_cfg : (State.modBuf lift f s).cfg = s.cfg := by
  unfold State.modBuf; rfl
@[simp] theorem State.modBuf_jobs : (State.modBuf lift f s).jobs = s.jobs := by
  unfold State.modBuf; rfl
@[simp] theorem State.modBuf_acts : (State.modBuf lift f s).acts = s.acts := by
  unfold State.modBuf; rfl
@[simp] theorem State.modBuf_fn0 : (State.modBuf lift f s).fn0 = s.fn0 := by
  unfold State.modBuf; rfl
@[simp] theorem State.modBuf_fn1 : (State.modBuf lift f s).fn1 = s.fn1 := by
  unfold State.modBuf; rfl
@[simp] theorem State.modBuf_store : (State.modBuf lift f s).store = s.store := by
  unfold State.modBuf; rfl
@[simp] theorem State.modBuf_tone : (State.modBuf lift f s).tone = s.tone := by
  unfold State.modBuf; rfl
@[simp] theorem State.modBuf_point : (State.modBuf lift f s).point = s.point := by
  unfold State.modBuf; rfl
@[simp] theorem State.modBuf_web : (State.modBuf lift f s).web = s.web := by
  unfold State.modBuf; rfl
@[simp] theorem State.modBuf_lintel : (State.modBuf lift f s).lintel = s.lintel := by
  unfold State.modBuf; rfl
@[simp] theorem State.modBuf_quoin : (State.modBuf lift f s).quoin = s.quoin := by
  unfold State.modBuf; rfl
@[simp] theorem State.modBuf_ndeig : (State.modBuf lift f s).ndeig = s.ndeig := by
  unfold State.modBuf; rfl
@[simp] theorem State.modBuf_nodes : (State.modBuf lift f s).nodes = s.nodes := by
  unfold State.modBuf; rfl
@[simp] theorem State.modBuf_plumb : (State.modBuf lift f s).plumb = s.plumb := by
  unfold State.modBuf; rfl
@[simp] theorem State.modBuf_butt : (State.modBuf lift f s).butt = s.butt := by
  unfold State.modBuf; rfl
@[simp] theorem State.modBuf_time : (State.modBuf lift f s).time = s.time := by
  unfold State.modBuf; rfl
@[simp] theorem State.modBuf_corbel : (State.modBuf lift f s).corbel = s.corbel := by
  unfold State.modBuf; rfl
@[simp] theorem State.modBuf_panel : (State.modBuf lift f s).panel = s.panel := by
  unfold State.modBuf; rfl
@[simp] theorem State.modBuf_coping : (State.modBuf lift f s).coping = s.coping := by
  unfold State.modBuf; rfl
@[simp] theorem State.modBuf_plinth : (State.modBuf lift f s).plinth = s.plinth := by
  unfold State.modBuf; rfl
@[simp] theorem State.modBuf_power : (State.modBuf lift f s).power = s.power := by
  unfold State.modBuf; rfl
@[simp] theorem State.modBuf_tie : (State.modBuf lift f s).tie = s.tie := by
  unfold State.modBuf; rfl
@[simp] theorem State.modBuf_freeCtr : (State.modBuf lift f s).freeCtr = s.freeCtr := by
  unfold State.modBuf; rfl
@[simp] theorem State.modBuf_out : (State.modBuf lift f s).out = s.out := by
  unfold State.modBuf; rfl
@[simp] theorem State.modBuf_pending : (State.modBuf lift f s).pending = s.pending := by
  unfold State.modBuf; rfl
end

section
variable (p : Nat) (f : Port → Port) (s : State)
@[simp] theorem State.modPort_clock : (State.modPort p f s).clock = s.clock := by
  unfold State.modPort
  split <;> rfl
@[simp] theorem State.modPort_ident : (State.modPort p f s).ident = s.ident := by
  unfold State.modPort
  split <;> rfl
@[simp] theorem State.modPort_mbox : (State.modPort p f s).mbox = s.mbox := by
  unfold State.modPort
  split <;> rfl
@[simp] theorem State.modPort_ring : (State.modPort p f s).ring = s.ring := by
  unfold State.modPort
  split <;> rfl
@[simp] theorem State.modPort_cfg : (State.modPort p f s).cfg = s.cfg := by
  unfold State.modPort
  split <;> rfl
@[simp] theorem State.modPort_jobs : (State.modPort p f s).jobs = s.jobs := by
  unfold State.modPort
  split <;> rfl
@[simp] theorem State.modPort_acts : (State.modPort p f s).acts = s.acts := by
  unfold State.modPort
  split <;> rfl
@[simp] theorem State.modPort_fn0 : (State.modPort p f s).fn0 = s.fn0 := by
  unfold State.modPort
  split <;> rfl
@[simp] theorem State.modPort_fn1 : (State.modPort p f s).fn1 = s.fn1 := by
  unfold State.modPort
  split <;> rfl
@[simp] theorem State.modPort_store : (State.modPort p f s).store = s.store := by
  unfold State.modPort
  split <;> rfl
@[simp] theorem State.modPort_mortar : (State.modPort p f s).mortar = s.mortar := by
  unfold State.modPort
  split <;> rfl
@[simp] theorem State.modPort_tone : (State.modPort p f s).tone = s.tone := by
  unfold State.modPort
  split <;> rfl
@[simp] theorem State.modPort_point : (State.modPort p f s).point = s.point := by
  unfold State.modPort
  split <;> rfl
@[simp] theorem State.modPort_web : (State.modPort p f s).web = s.web := by
  unfold State.modPort
  split <;> rfl
@[simp] theorem State.modPort_lintel : (State.modPort p f s).lintel = s.lintel := by
  unfold State.modPort
  split <;> rfl
@[simp] theorem State.modPort_quoin : (State.modPort p f s).quoin = s.quoin := by
  unfold State.modPort
  split <;> rfl
@[simp] theorem State.modPort_ndeig : (State.modPort p f s).ndeig = s.ndeig := by
  unfold State.modPort
  split <;> rfl
@[simp] theorem State.modPort_nodes : (State.modPort p f s).nodes = s.nodes := by
  unfold State.modPort
  split <;> rfl
@[simp] theorem State.modPort_plumb : (State.modPort p f s).plumb = s.plumb := by
  unfold State.modPort
  split <;> rfl
@[simp] theorem State.modPort_butt : (State.modPort p f s).butt = s.butt := by
  unfold State.modPort
  split <;> rfl
@[simp] theorem State.modPort_corbel : (State.modPort p f s).corbel = s.corbel := by
  unfold State.modPort
  split <;> rfl
@[simp] theorem State.modPort_panel : (State.modPort p f s).panel = s.panel := by
  unfold State.modPort
  split <;> rfl
@[simp] theorem State.modPort_coping : (State.modPort p f s).coping = s.coping := by
  unfold State.modPort
  split <;> rfl
@[simp] theorem State.modPort_plinth : (State.modPort p f s).plinth = s.plinth := by
  unfold State.modPort
  split <;> rfl
@[simp] theorem State.modPort_power : (State.modPort p f s).power = s.power := by
  unfold State.modPort
  split <;> rfl
@[simp] theorem State.modPort_tie : (State.modPort p f s).tie = s.tie := by
  unfold State.modPort
  split <;> rfl
@[simp] theorem State.modPort_freeCtr : (State.modPort p f s).freeCtr = s.freeCtr := by
  unfold State.modPort
  split <;> rfl
@[simp] theorem State.modPort_out : (State.modPort p f s).out = s.out := by
  unfold State.modPort
  split <;> rfl
@[simp] theorem State.modPort_pending : (State.modPort p f s).pending = s.pending := by
  unfold State.modPort
  split <;> rfl
end

section
variable (f : Time → Time) (s : State)
@[simp] theorem State.modTime_clock : (State.modTime f s).clock = s.clock := by
  unfold State.modTime; rfl
@[simp] theorem State.modTime_ident : (State.modTime f s).ident = s.ident := by
  unfold State.modTime; rfl
@[simp] theorem State.modTime_mbox : (State.modTime f s).mbox = s.mbox := by
  unfold State.modTime; rfl
@[simp] theorem State.modTime_ring : (State.modTime f s).ring = s.ring := by
  unfold State.modTime; rfl
@[simp] theorem State.modTime_cfg : (State.modTime f s).cfg = s.cfg := by
  unfold State.modTime; rfl
@[simp] theorem State.modTime_jobs : (State.modTime f s).jobs = s.jobs := by
  unfold State.modTime; rfl
@[simp] theorem State.modTime_acts : (State.modTime f s).acts = s.acts := by
  unfold State.modTime; rfl
@[simp] theorem State.modTime_fn0 : (State.modTime f s).fn0 = s.fn0 := by
  unfold State.modTime; rfl
@[simp] theorem State.modTime_fn1 : (State.modTime f s).fn1 = s.fn1 := by
  unfold State.modTime; rfl
@[simp] theorem State.modTime_store : (State.modTime f s).store = s.store := by
  unfold State.modTime; rfl
@[simp] theorem State.modTime_mortar : (State.modTime f s).mortar = s.mortar := by
  unfold State.modTime; rfl
@[simp] theorem State.modTime_tone : (State.modTime f s).tone = s.tone := by
  unfold State.modTime; rfl
@[simp] theorem State.modTime_point : (State.modTime f s).point = s.point := by
  unfold State.modTime; rfl
@[simp] theorem State.modTime_web : (State.modTime f s).web = s.web := by
  unfold State.modTime; rfl
@[simp] theorem State.modTime_lintel : (State.modTime f s).lintel = s.lintel := by
  unfold State.modTime; rfl
@[simp] theorem State.modTime_quoin : (State.modTime f s).quoin = s.quoin := by
  unfold State.modTime; rfl
@[simp] theorem State.modTime_ndeig : (State.modTime f s).ndeig = s.ndeig := by
  unfold State.modTime; rfl
@[simp] theorem State.modTime_nodes : (State.modTime f s).nodes = s.nodes := by
  unfold State.modTime; rfl
@[simp] theorem State.modTime_plumb : (State.modTime f s).plumb = s.plumb := by
  unfold State.modTime; rfl
@[simp] theorem State.modTime_butt : (State.modTime f s).butt = s.butt := by
  unfold State.modTime; rfl
@[simp] theorem State.modTime_corbel : (State.modTime f s).corbel = s.corbel := by
  unfold State.modTime; rfl
@[simp] theorem State.modTime_panel : (State.modTime f s).panel = s.panel := by
  unfold State.modTime; rfl
@[simp] theorem State.modTime_coping : (State.modTime f s).coping = s.coping := by
  unfold State.modTime; rfl
@[simp] theorem State.modTime_plinth : (State.modTime f s).plinth = s.plinth := by
  unfold State.modTime; rfl
@[simp] theorem State.modTime_power : (State.modTime f s).power = s.power := by
  unfold State.modTime; rfl
@[simp] theorem State.modTime_tie : (State.modTime f s).tie = s.tie := by
  unfold State.modTime; rfl
@[simp] theorem State.modTime_freeCtr : (State.modTime f s).freeCtr = s.freeCtr := by
  unfold State.modTime; rfl
@[simp] theorem State.modTime_out : (State.modTime f s).out = s.out := by
  unfold State.modTime; rfl
@[simp] theorem State.modTime_pending : (State.modTime f s).pending = s.pending := by
  unfold State.modTime; rfl
end

section
variable (f : Cfg → Cfg) (s : State)
@[simp] theorem State.modCfg_clock : (State.modCfg f s).clock = s.clock := by
  unfold State.modCfg; rfl
@[simp] theorem State.modCfg_ident : (State.modCfg f s).ident = s.ident := by
  unfold State.modCfg; rfl
@[simp] theorem State.modCfg_mbox : (State.modCfg f s).mbox = s.mbox := by
  unfold State.modCfg; rfl
@[simp] theorem State.modCfg_ring : (State.modCfg f s).ring = s.ring := by
  unfold State.modCfg; rfl
@[simp] theorem State.modCfg_jobs : (State.modCfg f s).jobs = s.jobs := by
  unfold State.modCfg; rfl
@[simp] theorem State.modCfg_acts : (State.modCfg f s).acts = s.acts := by
  unfold State.modCfg; rfl
@[simp] theorem State.modCfg_fn0 : (State.modCfg f s).fn0 = s.fn0 := by
  unfold State.modCfg; rfl
@[simp] theorem State.modCfg_fn1 : (State.modCfg f s).fn1 = s.fn1 := by
  unfold State.modCfg; rfl
@[simp] theorem State.modCfg_store : (State.modCfg f s).store = s.store := by
  unfold State.modCfg; rfl
@[simp] theorem State.modCfg_mortar : (State.modCfg f s).mortar = s.mortar := by
  unfold State.modCfg; rfl
@[simp] theorem State.modCfg_tone : (State.modCfg f s).tone = s.tone := by
  unfold State.modCfg; rfl
@[simp] theorem State.modCfg_point : (State.modCfg f s).point = s.point := by
  unfold State.modCfg; rfl
@[simp] theorem State.modCfg_web : (State.modCfg f s).web = s.web := by
  unfold State.modCfg; rfl
@[simp] theorem State.modCfg_lintel : (State.modCfg f s).lintel = s.lintel := by
  unfold State.modCfg; rfl
@[simp] theorem State.modCfg_quoin : (State.modCfg f s).quoin = s.quoin := by
  unfold State.modCfg; rfl
@[simp] theorem State.modCfg_ndeig : (State.modCfg f s).ndeig = s.ndeig := by
  unfold State.modCfg; rfl
@[simp] theorem State.modCfg_nodes : (State.modCfg f s).nodes = s.nodes := by
  unfold State.modCfg; rfl
@[simp] theorem State.modCfg_plumb : (State.modCfg f s).plumb = s.plumb := by
  unfold State.modCfg; rfl
@[simp] theorem State.modCfg_butt : (State.modCfg f s).butt = s.butt := by
  unfold State.modCfg; rfl
@[simp] theorem State.modCfg_time : (State.modCfg f s).time = s.time := by
  unfold State.modCfg; rfl
@[simp] theorem State.modCfg_corbel : (State.modCfg f s).corbel = s.corbel := by
  unfold State.modCfg; rfl
@[simp] theorem State.modCfg_panel : (State.modCfg f s).panel = s.panel := by
  unfold State.modCfg; rfl
@[simp] theorem State.modCfg_coping : (State.modCfg f s).coping = s.coping := by
  unfold State.modCfg; rfl
@[simp] theorem State.modCfg_plinth : (State.modCfg f s).plinth = s.plinth := by
  unfold State.modCfg; rfl
@[simp] theorem State.modCfg_power : (State.modCfg f s).power = s.power := by
  unfold State.modCfg; rfl
@[simp] theorem State.modCfg_tie : (State.modCfg f s).tie = s.tie := by
  unfold State.modCfg; rfl
@[simp] theorem State.modCfg_freeCtr : (State.modCfg f s).freeCtr = s.freeCtr := by
  unfold State.modCfg; rfl
@[simp] theorem State.modCfg_out : (State.modCfg f s).out = s.out := by
  unfold State.modCfg; rfl
@[simp] theorem State.modCfg_pending : (State.modCfg f s).pending = s.pending := by
  unfold State.modCfg; rfl
end

section
variable (f : Jobs → Jobs) (s : State)
@[simp] theorem State.modJobs_clock : (State.modJobs f s).clock = s.clock := by
  unfold State.modJobs; rfl
@[simp] theorem State.modJobs_ident : (State.modJobs f s).ident = s.ident := by
  unfold State.modJobs; rfl
@[simp] theorem State.modJobs_mbox : (State.modJobs f s).mbox = s.mbox := by
  unfold State.modJobs; rfl
@[simp] theorem State.modJobs_ring : (State.modJobs f s).ring = s.ring := by
  unfold State.modJobs; rfl
@[simp] theorem State.modJobs_cfg : (State.modJobs f s).cfg = s.cfg := by
  unfold State.modJobs; rfl
@[simp] theorem State.modJobs_acts : (State.modJobs f s).acts = s.acts := by
  unfold State.modJobs; rfl
@[simp] theorem State.modJobs_fn0 : (State.modJobs f s).fn0 = s.fn0 := by
  unfold State.modJobs; rfl
@[simp] theorem State.modJobs_fn1 : (State.modJobs f s).fn1 = s.fn1 := by
  unfold State.modJobs; rfl
@[simp] theorem State.modJobs_store : (State.modJobs f s).store = s.store := by
  unfold State.modJobs; rfl
@[simp] theorem State.modJobs_mortar : (State.modJobs f s).mortar = s.mortar := by
  unfold State.modJobs; rfl
@[simp] theorem State.modJobs_tone : (State.modJobs f s).tone = s.tone := by
  unfold State.modJobs; rfl
@[simp] theorem State.modJobs_point : (State.modJobs f s).point = s.point := by
  unfold State.modJobs; rfl
@[simp] theorem State.modJobs_web : (State.modJobs f s).web = s.web := by
  unfold State.modJobs; rfl
@[simp] theorem State.modJobs_lintel : (State.modJobs f s).lintel = s.lintel := by
  unfold State.modJobs; rfl
@[simp] theorem State.modJobs_quoin : (State.modJobs f s).quoin = s.quoin := by
  unfold State.modJobs; rfl
@[simp] theorem State.modJobs_ndeig : (State.modJobs f s).ndeig = s.ndeig := by
  unfold State.modJobs; rfl
@[simp] theorem State.modJobs_nodes : (State.modJobs f s).nodes = s.nodes := by
  unfold State.modJobs; rfl
@[simp] theorem State.modJobs_plumb : (State.modJobs f s).plumb = s.plumb := by
  unfold State.modJobs; rfl
@[simp] theorem State.modJobs_butt : (State.modJobs f s).butt = s.butt := by
  unfold State.modJobs; rfl
@[simp] theorem State.modJobs_time : (State.modJobs f s).time = s.time := by
  unfold State.modJobs; rfl
@[simp] theorem State.modJobs_corbel : (State.modJobs f s).corbel = s.corbel := by
  unfold State.modJobs; rfl
@[simp] theorem State.modJobs_panel : (State.modJobs f s).panel = s.panel := by
  unfold State.modJobs; rfl
@[simp] theorem State.modJobs_coping : (State.modJobs f s).coping = s.coping := by
  unfold State.modJobs; rfl
@[simp] theorem State.modJobs_plinth : (State.modJobs f s).plinth = s.plinth := by
  unfold State.modJobs; rfl
@[simp] theorem State.modJobs_power : (State.modJobs f s).power = s.power := by
  unfold State.modJobs; rfl
@[simp] theorem State.modJobs_tie : (State.modJobs f s).tie = s.tie := by
  unfold State.modJobs; rfl
@[simp] theorem State.modJobs_freeCtr : (State.modJobs f s).freeCtr = s.freeCtr := by
  unfold State.modJobs; rfl
@[simp] theorem State.modJobs_out : (State.modJobs f s).out = s.out := by
  unfold State.modJobs; rfl
@[simp] theorem State.modJobs_pending : (State.modJobs f s).pending = s.pending := by
  unfold State.modJobs; rfl
end

section
variable (f : Acts → Acts) (s : State)
@[simp] theorem State.modActs_clock : (State.modActs f s).clock = s.clock := by
  unfold State.modActs; rfl
@[simp] theorem State.modActs_ident : (State.modActs f s).ident = s.ident := by
  unfold State.modActs; rfl
@[simp] theorem State.modActs_mbox : (State.modActs f s).mbox = s.mbox := by
  unfold State.modActs; rfl
@[simp] theorem State.modActs_ring : (State.modActs f s).ring = s.ring := by
  unfold State.modActs; rfl
@[simp] theorem State.modActs_cfg : (State.modActs f s).cfg = s.cfg := by
  unfold State.modActs; rfl
@[simp] theorem State.modActs_jobs : (State.modActs f s).jobs = s.jobs := by
  unfold State.modActs; rfl
@[simp] theorem State.modActs_fn0 : (State.modActs f s).fn0 = s.fn0 := by
  unfold State.modActs; rfl
@[simp] theorem State.modActs_fn1 : (State.modActs f s).fn1 = s.fn1 := by
  unfold State.modActs; rfl
@[simp] theorem State.modActs_store : (State.modActs f s).store = s.store := by
  unfold State.modActs; rfl
@[simp] theorem State.modActs_mortar : (State.modActs f s).mortar = s.mortar := by
  unfold State.modActs; rfl
@[simp] theorem State.modActs_tone : (State.modActs f s).tone = s.tone := by
  unfold State.modActs; rfl
@[simp] theorem State.modActs_point : (State.modActs f s).point = s.point := by
  unfold State.modActs; rfl
@[simp] theorem State.modActs_web : (State.modActs f s).web = s.web := by
  unfold State.modActs; rfl
@[simp] theorem State.modActs_lintel : (State.modActs f s).lintel = s.lintel := by
  unfold State.modActs; rfl
@[simp] theorem State.modActs_quoin : (State.modActs f s).quoin = s.quoin := by
  unfold State.modActs; rfl
@[simp] theorem State.modActs_ndeig : (State.modActs f s).ndeig = s.ndeig := by
  unfold State.modActs; rfl
@[simp] theorem State.modActs_nodes : (State.modActs f s).nodes = s.nodes := by
  unfold State.modActs; rfl
@[simp] theorem State.modActs_plumb : (State.modActs f s).plumb = s.plumb := by
  unfold State.modActs; rfl
@[simp] theorem State.modActs_butt : (State.modActs f s).butt = s.butt := by
  unfold State.modActs; rfl
@[simp] theorem State.modActs_time : (State.modActs f s).time = s.time := by
  unfold State.modActs; rfl
@[simp] theorem State.modActs_corbel : (State.modActs f s).corbel = s.corbel := by
  unfold State.modActs; rfl
@[simp] theorem State.modActs_panel : (State.modActs f s).panel = s.panel := by
  unfold State.modActs; rfl
@[simp] theorem State.modActs_coping : (State.modActs f s).coping = s.coping := by
  unfold State.modActs; rfl
@[simp] theorem State.modActs_plinth : (State.modActs f s).plinth = s.plinth := by
  unfold State.modActs; rfl
@[simp] theorem State.modActs_power : (State.modActs f s).power = s.power := by
  unfold State.modActs; rfl
@[simp] theorem State.modActs_tie : (State.modActs f s).tie = s.tie := by
  unfold State.modActs; rfl
@[simp] theorem State.modActs_freeCtr : (State.modActs f s).freeCtr = s.freeCtr := by
  unfold State.modActs; rfl
@[simp] theorem State.modActs_out : (State.modActs f s).out = s.out := by
  unfold State.modActs; rfl
@[simp] theorem State.modActs_pending : (State.modActs f s).pending = s.pending := by
  unfold State.modActs; rfl
end

section
variable (e : Nat) (x : Enc) (s : State)
@[simp] theorem State.setEnc_clock : (State.setEnc e x s).clock = s.clock := by
  unfold State.setEnc
  split <;> rfl
@[simp] theorem State.setEnc_ident : (State.setEnc e x s).ident = s.ident := by
  unfold State.setEnc
  split <;> rfl
@[simp] theorem State.setEnc_mbox : (State.setEnc e x s).mbox = s.mbox := by
  unfold State.setEnc
  split <;> rfl
@[simp] theorem State.setEnc_ring : (State.setEnc e x s).ring = s.ring := by
  unfold State.setEnc
  split <;> rfl
@[simp] theorem State.setEnc_cfg : (State.setEnc e x s).cfg = s.cfg := by
  unfold State.setEnc
  split <;> rfl
@[simp] theorem State.setEnc_jobs : (State.setEnc e x s).jobs = s.jobs := by
  unfold State.setEnc
  split <;> rfl
@[simp] theorem State.setEnc_acts : (State.setEnc e x s).acts = s.acts := by
  unfold State.setEnc
  split <;> rfl
@[simp] theorem State.setEnc_fn0 : (State.setEnc e x s).fn0 = s.fn0 := by
  unfold State.setEnc
  split <;> rfl
@[simp] theorem State.setEnc_fn1 : (State.setEnc e x s).fn1 = s.fn1 := by
  unfold State.setEnc
  split <;> rfl
@[simp] theorem State.setEnc_store : (State.setEnc e x s).store = s.store := by
  unfold State.setEnc
  split <;> rfl
@[simp] theorem State.setEnc_mortar : (State.setEnc e x s).mortar = s.mortar := by
  unfold State.setEnc
  split <;> rfl
@[simp] theorem State.setEnc_tone : (State.setEnc e x s).tone = s.tone := by
  unfold State.setEnc
  split <;> rfl
@[simp] theorem State.setEnc_point : (State.setEnc e x s).point = s.point := by
  unfold State.setEnc
  split <;> rfl
@[simp] theorem State.setEnc_lintel : (State.setEnc e x s).lintel = s.lintel := by
  unfold State.setEnc
  split <;> rfl
@[simp] theorem State.setEnc_quoin : (State.setEnc e x s).quoin = s.quoin := by
  unfold State.setEnc
  split <;> rfl
@[simp] theorem State.setEnc_ndeig : (State.setEnc e x s).ndeig = s.ndeig := by
  unfold State.setEnc
  split <;> rfl
@[simp] theorem State.setEnc_nodes : (State.setEnc e x s).nodes = s.nodes := by
  unfold State.setEnc
  split <;> rfl
@[simp] theorem State.setEnc_plumb : (State.setEnc e x s).plumb = s.plumb := by
  unfold State.setEnc
  split <;> rfl
@[simp] theorem State.setEnc_butt : (State.setEnc e x s).butt = s.butt := by
  unfold State.setEnc
  split <;> rfl
@[simp] theorem State.setEnc_time : (State.setEnc e x s).time = s.time := by
  unfold State.setEnc
  split <;> rfl
@[simp] theorem State.setEnc_corbel : (State.setEnc e x s).corbel = s.corbel := by
  unfold State.setEnc
  split <;> rfl
@[simp] theorem State.setEnc_panel : (State.setEnc e x s).panel = s.panel := by
  unfold State.setEnc
  split <;> rfl
@[simp] theorem State.setEnc_coping : (State.setEnc e x s).coping = s.coping := by
  unfold State.setEnc
  split <;> rfl
@[simp] theorem State.setEnc_plinth : (State.setEnc e x s).plinth = s.plinth := by
  unfold State.setEnc
  split <;> rfl
@[simp] theorem State.setEnc_power : (State.setEnc e x s).power = s.power := by
  unfold State.setEnc
  split <;> rfl
@[simp] theorem State.setEnc_tie : (State.setEnc e x s).tie = s.tie := by
  unfold State.setEnc
  split <;> rfl
@[simp] theorem State.setEnc_freeCtr : (State.setEnc e x s).freeCtr = s.freeCtr := by
  unfold State.setEnc
  split <;> rfl
@[simp] theorem State.setEnc_out : (State.setEnc e x s).out = s.out := by
  unfold State.setEnc
  split <;> rfl
@[simp] theorem State.setEnc_pending : (State.setEnc e x s).pending = s.pending := by
  unfold State.setEnc
  split <;> rfl
end

section
variable (f : Quoin → Quoin) (s : State)
@[simp] theorem State.modQuoin_clock : (State.modQuoin f s).clock = s.clock := by
  unfold State.modQuoin; rfl
@[simp] theorem State.modQuoin_ident : (State.modQuoin f s).ident = s.ident := by
  unfold State.modQuoin; rfl
@[simp] theorem State.modQuoin_mbox : (State.modQuoin f s).mbox = s.mbox := by
  unfold State.modQuoin; rfl
@[simp] theorem State.modQuoin_ring : (State.modQuoin f s).ring = s.ring := by
  unfold State.modQuoin; rfl
@[simp] theorem State.modQuoin_cfg : (State.modQuoin f s).cfg = s.cfg := by
  unfold State.modQuoin; rfl
@[simp] theorem State.modQuoin_jobs : (State.modQuoin f s).jobs = s.jobs := by
  unfold State.modQuoin; rfl
@[simp] theorem State.modQuoin_acts : (State.modQuoin f s).acts = s.acts := by
  unfold State.modQuoin; rfl
@[simp] theorem State.modQuoin_fn0 : (State.modQuoin f s).fn0 = s.fn0 := by
  unfold State.modQuoin; rfl
@[simp] theorem State.modQuoin_fn1 : (State.modQuoin f s).fn1 = s.fn1 := by
  unfold State.modQuoin; rfl
@[simp] theorem State.modQuoin_store : (State.modQuoin f s).store = s.store := by
  unfold State.modQuoin; rfl
@[simp] theorem State.modQuoin_mortar : (State.modQuoin f s).mortar = s.mortar := by
  unfold State.modQuoin; rfl
@[simp] theorem State.modQuoin_tone : (State.modQuoin f s).tone = s.tone := by
  unfold State.modQuoin; rfl
@[simp] theorem State.modQuoin_point : (State.modQuoin f s).point = s.point := by
  unfold State.modQuoin; rfl
@[simp] theorem State.modQuoin_web : (State.modQuoin f s).web = s.web := by
  unfold State.modQuoin; rfl
@[simp] theorem State.modQuoin_lintel : (State.modQuoin f s).lintel = s.lintel := by
  unfold State.modQuoin; rfl
@[simp] theorem State.modQuoin_ndeig : (State.modQuoin f s).ndeig = s.ndeig := by
  unfold State.modQuoin; rfl
@[simp] theorem State.modQuoin_nodes : (State.modQuoin f s).nodes = s.nodes := by
  unfold State.modQuoin; rfl
@[simp] theorem State.modQuoin_plumb : (State.modQuoin f s).plumb = s.plumb := by
  unfold State.modQuoin; rfl
@[simp] theorem State.modQuoin_butt : (State.modQuoin f s).butt = s.butt := by
  unfold State.modQuoin; rfl
@[simp] theorem State.modQuoin_time : (State.modQuoin f s).time = s.time := by
  unfold State.modQuoin; rfl
@[simp] theorem State.modQuoin_corbel : (State.modQuoin f s).corbel = s.corbel := by
  unfold State.modQuoin; rfl
@[simp] theorem State.modQuoin_panel : (State.modQuoin f s).panel = s.panel := by
  unfold State.modQuoin; rfl
@[simp] theorem State.modQuoin_coping : (State.modQuoin f s).coping = s.coping := by
  unfold State.modQuoin; rfl
@[simp] theorem State.modQuoin_plinth : (State.modQuoin f s).plinth = s.plinth := by
  unfold State.modQuoin; rfl
@[simp] theorem State.modQuoin_power : (State.modQuoin f s).power = s.power := by
  unfold State.modQuoin; rfl
@[simp] theorem State.modQuoin_tie : (State.modQuoin f s).tie = s.tie := by
  unfold State.modQuoin; rfl
@[simp] theorem State.modQuoin_freeCtr : (State.modQuoin f s).freeCtr = s.freeCtr := by
  unfold State.modQuoin; rfl
@[simp] theorem State.modQuoin_out : (State.modQuoin f s).out = s.out := by
  unfold State.modQuoin; rfl
@[simp] theorem State.modQuoin_pending : (State.modQuoin f s).pending = s.pending := by
  unfold State.modQuoin; rfl
end

section
variable (o : Out) (s : State)
@[simp] theorem State.send_clock : (State.send o s).clock = s.clock := by
  unfold State.send; rfl
@[simp] theorem State.send_ident : (State.send o s).ident = s.ident := by
  unfold State.send; rfl
@[simp] theorem State.send_mbox : (State.send o s).mbox = s.mbox := by
  unfold State.send; rfl
@[simp] theorem State.send_ring : (State.send o s).ring = s.ring := by
  unfold State.send; rfl
@[simp] theorem State.send_cfg : (State.send o s).cfg = s.cfg := by
  unfold State.send; rfl
@[simp] theorem State.send_jobs : (State.send o s).jobs = s.jobs := by
  unfold State.send; rfl
@[simp] theorem State.send_acts : (State.send o s).acts = s.acts := by
  unfold State.send; rfl
@[simp] theorem State.send_fn0 : (State.send o s).fn0 = s.fn0 := by
  unfold State.send; rfl
@[simp] theorem State.send_fn1 : (State.send o s).fn1 = s.fn1 := by
  unfold State.send; rfl
@[simp] theorem State.send_store : (State.send o s).store = s.store := by
  unfold State.send; rfl
@[simp] theorem State.send_mortar : (State.send o s).mortar = s.mortar := by
  unfold State.send; rfl
@[simp] theorem State.send_tone : (State.send o s).tone = s.tone := by
  unfold State.send; rfl
@[simp] theorem State.send_point : (State.send o s).point = s.point := by
  unfold State.send; rfl
@[simp] theorem State.send_web : (State.send o s).web = s.web := by
  unfold State.send; rfl
@[simp] theorem State.send_lintel : (State.send o s).lintel = s.lintel := by
  unfold State.send; rfl
@[simp] theorem State.send_quoin : (State.send o s).quoin = s.quoin := by
  unfold State.send; rfl
@[simp] theorem State.send_ndeig : (State.send o s).ndeig = s.ndeig := by
  unfold State.send; rfl
@[simp] theorem State.send_nodes : (State.send o s).nodes = s.nodes := by
  unfold State.send; rfl
@[simp] theorem State.send_plumb : (State.send o s).plumb = s.plumb := by
  unfold State.send; rfl
@[simp] theorem State.send_butt : (State.send o s).butt = s.butt := by
  unfold State.send; rfl
@[simp] theorem State.send_time : (State.send o s).time = s.time := by
  unfold State.send; rfl
@[simp] theorem State.send_corbel : (State.send o s).corbel = s.corbel := by
  unfold State.send; rfl
@[simp] theorem State.send_panel : (State.send o s).panel = s.panel := by
  unfold State.send; rfl
@[simp] theorem State.send_coping : (State.send o s).coping = s.coping := by
  unfold State.send; rfl
@[simp] theorem State.send_plinth : (State.send o s).plinth = s.plinth := by
  unfold State.send; rfl
@[simp] theorem State.send_power : (State.send o s).power = s.power := by
  unfold State.send; rfl
@[simp] theorem State.send_tie : (State.send o s).tie = s.tie := by
  unfold State.send; rfl
@[simp] theorem State.send_freeCtr : (State.send o s).freeCtr = s.freeCtr := by
  unfold State.send; rfl
@[simp] theorem State.send_pending : (State.send o s).pending = s.pending := by
  unfold State.send; rfl
end

section
variable (dt : Nat) (s : State)
@[simp] theorem State.advance_ident : (State.advance dt s).ident = s.ident := by
  unfold State.advance; rfl
@[simp] theorem State.advance_mbox : (State.advance dt s).mbox = s.mbox := by
  unfold State.advance; rfl
@[simp] theorem State.advance_ring : (State.advance dt s).ring = s.ring := by
  unfold State.advance; rfl
@[simp] theorem State.advance_cfg : (State.advance dt s).cfg = s.cfg := by
  unfold State.advance; rfl
@[simp] theorem State.advance_jobs : (State.advance dt s).jobs = s.jobs := by
  unfold State.advance; rfl
@[simp] theorem State.advance_acts : (State.advance dt s).acts = s.acts := by
  unfold State.advance; rfl
@[simp] theorem State.advance_fn0 : (State.advance dt s).fn0 = s.fn0 := by
  unfold State.advance; rfl
@[simp] theorem State.advance_fn1 : (State.advance dt s).fn1 = s.fn1 := by
  unfold State.advance; rfl
@[simp] theorem State.advance_store : (State.advance dt s).store = s.store := by
  unfold State.advance; rfl
@[simp] theorem State.advance_mortar : (State.advance dt s).mortar = s.mortar := by
  unfold State.advance; rfl
@[simp] theorem State.advance_tone : (State.advance dt s).tone = s.tone := by
  unfold State.advance; rfl
@[simp] theorem State.advance_point : (State.advance dt s).point = s.point := by
  unfold State.advance; rfl
@[simp] theorem State.advance_web : (State.advance dt s).web = s.web := by
  unfold State.advance; rfl
@[simp] theorem State.advance_lintel : (State.advance dt s).lintel = s.lintel := by
  unfold State.advance; rfl
@[simp] theorem State.advance_quoin : (State.advance dt s).quoin = s.quoin := by
  unfold State.advance; rfl
@[simp] theorem State.advance_ndeig : (State.advance dt s).ndeig = s.ndeig := by
  unfold State.advance; rfl
@[simp] theorem State.advance_nodes : (State.advance dt s).nodes = s.nodes := by
  unfold State.advance; rfl
@[simp] theorem State.advance_plumb : (State.advance dt s).plumb = s.plumb := by
  unfold State.advance; rfl
@[simp] theorem State.advance_butt : (State.advance dt s).butt = s.butt := by
  unfold State.advance; rfl
@[simp] theorem State.advance_time : (State.advance dt s).time = s.time := by
  unfold State.advance; rfl
@[simp] theorem State.advance_corbel : (State.advance dt s).corbel = s.corbel := by
  unfold State.advance; rfl
@[simp] theorem State.advance_panel : (State.advance dt s).panel = s.panel := by
  unfold State.advance; rfl
@[simp] theorem State.advance_coping : (State.advance dt s).coping = s.coping := by
  unfold State.advance; rfl
@[simp] theorem State.advance_plinth : (State.advance dt s).plinth = s.plinth := by
  unfold State.advance; rfl
@[simp] theorem State.advance_power : (State.advance dt s).power = s.power := by
  unfold State.advance; rfl
@[simp] theorem State.advance_tie : (State.advance dt s).tie = s.tie := by
  unfold State.advance; rfl
@[simp] theorem State.advance_freeCtr : (State.advance dt s).freeCtr = s.freeCtr := by
  unfold State.advance; rfl
@[simp] theorem State.advance_out : (State.advance dt s).out = s.out := by
  unfold State.advance; rfl
@[simp] theorem State.advance_pending : (State.advance dt s).pending = s.pending := by
  unfold State.advance; rfl
end

@[simp] theorem State.modTone_tone (f : Tone → Tone) (s : State) : (State.modTone f s).tone = f s.tone := by
  unfold State.modTone; rfl
@[simp] theorem State.modButt_butt (f : Butt → Butt) (s : State) : (State.modButt f s).butt = f s.butt := by
  unfold State.modButt; rfl
@[simp] theorem State.modCoping_coping (f : Coping → Coping) (s : State) : (State.modCoping f s).coping = f s.coping := by
  unfold State.modCoping; rfl
@[simp] theorem State.modCorbel_corbel (f : Corbel → Corbel) (s : State) : (State.modCorbel f s).corbel = f s.corbel := by
  unfold State.modCorbel; rfl
@[simp] theorem State.modLintel_lintel (f : Lintel → Lintel) (s : State) : (State.modLintel f s).lintel = f s.lintel := by
  unfold State.modLintel; rfl
@[simp] theorem State.modHold_lintel (f : Hold → Hold) (s : State) : (State.modHold f s).lintel = { s.lintel with hold := f s.lintel.hold } := by
  unfold State.modHold; rfl
@[simp] theorem State.modChan_mbox (c : Nat) (f : Chan → Chan) (s : State) : (State.modChan c f s).mbox = modAt s.mbox c f := by
  unfold State.modChan; rfl
@[simp] theorem State.setNode_nodes (n : Node) (s : State) : (State.setNode n s).nodes = assocSet n.id n s.nodes := by
  unfold State.setNode; rfl
@[simp] theorem State.modPlumb_plumb (f : Plumb → Plumb) (s : State) : (State.modPlumb f s).plumb = f s.plumb := by
  unfold State.modPlumb; rfl
@[simp] theorem State.modPower_power (f : Power → Power) (s : State) : (State.modPower f s).power = f s.power := by
  unfold State.modPower; rfl
@[simp] theorem State.modPlinth_plinth (f : Plinth → Plinth) (s : State) : (State.modPlinth f s).plinth = f s.plinth := by
  unfold State.modPlinth; rfl
@[simp] theorem State.modMortar_mortar (f : Mortar → Mortar) (s : State) : (State.modMortar f s).mortar = f s.mortar := by
  unfold State.modMortar; rfl
@[simp] theorem State.modTime_time (f : Time → Time) (s : State) : (State.modTime f s).time = f s.time := by
  unfold State.modTime; rfl
@[simp] theorem State.modCfg_cfg (f : Cfg → Cfg) (s : State) : (State.modCfg f s).cfg = f s.cfg := by
  unfold State.modCfg; rfl
@[simp] theorem State.modJobs_jobs (f : Jobs → Jobs) (s : State) : (State.modJobs f s).jobs = f s.jobs := by
  unfold State.modJobs; rfl
@[simp] theorem State.modActs_acts (f : Acts → Acts) (s : State) : (State.modActs f s).acts = f s.acts := by
  unfold State.modActs; rfl
@[simp] theorem State.modQuoin_quoin (f : Quoin → Quoin) (s : State) : (State.modQuoin f s).quoin = f s.quoin := by
  unfold State.modQuoin; rfl
@[simp] theorem State.send_out (o : Out) (s : State) : (State.send o s).out = o :: s.out := by
  unfold State.send; rfl

@[simp] theorem State.advance_mainOn (dt : Nat) (s : State) : (s.advance dt).mainOn = s.mainOn := by
  unfold State.advance State.mainOn; rfl
@[simp] theorem State.advance_up (dt : Nat) (s : State) : (s.advance dt).clock.up = s.clock.up + dt := by
  unfold State.advance; rfl
@[simp] theorem State.advance_rtc (dt : Nat) (s : State) : (s.advance dt).clock.rtc = s.clock.rtc + dt := by
  unfold State.advance; rfl
@[simp] theorem State.advance_reachable (dt f : Nat) (s : State) : (s.advance dt).reachable f = s.reachable f := by
  unfold State.advance State.reachable; rfl
@[simp] theorem State.advance_armed (dt : Nat) (s : State) : (s.advance dt).armed = s.armed := by
  unfold State.advance State.armed; rfl
@[simp] theorem State.advance_inRest (dt : Nat) (s : State) : (s.advance dt).inRest = s.inRest := by
  unfold State.advance State.inRest; rfl

end Sys2Proof.Machine
end

