-- ==== Sys2Proof/Laws/Mailbox.lean ====
section
/-! SUPPORT. A command on an empty mailbox: it is taken, it runs at once, and what is left of it. -/

namespace Sys2Proof.Machine

open Sys2Proof Sys2Proof.Safety

/-- What the host wrote to its own memory changes the store alone. -/
theorem hostLoad_eq (l : List (Nat × List Nat)) (s : State) : ∃ st, s.hostLoad l = { s with store := st } := by
  unfold State.hostLoad
  induction l generalizing s with
  | nil => exact ⟨s.store, rfl⟩
  | cons a l ih =>
    simp only [List.foldl_cons]
    obtain ⟨st, e⟩ := ih (s.hostWrite a.1 a.2)
    rw [e]
    exact ⟨st, rfl⟩

/-- The elements of a list after one is changed. -/
theorem modAt_getD {α : Type} (l : List α) (i j : Nat) (f : α → α) (d : α) (h : i < l.length) :
    (modAt l i f).getD j d = if j = i then f (l.getD i d) else l.getD j d := by
  induction l generalizing i j with
  | nil => simp at h
  | cons a l ih =>
    cases i with
    | zero => cases j <;> simp [modAt]
    | succ i =>
      simp at h
      cases j with
      | zero => simp [modAt]
      | succ j => simpa [modAt] using ih i j h

/-- Changing an element keeps the length. -/
theorem modAt_length {α : Type} (l : List α) (i : Nat) (f : α → α) : (modAt l i f).length = l.length := by
  induction l generalizing i with
  | nil => rfl
  | cons a l ih => cases i <;> simp [modAt, ih]

/-- The channels after one is changed. -/
theorem chan_modChan (c d : Nat) (f : Chan → Chan) (s : State) (h : c < s.mbox.length) :
    (s.modChan c f).chan d = if d = c then f (s.chan c) else s.chan d := modAt_getD _ _ _ _ _ h

/-- The submission of a usable command. -/
theorem submit_usable {verb : Nat} {m : Mbox} {s : State} (h : Usable verb m s) :
    ∃ st n, s.submit verb m = ({ s with store := st } : State).modChan m.ch (fun x => x.take verb m n) := by
  obtain ⟨hw, hr, hl, hf, _⟩ := h
  obtain ⟨st, e⟩ := hostLoad_eq m.host s
  have hch : m.ch < 4 := by
    simp only [Mbox.wf, Bool.and_eq_true, decide_eq_true_eq] at hw; exact hw.1.1.1.1.1.1.1.1.1.1
  generalize hX : ({ s with store := st } : State) = X at e ⊢
  have h1 : State.reachable X 0 = true := by subst hX; exact hr
  have hc : State.chan X m.ch = s.chan m.ch := by subst hX; rfl
  have hXl : X.mbox.length = 4 := by subst hX; exact hl
  have h2 : (State.chan X m.ch).busySlot m.slot = false := by
    rw [hc]; simp [Chan.busySlot, (hf m.ch hch).1]
  refine ⟨st, X.nextPlace, ?_⟩
  rw [hX]
  unfold State.submit
  simp only [e]
  rw [if_neg (by simp [h1]), if_neg (by simp [h2])]
  unfold State.restAtOnce
  rw [if_pos]
  right; right; right; right
  rw [chan_modChan _ _ _ _ (by omega), hc]
  simp [Chan.take, (hf m.ch hch).1]

/-- What is left of a usable command once it is taken: it runs as the running command of its channel, and then what waits runs. -/
theorem submit_closes {verb : Nat} {m : Mbox} {a : State} (p : List Instr) (hu : Usable verb m a) :
    ({ (a.submit verb m).closes with pending := p } : State) =
      let x := (a.submit verb m).modChan m.ch (fun x => { x with running := true })
      { (settleGo 255 (match (x.runCmd m.ch (cmdOf verb m)).2 with
        | some rep => (x.runCmd m.ch (cmdOf verb m)).1.respond m.ch rep
        | none => (x.runCmd m.ch (cmdOf verb m)).1)).sends with pending := p } := by
  unfold State.closes
  obtain ⟨st, n, e⟩ := submit_usable hu
  obtain ⟨hw, hr, hl, hf, hrom, hrole, hal⟩ := hu
  have hch : m.ch < 4 := by
    simp only [Mbox.wf, Bool.and_eq_true, decide_eq_true_eq] at hw; exact hw.1.1.1.1.1.1.1.1.1.1
  dsimp only
  rw [e]
  generalize hX : ({ a with store := st } : State) = X
  have hXl : X.mbox.length = 4 := by subst hX; exact hl
  have hXc : ∀ c, X.chan c = a.chan c := by subst hX; intro c; rfl
  generalize hY : X.modChan m.ch (fun x => x.take verb m n) = Y
  have hYc : ∀ d, Y.chan d = if d = m.ch then (a.chan m.ch).take verb m n else a.chan d := by
    intro d; rw [← hY, chan_modChan _ _ _ _ (by omega), hXc, hXc]
  have hq : (Y.chan m.ch).queue = [cmdOf verb m] := by rw [hYc]; simp [Chan.take, (hf m.ch hch).1]
  have hwait : ∀ d, d < 4 → d ≠ m.ch → (Y.chan d).waiting = [] := by
    intro d hd hdm
    rw [hYc]; simp [hdm, Chan.waiting, (hf d hd).1]
  obtain ⟨k, hwm⟩ : ∃ k, (Y.chan m.ch).waiting = [(k, cmdOf verb m)] := by
    rw [hYc]; simp [Chan.waiting, Chan.take, (hf m.ch hch).1, (hf m.ch hch).2.1]
  have hrun : ∀ d, d < 4 → (Y.chan d).running = false := by
    intro d hd
    rw [hYc]
    by_cases hdm : d = m.ch
    · subst hdm; simp [Chan.take, (hf m.ch hch).2.1]
    · simp [hdm, (hf d hd).2.1]
  have hstart : Y.mayStart k verb = true := by
    unfold State.mayStart
    dsimp only
    rw [Bool.or_eq_true, List.all_eq_true]
    refine .inr fun d hd => ?_
    have hd4 : d < 4 := by simp at hd; omega
    rw [Bool.and_eq_true]
    refine ⟨?_, by simp [Chan.runs, hrun d hd4]⟩
    by_cases hdm : d = m.ch
    · subst hdm; rw [hwm]; simp
    · rw [hwait d hd4 hdm]; rfl
  have hd : ∀ d, d < 4 → Y.due d = if d = m.ch then some k else none := by
    intro d hd
    unfold State.due
    rw [hrun d hd]
    by_cases hdm : d = m.ch
    · subst hdm
      rw [hwm]
      simp [cmdOf, hstart]
    · rw [hwait d hd hdm]; simp [hdm]
  have hdue : Y.dueChan = some m.ch := by
    unfold State.dueChan
    have : m.ch = 0 ∨ m.ch = 1 ∨ m.ch = 2 ∨ m.ch = 3 := by omega
    rcases this with h | h | h | h <;> simp [List.find?, hd, h]
  have hs : Y.settle = settleGo 255 (Y.runHead m.ch) := by
    unfold State.settle
    rw [settleGo, hdue]
  rw [hs]
  unfold State.runHead
  rw [hq]
  all_goals
    generalize Y.modChan m.ch (fun x => { x with running := true }) = Z
    rfl

/-- What a usable command leaves, in the terms of `submit_closes`. -/
theorem after_submit {verb : Nat} {m : Mbox} {s : State} (dt : Nat) (hu : Usable verb m (s.opens dt)) :
    after dt (fun s => s.submit verb m) s =
      let x := ((s.opens dt).submit verb m).modChan m.ch (fun x => { x with running := true })
      { (settleGo 255 (match (x.runCmd m.ch (cmdOf verb m)).2 with
        | some rep => (x.runCmd m.ch (cmdOf verb m)).1.respond m.ch rep
        | none => (x.runCmd m.ch (cmdOf verb m)).1)).sends with pending := s.pending } := submit_closes s.pending hu

/-- What stays of the state while a usable command runs. -/
theorem running_fields {verb : Nat} {m : Mbox} {s : State} (hu : Usable verb m s) :
    ∃ st mb ti, running verb m s = { s with store := st, mbox := mb, tie := ti } := by
  obtain ⟨st, n, e⟩ := submit_usable hu
  unfold running State.keystones
  rw [e]
  split
  · exact ⟨_, _, _, rfl⟩
  · exact ⟨_, _, _, rfl⟩

end Sys2Proof.Machine
end

