-- ==== Sys2Proof/Laws/Memory.lean ====
section
/-! SUPPORT. Memories keep their canonical form: the lemmas of the memory operations, and what a fold or a pair leaves of the store. -/

namespace Sys2Proof.Machine

open Sys2Proof

theorem Mem.wfFrom_mono : ∀ {m : Mem} {lo lo' : Nat}, lo ≤ lo' → Mem.wfFrom lo' m = true → Mem.wfFrom lo m = true
  | [], _, _, _, _ => rfl
  | (a, b) :: m, lo, lo', h, hw => by
    simp only [Mem.wfFrom, Bool.and_eq_true, decide_eq_true_eq] at hw ⊢
    exact ⟨⟨Nat.le_trans h hw.1.1, hw.1.2⟩, hw.2⟩

/-- Writing one byte keeps the canonical form. -/
theorem Mem.set_wfFrom : ∀ {m : Mem} {lo x : Nat} {v : Byte}, lo ≤ x → Mem.wfFrom lo m = true → Mem.wfFrom lo (Mem.set m x v) = true
  | [], lo, x, v, hx, _ => by
    unfold Mem.set
    split
    · rfl
    · simpa [Mem.wfFrom] using ⟨hx, ‹_›⟩
  | (a, b) :: m, lo, x, v, hx, hw => by
    simp only [Mem.wfFrom, Bool.and_eq_true, decide_eq_true_eq, bne_iff_ne, ne_eq] at hw
    obtain ⟨⟨ha, hb⟩, hm⟩ := hw
    have cons : ∀ {l y : Nat} {w : Byte} {q : Mem}, l ≤ y → ¬w = 0 → Mem.wfFrom (y + 1) q = true → Mem.wfFrom l ((y, w) :: q) = true := by
      intro l y w q h1 h2 h3
      simp only [Mem.wfFrom, Bool.and_eq_true, decide_eq_true_eq, bne_iff_ne, ne_eq]
      exact ⟨⟨h1, h2⟩, h3⟩
    unfold Mem.set
    split
    · split
      · exact cons ha hb hm
      · exact cons hx ‹_› (cons (by omega) hb hm)
    · split
      · split
        · exact Mem.wfFrom_mono (by omega) hm
        · subst_vars; exact cons hx ‹_› hm
      · exact cons ha hb (Mem.set_wfFrom (by omega) hm)

theorem Mem.set_wf {m : Mem} (x : Nat) (v : Byte) (h : m.wf = true) : (m.set x v).wf = true :=
  Mem.set_wfFrom (Nat.zero_le x) h

/-- Every cell of a canonical list lies at or above its bound and is not 0; the list is sorted. -/
theorem Mem.wfFrom_append : ∀ {p q : Mem} {lo mid : Nat}, Mem.wfFrom lo p = true → (∀ c ∈ p, c.1 < mid) → lo ≤ mid →
    Mem.wfFrom mid q = true → Mem.wfFrom lo (p ++ q) = true
  | [], q, lo, mid, _, _, h, hq => Mem.wfFrom_mono h hq
  | (a, b) :: p, q, lo, mid, hp, hlt, h, hq => by
    simp only [Mem.wfFrom, List.cons_append, Bool.and_eq_true, decide_eq_true_eq] at hp ⊢
    have ha : a < mid := hlt (a, b) (by simp)
    exact ⟨hp.1, Mem.wfFrom_append hp.2 (fun c hc => hlt c (by simp [hc])) (by omega) hq⟩

theorem Mem.takeWhile_wfFrom : ∀ {m : Mem} {lo : Nat} (p : Host.Cell → Bool), Mem.wfFrom lo m = true → Mem.wfFrom lo (m.takeWhile p) = true
  | [], _, _, _ => rfl
  | (a, b) :: m, lo, p, h => by
    simp only [List.takeWhile_cons]
    split
    · simp only [Mem.wfFrom, Bool.and_eq_true, decide_eq_true_eq] at h ⊢
      exact ⟨h.1, Mem.takeWhile_wfFrom p h.2⟩
    · rfl

theorem Mem.takeWhile_lt : ∀ (m : Mem) (hi : Nat), ∀ c ∈ m.takeWhile (fun c => c.1 < hi), c.1 < hi
  | [], _, c, h => by simp at h
  | d :: m, hi, c, h => by
    simp only [List.takeWhile_cons] at h
    split at h
    · rcases List.mem_cons.mp h with rfl | h
      · exact of_decide_eq_true ‹decide (c.1 < hi) = true›
      · exact Mem.takeWhile_lt m hi c h
    · simp at h

theorem Mem.dropWhile_wfFrom : ∀ {m : Mem} {lo hi : Nat}, Mem.wfFrom lo m = true → Mem.wfFrom hi (m.dropWhile (fun c => c.1 < hi)) = true
  | [], _, _, _ => rfl
  | (a, b) :: m, lo, hi, h => by
    simp only [List.dropWhile_cons]
    split
    · simp only [Mem.wfFrom, Bool.and_eq_true, decide_eq_true_eq] at h
      exact Mem.dropWhile_wfFrom h.2
    · rename_i hn
      simp only [Mem.wfFrom, Bool.and_eq_true, decide_eq_true_eq] at h ⊢
      simp only [decide_eq_true_eq, Nat.not_lt] at hn
      exact ⟨⟨hn, h.1.2⟩, h.2⟩

theorem cellsAt_wfFrom : ∀ (bs : List Nat) (a : Nat), Mem.wfFrom a (cellsAt a bs) = true
  | [], _ => rfl
  | b :: bs, a => by
    simp only [cellsAt]
    split
    · exact Mem.wfFrom_mono (Nat.le_succ a) (cellsAt_wfFrom bs (a + 1))
    · rename_i h
      simp only [Mem.wfFrom, Bool.and_eq_true, decide_eq_true_eq, bne_iff_ne, ne_eq]
      refine ⟨⟨Nat.le_refl a, fun hb => h ?_⟩, cellsAt_wfFrom bs (a + 1)⟩
      have := congrArg BitVec.toNat hb
      simpa using this

theorem cellsAt_lt : ∀ (bs : List Nat) (a : Nat), ∀ c ∈ cellsAt a bs, c.1 < a + bs.length
  | [], _, c, h => by simp [cellsAt] at h
  | b :: bs, a, c, h => by
    simp only [cellsAt] at h
    have := cellsAt_lt bs (a + 1)
    split at h
    · have := this c h; simp only [List.length_cons]; omega
    · simp only [List.mem_cons] at h
      rcases h with rfl | h
      · simp
      · have := this c h; simp only [List.length_cons]; omega

/-- Writing bytes keeps the canonical form. -/
theorem Mem.write_wf {m : Mem} (a : Nat) (bytes : List Nat) (h : m.wf = true) : (m.write a bytes).wf = true := by
  unfold Mem.write Mem.wf
  refine Mem.wfFrom_append (mid := a) (Mem.takeWhile_wfFrom _ h) ?_ (Nat.zero_le a) ?_
  · exact Mem.takeWhile_lt m a
  · exact Mem.wfFrom_append (cellsAt_wfFrom bytes a) (cellsAt_lt bytes a) (Nat.le_add_right _ _) (Mem.dropWhile_wfFrom h)

/-- A fold whose step leaves the store alone leaves it alone. -/
@[simp] theorem foldl_store {α : Type} (g : State → α → State) (l : List α) (s : State) (h : ∀ s a, (g s a).store = s.store) :
    (l.foldl g s).store = s.store := by
  induction l generalizing s with
  | nil => rfl
  | cons a l ih => simp only [List.foldl_cons, ih, h]

/-- A fold whose step keeps the memories canonical keeps them so. -/
theorem foldl_ok {α : Type} (g : State → α → State) (l : List α) (s : State) (h : ∀ s a, s.store.ok → (g s a).store.ok)
    (hs : s.store.ok) : (l.foldl g s).store.ok := by
  induction l generalizing s with
  | nil => exact hs
  | cons a l ih => exact ih _ (h s a hs)

@[simp] theorem ite_store (p : Prop) [Decidable p] (a b : State) : (if p then a else b).store = if p then a.store else b.store := by
  split <;> rfl

@[simp] theorem ite_fst_store {α : Type} (p : Prop) [Decidable p] (a b : State × α) :
    (if p then a else b).1.store = if p then a.1.store else b.1.store := by
  split <;> rfl

end Sys2Proof.Machine
end

