-- ==== Sys2Proof/Laws/OpBase.lean ====
section
/-! SUPPORT. The states in which no course fires, and what a fold or a pair leaves of the operating state. -/

namespace Sys2Proof.Machine

open Sys2Proof

/-- Neither READY nor PRINTING nor HOLDING. -/
def Unarmed (o : OpState) : Prop := o ≠ .ready ∧ o ≠ .printing ∧ o ≠ .holding

@[simp] theorem unarmed_state {s : State} (h : Unarmed s.ident.opState) : s.armed = false := by
  unfold State.armed
  split <;> simp_all [Unarmed]

@[simp] theorem unarmed_printHold {s : State} (h : Unarmed s.ident.opState) : s.printHold = false := by
  unfold State.printHold
  split <;> simp_all [Unarmed]

@[simp] theorem unarmed_ready : Unarmed .ready ↔ False := by simp [Unarmed]
@[simp] theorem unarmed_printing : Unarmed .printing ↔ False := by simp [Unarmed]
@[simp] theorem unarmed_holding : Unarmed .holding ↔ False := by simp [Unarmed]
@[simp] theorem unarmed_off : Unarmed .off := by simp [Unarmed]
@[simp] theorem unarmed_standby : Unarmed .standby := by simp [Unarmed]
@[simp] theorem unarmed_boot : Unarmed .boot := by simp [Unarmed]
@[simp] theorem unarmed_rest : Unarmed .rest := by simp [Unarmed]
@[simp] theorem unarmed_fault : Unarmed .fault := by simp [Unarmed]

theorem unarmed_printing_ne {o : OpState} (h : Unarmed o) : o ≠ .printing := h.2.1

@[simp] theorem foldl_op {α : Type} (g : State → α → State) (l : List α) (s : State) (h : ∀ s a, (g s a).ident.opState = s.ident.opState) :
    (l.foldl g s).ident.opState = s.ident.opState := by
  induction l generalizing s with
  | nil => rfl
  | cons a l ih => simp only [List.foldl_cons, ih, h]

theorem foldl_un {α : Type} (g : State → α → State) (l : List α) (s : State)
    (h : ∀ s a, Unarmed s.ident.opState → Unarmed (g s a).ident.opState) (hs : Unarmed s.ident.opState) :
    Unarmed (l.foldl g s).ident.opState := by
  induction l generalizing s with
  | nil => exact hs
  | cons a l ih => exact ih _ (h s a hs)

theorem foldl_np {α : Type} (g : State → α → State) (l : List α) (s : State)
    (h : ∀ s a, s.ident.opState ≠ .printing → (g s a).ident.opState ≠ .printing) (hs : s.ident.opState ≠ .printing) :
    (l.foldl g s).ident.opState ≠ .printing := by
  induction l generalizing s with
  | nil => exact hs
  | cons a l ih => exact ih _ (h s a hs)

@[simp] theorem ite_op (p : Prop) [Decidable p] (a b : State) :
    (if p then a else b).ident.opState = if p then a.ident.opState else b.ident.opState := by
  split <;> rfl

@[simp] theorem ite_fst_op {α : Type} (p : Prop) [Decidable p] (a b : State × α) :
    (if p then a else b).1.ident.opState = if p then a.1.ident.opState else b.1.ident.opState := by
  split <;> rfl

end Sys2Proof.Machine
end

