-- ==== Sys2Proof/Laws/OpUnits.lean ====
section
/-! SUPPORT. What leaves the operating state alone, keeps it unarmed (un) or keeps it from PRINTING (np): the units below the press: records, memory, DMA, screening, lamps, thermal. -/

namespace Sys2Proof.Machine

open Sys2Proof

-- The terms of a step are records inside records, deeper than the default allows.
set_option maxRecDepth 4000

@[simp] theorem State.advance_op (dt : Nat) (s : State) : (State.advance dt s).ident.opState = s.ident.opState := by
  simp [State.advance]

@[simp] theorem State.send_op (o : Out) (s : State) : (State.send o s).ident.opState = s.ident.opState := by
  simp [State.send]

@[simp] theorem State.tieSendAll_op (from_ cls : Nat) (l : List (List Int)) (s : State) : (State.tieSendAll from_ cls l s).ident.opState = s.ident.opState := by
  simp [State.tieSendAll]

@[simp] theorem State.tieSend_op (from_ cls : Nat) (fields : List Int) (s : State) : (State.tieSend from_ cls fields s).ident.opState = s.ident.opState := by
  simp [State.tieSend]

@[simp] theorem State.tieOut_op (u : Nat × Nat × List Int) (s : State) : (State.tieOut u s).ident.opState = s.ident.opState := by
  simp [State.tieOut]

@[simp] theorem State.tieFlush_op (s : State) : (State.tieFlush s).ident.opState = s.ident.opState := by
  simp [State.tieFlush]

@[simp] theorem State.buttSend_op (o : Out) (s : State) : (State.buttSend o s).ident.opState = s.ident.opState := by
  simp [State.buttSend]

@[simp] theorem State.buttFlush_op (s : State) : (State.buttFlush s).ident.opState = s.ident.opState := by
  simp [State.buttFlush]

@[simp] theorem State.fresh_op (s : State) : (State.fresh s).2.ident.opState = s.ident.opState := by
  simp [State.fresh]

@[simp] theorem State.roundFree_op (n d : Nat) (s : State) : (State.roundFree n d s).2.ident.opState = s.ident.opState := by
  unfold State.roundFree; (repeat' split) <;> simp

@[simp] theorem State.alert_op (k : Nat) (s : State) : (State.alert k s).ident.opState = s.ident.opState := by
  simp [State.alert]

@[simp] theorem State.commitEv_op (late : Bool) (s : State) (e : Ev) : (State.commitEv late s e).ident.opState = s.ident.opState := by
  simp [State.commitEv]

@[simp] theorem State.queueRecord_op (e : Ev) (s : State) : (State.queueRecord e s).ident.opState = s.ident.opState := by
  simp [State.queueRecord]

@[simp] theorem State.putRecord_op (e : Ev) (s : State) : (State.putRecord e s).ident.opState = s.ident.opState := by
  simp [State.putRecord]

@[simp] theorem State.emit_op (source code : Nat) (detail : Int) (data : List Int) (s : State) : (State.emit source code detail data s).ident.opState = s.ident.opState := by
  simp [State.emit]

@[simp] theorem State.setFn_op (f : Nat) (x : Fn) (s : State) : (State.setFn f x s).ident.opState = s.ident.opState := by
  simp [State.setFn]

@[simp] theorem State.message_op (f v : Nat) (s : State) : (State.message f v s).ident.opState = s.ident.opState := by
  simp [State.message]

@[simp] theorem State.raise_op (f v : Nat) (s : State) : (State.raise f v s).ident.opState = s.ident.opState := by
  simp [State.raise]

@[simp] theorem State.raiseBoth_op (v : Nat) (s : State) : (State.raiseBoth v s).ident.opState = s.ident.opState := by
  simp [State.raiseBoth]

@[simp] theorem State.startTime_op (s : State) : (State.startTime s).ident.opState = s.ident.opState := by
  simp [State.startTime]

@[simp] theorem State.enter_op (o : OpState) (s : State) : (State.enter o s).ident.opState = o := by
  unfold State.enter
  split
  · assumption
  · simp



@[simp] theorem State.modChan_op (c : Nat) (f : Chan → Chan) (s : State) : (State.modChan c f s).ident.opState = s.ident.opState := by
  simp [State.modChan]

@[simp] theorem State.respond_op (c : Nat) (r : Reply) (s : State) : (State.respond c r s).ident.opState = s.ident.opState := by
  simp only [State.respond]; (repeat' split) <;> simp

@[simp] theorem State.rebase_op (s : State) : (State.rebase s).ident.opState = s.ident.opState := by
  simp [State.rebase]

@[simp] theorem State.setJob_op (j : Job) (s : State) : (State.setJob j s).ident.opState = s.ident.opState := by
  simp [State.setJob]



@[simp] theorem State.setMem_op (w t : Nat) (m : Mem) (s : State) : (State.setMem w t m s).ident.opState = s.ident.opState := by
  unfold State.setMem; (repeat' split) <;> simp

@[simp] theorem State.storeWrite_op (w t addr : Nat) (bytes : List Nat) (s : State) : (State.storeWrite w t addr bytes s).ident.opState = s.ident.opState := by
  simp [State.storeWrite]

@[simp] theorem State.hostWrite_op (addr : Nat) (bytes : List Nat) (s : State) : (State.hostWrite addr bytes s).ident.opState = s.ident.opState := by
  simp [State.hostWrite]

@[simp] theorem State.hostLoad_op (l : List (Nat × List Nat)) (s : State) : (State.hostLoad l s).ident.opState = s.ident.opState := by
  simp [State.hostLoad]

@[simp] theorem State.growChain_op (id c w n : Nat) (s : State) : (State.growChain id c w n s).ident.opState = s.ident.opState := by
  unfold State.growChain; (repeat' split) <;> simp

@[simp] theorem State.returnExtents_op (id w : Nat) (s : State) : (State.returnExtents id w s).ident.opState = s.ident.opState := by
  unfold State.returnExtents; (repeat' split) <;> simp

@[simp] theorem State.chainWriteGo_op (w : Nat) (l : List (Nat × Nat)) (x0 : Nat) (x1 : Nat) (x2 : List Nat) (s : State) : (State.chainWriteGo w l x0 x1 x2 s).ident.opState = s.ident.opState := by
  induction x0 generalizing x1 x2 s with
  | zero => rfl
  | succ n ih =>
    unfold State.chainWriteGo
    split
    · rfl
    · rw [ih]; simp

@[simp] theorem State.chainWrite_op (w : Nat) (l : List (Nat × Nat)) (off : Nat) (bytes : List Nat) (s : State) : (State.chainWrite w l off bytes s).ident.opState = s.ident.opState := by
  simp [State.chainWrite]

@[simp] theorem State.dropLines_op (w job fluid line n : Nat) (s : State) : (State.dropLines w job fluid line n s).ident.opState = s.ident.opState := by
  simp [State.dropLines]

@[simp] theorem State.addLines_op (ls : List Line) (s : State) : (State.addLines ls s).ident.opState = s.ident.opState := by
  simp [State.addLines]

@[simp] theorem State.keepStrips_op (f : Nat) (d : Desc) (j : Job) (s : State) : (State.keepStrips f d j s).ident.opState = s.ident.opState := by
  simp only [State.keepStrips]; (repeat' split) <;> simp

@[simp] theorem State.keepRaw_op (f : Nat) (d : Desc) (j : Job) (s : State) : (State.keepRaw f d j s).ident.opState = s.ident.opState := by
  unfold State.keepRaw
  dsimp only
  split
  · simp
  · rw [State.addLines_op, foldl_op _ _ _ (fun s a => State.chainWrite_op _ _ _ _ _)]; simp

@[simp] theorem State.keepCompressed_op (f : Nat) (d : Desc) (j : Job) (s : State) : (State.keepCompressed f d j s).ident.opState = s.ident.opState := by
  unfold State.keepCompressed
  dsimp only
  split
  · simp
  · rw [State.addLines_op]
    dsimp only
    rw [foldl_op _ _ _ (fun s a => foldl_op _ _ _ (fun s a => State.chainWrite_op _ _ _ _ _))]; simp

@[simp] theorem State.deliver_op (f : Nat) (d : Desc) (s : State) : (State.deliver f d s).ident.opState = s.ident.opState := by
  simp only [State.deliver]; (repeat' split) <;> simp

@[simp] theorem State.claimExtents_op (id : Nat) (s : State) : (State.claimExtents id s).ident.opState = s.ident.opState := by
  unfold State.claimExtents; (repeat' split) <;> simp

@[simp] theorem State.modCh_op (f c : Nat) (g : Dma → Dma) (s : State) : (State.modCh f c g s).ident.opState = s.ident.opState := by
  simp [State.modCh]

@[simp] theorem State.memRecord_op (w t addr effect : Nat) (s : State) : (State.memRecord w t addr effect s).ident.opState = s.ident.opState := by
  simp [State.memRecord]

@[simp] theorem State.freeBytes_op (n : Nat) (s : State) : (State.freeBytes n s).2.ident.opState = s.ident.opState := by
  induction n generalizing s with
  | zero => rfl
  | succ n ih => simp only [State.freeBytes, ih]; rfl
@[simp] theorem State.dumpRequest_op (f : Nat) (d : Desc) (s : State) (r : Nat × Nat) : (State.dumpRequest f d s r).ident.opState = s.ident.opState := by
  simp [State.dumpRequest]

@[simp] theorem State.dump_op (f : Nat) (d : Desc) (s : State) : (State.dump f d s).1.ident.opState = s.ident.opState := by
  unfold State.dump
  dsimp only
  (repeat' split) <;> simp

@[simp] theorem State.fetchDesc_op (f c : Nat) (s : State) : (State.fetchDesc f c s).ident.opState = s.ident.opState := by
  simp [State.fetchDesc]

@[simp] theorem State.serve_op (f c : Nat) (s : State) : (State.serve f c s).1.ident.opState = s.ident.opState := by
  simp only [State.serve]; (repeat' split) <;> simp

@[simp] theorem State.pumpGo_op (f : Nat) (x0 : Nat) (x1 : Nat) (s : State) : (State.pumpGo f x0 x1 s).ident.opState = s.ident.opState := by
  induction x0 generalizing x1 s with
  | zero => rfl
  | succ n ih =>
    unfold State.pumpGo
    split
    · rfl
    · simp only [ih]; simp

@[simp] theorem State.pump_op (f : Nat) (s : State) : (State.pump f s).ident.opState = s.ident.opState := by
  simp [State.pump]

@[simp] theorem State.chanError_op (f c : Nat) (result detail : Nat) (s : State) : (State.chanError f c result detail s).ident.opState = s.ident.opState := by
  simp [State.chanError]

@[simp] theorem State.chanEnable_op (f c : Nat) (s : State) : (State.chanEnable f c s).ident.opState = s.ident.opState := by
  simp only [State.chanEnable]; (repeat' split) <;> simp

@[simp] theorem State.giveBack_op (f : Nat) (s : State) (d : Desc) : (State.giveBack f s d).ident.opState = s.ident.opState := by
  unfold State.giveBack; (repeat' split) <;> simp

@[simp] theorem State.dropStaged_op (f c : Nat) (s : State) : (State.dropStaged f c s).ident.opState = s.ident.opState := by
  simp [State.dropStaged]

@[simp] theorem State.abortDone_op (f c : Nat) (s : State) : (State.abortDone f c s).ident.opState = s.ident.opState := by
  simp [State.abortDone]

@[simp] theorem State.chanAbort_op (f c : Nat) (rest : Bool) (s : State) : (State.chanAbort f c rest s).ident.opState = s.ident.opState := by
  simp [State.chanAbort]

@[simp] theorem State.chanDisable_op (f c : Nat) (s : State) : (State.chanDisable f c s).ident.opState = s.ident.opState := by
  simp only [State.chanDisable]; (repeat' split) <;> simp

@[simp] theorem State.abortAll_op (s : State) : (State.abortAll s).ident.opState = s.ident.opState := by
  simp [State.abortAll]

@[simp] theorem State.disableAll_op (f : Nat) (s : State) : (State.disableAll f s).ident.opState = s.ident.opState := by
  simp [State.disableAll]

@[simp] theorem State.tailWrite_op (f c v : Nat) (s : State) : (State.tailWrite f c v s).ident.opState = s.ident.opState := by
  simp only [State.tailWrite]; (repeat' split) <;> simp

@[simp] theorem State.ringBaseWrite_op (f c v : Nat) (s : State) : (State.ringBaseWrite f c v s).ident.opState = s.ident.opState := by
  unfold State.ringBaseWrite; (repeat' split) <;> simp

@[simp] theorem State.spoilBurst_op (f off : Nat) (d : Desc) (s : State) : (State.spoilBurst f off d s).ident.opState = s.ident.opState := by
  unfold State.spoilBurst; (repeat' split) <;> simp

@[simp] theorem State.admitRecord_op (f : Nat) (d : Desc) (e : AdmitFail) (s : State) : (State.admitRecord f d e s).ident.opState = s.ident.opState := by
  simp [State.admitRecord]

@[simp] theorem State.compress_op (f c i : Nat) (d : Desc) (j : Job) (s : State) : (State.compress f c i d j s).ident.opState = s.ident.opState := by
  simp only [State.compress]; (repeat' split) <;> simp

@[simp] theorem State.judgeDesc_op (f c i : Nat) (s : State) : (State.judgeDesc f c i s).ident.opState = s.ident.opState := by
  simp only [State.judgeDesc]; (repeat' split) <;> simp

@[simp] theorem State.complete_op (f c k err : Nat) (beat : Bool) (runMin : Nat) (s : State) : (State.complete f c k err beat runMin s).ident.opState = s.ident.opState := by
  simp only [State.complete]; (repeat' split) <;> simp

@[simp] theorem State.endDesc_op (f c : Nat) (s : State) : (State.endDesc f c s).1.ident.opState = s.ident.opState := by
  unfold State.endDesc
  dsimp only
  split
  · rfl
  · split
    · rfl
    · split
      · rfl
      · split
        · split
          · simp
          · cases hj : s.job _ <;> simp
        · dsimp only
          rw [State.pump_op]
          (repeat' split) <;> simp

@[simp] theorem State.admission_op (f c : Nat) (s : State) : (State.admission f c s).ident.opState = s.ident.opState := by
  simp only [State.admission]; (repeat' split) <;> simp

@[simp] theorem State.compressResume_op (job : Nat) (s : State) : (State.compressResume job s).ident.opState = s.ident.opState := by
  unfold State.compressResume
  dsimp only
  split
  · rw [State.pump_op, State.pump_op, foldl_op _ _ _ (fun s a => by split <;> simp)]; simp
  · rfl

@[simp] theorem State.ownReads_op (f : Nat) (x0 : Nat) (x1 : Nat) (s : State) : (State.ownReads f x0 x1 s).ident.opState = s.ident.opState := by
  induction x0 generalizing x1 s with
  | zero => rfl
  | succ n ih =>
    unfold State.ownReads
    dsimp only
    split
    · rfl
    · rw [ih]; simp

@[simp] theorem State.ownChannel_op (f c n : Nat) (s : State) : (State.ownChannel f c n s).ident.opState = s.ident.opState := by
  simp [State.ownChannel]

@[simp] theorem State.ownFetch_op (n0 n1 : Nat) (s : State) : (State.ownFetch n0 n1 s).ident.opState = s.ident.opState := by
  simp [State.ownFetch]

@[simp] theorem State.ownError_op (f c : Nat) (s : State) : (State.ownError f c s).ident.opState = s.ident.opState := by
  simp [State.ownError]

@[simp] theorem State.bar2Write_op (f off : Nat) (bytes : List Nat) (s : State) : (State.bar2Write f off bytes s).ident.opState = s.ident.opState := by
  simp [State.bar2Write]



@[simp] theorem State.modLane_op (l : Nat) (f : Lane → Lane) (s : State) : (State.modLane l f s).ident.opState = s.ident.opState := by
  simp [State.modLane]

@[simp] theorem State.setLease_op (x : Lease) (s : State) : (State.setLease x s).ident.opState = s.ident.opState := by
  simp [State.setLease]

@[simp] theorem State.sendUnit_op (l prio kind : Nat) (data : List Nat) (s : State) : (State.sendUnit l prio kind data s).ident.opState = s.ident.opState := by
  simp [State.sendUnit]

@[simp] theorem State.sendLease_op (lanes : List Nat) (op epoch tLease course : Nat) (s : State) : (State.sendLease lanes op epoch tLease course s).ident.opState = s.ident.opState := by
  simp [State.sendLease]

@[simp] theorem State.unitData_op (l : Nat) (u : TxUnit) (start : Nat) (s : State) : (State.unitData l u start s).2.ident.opState = s.ident.opState := by
  unfold State.unitData; (repeat' split) <;> simp

@[simp] theorem State.laneBegin_op (limit l : Nat) (s : State) : (State.laneBegin limit l s).ident.opState = s.ident.opState := by
  unfold State.laneBegin
  split
  · rfl
  · rw [State.send_op, State.modLane_op, State.unitData_op]
    split
    · rfl
    · rw [State.send_op]

@[simp] theorem State.lanesBegin_op (limit : Nat) (s : State) : (State.lanesBegin limit s).ident.opState = s.ident.opState := by
  unfold State.lanesBegin
  split
  · rfl
  · exact foldl_op _ _ _ (fun s l => foldl_op _ _ _ (fun s a => State.laneBegin_op _ _ _))

@[simp] theorem State.sendConfig_op (id : Nat) (s : State) : (State.sendConfig id s).ident.opState = s.ident.opState := by
  unfold State.sendConfig; (repeat' split) <;> simp

@[simp] theorem State.restOn_op (lanes : List Nat) (s : State) : (State.restOn lanes s).ident.opState = s.ident.opState := by
  simp [State.restOn]

@[simp] theorem State.sendRest_op (s : State) : (State.sendRest s).ident.opState = s.ident.opState := by
  simp [State.sendRest]

@[simp] theorem State.sendAcquire_op (id port : Nat) (s : State) : (State.sendAcquire id port s).ident.opState = s.ident.opState := by
  simp [State.sendAcquire]

@[simp] theorem State.setEnc_op (e : Nat) (x : Enc) (s : State) : (State.setEnc e x s).ident.opState = s.ident.opState := by
  simp [State.setEnc]

@[simp] theorem State.sendAll_op (l : List Out) (s : State) : (State.sendAll l s).ident.opState = s.ident.opState := by
  simp [State.sendAll]

@[simp] theorem State.encDrain_op (s : State) : (State.encDrain s).ident.opState = s.ident.opState := by
  simp [State.encDrain]

@[simp] theorem State.encOut_op (d : Int) (s : State) : (State.encOut d s).ident.opState = s.ident.opState := by
  simp [State.encOut]

@[simp] theorem State.newWindow_op (s : State) : (State.newWindow s).ident.opState = s.ident.opState := by
  simp [State.newWindow]

@[simp] theorem State.encOutLow_op (s : State) : (State.encOutLow s).ident.opState = s.ident.opState := by
  simp [State.encOutLow]



@[simp] theorem State.setCeil_op (s : State) : (State.setCeil s).ident.opState = s.ident.opState := by
  simp [State.setCeil]

@[simp] theorem State.modCoping_op (f : Coping → Coping) (s : State) : (State.modCoping f s).ident.opState = s.ident.opState := by
  simp [State.modCoping]

@[simp] theorem State.forceStep_op (s : State) : (State.forceStep s).ident.opState = s.ident.opState := by
  simp [State.forceStep]



@[simp] theorem State.buttRecord_op (code : Nat) (detail : Int) (data : List Int) (s : State) : (State.buttRecord code detail data s).ident.opState = s.ident.opState := by
  simp [State.buttRecord]

@[simp] theorem State.endSwap_op (s : State) : (State.endSwap s).ident.opState = s.ident.opState := by
  unfold State.endSwap; (repeat' split) <;> simp

@[simp] theorem State.setRole_op (r : PairRole) (s : State) : (State.setRole r s).ident.opState = s.ident.opState := by
  simp [State.setRole]

@[simp] theorem State.mirrorSet_op (ok : Bool) (reason : Nat) (s : State) : (State.mirrorSet ok reason s).ident.opState = s.ident.opState := by
  simp [State.mirrorSet]

@[simp] theorem State.setMirror_op (ok : Bool) (reason : Nat) (s : State) : (State.setMirror ok reason s).ident.opState = s.ident.opState := by
  simp [State.setMirror]

@[simp] theorem State.releaseAll_op (s : State) : (State.releaseAll s).ident.opState = s.ident.opState := by
  simp [State.releaseAll]

@[simp] theorem State.modPlumb_op (f : Plumb → Plumb) (s : State) : (State.modPlumb f s).ident.opState = s.ident.opState := by
  simp [State.modPlumb]

@[simp] theorem State.dwell_op (k v : Nat) (s : State) : (State.dwell k v s).2.ident.opState = s.ident.opState := by
  simp [State.dwell]

@[simp] theorem State.sendHandover_op (fDone : Nat) (oneMore : Bool) (cause : Nat) (s : State) : (State.sendHandover fDone oneMore cause s).ident.opState = s.ident.opState := by
  simp [State.sendHandover]

@[simp] theorem State.pairAtRest_op (bits : List Nat) (s : State) : (State.pairAtRest bits s).ident.opState = s.ident.opState := by
  unfold State.pairAtRest; (repeat' split) <;> simp

@[simp] theorem State.cancelActions_op (s : State) : (State.cancelActions s).ident.opState = s.ident.opState := by
  simp [State.cancelActions]

@[simp] theorem State.endPendRest_op (o : OpState) (s : State) : (State.endPendRest o s).ident.opState = s.ident.opState := by
  unfold State.endPendRest; (repeat' split) <;> simp

@[simp] theorem State.setNozzles_op  (x0 : List (Nat × Nat)) (s : State) : (State.setNozzles x0 s).1.ident.opState = s.ident.opState := by
  induction x0 generalizing s with
  | nil => rfl
  | cons e es ih =>
    obtain ⟨i, v⟩ := e
    simp only [State.setNozzles, ih]

@[simp] theorem State.applyNoz_op (c : NozChg) (s : State) : (State.applyNoz c s).ident.opState = s.ident.opState := by
  unfold State.applyNoz; simp

@[simp] theorem State.applyAllNoz_op (s : State) : (State.applyAllNoz s).ident.opState = s.ident.opState := by
  simp [State.applyAllNoz]

@[simp] theorem State.endJobs_op (s : State) : (State.endJobs s).ident.opState = s.ident.opState := by
  simp [State.endJobs]

@[simp] theorem State.lampsAtRest_op (s : State) : (State.lampsAtRest s).ident.opState = s.ident.opState := by
  simp [State.lampsAtRest]

@[simp] theorem State.calAtRest_op (s : State) : (State.calAtRest s).ident.opState = s.ident.opState := by
  simp [State.calAtRest]

@[simp] theorem State.calStop_op (bs : List Nat) (s : State) : (State.calStop bs s).ident.opState = s.ident.opState := by
  simp [State.calStop]

@[simp] theorem State.motionAtRest_op (s : State) : (State.motionAtRest s).ident.opState = s.ident.opState := by
  simp [State.motionAtRest]

@[simp] theorem State.restActions_op (o : OpState) (bits : List Nat) (s : State) : (State.restActions o bits s).ident.opState = s.ident.opState := by
  unfold State.restActions
  dsimp only
  split <;> split <;>
    simp only [State.abortAll_op, State.sendRest_op, State.pairAtRest_op, State.endPendRest_op, State.cancelActions_op, State.applyAllNoz_op, State.endJobs_op, State.forceStep_op, State.lampsAtRest_op, State.calAtRest_op, State.motionAtRest_op, State.buttSend_op]

@[simp] theorem State.enterRest_op (o : OpState) (bits : List Nat) (s : State) : (State.enterRest o bits s).ident.opState = o := by
  simp [State.enterRest]

@[simp] theorem State.causeRecord_op (acts : Bool) (p : Nat × Nat) (s : State) : (State.causeRecord acts p s).ident.opState = s.ident.opState := by
  simp [State.causeRecord]

theorem restOrStay (a b : Bool) (x y : List Nat) (v : State) :
    (if a then v.enterRest .fault x else if b then v.enterRest .rest y else v).ident.opState = v.ident.opState ∨
      (if a then v.enterRest .fault x else if b then v.enterRest .rest y else v).ident.opState = .fault ∨
      (if a then v.enterRest .fault x else if b then v.enterRest .rest y else v).ident.opState = .rest := by
  cases a <;> cases b <;> simp

theorem State.registerCauses_op (l : List (Nat × Nat)) (s : State) :
    (State.registerCauses l s).ident.opState = s.ident.opState ∨ (State.registerCauses l s).ident.opState = .fault ∨
      (State.registerCauses l s).ident.opState = .rest := by
  have hf : (List.foldl (fun s p => State.causeRecord (s.causeActs p.1) p s) s (l.foldr insertCause [])).ident.opState = s.ident.opState :=
    foldl_op _ _ _ (fun s a => State.causeRecord_op _ _ _)
  unfold State.registerCauses
  dsimp only
  refine (restOrStay _ _ _ _ _).imp_left (fun e => e.trans ?_)
  rw [ite_op, State.raiseBoth_op, State.alert_op, ite_self]
  exact hf

@[simp] theorem State.registerCauses_un (l : List (Nat × Nat)) (s : State) (h : Unarmed s.ident.opState) :
    Unarmed (State.registerCauses l s).ident.opState := by
  rcases State.registerCauses_op l s with e | e | e <;> rw [e] <;> simp [h]

@[simp] theorem State.registerCauses_np (l : List (Nat × Nat)) (s : State) (h : s.ident.opState ≠ .printing) :
    (State.registerCauses l s).ident.opState ≠ .printing := by
  rcases State.registerCauses_op l s with e | e | e <;> rw [e] <;> simp [h]

@[simp] theorem State.cause_un (bit reason : Nat) (s : State) (h : Unarmed s.ident.opState) : Unarmed (State.cause bit reason s).ident.opState := by
  simp [State.cause, h]

@[simp] theorem State.cause_np (bit reason : Nat) (s : State) (h : s.ident.opState ≠ .printing) : (State.cause bit reason s).ident.opState ≠ .printing := by
  simp [State.cause, h]

@[simp] theorem State.recheck_un (old : List (Nat × Nat)) (s : State) (h : Unarmed s.ident.opState) : Unarmed (State.recheck old s).ident.opState := by
  unfold State.recheck; dsimp only; (repeat' split) <;> simp [h]

@[simp] theorem State.recheck_np (old : List (Nat × Nat)) (s : State) (h : s.ident.opState ≠ .printing) : (State.recheck old s).ident.opState ≠ .printing := by
  unfold State.recheck; dsimp only; (repeat' split) <;> simp [h]

@[simp] theorem State.camLevels_op (old : Sec) (s : State) : (State.camLevels old s).ident.opState = s.ident.opState := by
  simp [State.camLevels]

@[simp] theorem State.modPort_op (p : Nat) (f : Port → Port) (s : State) : (State.modPort p f s).ident.opState = s.ident.opState := by
  simp [State.modPort]

@[simp] theorem State.timeRecord_op (code : Nat) (detail : Int) (data : List Int) (s : State) : (State.timeRecord code detail data s).ident.opState = s.ident.opState := by
  simp [State.timeRecord]

@[simp] theorem State.modTime_op (f : Time → Time) (s : State) : (State.modTime f s).ident.opState = s.ident.opState := by
  simp [State.modTime]

@[simp] theorem State.trimTo_op (goal : Option Int) (s : State) : (State.trimTo goal s).ident.opState = s.ident.opState := by
  simp [State.trimTo]

@[simp] theorem State.servoTo_op (st : Servo) (reason : Nat) (s : State) : (State.servoTo st reason s).ident.opState = s.ident.opState := by
  simp [State.servoTo]

@[simp] theorem State.refuseStep_op (mean : Int) (s : State) : (State.refuseStep mean s).ident.opState = s.ident.opState := by
  simp [State.refuseStep]

@[simp] theorem State.steer_op (s : State) : (State.steer s).ident.opState = s.ident.opState := by
  simp [State.steer]

@[simp] theorem State.askStep_op (r : Int × Option Nat × Nat × Nat × Nat) (s : State) : (State.askStep r s).ident.opState = s.ident.opState := by
  simp [State.askStep]

@[simp] theorem State.acquireSample_op (o : Int) (limit : Nat) (s : State) : (State.acquireSample o limit s).ident.opState = s.ident.opState := by
  simp [State.acquireSample]

@[simp] theorem State.lockedSample_op (o : Int) (limit : Nat) (s : State) : (State.lockedSample o limit s).ident.opState = s.ident.opState := by
  simp [State.lockedSample]

@[simp] theorem State.holdoverSample_op (o d : Int) (limit : Nat) (s : State) : (State.holdoverSample o d limit s).ident.opState = s.ident.opState := by
  simp [State.holdoverSample]

@[simp] theorem State.servoSample_op (o d : Int) (s : State) : (State.servoSample o d s).ident.opState = s.ident.opState := by
  simp only [State.servoSample]; (repeat' split) <;> simp

@[simp] theorem State.pathMeasured_op (d : Int) (s : State) : (State.pathMeasured d s).ident.opState = s.ident.opState := by
  simp [State.pathMeasured]

@[simp] theorem State.servoLost_op (s : State) : (State.servoLost s).ident.opState = s.ident.opState := by
  unfold State.servoLost; (repeat' split) <;> simp

@[simp] theorem State.servoReset_op (s : State) : (State.servoReset s).ident.opState = s.ident.opState := by
  simp [State.servoReset]

@[simp] theorem State.masterJudged_op (s : State) : (State.masterJudged s).ident.opState = s.ident.opState := by
  simp only [State.masterJudged]; (repeat' split) <;> simp

@[simp] theorem State.syncDone_op (p : Nat) (t1 t2 : Int) (s : State) : (State.syncDone p t1 t2 s).ident.opState = s.ident.opState := by
  simp only [State.syncDone]; (repeat' split) <;> simp

@[simp] theorem State.delayDone_op (p : Nat) (t3 t4 : Int) (s : State) : (State.delayDone p t3 t4 s).ident.opState = s.ident.opState := by
  unfold State.delayDone; (repeat' split) <;> simp

@[simp] theorem State.applyStep_op (d : Int) (verb : Nat) (s : State) : (State.applyStep d verb s).ident.opState = s.ident.opState := by
  simp [State.applyStep]

@[simp] theorem State.modCorbel_op (f : Corbel → Corbel) (s : State) : (State.modCorbel f s).ident.opState = s.ident.opState := by
  simp [State.modCorbel]

@[simp] theorem State.frameStart_op (s : State) : (State.frameStart s).ident.opState = s.ident.opState := by
  simp [State.frameStart]

@[simp] theorem State.nextFrame_op (s : State) : (State.nextFrame s).ident.opState = s.ident.opState := by
  simp [State.nextFrame]

@[simp] theorem State.restFrame_op (s : State) : (State.restFrame s).ident.opState = s.ident.opState := by
  simp [State.restFrame]

@[simp] theorem State.setLampStatus_op (n v : Nat) (s : State) : (State.setLampStatus n v s).ident.opState = s.ident.opState := by
  simp [State.setLampStatus]

@[simp] theorem State.lampChannel_op (w : Option Nat) (d i : Nat) (s : State) : (State.lampChannel w d i s).ident.opState = s.ident.opState := by
  simp [State.lampChannel]

@[simp] theorem State.driverRecord_op (code d : Nat) (data : List Int) (s : State) : (State.driverRecord code d data s).ident.opState = s.ident.opState := by
  simp [State.driverRecord]

@[simp] theorem State.setLimit_op (d v t : Nat) (s : State) : (State.setLimit d v t s).ident.opState = s.ident.opState := by
  simp [State.setLimit]

@[simp] theorem State.throttleAt_op (d t shown : Nat) (s : State) : (State.throttleAt d t shown s).ident.opState = s.ident.opState := by
  simp [State.throttleAt]

@[simp] theorem State.throttle_op (d : Nat) (t : Option Nat) (s : State) : (State.throttle d t s).ident.opState = s.ident.opState := by
  unfold State.throttle; (repeat' split) <;> simp

@[simp] theorem State.lampDriver_op (w : Option Nat) (d : Nat) (s : State) : (State.lampDriver w d s).ident.opState = s.ident.opState := by
  simp [State.lampDriver]

@[simp] theorem State.lampUnheard_op (s : State) (n : Nat) : (State.lampUnheard s n).ident.opState = s.ident.opState := by
  simp [State.lampUnheard]

@[simp] theorem State.chainJudge_op (k : Nat) (whole : Bool) (words : Nat) (s : State) : (State.chainJudge k whole words s).ident.opState = s.ident.opState := by
  simp [State.chainJudge]

@[simp] theorem State.failReport_op (k : Nat) (s : State) : (State.failReport k s).ident.opState = s.ident.opState := by
  simp only [State.failReport]; (repeat' split) <;> simp

@[simp] theorem State.chainReturn_op (k : Nat) (words : List (Option Nat)) (ended : Nat) (s : State) : (State.chainReturn k words ended s).ident.opState = s.ident.opState := by
  simp [State.chainReturn]

@[simp] theorem State.driverLatch_op (d : Nat) (inp : ChainIn) (s : State) : (State.driverLatch d inp s).ident.opState = s.ident.opState := by
  simp [State.driverLatch]

@[simp] theorem State.driverTimeout_op (d : Nat) (s : State) : (State.driverTimeout d s).ident.opState = s.ident.opState := by
  simp [State.driverTimeout]

@[simp] theorem State.pairTest_op (shorted : Bool) (s : State) : (State.pairTest shorted s).ident.opState = s.ident.opState := by
  simp [State.pairTest]

@[simp] theorem State.rowSlot_op (shorted : Bool) (ua : List Nat) (s : State) : (State.rowSlot shorted ua s).ident.opState = s.ident.opState := by
  simp [State.rowSlot]

@[simp] theorem State.matrixSlot_op (ohm : Nat) (ua : List Nat) (s : State) : (State.matrixSlot ohm ua s).ident.opState = s.ident.opState := by
  simp [State.matrixSlot]

@[simp] theorem State.rowOvercurrent_op (r ma : Nat) (s : State) : (State.rowOvercurrent r ma s).ident.opState = s.ident.opState := by
  simp [State.rowOvercurrent]

@[simp] theorem State.gangSay_op (fields : List Int) (s : State) : (State.gangSay fields s).ident.opState = s.ident.opState := by
  simp [State.gangSay]

@[simp] theorem State.modHold_op (f : Hold → Hold) (s : State) : (State.modHold f s).ident.opState = s.ident.opState := by
  simp [State.modHold]

@[simp] theorem State.releaseOver_op (s : State) : (State.releaseOver s).ident.opState = s.ident.opState := by
  simp [State.releaseOver]

@[simp] theorem State.endRelease_op (s : State) : (State.endRelease s).ident.opState = s.ident.opState := by
  simp [State.endRelease]

@[simp] theorem State.holdRecord_op (code reason : Nat) (s : State) : (State.holdRecord code reason s).ident.opState = s.ident.opState := by
  simp [State.holdRecord]

@[simp] theorem State.trigger_un (code : Nat) (own : Option Nat) (reason : Nat) (s : State) (h : Unarmed s.ident.opState) : Unarmed (State.trigger code own reason s).ident.opState := by
  unfold State.trigger; (repeat' split) <;> simp_all

@[simp] theorem State.trigger_np (code : Nat) (own : Option Nat) (reason : Nat) (s : State) (h : s.ident.opState ≠ .printing) : (State.trigger code own reason s).ident.opState ≠ .printing := by
  unfold State.trigger; (repeat' split) <;> simp [h]

@[simp] theorem State.ceilCheck_un (s : State) (h : Unarmed s.ident.opState) : Unarmed (State.ceilCheck s).ident.opState := by
  unfold State.ceilCheck; (repeat' split) <;> simp [h]

@[simp] theorem State.ceilCheck_np (s : State) (h : s.ident.opState ≠ .printing) : (State.ceilCheck s).ident.opState ≠ .printing := by
  simp [State.ceilCheck, h]

@[simp] theorem State.updateCeil_op (s : State) : (State.updateCeil s).ident.opState = s.ident.opState := by
  simp [State.updateCeil]

@[simp] theorem State.starveWarn_op (h stop : Nat) (s : State) : (State.starveWarn h stop s).ident.opState = s.ident.opState := by
  simp [State.starveWarn]

@[simp] theorem State.starvation_un (s : State) (h : Unarmed s.ident.opState) : Unarmed (State.starvation s).ident.opState := by
  simp only [State.starvation]; (repeat' split) <;> simp_all

@[simp] theorem State.starvation_np (s : State) (h : s.ident.opState ≠ .printing) : (State.starvation s).ident.opState ≠ .printing := by
  simp only [State.starvation]; (repeat' split) <;> simp_all

@[simp] theorem State.retryHold_un (s : State) (h : Unarmed s.ident.opState) : Unarmed (State.retryHold s).ident.opState := by
  unfold State.retryHold; dsimp only; (repeat' split) <;> simp [h]

@[simp] theorem State.retryHold_np (s : State) (h : s.ident.opState ≠ .printing) : (State.retryHold s).ident.opState ≠ .printing := by
  unfold State.retryHold; dsimp only; (repeat' split) <;> simp [h]

@[simp] theorem State.resumeFailed_un (s : State) (h : Unarmed s.ident.opState) : Unarmed (State.resumeFailed s).ident.opState := by
  simp only [State.resumeFailed]; (repeat' split) <;> simp_all

@[simp] theorem State.resumeFailed_np (s : State) (h : s.ident.opState ≠ .printing) : (State.resumeFailed s).ident.opState ≠ .printing := by
  simp only [State.resumeFailed]; (repeat' split) <;> simp_all

@[simp] theorem State.copRecord_op (code : Nat) (detail : Int) (data : List Int) (s : State) : (State.copRecord code detail data s).ident.opState = s.ident.opState := by
  simp [State.copRecord]

@[simp] theorem State.sense_op (i : Nat) (r : Option Int) (s : State) : (State.sense i r s).ident.opState = s.ident.opState := by
  simp [State.sense]

@[simp] theorem State.waveReport_op (s : State) : (State.waveReport s).ident.opState = s.ident.opState := by
  simp [State.waveReport]

@[simp] theorem State.doubleFailed_op (s : State) : (State.doubleFailed s).ident.opState = s.ident.opState := by
  simp [State.doubleFailed]

@[simp] theorem State.evalBands_op (section_ : Option Sec) (s : State) : (State.evalBands section_ s).ident.opState = s.ident.opState := by
  simp [State.evalBands]

@[simp] theorem State.evalLift_op (lift : Nat) (s : State) : (State.evalLift lift s).ident.opState = s.ident.opState := by
  simp [State.evalLift]

@[simp] theorem State.bandsInForce_op (s : State) : (State.bandsInForce s).ident.opState = s.ident.opState := by
  simp [State.bandsInForce]

@[simp] theorem State.bandsAtOnce_op (s : State) : (State.bandsAtOnce s).ident.opState = s.ident.opState := by
  simp [State.bandsAtOnce]

@[simp] theorem State.setStep_op (n : Nat) (e : Int) (sensor : Nat) (s : State) : (State.setStep n e sensor s).ident.opState = s.ident.opState := by
  simp [State.setStep]

@[simp] theorem State.sensorsLost_op (s : State) : (State.sensorsLost s).ident.opState = s.ident.opState := by
  simp [State.sensorsLost]

@[simp] theorem State.excessEval_op (s : State) : (State.excessEval s).ident.opState = s.ident.opState := by
  simp [State.excessEval]

@[simp] theorem State.throttleEval_op (s : State) : (State.throttleEval s).ident.opState = s.ident.opState := by
  simp only [State.throttleEval]; (repeat' split) <;> simp

@[simp] theorem State.calStart_op (s : State) : (State.calStart s).ident.opState = s.ident.opState := by
  simp [State.calStart]

@[simp] theorem State.calQueue_op (b : Nat) (s : State) : (State.calQueue b s).ident.opState = s.ident.opState := by
  simp [State.calQueue]

@[simp] theorem State.calTriggers_op (s : State) : (State.calTriggers s).ident.opState = s.ident.opState := by
  unfold State.calTriggers; (repeat' split) <;> (try simp) <;> (refine foldl_op _ _ _ ?_) <;> intro s a <;> (repeat' split) <;> simp

@[simp] theorem State.calBoundary_op (s : State) : (State.calBoundary s).ident.opState = s.ident.opState := by
  simp [State.calBoundary]

@[simp] theorem State.calEnd_op (b : Nat) (trims : List Nat) (quality diff : Nat) (s : State) : (State.calEnd b trims quality diff s).ident.opState = s.ident.opState := by
  simp [State.calEnd]

@[simp] theorem State.calRunEnd_op (b : Nat) (trims : List Nat) (quality diff : Nat) (s : State) : (State.calRunEnd b trims quality diff s).ident.opState = s.ident.opState := by
  simp [State.calRunEnd]

@[simp] theorem State.referenceCompare_op (diff : Int) (s : State) : (State.referenceCompare diff s).ident.opState = s.ident.opState := by
  simp [State.referenceCompare]

@[simp] theorem State.sensorSample_op (temps : List (Option Int)) (pMeas : Nat) (tj0 tj1 : Option Int) (s : State) : (State.sensorSample temps pMeas tj0 tj1 s).ident.opState = s.ident.opState := by
  simp [State.sensorSample]

@[simp] theorem State.mirrorCopy_op (s : State) : (State.mirrorCopy s).ident.opState = s.ident.opState := by
  simp [State.mirrorCopy]



@[simp] theorem State.modTone_op (f : Tone → Tone) (s : State) : (State.modTone f s).ident.opState = s.ident.opState := by
  simp [State.modTone]

@[simp] theorem State.loadDensity_op (c : Sec) (at_ : Option Nat) (s : State) : (State.loadDensity c at_ s).ident.opState = s.ident.opState := by
  simp [State.loadDensity]

@[simp] theorem State.densStep_op (lift : Nat) (s : State) : (State.densStep lift s).ident.opState = s.ident.opState := by
  simp [State.densStep]

@[simp] theorem State.loadPending_op (lift : Nat) (s : State) : (State.loadPending lift s).ident.opState = s.ident.opState := by
  unfold State.loadPending; (repeat' split) <;> simp

@[simp] theorem State.densBegin_op (lift : Nat) (s : State) : (State.densBegin lift s).ident.opState = s.ident.opState := by
  simp [State.densBegin]

@[simp] theorem State.unload_op (lift : Nat) (s : State) : (State.unload lift s).ident.opState = s.ident.opState := by
  simp [State.unload]

@[simp] theorem State.settleRows_op (lift : Nat) (s : State) : (State.settleRows lift s).ident.opState = s.ident.opState := by
  simp [State.settleRows]

@[simp] theorem State.pastFrom_op (lift : Nat) (f : List SMap → List SMap) (s : State) : (State.pastFrom lift f s).ident.opState = s.ident.opState := by
  simp [State.pastFrom]

@[simp] theorem State.loadPointing_op (c : Sec) (at_ : Option Nat) (s : State) : (State.loadPointing c at_ s).ident.opState = s.ident.opState := by
  unfold State.loadPointing; (repeat' split) <;> simp

@[simp] theorem State.applyNozTo_op (lift : Nat) (s : State) : (State.applyNozTo lift s).ident.opState = s.ident.opState := by
  simp [State.applyNozTo]

@[simp] theorem State.takeChanges_op (s : State) : (State.takeChanges s).ident.opState = s.ident.opState := by
  simp [State.takeChanges]

@[simp] theorem State.linkRecord_op (side : Nat) (was x : BLink) (s : State) : (State.linkRecord side was x s).ident.opState = s.ident.opState := by
  simp [State.linkRecord]

@[simp] theorem State.laneEnables_op (s : State) : (State.laneEnables s).ident.opState = s.ident.opState := by
  simp [State.laneEnables]

@[simp] theorem State.encRecord_op (e r : Nat) (s : State) : (State.encRecord e r s).ident.opState = s.ident.opState := by
  simp [State.encRecord]

@[simp] theorem State.encFault_un (e : Nat) (reasons : List Nat) (s : State) (h : Unarmed s.ident.opState) : Unarmed (State.encFault e reasons s).ident.opState := by
  simp [State.encFault, h]

@[simp] theorem State.encFault_np (e : Nat) (reasons : List Nat) (s : State) (h : s.ident.opState ≠ .printing) : (State.encFault e reasons s).ident.opState ≠ .printing := by
  simp [State.encFault, h]

@[simp] theorem State.unusePairs_op (e : Nat) (s : State) : (State.unusePairs e s).ident.opState = s.ident.opState := by
  simp [State.unusePairs]

@[simp] theorem State.pairsJudged_un (s : State) (h : Unarmed s.ident.opState) : Unarmed (State.pairsJudged s).ident.opState := by
  unfold State.pairsJudged; dsimp only; (repeat' split) <;> simp [h]

@[simp] theorem State.pairsJudged_np (s : State) (h : s.ident.opState ≠ .printing) : (State.pairsJudged s).ident.opState ≠ .printing := by
  unfold State.pairsJudged; dsimp only; (repeat' split) <;> simp [h]

@[simp] theorem State.encoderRestart_op (pos : Int) (s : State) : (State.encoderRestart pos s).ident.opState = s.ident.opState := by
  simp [State.encoderRestart]

@[simp] theorem State.sectionEffects_op (old : List (Nat × Sec)) (touched : List Nat) (n0 : Nat) (pos : Int) (s : State) : (State.sectionEffects old touched n0 pos s).ident.opState = s.ident.opState := by
  simp [State.sectionEffects]

@[simp] theorem State.applySet_un (p : Pend) (lift : Option Nat) (s : State) (h : Unarmed s.ident.opState) : Unarmed (State.applySet p lift s).ident.opState := by
  unfold State.applySet; dsimp only; (repeat' split) <;> simp [h]

@[simp] theorem State.applySet_np (p : Pend) (lift : Option Nat) (s : State) (h : s.ident.opState ≠ .printing) : (State.applySet p lift s).ident.opState ≠ .printing := by
  unfold State.applySet; dsimp only; (repeat' split) <;> simp [h]

@[simp] theorem State.completePend_un (lift : Option Nat) (s : State) (h : Unarmed s.ident.opState) : Unarmed (State.completePend lift s).ident.opState := by
  unfold State.completePend; (repeat' split) <;> simp [h]

@[simp] theorem State.completePend_np (lift : Option Nat) (s : State) (h : s.ident.opState ≠ .printing) : (State.completePend lift s).ident.opState ≠ .printing := by
  unfold State.completePend; (repeat' split) <;> simp [h]

@[simp] theorem State.endPend_op (result detail : Nat) (s : State) : (State.endPend result detail s).ident.opState = s.ident.opState := by
  unfold State.endPend; (repeat' split) <;> simp

@[simp] theorem State.modMortar_op (f : Mortar → Mortar) (s : State) : (State.modMortar f s).ident.opState = s.ident.opState := by
  simp [State.modMortar]

@[simp] theorem State.sendSeamWords_op (lift : Nat) (rows : List (Row × List (Nat × Int))) (s : State) : (State.sendSeamWords lift rows s).ident.opState = s.ident.opState := by
  unfold State.sendSeamWords
  dsimp only
  rw [State.tieSendAll_op, State.tieSendAll_op]

@[simp] theorem State.assignBands_op (lift : Nat) (s : State) : (State.assignBands lift s).ident.opState = s.ident.opState := by
  simp [State.assignBands]

@[simp] theorem State.screenLift_op (lift : Nat) (dec : Nat → List Decoded) (s : State) : (State.screenLift lift dec s).ident.opState = s.ident.opState := by
  simp [State.screenLift]

@[simp] theorem State.modBuf_op (lift : Nat) (f : LiftBuf → LiftBuf) (s : State) : (State.modBuf lift f s).ident.opState = s.ident.opState := by
  simp [State.modBuf]

@[simp] theorem State.sendToken_op (lift : Nat) (s : State) : (State.sendToken lift s).ident.opState = s.ident.opState := by
  simp [State.sendToken]

@[simp] theorem State.liftScreened_un (w lift : Nat) (s : State) (h : Unarmed s.ident.opState) : Unarmed (State.liftScreened w lift s).ident.opState := by
  unfold State.liftScreened; dsimp only; (repeat' split) <;> simp [h]

@[simp] theorem State.liftScreened_np (w lift : Nat) (s : State) (h : s.ident.opState ≠ .printing) : (State.liftScreened w lift s).ident.opState ≠ .printing := by
  unfold State.liftScreened; dsimp only; (repeat' split) <;> simp [h]

@[simp] theorem State.auditFail_un (w a b ch col img : Nat) (s : State) (h : Unarmed s.ident.opState) : Unarmed (State.auditFail w a b ch col img s).ident.opState := by
  simp [State.auditFail, h]

@[simp] theorem State.auditFail_np (w a b ch col img : Nat) (s : State) (h : s.ident.opState ≠ .printing) : (State.auditFail w a b ch col img s).ident.opState ≠ .printing := by
  simp [State.auditFail, h]

end Sys2Proof.Machine
end

