-- ==== Sys2Proof/Laws/OpPress.lean ====
section
/-! SUPPORT. What leaves the operating state alone, keeps it unarmed (un) or keeps it from PRINTING (np): course timing, the encoders, the lanes and Buttress. -/

namespace Sys2Proof.Machine

open Sys2Proof

-- The terms of a step are records inside records, deeper than the default allows.
set_option maxRecDepth 4000

@[simp] theorem State.modLintel_op (f : Lintel → Lintel) (s : State) : (State.modLintel f s).ident.opState = s.ident.opState := by
  simp [State.modLintel]

@[simp] theorem State.fixStartsGo_op (again ready : Bool) (x0 : List Nat) (x1 : Option Nat) (s : State) : (State.fixStartsGo again ready x0 x1 s).ident.opState = s.ident.opState := by
  induction x0 generalizing x1 s with
  | nil => rfl
  | cons id ids ih =>
    unfold State.fixStartsGo
    simp only []
    split
    · exact ih _ _
    · split <;> (split <;> simp [ih])

@[simp] theorem State.fixStarts_op (s : State) : (State.fixStarts s).ident.opState = s.ident.opState := by
  simp [State.fixStarts]

@[simp] theorem State.refixStarts_op (s : State) : (State.refixStarts s).ident.opState = s.ident.opState := by
  simp [State.refixStarts]

@[simp] theorem State.stepTrims_op (f : Nat) (s : State) : (State.stepTrims f s).ident.opState = s.ident.opState := by
  simp [State.stepTrims]

@[simp] theorem State.countQuanta_op (g : Nat) (o : HeadOut) (s : State) : (State.countQuanta g o s).ident.opState = s.ident.opState := by
  simp [State.countQuanta]

@[simp] theorem State.sendFrame_op (l : Nat) (x : FrameTx) (s : State) : (State.sendFrame l x s).ident.opState = s.ident.opState := by
  simp [State.sendFrame]

@[simp] theorem State.sendPlan_op (f : Nat) (p : Nat × List FrameTx) (s : State) : (State.sendPlan f p s).ident.opState = s.ident.opState := by
  unfold State.sendPlan; (repeat' split) <;> (try simp) <;> (refine foldl_op _ _ _ ?_) <;> intro s a <;> (repeat' split) <;> simp

@[simp] theorem State.fireRecord_op (f : Nat) (tf t8 : Int) (s : State) : (State.fireRecord f tf t8 s).ident.opState = s.ident.opState := by
  simp [State.fireRecord]

@[simp] theorem State.countOthers_op (f : Nat) (s : State) : (State.countOthers f s).ident.opState = s.ident.opState := by
  unfold State.countOthers; (repeat' split) <;> (try simp) <;> (refine foldl_op _ _ _ ?_) <;> intro s a <;> (repeat' split) <;> simp

@[simp] theorem State.pairCross_op (lift : Nat) (s : State) : (State.pairCross lift s).ident.opState = s.ident.opState := by
  simp [State.pairCross]

@[simp] theorem State.sendMirror_op (lift : Nat) (s : State) : (State.sendMirror lift s).ident.opState = s.ident.opState := by
  simp [State.sendMirror]

@[simp] theorem State.sendEpoch_op (lift : Nat) (s : State) : (State.sendEpoch lift s).ident.opState = s.ident.opState := by
  unfold State.sendEpoch; (repeat' split) <;> simp

@[simp] theorem State.gangHold_un (reason : Nat) (own : Option Nat) (s : State) (h : Unarmed s.ident.opState) : Unarmed (State.gangHold reason own s).ident.opState := by
  unfold State.gangHold; (repeat' split) <;> simp [h]

@[simp] theorem State.gangHold_np (reason : Nat) (own : Option Nat) (s : State) (h : s.ident.opState ≠ .printing) : (State.gangHold reason own s).ident.opState ≠ .printing := by
  unfold State.gangHold; (repeat' split) <;> simp [h]

@[simp] theorem State.diverge_un (reason member : Nat) (ns : Int) (s : State) (h : Unarmed s.ident.opState) : Unarmed (State.diverge reason member ns s).ident.opState := by
  simp [State.diverge, h]

@[simp] theorem State.diverge_np (reason member : Nat) (ns : Int) (s : State) (h : s.ident.opState ≠ .printing) : (State.diverge reason member ns s).ident.opState ≠ .printing := by
  simp [State.diverge, h]

@[simp] theorem State.fireCompare_un (f own : Nat) (s : State) (h : Unarmed s.ident.opState) : Unarmed (State.fireCompare f own s).ident.opState := by
  unfold State.fireCompare; dsimp only; (repeat' split) <;> simp [h]

@[simp] theorem State.fireCompare_np (f own : Nat) (s : State) (h : s.ident.opState ≠ .printing) : (State.fireCompare f own s).ident.opState ≠ .printing := by
  unfold State.fireCompare; dsimp only; (repeat' split) <;> simp [h]

@[simp] theorem State.sendRecord_op (f : Nat) (tf : Int) (s : State) : (State.sendRecord f tf s).ident.opState = s.ident.opState := by
  simp [State.sendRecord]

@[simp] theorem State.releaseCourse_un (f : Nat) (tf t8 : Int) (plans : List (Nat × List FrameTx)) (s : State) (h : Unarmed s.ident.opState) : Unarmed (State.releaseCourse f tf t8 plans s).ident.opState := by
  simp only [State.releaseCourse]; (repeat' split) <;> (try simp [h]) <;> (try (refine foldl_un _ _ _ ?_ ?_)) <;> (try intro s a h) <;> (repeat' split) <;> simp_all

@[simp] theorem State.releaseCourse_np (f : Nat) (tf t8 : Int) (plans : List (Nat × List FrameTx)) (s : State) (h : s.ident.opState ≠ .printing) : (State.releaseCourse f tf t8 plans s).ident.opState ≠ .printing := by
  simp only [State.releaseCourse]; (repeat' split) <;> (try simp [h]) <;> (try (refine foldl_np _ _ _ ?_ ?_)) <;> (try intro s a h) <;> (repeat' split) <;> simp_all

@[simp] theorem State.passReport_op (s : State) : (State.passReport s).ident.opState = s.ident.opState := by
  unfold State.passReport; (repeat' split) <;> simp

@[simp] theorem State.passOver_op (f r : Nat) (tf : Int) (s : State) : (State.passOver f r tf s).ident.opState = s.ident.opState := by
  simp [State.passOver]

@[simp] theorem State.rejectSheets_op (lo hi : Nat) (s : State) : (State.rejectSheets lo hi s).ident.opState = s.ident.opState := by
  simp [State.rejectSheets]

theorem State.judge_op {s : State} {f : Nat} {j : Judged} (e : s.judge f = some j) : j.s.ident.opState = s.ident.opState := by
  unfold State.judge at e
  split at e
  · simp at e
  · simp only [Option.some.injEq] at e
    subst e
    simp

@[simp] theorem State.retrySheet_un (r : Nat) (s : State) (h : Unarmed s.ident.opState) : Unarmed (State.retrySheet r s).ident.opState := by
  unfold State.retrySheet; dsimp only; (repeat' split) <;> simp [h]

@[simp] theorem State.retrySheet_np (r : Nat) (s : State) (h : s.ident.opState ≠ .printing) : (State.retrySheet r s).ident.opState ≠ .printing := by
  unfold State.retrySheet; dsimp only; (repeat' split) <;> simp [h]

@[simp] theorem State.gangRetry_un (s : State) (h : Unarmed s.ident.opState) : Unarmed (State.gangRetry s).ident.opState := by
  unfold State.gangRetry; (repeat' split) <;> simp [h]

@[simp] theorem State.gangRetry_np (s : State) (h : s.ident.opState ≠ .printing) : (State.gangRetry s).ident.opState ≠ .printing := by
  unfold State.gangRetry; (repeat' split) <;> simp [h]

@[simp] theorem State.standbyCourse_op (s : State) : (State.standbyCourse s).ident.opState = s.ident.opState := by
  simp only [State.standbyCourse]; (repeat' split) <;> simp

@[simp] theorem State.releaseNext_un (s : State) (h : Unarmed s.ident.opState) : Unarmed (State.releaseNext s).ident.opState := by
  unfold State.releaseNext; (repeat' split) <;> simp_all

@[simp] theorem State.tokenDeadline_op (s : State) : (State.tokenDeadline s).ident.opState = s.ident.opState := by
  unfold State.tokenDeadline; (repeat' split) <;> simp

@[simp] theorem State.courseRelease_un (s : State) (h : Unarmed s.ident.opState) : Unarmed (State.courseRelease s).ident.opState := by
  simp [State.courseRelease, h]

@[simp] theorem State.toReady_np (s : State) (h : s.ident.opState ≠ .printing) : (State.toReady s).ident.opState ≠ .printing := by
  simp [State.toReady]

@[simp] theorem State.endFired_op (c : Nat) (s : State) : (State.endFired c s).ident.opState = s.ident.opState := by
  simp [State.endFired]

@[simp] theorem State.commitFired_un (c : Nat) (s : State) (h : Unarmed s.ident.opState) : Unarmed (State.commitFired c s).ident.opState := by
  unfold State.commitFired; (repeat' split) <;> simp [h]

@[simp] theorem State.commitFired_np (c : Nat) (s : State) (h : s.ident.opState ≠ .printing) : (State.commitFired c s).ident.opState ≠ .printing := by
  unfold State.commitFired; (repeat' split) <;> simp [h]

@[simp] theorem State.startFired_un (c : Nat) (s : State) (h : Unarmed s.ident.opState) : Unarmed (State.startFired c s).ident.opState := by
  unfold State.startFired; dsimp only; (repeat' split) <;> simp_all

@[simp] theorem State.courseFire_un (s : State) (h : Unarmed s.ident.opState) : Unarmed (State.courseFire s).ident.opState := by
  have ha := unarmed_state h
  unfold State.courseFire
  split
  · exact h
  · simp [ha, h]

@[simp] theorem State.enqueue_op (j : Job) (boundary : Nat) (s : State) : (State.enqueue j boundary s).ident.opState = s.ident.opState := by
  simp [State.enqueue]

@[simp] theorem State.anticipate_op (s : State) : (State.anticipate s).ident.opState = s.ident.opState := by
  unfold State.anticipate; (repeat' split) <;> (try simp) <;> (refine foldl_op _ _ _ ?_) <;> intro s a <;> (repeat' split) <;> simp

@[simp] theorem State.unqueue_op (a : Act) (s : State) : (State.unqueue a s).ident.opState = s.ident.opState := by
  unfold State.unqueue; (repeat' split) <;> simp

@[simp] theorem State.runAction_op (late : Bool) (a : Act) (s : State) : (State.runAction late a s).ident.opState = s.ident.opState := by
  unfold State.runAction
  simp only [State.emit_op]
  (repeat' split) <;> simp

@[simp] theorem State.lateActions_op (s : State) : (State.lateActions s).ident.opState = s.ident.opState := by
  simp [State.lateActions]

@[simp] theorem State.liftSpeed_un (s : State) (h : Unarmed s.ident.opState) : Unarmed (State.liftSpeed s).ident.opState := by
  unfold State.liftSpeed; (repeat' split) <;> simp [h]

@[simp] theorem State.liftSpeed_np (s : State) (h : s.ident.opState ≠ .printing) : (State.liftSpeed s).ident.opState ≠ .printing := by
  unfold State.liftSpeed; (repeat' split) <;> simp [h]

@[simp] theorem State.sendCopies_op (lift : Nat) (s : State) : (State.sendCopies lift s).ident.opState = s.ident.opState := by
  simp [State.sendCopies]

@[simp] theorem State.upset_op (u : SeamUpset) (s : State) : (State.upset u s).ident.opState = s.ident.opState := by
  simp [State.upset]

@[simp] theorem State.seamExchange_un (s : State) (h : Unarmed s.ident.opState) : Unarmed (State.seamExchange s).ident.opState := by
  simp only [State.seamExchange]; (repeat' split) <;> simp_all

@[simp] theorem State.seamExchange_np (s : State) (h : s.ident.opState ≠ .printing) : (State.seamExchange s).ident.opState ≠ .printing := by
  simp only [State.seamExchange]; (repeat' split) <;> simp_all

@[simp] theorem State.tieStatus_op (lift : Nat) (s : State) : (State.tieStatus lift s).ident.opState = s.ident.opState := by
  simp [State.tieStatus]

@[simp] theorem State.liftBoundary_un (upsets : List SeamUpset) (s : State) (h : Unarmed s.ident.opState) : Unarmed (State.liftBoundary upsets s).ident.opState := by
  unfold State.liftBoundary; (repeat' split) <;> simp_all

@[simp] theorem State.liftBoundary_np (upsets : List SeamUpset) (s : State) (h : s.ident.opState ≠ .printing) : (State.liftBoundary upsets s).ident.opState ≠ .printing := by
  unfold State.liftBoundary; dsimp only; (repeat' split) <;> simp [h]

@[simp] theorem State.overspeed_op (s : State) : (State.overspeed s).ident.opState = s.ident.opState := by
  simp [State.overspeed]

@[simp] theorem State.loopCycle_op (s : State) : (State.loopCycle s).ident.opState = s.ident.opState := by
  simp [State.loopCycle]

@[simp] theorem State.cycleTests_un (s : State) (h : Unarmed s.ident.opState) : Unarmed (State.cycleTests s).ident.opState := by
  unfold State.cycleTests; (repeat' split) <;> simp_all

@[simp] theorem State.cycleTests_np (s : State) (h : s.ident.opState ≠ .printing) : (State.cycleTests s).ident.opState ≠ .printing := by
  unfold State.cycleTests; dsimp only; (repeat' split) <;> simp [h]

@[simp] theorem State.speedCycle_un (s : State) (h : Unarmed s.ident.opState) : Unarmed (State.speedCycle s).ident.opState := by
  unfold State.speedCycle; (repeat' split) <;> simp [h]

@[simp] theorem State.speedCycle_np (s : State) (h : s.ident.opState ≠ .printing) : (State.speedCycle s).ident.opState ≠ .printing := by
  unfold State.speedCycle; (repeat' split) <;> simp [h]

@[simp] theorem State.overspeedClear_op (s : State) : (State.overspeedClear s).ident.opState = s.ident.opState := by
  simp [State.overspeedClear]

@[simp] theorem State.reverse_op (s : State) : (State.reverse s).ident.opState = s.ident.opState := by
  simp [State.reverse]

@[simp] theorem State.beginReverse_op (s : State) : (State.beginReverse s).ident.opState = s.ident.opState := by
  simp [State.beginReverse]

@[simp] theorem State.atRest_un (s : State) (h : Unarmed s.ident.opState) : Unarmed (State.atRest s).ident.opState := by
  unfold State.atRest; (repeat' split) <;> simp_all

@[simp] theorem State.atRest_np (s : State) (h : s.ident.opState ≠ .printing) : (State.atRest s).ident.opState ≠ .printing := by
  unfold State.atRest; dsimp only; (repeat' split) <;> simp [h]

@[simp] theorem State.reverseOkChanged_op (s : State) : (State.reverseOkChanged s).ident.opState = s.ident.opState := by
  unfold State.reverseOkChanged; (repeat' split) <;> simp

@[simp] theorem State.startResume_op (s : State) : (State.startResume s).ident.opState = s.ident.opState := by
  simp [State.startResume]

@[simp] theorem State.resumeBegin_op (s : State) : (State.resumeBegin s).ident.opState = s.ident.opState := by
  unfold State.resumeBegin; (repeat' split) <;> simp

@[simp] theorem State.actionAtCourse_op (id : Nat) (s : State) : (State.actionAtCourse id s).ident.opState = s.ident.opState := by
  unfold State.actionAtCourse; (repeat' split) <;> simp

@[simp] theorem State.actionAtTime_op (id : Nat) (s : State) : (State.actionAtTime id s).ident.opState = s.ident.opState := by
  simp only [State.actionAtTime]; (repeat' split) <;> simp

@[simp] theorem State.pulseEnd_op (o : Nat) (s : State) : (State.pulseEnd o s).ident.opState = s.ident.opState := by
  simp [State.pulseEnd]

@[simp] theorem State.indexError_op (e kind : Nat) (s : State) : (State.indexError e kind s).ident.opState = s.ident.opState := by
  simp [State.indexError]

@[simp] theorem State.indexBad_un (e kind : Nat) (s : State) (h : Unarmed s.ident.opState) : Unarmed (State.indexBad e kind s).ident.opState := by
  unfold State.indexBad; dsimp only; (repeat' split) <;> simp [h]

@[simp] theorem State.indexBad_np (e kind : Nat) (s : State) (h : s.ident.opState ≠ .printing) : (State.indexBad e kind s).ident.opState ≠ .printing := by
  unfold State.indexBad; dsimp only; (repeat' split) <;> simp [h]

@[simp] theorem State.liftReached_op (old : Int) (t : Nat) (s : State) : (State.liftReached old t s).ident.opState = s.ident.opState := by
  unfold State.liftReached; (repeat' split) <;> simp

@[simp] theorem State.sourceMoved_op (old : Enc) (d : Int) (t : Nat) (s : State) : (State.sourceMoved old d t s).ident.opState = s.ident.opState := by
  simp only [State.sourceMoved]; (repeat' split) <;> simp

@[simp] theorem State.applyCount_un (e : Nat) (d : Int) (t : Nat) (s : State) (h : Unarmed s.ident.opState) : Unarmed (State.applyCount e d t s).ident.opState := by
  unfold State.applyCount; dsimp only; (repeat' split) <;> simp [h]

@[simp] theorem State.applyCount_np (e : Nat) (d : Int) (t : Nat) (s : State) (h : s.ident.opState ≠ .printing) : (State.applyCount e d t s).ident.opState ≠ .printing := by
  unfold State.applyCount; dsimp only; (repeat' split) <;> simp [h]

@[simp] theorem State.illegalStep_un (e t : Nat) (s : State) (h : Unarmed s.ident.opState) : Unarmed (State.illegalStep e t s).ident.opState := by
  unfold State.illegalStep; dsimp only; (repeat' split) <;> simp [h]

@[simp] theorem State.illegalStep_np (e t : Nat) (s : State) (h : s.ident.opState ≠ .printing) : (State.illegalStep e t s).ident.opState ≠ .printing := by
  unfold State.illegalStep; dsimp only; (repeat' split) <;> simp [h]

@[simp] theorem State.lineStep_un (e : Nat) (a b setup : Bool) (t : Nat) (s : State) (h : Unarmed s.ident.opState) : Unarmed (State.lineStep e a b setup t s).ident.opState := by
  unfold State.lineStep; dsimp only; (repeat' split) <;> simp [h]

@[simp] theorem State.lineStep_np (e : Nat) (a b setup : Bool) (t : Nat) (s : State) (h : s.ident.opState ≠ .printing) : (State.lineStep e a b setup t s).ident.opState ≠ .printing := by
  unfold State.lineStep; dsimp only; (repeat' split) <;> simp [h]

@[simp] theorem State.radiusReport_op (e : Nat) (s : State) : (State.radiusReport e s).ident.opState = s.ident.opState := by
  simp [State.radiusReport]

@[simp] theorem State.runFault_un (e reason n limit : Nat) (s : State) (h : Unarmed s.ident.opState) : Unarmed (State.runFault e reason n limit s).ident.opState := by
  unfold State.runFault; (repeat' split) <;> simp [h]

@[simp] theorem State.runFault_np (e reason n limit : Nat) (s : State) (h : s.ident.opState ≠ .printing) : (State.runFault e reason n limit s).ident.opState ≠ .printing := by
  unfold State.runFault; (repeat' split) <;> simp [h]

@[simp] theorem State.adcIn_un (e : Nat) (p : Int × Int) (s : State) (h : Unarmed s.ident.opState) : Unarmed (State.adcIn e p s).ident.opState := by
  unfold State.adcIn; dsimp only; (repeat' split) <;> simp [h]

@[simp] theorem State.adcIn_np (e : Nat) (p : Int × Int) (s : State) (h : s.ident.opState ≠ .printing) : (State.adcIn e p s).ident.opState ≠ .printing := by
  unfold State.adcIn; dsimp only; (repeat' split) <;> simp [h]

@[simp] theorem State.indexEdge_un (e : Nat) (high : Bool) (s : State) (h : Unarmed s.ident.opState) : Unarmed (State.indexEdge e high s).ident.opState := by
  unfold State.indexEdge; dsimp only; (repeat' split) <;> simp [h]

@[simp] theorem State.indexEdge_np (e : Nat) (high : Bool) (s : State) (h : s.ident.opState ≠ .printing) : (State.indexEdge e high s).ident.opState ≠ .printing := by
  unfold State.indexEdge; dsimp only; (repeat' split) <;> simp [h]

theorem State.onSample_un (i : Nat) (f : State → State) (s : State) (hf : ∀ u, Unarmed u.ident.opState → Unarmed (f u).ident.opState) (h : Unarmed s.ident.opState) :
    Unarmed (State.onSample i f s).ident.opState := by
  unfold State.onSample
  exact hf _ h

theorem State.onSample_np (i : Nat) (f : State → State) (s : State) (hf : ∀ u, u.ident.opState ≠ .printing → (f u).ident.opState ≠ .printing) (h : s.ident.opState ≠ .printing) :
    (State.onSample i f s).ident.opState ≠ .printing := by
  unfold State.onSample
  exact hf _ h

@[simp] theorem State.linesIn_un (e : Nat) (p : Pins) (s : State) (h : Unarmed s.ident.opState) : Unarmed (State.linesIn e p s).ident.opState := by
  unfold State.linesIn
  dsimp only
  split
  · simpa using h
  · split
    · exact foldl_un _ _ _ (fun s a h => State.onSample_un _ _ _ (fun u hu => State.lineStep_un _ _ _ _ _ _ hu) h) (by simpa using h)
    · exact foldl_un _ _ _ (fun s a h => State.onSample_un _ _ _ (fun u hu => State.lineStep_un _ _ _ _ _ _ hu) h)
        (State.onSample_un _ _ _ (fun u hu => State.indexEdge_un _ _ _ hu)
          (foldl_un _ _ _ (fun s a h => State.onSample_un _ _ _ (fun u hu => State.lineStep_un _ _ _ _ _ _ hu) h) (by simpa using h)))

@[simp] theorem State.linesIn_np (e : Nat) (p : Pins) (s : State) (h : s.ident.opState ≠ .printing) : (State.linesIn e p s).ident.opState ≠ .printing := by
  unfold State.linesIn
  dsimp only
  split
  · simpa using h
  · split
    · exact foldl_np _ _ _ (fun s a h => State.onSample_np _ _ _ (fun u hu => State.lineStep_np _ _ _ _ _ _ hu) h) (by simpa using h)
    · exact foldl_np _ _ _ (fun s a h => State.onSample_np _ _ _ (fun u hu => State.lineStep_np _ _ _ _ _ _ hu) h)
        (State.onSample_np _ _ _ (fun u hu => State.indexEdge_np _ _ _ hu)
          (foldl_np _ _ _ (fun s a h => State.onSample_np _ _ _ (fun u hu => State.lineStep_np _ _ _ _ _ _ hu) h) (by simpa using h)))

@[simp] theorem State.missingIndex_un (e : Nat) (s : State) (h : Unarmed s.ident.opState) : Unarmed (State.missingIndex e s).ident.opState := by
  unfold State.missingIndex; dsimp only; (repeat' split) <;> simp [h]

@[simp] theorem State.missingIndex_np (e : Nat) (s : State) (h : s.ident.opState ≠ .printing) : (State.missingIndex e s).ident.opState ≠ .printing := by
  unfold State.missingIndex; dsimp only; (repeat' split) <;> simp [h]

@[simp] theorem State.pairFault_un (e : Nat) (st : PairStatus) (s : State) (h : Unarmed s.ident.opState) : Unarmed (State.pairFault e st s).ident.opState := by
  unfold State.pairFault; (repeat' split) <;> simp [h]

@[simp] theorem State.pairFault_np (e : Nat) (st : PairStatus) (s : State) (h : s.ident.opState ≠ .printing) : (State.pairFault e st s).ident.opState ≠ .printing := by
  unfold State.pairFault; (repeat' split) <;> simp [h]

@[simp] theorem State.pairStatus_un (e k : Nat) (v : PairIn) (s : State) (h : Unarmed s.ident.opState) : Unarmed (State.pairStatus e k v s).ident.opState := by
  unfold State.pairStatus; dsimp only; (repeat' split) <;> simp [h]

@[simp] theorem State.pairStatus_np (e k : Nat) (v : PairIn) (s : State) (h : s.ident.opState ≠ .printing) : (State.pairStatus e k v s).ident.opState ≠ .printing := by
  unfold State.pairStatus; dsimp only; (repeat' split) <;> simp [h]

@[simp] theorem State.hallNote_un (bad rev : Bool) (s : State) (h : Unarmed s.ident.opState) : Unarmed (State.hallNote bad rev s).ident.opState := by
  unfold State.hallNote; dsimp only; (repeat' split) <;> simp [h]

@[simp] theorem State.hallNote_np (bad rev : Bool) (s : State) (h : s.ident.opState ≠ .printing) : (State.hallNote bad rev s).ident.opState ≠ .printing := by
  unfold State.hallNote; dsimp only; (repeat' split) <;> simp [h]

@[simp] theorem State.hallJudge_un (c dt hc : Nat) (fwd : Bool) (s : State) (h : Unarmed s.ident.opState) : Unarmed (State.hallJudge c dt hc fwd s).ident.opState := by
  unfold State.hallJudge; (repeat' split) <;> simp [h]

@[simp] theorem State.hallJudge_np (c dt hc : Nat) (fwd : Bool) (s : State) (h : s.ident.opState ≠ .printing) : (State.hallJudge c dt hc fwd s).ident.opState ≠ .printing := by
  unfold State.hallJudge; (repeat' split) <;> simp [h]

@[simp] theorem State.hallDev_op (num : Int) (d : Nat) (s : State) : (State.hallDev num d s).ident.opState = s.ident.opState := by
  simp only [State.hallDev]; (repeat' split) <;> simp

@[simp] theorem State.hallSector_un (c dt : Nat) (fwd : Bool) (s : State) (h : Unarmed s.ident.opState) : Unarmed (State.hallSector c dt fwd s).ident.opState := by
  simp [State.hallSector, h]

@[simp] theorem State.hallSector_np (c dt : Nat) (fwd : Bool) (s : State) (h : s.ident.opState ≠ .printing) : (State.hallSector c dt fwd s).ident.opState ≠ .printing := by
  simp [State.hallSector, h]

@[simp] theorem State.hallChange_un (code t : Nat) (s : State) (h : Unarmed s.ident.opState) : Unarmed (State.hallChange code t s).ident.opState := by
  unfold State.hallChange; dsimp only; (repeat' split) <;> simp [h]

@[simp] theorem State.hallChange_np (code t : Nat) (s : State) (h : s.ident.opState ≠ .printing) : (State.hallChange code t s).ident.opState ≠ .printing := by
  unfold State.hallChange; dsimp only; (repeat' split) <;> simp [h]

@[simp] theorem State.hallIn_un (p : HallRun) (s : State) (h : Unarmed s.ident.opState) : Unarmed (State.hallIn p s).ident.opState := by
  unfold State.hallIn; (repeat' split) <;> (try simp [h]) <;> (refine foldl_un _ _ _ ?_ ?_) <;> (try intro s a h) <;> (repeat' split) <;> simp [h]

@[simp] theorem State.hallIn_np (p : HallRun) (s : State) (h : s.ident.opState ≠ .printing) : (State.hallIn p s).ident.opState ≠ .printing := by
  unfold State.hallIn; (repeat' split) <;> (try simp [h]) <;> (refine foldl_np _ _ _ ?_ ?_) <;> (try intro s a h) <;> (repeat' split) <;> simp [h]

@[simp] theorem State.hallReport_op (s : State) : (State.hallReport s).ident.opState = s.ident.opState := by
  simp [State.hallReport]

@[simp] theorem State.illegalReport_op (e : Nat) (s : State) : (State.illegalReport e s).ident.opState = s.ident.opState := by
  simp [State.illegalReport]

@[simp] theorem State.checkWindow_un (s : State) (h : Unarmed s.ident.opState) : Unarmed (State.checkWindow s).ident.opState := by
  unfold State.checkWindow; dsimp only; (repeat' split) <;> simp [h]

@[simp] theorem State.checkWindow_np (s : State) (h : s.ident.opState ≠ .printing) : (State.checkWindow s).ident.opState ≠ .printing := by
  unfold State.checkWindow; dsimp only; (repeat' split) <;> simp [h]

@[simp] theorem State.modQuoin_op (f : Quoin → Quoin) (s : State) : (State.modQuoin f s).ident.opState = s.ident.opState := by
  simp [State.modQuoin]

@[simp] theorem State.freezeBar_op (b : Nat) (on : Bool) (misses : Nat) (s : State) : (State.freezeBar b on misses s).ident.opState = s.ident.opState := by
  simp [State.freezeBar]

@[simp] theorem State.setTarget_op (b : Nat) (t : Int) (s : State) : (State.setTarget b t s).ident.opState = s.ident.opState := by
  simp [State.setTarget]

@[simp] theorem State.steerBar_op (b m : Nat) (s : State) : (State.steerBar b m s).ident.opState = s.ident.opState := by
  simp only [State.steerBar]; (repeat' split) <;> simp

@[simp] theorem State.markEdge_op (k : Nat) (p : Int) (s : State) : (State.markEdge k p s).ident.opState = s.ident.opState := by
  simp only [State.markEdge]; (repeat' split) <;> simp

@[simp] theorem State.markIn_op (r : MarkRun) (s : State) : (State.markIn r s).ident.opState = s.ident.opState := by
  simp only [State.markIn]; (repeat' split) <;> simp

@[simp] theorem State.markMiss_op (k : Nat) (s : State) : (State.markMiss k s).ident.opState = s.ident.opState := by
  unfold State.markMiss; (repeat' split) <;> simp

@[simp] theorem State.leaseRecord_op (id port epoch result : Nat) (s : State) : (State.leaseRecord id port epoch result s).ident.opState = s.ident.opState := by
  simp [State.leaseRecord]

@[simp] theorem State.laneTo_op (l : Nat) (st : LaneState) (s : State) : (State.laneTo l st s).ident.opState = s.ident.opState := by
  simp [State.laneTo]

@[simp] theorem State.bringUpFail_op (l reason : Nat) (s : State) : (State.bringUpFail l reason s).ident.opState = s.ident.opState := by
  simp [State.bringUpFail]

@[simp] theorem State.replaceBond_op (nodes : List NodeRec) (bonds : List Bond) (built : Bool) (s : State) : (State.replaceBond nodes bonds built s).ident.opState = s.ident.opState := by
  simp [State.replaceBond]

@[simp] theorem State.discover_un (command : Bool) (s : State) (h : Unarmed s.ident.opState) : Unarmed (State.discover command s).1.ident.opState := by
  unfold State.discover; dsimp only; (repeat' split) <;> simp [h]

@[simp] theorem State.discover_np (command : Bool) (s : State) (h : s.ident.opState ≠ .printing) : (State.discover command s).1.ident.opState ≠ .printing := by
  unfold State.discover; dsimp only; (repeat' split) <;> simp [h]

@[simp] theorem State.discovery_un (s : State) (h : Unarmed s.ident.opState) : Unarmed (State.discovery s).ident.opState := by
  unfold State.discovery; (repeat' split) <;> simp [h]

@[simp] theorem State.discovery_np (s : State) (h : s.ident.opState ≠ .printing) : (State.discovery s).ident.opState ≠ .printing := by
  unfold State.discovery; (repeat' split) <;> simp [h]

@[simp] theorem State.rebond_un (l : Nat) (s : State) (h : Unarmed s.ident.opState) : Unarmed (State.rebond l s).ident.opState := by
  unfold State.rebond; dsimp only; (repeat' split) <;> simp [h]

@[simp] theorem State.rebond_np (l : Nat) (s : State) (h : s.ident.opState ≠ .printing) : (State.rebond l s).ident.opState ≠ .printing := by
  unfold State.rebond; dsimp only; (repeat' split) <;> simp [h]

@[simp] theorem State.requeue_op (l : Nat) (old : List FrameTx) (s : State) : (State.requeue l old s).1.ident.opState = s.ident.opState := by
  simp [State.requeue]

@[simp] theorem State.cancelFrom_op (c0 : Nat) (s : State) : (State.cancelFrom c0 s).ident.opState = s.ident.opState := by
  simp [State.cancelFrom]

@[simp] theorem State.withdraw_op (c0 : Nat) (s : State) : (State.withdraw c0 s).ident.opState = s.ident.opState := by
  simp [State.withdraw]

@[simp] theorem State.missedCourses_un (l c : Nat) (s : State) (h : Unarmed s.ident.opState) : Unarmed (State.missedCourses l c s).ident.opState := by
  simp [State.missedCourses, h]

@[simp] theorem State.missedCourses_np (l c : Nat) (s : State) (h : s.ident.opState ≠ .printing) : (State.missedCourses l c s).ident.opState ≠ .printing := by
  simp [State.missedCourses, h]

@[simp] theorem State.resend_un (l : Nat) (old : List FrameTx) (s : State) (h : Unarmed s.ident.opState) : Unarmed (State.resend l old s).ident.opState := by
  have hf : ∀ (ks : List Nat) (g : State × Option Nat → Nat → State × Option Nat), (∀ p k, (g p k).1.ident.opState = p.1.ident.opState) →
      ∀ p, (ks.foldl g p).1.ident.opState = p.1.ident.opState := by
    intro ks g hg
    induction ks with
    | nil => intro p; rfl
    | cons k ks ih => intro p; rw [List.foldl_cons, ih, hg]
  unfold State.resend
  (try simp only [])
  split
  · rw [hf _ _ (by intro p k; (try simp only []); split <;> simp)]; exact h
  · exact State.missedCourses_un _ _ _ (by rw [hf _ _ (by intro p k; (try simp only []); split <;> simp)]; exact h)

@[simp] theorem State.resend_np (l : Nat) (old : List FrameTx) (s : State) (h : s.ident.opState ≠ .printing) : (State.resend l old s).ident.opState ≠ .printing := by
  have hf : ∀ (ks : List Nat) (g : State × Option Nat → Nat → State × Option Nat), (∀ p k, (g p k).1.ident.opState = p.1.ident.opState) →
      ∀ p, (ks.foldl g p).1.ident.opState = p.1.ident.opState := by
    intro ks g hg
    induction ks with
    | nil => intro p; rfl
    | cons k ks ih => intro p; rw [List.foldl_cons, ih, hg]
  unfold State.resend
  (try simp only [])
  split
  · rw [hf _ _ (by intro p k; (try simp only []); split <;> simp)]; exact h
  · exact State.missedCourses_np _ _ _ (by rw [hf _ _ (by intro p k; (try simp only []); split <;> simp)]; exact h)

@[simp] theorem State.acquireDropped_op (l : Nat) (s : State) : (State.acquireDropped l s).ident.opState = s.ident.opState := by
  simp [State.acquireDropped]

@[simp] theorem State.laneLost_un (l cond : Nat) (s : State) (h : Unarmed s.ident.opState) : Unarmed (State.laneLost l cond s).ident.opState := by
  unfold State.laneLost; dsimp only; (repeat' split) <;> simp_all

@[simp] theorem State.laneLost_np (l cond : Nat) (s : State) (h : s.ident.opState ≠ .printing) : (State.laneLost l cond s).ident.opState ≠ .printing := by
  unfold State.laneLost; dsimp only; (repeat' split) <;> simp_all

@[simp] theorem State.rxAligned_op (l : Nat) (s : State) : (State.rxAligned l s).ident.opState = s.ident.opState := by
  simp [State.rxAligned]

@[simp] theorem State.rxUnaligned_op (l : Nat) (s : State) : (State.rxUnaligned l s).ident.opState = s.ident.opState := by
  simp [State.rxUnaligned]

@[simp] theorem State.laneHear_op (l : Nat) (r : LineRead) (s : State) : (State.laneHear l r s).ident.opState = s.ident.opState := by
  simp [State.laneHear]

@[simp] theorem State.laneRx_un (l kind len bits : Nat) (s : State) (h : Unarmed s.ident.opState) : Unarmed (State.laneRx l kind len bits s).1.ident.opState := by
  unfold State.laneRx; dsimp only; (repeat' split) <;> simp [h]

@[simp] theorem State.laneRx_np (l kind len bits : Nat) (s : State) (h : s.ident.opState ≠ .printing) : (State.laneRx l kind len bits s).1.ident.opState ≠ .printing := by
  unfold State.laneRx; dsimp only; (repeat' split) <;> simp [h]

@[simp] theorem State.sendEcho_op (l : Nat) (s : State) : (State.sendEcho l s).ident.opState = s.ident.opState := by
  simp [State.sendEcho]

@[simp] theorem State.helloUnit_un (l len bits : Nat) (s : State) (h : Unarmed s.ident.opState) : Unarmed (State.helloUnit l len bits s).ident.opState := by
  have e := State.laneRx_un l 0x12 len bits s h
  unfold State.helloUnit
  generalize State.laneRx l 0x12 len bits s = p at e ⊢
  obtain ⟨s', d⟩ := p
  simp only [] at e ⊢
  (repeat' split) <;> simp_all

@[simp] theorem State.helloUnit_np (l len bits : Nat) (s : State) (h : s.ident.opState ≠ .printing) : (State.helloUnit l len bits s).ident.opState ≠ .printing := by
  have e := State.laneRx_np l 0x12 len bits s h
  unfold State.helloUnit
  generalize State.laneRx l 0x12 len bits s = p at e ⊢
  obtain ⟨s', d⟩ := p
  simp only [] at e ⊢
  (repeat' split) <;> simp_all

@[simp] theorem State.setDelay_op (l : Nat) (s : State) : (State.setDelay l s).ident.opState = s.ident.opState := by
  simp [State.setDelay]

@[simp] theorem State.firstAcquire_op (l : Nat) (s : State) : (State.firstAcquire l s).ident.opState = s.ident.opState := by
  simp [State.firstAcquire]

@[simp] theorem State.echoReply_un (l len bits rtt : Nat) (s : State) (h : Unarmed s.ident.opState) : Unarmed (State.echoReply l len bits rtt s).ident.opState := by
  have e := State.laneRx_un l 0x11 len bits s h
  unfold State.echoReply
  generalize State.laneRx l 0x11 len bits s = p at e ⊢
  obtain ⟨s', d⟩ := p
  simp only [] at e ⊢
  (repeat' split) <;> simp_all

@[simp] theorem State.echoReply_np (l len bits rtt : Nat) (s : State) (h : s.ident.opState ≠ .printing) : (State.echoReply l len bits rtt s).ident.opState ≠ .printing := by
  have e := State.laneRx_np l 0x11 len bits s h
  unfold State.echoReply
  generalize State.laneRx l 0x11 len bits s = p at e ⊢
  obtain ⟨s', d⟩ := p
  simp only [] at e ⊢
  (repeat' split) <;> simp_all

@[simp] theorem State.identTimeout_op (l : Nat) (s : State) : (State.identTimeout l s).ident.opState = s.ident.opState := by
  simp [State.identTimeout]

@[simp] theorem State.delayTimeout_op (l : Nat) (s : State) : (State.delayTimeout l s).ident.opState = s.ident.opState := by
  simp [State.delayTimeout]

@[simp] theorem State.lostTimeout_op (l : Nat) (s : State) : (State.lostTimeout l s).ident.opState = s.ident.opState := by
  simp [State.lostTimeout]

@[simp] theorem State.statusTimeout_un (l : Nat) (s : State) (h : Unarmed s.ident.opState) : Unarmed (State.statusTimeout l s).ident.opState := by
  unfold State.statusTimeout; (repeat' split) <;> simp [h]

@[simp] theorem State.statusTimeout_np (l : Nat) (s : State) (h : s.ident.opState ≠ .printing) : (State.statusTimeout l s).ident.opState ≠ .printing := by
  unfold State.statusTimeout; (repeat' split) <;> simp [h]

@[simp] theorem State.unalignedTimeout_un (l : Nat) (s : State) (h : Unarmed s.ident.opState) : Unarmed (State.unalignedTimeout l s).ident.opState := by
  unfold State.unalignedTimeout; (repeat' split) <;> simp [h]

@[simp] theorem State.unalignedTimeout_np (l : Nat) (s : State) (h : s.ident.opState ≠ .printing) : (State.unalignedTimeout l s).ident.opState ≠ .printing := by
  unfold State.unalignedTimeout; (repeat' split) <;> simp [h]

@[simp] theorem State.replayJobs_op (s : State) : (State.replayJobs s).ident.opState = s.ident.opState := by
  unfold State.replayJobs; (repeat' split) <;> (try simp) <;> (refine foldl_op _ _ _ ?_) <;> intro s a <;> (repeat' split) <;> simp

@[simp] theorem State.takenOver_np (s : State) (h : s.ident.opState ≠ .printing) : (State.takenOver s).ident.opState ≠ .printing := by
  simp [State.takenOver, h]

@[simp] theorem State.acquireDone_un (s : State) (h : Unarmed s.ident.opState) : Unarmed (State.acquireDone s).ident.opState := by
  unfold State.acquireDone
  split
  · exact h
  · dsimp only
    split
    · simp [h]
    · simp [h]

@[simp] theorem State.acquireDone_np (s : State) (h : s.ident.opState ≠ .printing) : (State.acquireDone s).ident.opState ≠ .printing := by
  unfold State.acquireDone; dsimp only; (repeat' split) <;> simp [h]

@[simp] theorem State.renewalSeen_un (l left : Nat) (s : State) (h : Unarmed s.ident.opState) : Unarmed (State.renewalSeen l left s).ident.opState := by
  unfold State.renewalSeen; dsimp only; (repeat' split) <;> simp [h]

@[simp] theorem State.renewalSeen_np (l left : Nat) (s : State) (h : s.ident.opState ≠ .printing) : (State.renewalSeen l left s).ident.opState ≠ .printing := by
  unfold State.renewalSeen; dsimp only; (repeat' split) <;> simp [h]

@[simp] theorem State.leaseStatus_un (id w : Nat) (s : State) (h : Unarmed s.ident.opState) : Unarmed (State.leaseStatus id w s).ident.opState := by
  unfold State.leaseStatus; dsimp only; (repeat' split) <;> simp [h]

@[simp] theorem State.leaseStatus_np (id w : Nat) (s : State) (h : s.ident.opState ≠ .printing) : (State.leaseStatus id w s).ident.opState ≠ .printing := by
  unfold State.leaseStatus; dsimp only; (repeat' split) <;> simp [h]

@[simp] theorem State.nodeCounts_op (id w : Nat) (s : State) : (State.nodeCounts id w s).ident.opState = s.ident.opState := by
  simp [State.nodeCounts]

@[simp] theorem State.nodeHealth_op (id w : Nat) (s : State) : (State.nodeHealth id w s).ident.opState = s.ident.opState := by
  simp [State.nodeHealth]

@[simp] theorem State.statusUnit_un (l len bits : Nat) (s : State) (h : Unarmed s.ident.opState) : Unarmed (State.statusUnit l len bits s).ident.opState := by
  have e := State.laneRx_un l 0x13 len bits s h
  unfold State.statusUnit
  generalize State.laneRx l 0x13 len bits s = p at e ⊢
  obtain ⟨s', d⟩ := p
  simp only [] at e ⊢
  (repeat' split) <;> simp_all

@[simp] theorem State.statusUnit_np (l len bits : Nat) (s : State) (h : s.ident.opState ≠ .printing) : (State.statusUnit l len bits s).ident.opState ≠ .printing := by
  have e := State.laneRx_np l 0x13 len bits s h
  unfold State.statusUnit
  generalize State.laneRx l 0x13 len bits s = p at e ⊢
  obtain ⟨s', d⟩ := p
  simp only [] at e ⊢
  (repeat' split) <;> simp_all

@[simp] theorem State.tempsUnit_un (l len bits : Nat) (s : State) (h : Unarmed s.ident.opState) : Unarmed (State.tempsUnit l len bits s).ident.opState := by
  have e := State.laneRx_un l 0x14 len bits s h
  unfold State.tempsUnit
  generalize State.laneRx l 0x14 len bits s = p at e ⊢
  obtain ⟨s', d⟩ := p
  simp only [] at e ⊢
  (repeat' split) <;> simp_all

@[simp] theorem State.tempsUnit_np (l len bits : Nat) (s : State) (h : s.ident.opState ≠ .printing) : (State.tempsUnit l len bits s).ident.opState ≠ .printing := by
  have e := State.laneRx_np l 0x14 len bits s h
  unfold State.tempsUnit
  generalize State.laneRx l 0x14 len bits s = p at e ⊢
  obtain ⟨s', d⟩ := p
  simp only [] at e ⊢
  (repeat' split) <;> simp_all

@[simp] theorem State.timeSend_op (l : Nat) (s : State) : (State.timeSend l s).ident.opState = s.ident.opState := by
  simp [State.timeSend]

@[simp] theorem State.echoSend_op (l : Nat) (s : State) : (State.echoSend l s).ident.opState = s.ident.opState := by
  simp [State.echoSend]

@[simp] theorem State.discoverSend_op (l : Nat) (s : State) : (State.discoverSend l s).ident.opState = s.ident.opState := by
  simp [State.discoverSend]

@[simp] theorem State.renewSend_op (id : Nat) (s : State) : (State.renewSend id s).ident.opState = s.ident.opState := by
  simp [State.renewSend]

@[simp] theorem State.acquireRetry_op (id : Nat) (s : State) : (State.acquireRetry id s).ident.opState = s.ident.opState := by
  simp [State.acquireRetry]

@[simp] theorem State.restSend_op (s : State) : (State.restSend s).ident.opState = s.ident.opState := by
  simp [State.restSend]

@[simp] theorem State.modBlink_op (side : Nat) (f : BLink → BLink) (s : State) : (State.modBlink side f s).ident.opState = s.ident.opState := by
  simp [State.modBlink]

@[simp] theorem State.modButt_op (f : Butt → Butt) (s : State) : (State.modButt f s).ident.opState = s.ident.opState := by
  simp [State.modButt]

@[simp] theorem State.linkJudge_un (side : Nat) (s : State) (h : Unarmed s.ident.opState) : Unarmed (State.linkJudge side s).ident.opState := by
  unfold State.linkJudge; dsimp only; (repeat' split) <;> simp [h]

@[simp] theorem State.linkJudge_np (side : Nat) (s : State) (h : s.ident.opState ≠ .printing) : (State.linkJudge side s).ident.opState ≠ .printing := by
  unfold State.linkJudge; dsimp only; (repeat' split) <;> simp [h]

@[simp] theorem State.linkUp_un (side lanes : Nat) (s : State) (h : Unarmed s.ident.opState) : Unarmed (State.linkUp side lanes s).ident.opState := by
  unfold State.linkUp; (repeat' split) <;> simp [h]

@[simp] theorem State.linkUp_np (side lanes : Nat) (s : State) (h : s.ident.opState ≠ .printing) : (State.linkUp side lanes s).ident.opState ≠ .printing := by
  unfold State.linkUp; (repeat' split) <;> simp [h]

@[simp] theorem State.linkDown_un (side lanes : Nat) (s : State) (h : Unarmed s.ident.opState) : Unarmed (State.linkDown side lanes s).ident.opState := by
  unfold State.linkDown; dsimp only; (repeat' split) <;> simp [h]

@[simp] theorem State.linkDown_np (side lanes : Nat) (s : State) (h : s.ident.opState ≠ .printing) : (State.linkDown side lanes s).ident.opState ≠ .printing := by
  unfold State.linkDown; dsimp only; (repeat' split) <;> simp [h]

@[simp] theorem State.beatSend_un (side : Nat) (s : State) (h : Unarmed s.ident.opState) : Unarmed (State.beatSend side s).ident.opState := by
  unfold State.beatSend; (repeat' split) <;> simp [h]

@[simp] theorem State.beatSend_np (side : Nat) (s : State) (h : s.ident.opState ≠ .printing) : (State.beatSend side s).ident.opState ≠ .printing := by
  unfold State.beatSend; (repeat' split) <;> simp [h]

@[simp] theorem State.follow_un (op phase : Nat) (s : State) (h : Unarmed s.ident.opState) : Unarmed (State.follow op phase s).ident.opState := by
  simp [State.follow, h]

@[simp] theorem State.swapComplete_op (s : State) : (State.swapComplete s).ident.opState = s.ident.opState := by
  simp only [State.swapComplete]; (repeat' split) <;> simp

@[simp] theorem State.beat_un (side role op phase : Nat) (r : BeatIn) (s : State) (h : Unarmed s.ident.opState) : Unarmed (State.beat side role op phase r s).ident.opState := by
  unfold State.beat; dsimp only; (repeat' split) <;> simp [h]

@[simp] theorem State.gridCheck_op (m : Mem) (s : State) : (State.gridCheck m s).ident.opState = s.ident.opState := by
  unfold State.gridCheck; (repeat' split) <;> simp

@[simp] theorem State.epochNozzles_op (lift : Nat) (es : List (Nat × Nat)) (s : State) : (State.epochNozzles lift es s).ident.opState = s.ident.opState := by
  simp [State.epochNozzles]

@[simp] theorem State.applyEpoch_op (lift : Nat) (s : State) : (State.applyEpoch lift s).ident.opState = s.ident.opState := by
  simp [State.applyEpoch]

@[simp] theorem State.tryEpoch_op (lift : Nat) (s : State) : (State.tryEpoch lift s).ident.opState = s.ident.opState := by
  unfold State.tryEpoch; (repeat' split) <;> simp

@[simp] theorem State.mirrorUnit_op (lift item off : Nat) (bytes : List Nat) (s : State) : (State.mirrorUnit lift item off bytes s).ident.opState = s.ident.opState := by
  simp [State.mirrorUnit]

@[simp] theorem State.epochEnd_op (lift units ecrc : Nat) (s : State) : (State.epochEnd lift units ecrc s).ident.opState = s.ident.opState := by
  simp [State.epochEnd]

@[simp] theorem State.progressUnit_un (course : Nat) (s : State) (h : Unarmed s.ident.opState) : Unarmed (State.progressUnit course s).ident.opState := by
  unfold State.progressUnit; (repeat' split) <;> simp [h]

@[simp] theorem State.progressUnit_np (course : Nat) (s : State) (h : s.ident.opState ≠ .printing) : (State.progressUnit course s).ident.opState ≠ .printing := by
  unfold State.progressUnit; (repeat' split) <;> simp [h]

@[simp] theorem State.adoptConfig_un (secs : List (Nat × List Nat)) (s : State) (h : Unarmed s.ident.opState) : Unarmed (State.adoptConfig secs s).ident.opState := by
  unfold State.adoptConfig; dsimp only; (repeat' split) <;> simp [h]

@[simp] theorem State.adoptConfig_np (secs : List (Nat × List Nat)) (s : State) (h : s.ident.opState ≠ .printing) : (State.adoptConfig secs s).ident.opState ≠ .printing := by
  unfold State.adoptConfig; dsimp only; (repeat' split) <;> simp [h]

@[simp] theorem State.copyIn_un (c : CopyIn) (s : State) (h : Unarmed s.ident.opState) : Unarmed (State.copyIn c s).ident.opState := by
  unfold State.copyIn; (repeat' split) <;> simp [h]

@[simp] theorem State.copyIn_np (c : CopyIn) (s : State) (h : s.ident.opState ≠ .printing) : (State.copyIn c s).ident.opState ≠ .printing := by
  unfold State.copyIn; (repeat' split) <;> simp [h]

@[simp] theorem State.resync_op (s : State) : (State.resync s).ident.opState = s.ident.opState := by
  simp [State.resync]

@[simp] theorem State.acquireAll_op (s : State) : (State.acquireAll s).ident.opState = s.ident.opState := by
  unfold State.acquireAll; (repeat' split) <;> (try simp) <;> (refine foldl_op _ _ _ ?_) <;> intro s a <;> (repeat' split) <;> simp

@[simp] theorem State.partnerTold_op (p : PInfo) (s : State) : (State.partnerTold p s).ident.opState = s.ident.opState := by
  simp [State.partnerTold]

@[simp] theorem State.formPair_op (digest fw : Nat) (offset : Int) (prefer : Bool) (s : State) : (State.formPair digest fw offset prefer s).1.ident.opState = s.ident.opState := by
  simp only [State.formPair]; (repeat' split) <;> simp

@[simp] theorem State.takeover_op (s : State) : (State.takeover s).ident.opState = s.ident.opState := by
  simp [State.takeover]

@[simp] theorem State.handoverUnit_op (fDone : Nat) (oneMore : Bool) (cause : Nat) (s : State) : (State.handoverUnit fDone oneMore cause s).ident.opState = s.ident.opState := by
  simp [State.handoverUnit]

@[simp] theorem State.acquireTimeout_op (s : State) : (State.acquireTimeout s).ident.opState = s.ident.opState := by
  simp only [State.acquireTimeout]; (repeat' split) <;> simp

@[simp] theorem State.beginSwap_op (s : State) : (State.beginSwap s).ident.opState = s.ident.opState := by
  simp [State.beginSwap]

@[simp] theorem State.swapWhenReady_op (s : State) : (State.swapWhenReady s).ident.opState = s.ident.opState := by
  unfold State.swapWhenReady; (repeat' split) <;> simp

@[simp] theorem State.autoSwap_op (s : State) : (State.autoSwap s).ident.opState = s.ident.opState := by
  simp [State.autoSwap]

@[simp] theorem State.sinceSwapTick_op (s : State) : (State.sinceSwapTick s).ident.opState = s.ident.opState := by
  simp [State.sinceSwapTick]

@[simp] theorem State.swapDone_op (s : State) : (State.swapDone s).ident.opState = s.ident.opState := by
  simp only [State.swapDone]; (repeat' split) <;> simp

@[simp] theorem State.ackDone_op (f : Fwd) (s : State) : (State.ackDone f s).ident.opState = s.ident.opState := by
  simp only [State.ackDone]; (repeat' split) <;> simp

@[simp] theorem State.ackFailed_op (f : Fwd) (s : State) : (State.ackFailed f s).ident.opState = s.ident.opState := by
  simp [State.ackFailed]

@[simp] theorem State.ackIn_op (ch slot member result detail digest : Nat) (s : State) : (State.ackIn ch slot member result detail digest s).ident.opState = s.ident.opState := by
  unfold State.ackIn; (repeat' split) <;> simp

@[simp] theorem State.ackTimeout_op (ch slot : Nat) (s : State) : (State.ackTimeout ch slot s).ident.opState = s.ident.opState := by
  unfold State.ackTimeout; (repeat' split) <;> simp

@[simp] theorem State.gangPass_op (side : Nat) (fields : List Int) (s : State) : (State.gangPass side fields s).ident.opState = s.ident.opState := by
  simp [State.gangPass]

@[simp] theorem State.stopAt_op (c : Nat) (s : State) : (State.stopAt c s).ident.opState = s.ident.opState := by
  simp [State.stopAt]

@[simp] theorem State.gsync_un (side : Nat) (m : GMsg) (s : State) (h : Unarmed s.ident.opState) : Unarmed (State.gsync side m s).ident.opState := by
  unfold State.gsync; dsimp only; (repeat' split) <;> simp [h]

@[simp] theorem State.gsync_np (side : Nat) (m : GMsg) (s : State) (h : s.ident.opState ≠ .printing) : (State.gsync side m s).ident.opState ≠ .printing := by
  unfold State.gsync; dsimp only; (repeat' split) <;> simp [h]

@[simp] theorem State.echoOffset_op (side : Nat) (e : GEcho) (s : State) : (State.echoOffset side e s).2.ident.opState = s.ident.opState := by
  simp only [State.echoOffset]; (repeat' split) <;> simp

@[simp] theorem State.offsetKept_op (side : Nat) (own : Int) (e : GEcho) (s : State) : (State.offsetKept side own e s).ident.opState = s.ident.opState := by
  simp [State.offsetKept]

@[simp] theorem State.offsetJudged_un (offset : Int) (s : State) (h : Unarmed s.ident.opState) : Unarmed (State.offsetJudged offset s).ident.opState := by
  unfold State.offsetJudged; dsimp only; (repeat' split) <;> simp [h]

@[simp] theorem State.offsetJudged_np (offset : Int) (s : State) (h : s.ident.opState ≠ .printing) : (State.offsetJudged offset s).ident.opState ≠ .printing := by
  simp [State.offsetJudged, h]

@[simp] theorem State.gtime_un (side : Nat) (request : Bool) (e : GEcho) (s : State) (h : Unarmed s.ident.opState) : Unarmed (State.gtime side request e s).ident.opState := by
  unfold State.gtime; dsimp only; (repeat' split) <;> simp [h]

@[simp] theorem State.gtime_np (side : Nat) (request : Bool) (e : GEcho) (s : State) (h : s.ident.opState ≠ .printing) : (State.gtime side request e s).ident.opState ≠ .printing := by
  unfold State.gtime; dsimp only; (repeat' split) <;> simp [h]

@[simp] theorem State.offsetMeasure_op (s : State) : (State.offsetMeasure s).ident.opState = s.ident.opState := by
  simp [State.offsetMeasure]

@[simp] theorem State.gseam_un (side course : Nat) (levels : List Nat) (crc : Option Nat) (s : State) (h : Unarmed s.ident.opState) : Unarmed (State.gseam side course levels crc s).ident.opState := by
  unfold State.gseam; dsimp only; (repeat' split) <;> simp [h]

@[simp] theorem State.gseam_np (side course : Nat) (levels : List Nat) (crc : Option Nat) (s : State) (h : s.ident.opState ≠ .printing) : (State.gseam side course levels crc s).ident.opState ≠ .printing := by
  unfold State.gseam; dsimp only; (repeat' split) <;> simp [h]

@[simp] theorem State.sendSeam_op (side lift : Nat) (s : State) : (State.sendSeam side lift s).ident.opState = s.ident.opState := by
  simp [State.sendSeam]

@[simp] theorem State.screened_un (w lift : Nat) (mismatch : Bool) (s : State) (h : Unarmed s.ident.opState) : Unarmed (State.screened w lift mismatch s).ident.opState := by
  unfold State.screened; dsimp only; (repeat' split) <;> simp [h]

@[simp] theorem State.screened_np (w lift : Nat) (mismatch : Bool) (s : State) (h : s.ident.opState ≠ .printing) : (State.screened w lift mismatch s).ident.opState ≠ .printing := by
  unfold State.screened; dsimp only; (repeat' split) <;> simp [h]

@[simp] theorem State.heartbeatSend_op (s : State) : (State.heartbeatSend s).ident.opState = s.ident.opState := by
  simp [State.heartbeatSend]

@[simp] theorem State.heartbeatIn_op (member : Nat) (fields : List Nat) (s : State) : (State.heartbeatIn member fields s).ident.opState = s.ident.opState := by
  simp [State.heartbeatIn]

@[simp] theorem State.hbTimeout_op (s : State) : (State.hbTimeout s).ident.opState = s.ident.opState := by
  simp [State.hbTimeout]

end Sys2Proof.Machine
end

