-- ==== Sys2Proof/Laws/OpPower.lean ====
section
/-! SUPPORT. What leaves the operating state alone, keeps it unarmed (un) or keeps it from PRINTING (np): power, Plinth and the registers. -/

namespace Sys2Proof.Machine

open Sys2Proof

-- The terms of a step are records inside records, deeper than the default allows.
set_option maxRecDepth 4000

@[simp] theorem State.modPower_op (f : Power → Power) (s : State) : (State.modPower f s).ident.opState = s.ident.opState := by
  simp [State.modPower]

@[simp] theorem State.modPlinth_op (f : Plinth → Plinth) (s : State) : (State.modPlinth f s).ident.opState = s.ident.opState := by
  simp [State.modPlinth]

@[simp] theorem State.auxRecord_op (code : Nat) (data : List Int) (s : State) : (State.auxRecord code data s).ident.opState = s.ident.opState := by
  simp [State.auxRecord]

@[simp] theorem State.mainReset_op (s : State) : (State.mainReset s).ident.opState = .boot := by
  simp [State.mainReset]

@[simp] theorem State.reboot_op (s : State) : (State.reboot s).ident.opState = .boot := by
  simp [State.reboot]

@[simp] theorem State.mainsOff_op (s : State) : (State.mainsOff s).ident.opState = .standby := by
  simp [State.mainsOff]

@[simp] theorem State.functionReset_op (f : Nat) (s : State) : (State.functionReset f s).ident.opState = s.ident.opState := by
  simp [State.functionReset]

@[simp] theorem State.linkLost_op (f : Nat) (s : State) : (State.linkLost f s).ident.opState = s.ident.opState := by
  simp [State.linkLost]

@[simp] theorem State.toRest_un (s : State) (h : Unarmed s.ident.opState) : Unarmed (State.toRest s).ident.opState := by
  simp [State.toRest, h]

@[simp] theorem State.toRest_np (s : State) (h : s.ident.opState ≠ .printing) : (State.toRest s).ident.opState ≠ .printing := by
  unfold State.toRest; (repeat' split) <;> simp [h]

@[simp] theorem State.auxLost_un (s : State) (h : Unarmed s.ident.opState) : Unarmed (State.auxLost s).ident.opState := by
  simp [State.auxLost, h]

@[simp] theorem State.auxLost_np (s : State) (h : s.ident.opState ≠ .printing) : (State.auxLost s).ident.opState ≠ .printing := by
  simp [State.auxLost, h]

@[simp] theorem State.auxStart_un (s : State) (h : Unarmed s.ident.opState) : Unarmed (State.auxStart s).ident.opState := by
  unfold State.auxStart; (repeat' split) <;> simp [h]

@[simp] theorem State.auxStart_np (s : State) (h : s.ident.opState ≠ .printing) : (State.auxStart s).ident.opState ≠ .printing := by
  unfold State.auxStart; (repeat' split) <;> simp [h]

@[simp] theorem State.keepReset_op (s : State) : (State.keepReset s).ident.opState = s.ident.opState := by
  simp [State.keepReset]

@[simp] theorem State.setField_un (mv : Int) (low : Bool) (s : State) (h : Unarmed s.ident.opState) : Unarmed (State.setField mv low s).ident.opState := by
  simp [State.setField, h]

@[simp] theorem State.setField_np (mv : Int) (low : Bool) (s : State) (h : s.ident.opState ≠ .printing) : (State.setField mv low s).ident.opState ≠ .printing := by
  simp [State.setField, h]

@[simp] theorem State.mainLoss_un (s : State) (h : Unarmed s.ident.opState) : Unarmed (State.mainLoss s).ident.opState := by
  unfold State.mainLoss; (repeat' split) <;> simp [h]

@[simp] theorem State.mainLoss_np (s : State) (h : s.ident.opState ≠ .printing) : (State.mainLoss s).ident.opState ≠ .printing := by
  unfold State.mainLoss; (repeat' split) <;> simp [h]

@[simp] theorem State.fwEnd_op (ok : Bool) (result : Nat) (s : State) : (State.fwEnd ok result s).ident.opState = s.ident.opState := by
  unfold State.fwEnd; (repeat' split) <;> simp

@[simp] theorem State.supplyCrossed_un (input kind : Nat) (mv : Int) (s : State) (h : Unarmed s.ident.opState) : Unarmed (State.supplyCrossed input kind mv s).ident.opState := by
  unfold State.supplyCrossed; dsimp only; (repeat' split) <;> simp [h]

@[simp] theorem State.supplyCrossed_np (input kind : Nat) (mv : Int) (s : State) (h : s.ident.opState ≠ .printing) : (State.supplyCrossed input kind mv s).ident.opState ≠ .printing := by
  unfold State.supplyCrossed; dsimp only; (repeat' split) <;> simp [h]

@[simp] theorem State.supplyLevel_un (input : Nat) (mv : Int) (s : State) (h : Unarmed s.ident.opState) : Unarmed (State.supplyLevel input mv s).ident.opState := by
  unfold State.supplyLevel; (repeat' split) <;> simp [h]

@[simp] theorem State.supplyLevel_np (input : Nat) (mv : Int) (s : State) (h : s.ident.opState ≠ .printing) : (State.supplyLevel input mv s).ident.opState ≠ .printing := by
  unfold State.supplyLevel; (repeat' split) <;> simp [h]

@[simp] theorem State.supply_un (input kind : Nat) (mv : Int) (s : State) (h : Unarmed s.ident.opState) : Unarmed (State.supply input kind mv s).ident.opState := by
  unfold State.supply; dsimp only; (repeat' split) <;> simp [h]

@[simp] theorem State.supply_np (input kind : Nat) (mv : Int) (s : State) (h : s.ident.opState ≠ .printing) : (State.supply input kind mv s).ident.opState ≠ .printing := by
  unfold State.supply; dsimp only; (repeat' split) <;> simp [h]

@[simp] theorem State.startSequence_op (s : State) : (State.startSequence s).ident.opState = s.ident.opState := by
  simp [State.startSequence]

@[simp] theorem State.answer_op (bus op tag flags result detail : Nat) (payload : List Nat) (s : State) : (State.answer bus op tag flags result detail payload s).ident.opState = s.ident.opState := by
  simp [State.answer]

@[simp] theorem State.answerPowerOn_op (result detail : Nat) (s : State) : (State.answerPowerOn result detail s).ident.opState = s.ident.opState := by
  unfold State.answerPowerOn; (repeat' split) <;> simp

@[simp] theorem State.powerGood_un (s : State) (h : Unarmed s.ident.opState) : Unarmed (State.powerGood s).ident.opState := by
  unfold State.powerGood; dsimp only; (repeat' split) <;> simp [h]

@[simp] theorem State.powerGood_np (s : State) (h : s.ident.opState ≠ .printing) : (State.powerGood s).ident.opState ≠ .printing := by
  unfold State.powerGood; dsimp only; (repeat' split) <;> simp [h]

@[simp] theorem State.domainOff_op (d : Nat) (s : State) : (State.domainOff d s).ident.opState = s.ident.opState := by
  simp [State.domainOff]

@[simp] theorem State.powerMissed_un (d : Nat) (s : State) (h : Unarmed s.ident.opState) : Unarmed (State.powerMissed d s).ident.opState := by
  unfold State.powerMissed; dsimp only; (repeat' split) <;> simp [h]

@[simp] theorem State.powerMissed_np (d : Nat) (s : State) (h : s.ident.opState ≠ .printing) : (State.powerMissed d s).ident.opState ≠ .printing := by
  unfold State.powerMissed; dsimp only; (repeat' split) <;> simp [h]

@[simp] theorem State.powerLost_un (d : Nat) (s : State) (h : Unarmed s.ident.opState) : Unarmed (State.powerLost d s).ident.opState := by
  unfold State.powerLost; dsimp only; (repeat' split) <;> simp [h]

@[simp] theorem State.powerLost_np (d : Nat) (s : State) (h : s.ident.opState ≠ .printing) : (State.powerLost d s).ident.opState ≠ .printing := by
  unfold State.powerLost; dsimp only; (repeat' split) <;> simp [h]

@[simp] theorem State.bootFailed_un (reason : Nat) (s : State) (h : Unarmed s.ident.opState) : Unarmed (State.bootFailed reason s).ident.opState := by
  simp [State.bootFailed, h]

@[simp] theorem State.bootFailed_np (reason : Nat) (s : State) (h : s.ident.opState ≠ .printing) : (State.bootFailed reason s).ident.opState ≠ .printing := by
  simp [State.bootFailed, h]

@[simp] theorem State.loadImage_op (crcA crcB : Bool) (s : State) : (State.loadImage crcA crcB s).1.ident.opState = s.ident.opState := by
  simp [State.loadImage]

@[simp] theorem State.fence_op (w : Nat) (units : List Nat) (s : State) : (State.fence w units s).ident.opState = s.ident.opState := by
  simp [State.fence]

@[simp] theorem State.bootReady_op (k : Nat) (trial : Bool) (fence0 fence1 : List Nat) (s : State) : (State.bootReady k trial fence0 fence1 s).ident.opState = s.ident.opState := by
  simp [State.bootReady]

@[simp] theorem State.leaveBoot_un (s : State) (h : Unarmed s.ident.opState) : Unarmed (State.leaveBoot s).ident.opState := by
  unfold State.leaveBoot; dsimp only; (repeat' split) <;> simp [h]

@[simp] theorem State.leaveBoot_np (s : State) (h : s.ident.opState ≠ .printing) : (State.leaveBoot s).ident.opState ≠ .printing := by
  unfold State.leaveBoot; dsimp only; (repeat' split) <;> simp [h]

@[simp] theorem State.bootEnd_un (crcA crcB : Bool) (test : Nat) (fence0 fence1 : List Nat) (s0 : State) (h : Unarmed s0.ident.opState) : Unarmed (State.bootEnd crcA crcB test fence0 fence1 s0).ident.opState := by
  unfold State.bootEnd
  split
  · exact h
  · dsimp only
    split
    · exact State.bootFailed_un _ _ (by simpa using h)
    · split
      · exact State.bootFailed_un _ _ (by simpa using h)
      · split
        · exact h
        · exact State.leaveBoot_un _ (by simpa using h)

@[simp] theorem State.bootEnd_np (crcA crcB : Bool) (test : Nat) (fence0 fence1 : List Nat) (s0 : State) (h : s0.ident.opState ≠ .printing) : (State.bootEnd crcA crcB test fence0 fence1 s0).ident.opState ≠ .printing := by
  unfold State.bootEnd
  split
  · exact h
  · dsimp only
    split
    · exact State.bootFailed_np _ _ (by simpa using h)
    · split
      · exact State.bootFailed_np _ _ (by simpa using h)
      · split
        · exact h
        · exact State.leaveBoot_np _ (by simpa using h)

@[simp] theorem State.bootTimeout_un (s : State) (h : Unarmed s.ident.opState) : Unarmed (State.bootTimeout s).ident.opState := by
  unfold State.bootTimeout; (repeat' split) <;> simp [h]

@[simp] theorem State.bootTimeout_np (s : State) (h : s.ident.opState ≠ .printing) : (State.bootTimeout s).ident.opState ≠ .printing := by
  unfold State.bootTimeout; (repeat' split) <;> simp [h]

@[simp] theorem State.autoOn_op (s : State) : (State.autoOn s).ident.opState = s.ident.opState := by
  simp [State.autoOn]

@[simp] theorem State.thermalShutdown_un (w : Nat) (tj : Int) (s : State) (h : Unarmed s.ident.opState) : Unarmed (State.thermalShutdown w tj s).ident.opState := by
  unfold State.thermalShutdown
  split
  · exact h
  · dsimp only
    rw [State.alert_op, State.auxRecord_op, State.mainsOff_op]
    simp

@[simp] theorem State.thermalShutdown_np (w : Nat) (tj : Int) (s : State) (h : s.ident.opState ≠ .printing) : (State.thermalShutdown w tj s).ident.opState ≠ .printing := by
  unfold State.thermalShutdown
  split
  · exact h
  · dsimp only
    rw [State.alert_op, State.auxRecord_op, State.mainsOff_op]
    simp

@[simp] theorem State.thermalRestart_op (t0 t1 : Int) (s : State) : (State.thermalRestart t0 t1 s).ident.opState = s.ident.opState := by
  simp [State.thermalRestart]

@[simp] theorem State.reply_op (r : ZReq) (op flags result detail : Nat) (payload : List Nat) (s : State) : (State.reply r op flags result detail payload s).ident.opState = s.ident.opState := by
  simp [State.reply]

@[simp] theorem State.request_op (op : Nat) (ack : Bool) (r : ZReq) (f : State → State) (s : State) (hf : ∀ s, (f s).ident.opState = s.ident.opState) :
    (State.request op ack r f s).ident.opState = s.ident.opState := by
  unfold State.request
  split
  · rfl
  · dsimp only; (repeat' split) <;> simp [hf]

theorem State.request_un (op : Nat) (ack : Bool) (r : ZReq) (f : State → State) (s : State) (hf : ∀ s, Unarmed s.ident.opState → Unarmed (f s).ident.opState)
    (h : Unarmed s.ident.opState) : Unarmed (State.request op ack r f s).ident.opState := by
  unfold State.request
  split
  · exact h
  · dsimp only; (repeat' split)
    · simp [h]
    · simp [h]
    · exact hf _ (by simp [h])

theorem State.request_np (op : Nat) (ack : Bool) (r : ZReq) (f : State → State) (s : State) (hf : ∀ s, s.ident.opState ≠ .printing → (f s).ident.opState ≠ .printing)
    (h : s.ident.opState ≠ .printing) : (State.request op ack r f s).ident.opState ≠ .printing := by
  unfold State.request
  split
  · exact h
  · dsimp only; (repeat' split)
    · simp [h]
    · simp [h]
    · exact hf _ (by simp [h])
@[simp] theorem State.discardRequest_op (op : Nat) (r : ZReq) (s : State) : (State.discardRequest op r s).ident.opState = s.ident.opState := by
  simp [State.discardRequest]

@[simp] theorem State.refuse_op (r : ZReq) (op result : Nat) (s : State) : (State.refuse r op result s).ident.opState = s.ident.opState := by
  simp [State.refuse]

@[simp] theorem State.badState_op (r : ZReq) (op : Nat) (s : State) : (State.badState r op s).ident.opState = s.ident.opState := by
  simp [State.badState]

@[simp] theorem State.zIdent_op (r : ZReq) (s : State) : (State.zIdent r s).ident.opState = s.ident.opState := by
  simp [State.zIdent]

@[simp] theorem State.zStatus_op (r : ZReq) (s : State) : (State.zStatus r s).ident.opState = s.ident.opState := by
  simp [State.zStatus]

@[simp] theorem State.zTemps_op (r : ZReq) (s : State) : (State.zTemps r s).ident.opState = s.ident.opState := by
  simp [State.zTemps]

@[simp] theorem State.zPair_op (r : ZReq) (s : State) : (State.zPair r s).ident.opState = s.ident.opState := by
  simp [State.zPair]

@[simp] theorem State.zSettings_op (r : ZReq) (s : State) : (State.zSettings r s).ident.opState = s.ident.opState := by
  simp [State.zSettings]

@[simp] theorem State.alertResponse_op (s : State) : (State.alertResponse s).ident.opState = s.ident.opState := by
  simp [State.alertResponse]

@[simp] theorem State.powerUp_op (r : ZReq) (op : Nat) (s : State) : (State.powerUp r op s).ident.opState = s.ident.opState := by
  simp [State.powerUp]

@[simp] theorem State.zPowerOn_op (r : ZReq) (s : State) : (State.zPowerOn r s).ident.opState = s.ident.opState := by
  simp [State.zPowerOn]

@[simp] theorem State.force_un (s : State) (h : Unarmed s.ident.opState) : Unarmed (State.force s).ident.opState := by
  simp [State.force, h]

@[simp] theorem State.force_np (s : State) (h : s.ident.opState ≠ .printing) : (State.force s).ident.opState ≠ .printing := by
  simp [State.force, h]

@[simp] theorem State.orderlyOff_un (op bus : Nat) (ack : Bool) (s : State) (h : Unarmed s.ident.opState) : Unarmed (State.orderlyOff op bus ack s).ident.opState := by
  simp [State.orderlyOff, h]

@[simp] theorem State.orderlyOff_np (op bus : Nat) (ack : Bool) (s : State) (h : s.ident.opState ≠ .printing) : (State.orderlyOff op bus ack s).ident.opState ≠ .printing := by
  simp [State.orderlyOff, h]

@[simp] theorem State.zPowerOff_un (r : ZReq) (ack : Bool) (s : State) (h : Unarmed s.ident.opState) : Unarmed (State.zPowerOff r ack s).ident.opState := by
  exact State.request_un _ _ _ _ _ (fun s h => by simp only []; (repeat' split) <;> simp [h]) h

@[simp] theorem State.zPowerOff_np (r : ZReq) (ack : Bool) (s : State) (h : s.ident.opState ≠ .printing) : (State.zPowerOff r ack s).ident.opState ≠ .printing := by
  exact State.request_np _ _ _ _ _ (fun s h => by simp only []; (repeat' split) <;> simp [h]) h

@[simp] theorem State.zPowerCycle_un (r : ZReq) (ack : Bool) (s : State) (h : Unarmed s.ident.opState) : Unarmed (State.zPowerCycle r ack s).ident.opState := by
  exact State.request_un _ _ _ _ _ (fun s h => by simp only []; (repeat' split) <;> simp [h]) h

@[simp] theorem State.zPowerCycle_np (r : ZReq) (ack : Bool) (s : State) (h : s.ident.opState ≠ .printing) : (State.zPowerCycle r ack s).ident.opState ≠ .printing := by
  exact State.request_np _ _ _ _ _ (fun s h => by simp only []; (repeat' split) <;> simp [h]) h

@[simp] theorem State.zRestReq_un (r : ZReq) (ack : Bool) (s : State) (h : Unarmed s.ident.opState) : Unarmed (State.zRestReq r ack s).ident.opState := by
  exact State.request_un _ _ _ _ _ (fun s h => by simp only []; (repeat' split) <;> simp [h]) h

@[simp] theorem State.zRestReq_np (r : ZReq) (ack : Bool) (s : State) (h : s.ident.opState ≠ .printing) : (State.zRestReq r ack s).ident.opState ≠ .printing := by
  exact State.request_np _ _ _ _ _ (fun s h => by simp only []; (repeat' split) <;> simp [h]) h

@[simp] theorem State.zForce_un (r : ZReq) (s : State) (h : Unarmed s.ident.opState) : Unarmed (State.zForce r s).ident.opState := by
  unfold State.zForce; exact State.request_un _ _ _ _ _ (fun s h => by (repeat' split) <;> simp [h]) h

@[simp] theorem State.zForce_np (r : ZReq) (s : State) (h : s.ident.opState ≠ .printing) : (State.zForce r s).ident.opState ≠ .printing := by
  unfold State.zForce; exact State.request_np _ _ _ _ _ (fun s h => by (repeat' split) <;> simp [h]) h

@[simp] theorem State.zLockoutClear_op (r : ZReq) (s : State) : (State.zLockoutClear r s).ident.opState = s.ident.opState := by
  simp [State.zLockoutClear]

@[simp] theorem State.logCommit_op (s : State) : (State.logCommit s).ident.opState = s.ident.opState := by
  simp [State.logCommit]

@[simp] theorem State.zLogInfo_op (r : ZReq) (s : State) : (State.zLogInfo r s).ident.opState = s.ident.opState := by
  simp [State.zLogInfo]

@[simp] theorem State.zLogRead_op (r : ZReq) (s : State) : (State.zLogRead r s).ident.opState = s.ident.opState := by
  exact State.request_op _ _ _ _ _ (fun s => by (repeat' split) <;> simp)

@[simp] theorem State.tamperOpen_op (s : State) : (State.tamperOpen s).ident.opState = s.ident.opState := by
  simp [State.tamperOpen]

@[simp] theorem State.fwOpen_op (target len : Nat) (s : State) : (State.fwOpen target len s).ident.opState = s.ident.opState := by
  simp [State.fwOpen]

@[simp] theorem State.fwChunk_op (x : Fw) (off : Nat) (bytes : List Nat) (s : State) : (State.fwChunk x off bytes s).1.ident.opState = s.ident.opState := by
  simp [State.fwChunk]

@[simp] theorem State.zFwOpen_op (r : ZReq) (s : State) : (State.zFwOpen r s).ident.opState = s.ident.opState := by
  simp [State.zFwOpen]

@[simp] theorem State.zFwData_op (r : ZReq) (s : State) : (State.zFwData r s).ident.opState = s.ident.opState := by
  exact State.request_op _ _ _ _ _ (fun s => by (repeat' split) <;> simp)

@[simp] theorem State.zFwClose_op (r : ZReq) (s : State) : (State.zFwClose r s).ident.opState = s.ident.opState := by
  exact State.request_op _ _ _ _ _ (fun s => by (repeat' split) <;> simp)

@[simp] theorem State.fwSelect_op (target k : Nat) (restart : Bool) (s : State) : (State.fwSelect target k restart s).ident.opState = s.ident.opState := by
  simp [State.fwSelect]

@[simp] theorem State.zFwSelect_op (r : ZReq) (s : State) : (State.zFwSelect r s).ident.opState = s.ident.opState := by
  simp [State.zFwSelect]

@[simp] theorem State.fwTimeout_op (s : State) : (State.fwTimeout s).ident.opState = s.ident.opState := by
  unfold State.fwTimeout; (repeat' split) <;> simp

@[simp] theorem State.flashRefresh_op (bad : List Nat) (s : State) : (State.flashRefresh bad s).ident.opState = s.ident.opState := by
  simp [State.flashRefresh]

@[simp] theorem State.zUnknown_op (op : Nat) (r : ZReq) (s : State) : (State.zUnknown op r s).ident.opState = s.ident.opState := by
  simp [State.zUnknown]

@[simp] theorem State.zRun_un (op : Nat) (ack : Bool) (r : ZReq) (s : State) (h : Unarmed s.ident.opState) : Unarmed (State.zRun op ack r s).ident.opState := by
  unfold State.zRun; (repeat' split) <;> simp [h]

@[simp] theorem State.zRun_np (op : Nat) (ack : Bool) (r : ZReq) (s : State) (h : s.ident.opState ≠ .printing) : (State.zRun op ack r s).ident.opState ≠ .printing := by
  unfold State.zRun; (repeat' split) <;> simp [h]

@[simp] theorem State.zNext_un (s : State) (h : Unarmed s.ident.opState) : Unarmed (State.zNext s).ident.opState := by
  unfold State.zNext; (repeat' split) <;> simp [h]

@[simp] theorem State.zNext_np (s : State) (h : s.ident.opState ≠ .printing) : (State.zNext s).ident.opState ≠ .printing := by
  unfold State.zNext; (repeat' split) <;> simp [h]

@[simp] theorem State.responseRead_op (ch slot off n : Nat) (s : State) : (State.responseRead ch slot off n s).ident.opState = s.ident.opState := by
  simp [State.responseRead]

@[simp] theorem State.timeNowRead_op (r : TimeRead) (f : Nat) (s : State) : (State.timeNowRead r f s).ident.opState = s.ident.opState := by
  unfold State.timeNowRead; (repeat' split) <;> simp

@[simp] theorem State.droppedRead_op (f : Nat) (s : State) : (State.droppedRead f s).ident.opState = s.ident.opState := by
  simp [State.droppedRead]

@[simp] theorem State.bar2Host_op (f off n : Nat) (s : State) : (State.bar2Host f off n s).ident.opState = s.ident.opState := by
  unfold State.bar2Host; (repeat' split) <;> simp

@[simp] theorem State.maskVector_op (f v : Nat) (m : Bool) (s : State) : (State.maskVector f v m s).ident.opState = s.ident.opState := by
  simp [State.maskVector]

@[simp] theorem State.chanWrite_op (ch base off : Nat) (bytes : List Nat) (s : State) : (State.chanWrite ch base off bytes s).ident.opState = s.ident.opState := by
  simp [State.chanWrite]

@[simp] theorem State.ctrlWrite_op (f c v : Nat) (s : State) : (State.ctrlWrite f c v s).ident.opState = s.ident.opState := by
  simp [State.ctrlWrite]

@[simp] theorem State.dmaWrite_op (f c reg v w : Nat) (s : State) : (State.dmaWrite f c reg v w s).ident.opState = s.ident.opState := by
  unfold State.dmaWrite; (repeat' split) <;> simp

@[simp] theorem State.wordWrite_op (f base off : Nat) (bytes : List Nat) (s : State) : (State.wordWrite f base off bytes s).ident.opState = s.ident.opState := by
  simp [State.wordWrite]; (repeat' split) <;> simp

@[simp] theorem State.registerWrite_op (f off : Nat) (bytes : List Nat) (s : State) : (State.registerWrite f off bytes s).ident.opState = s.ident.opState := by
  simp [State.registerWrite]

@[simp] theorem State.intCauseClear_op (f clear again : Nat) (s : State) : (State.intCauseClear f clear again s).ident.opState = s.ident.opState := by
  simp [State.intCauseClear]

@[simp] theorem State.intEnable_op (f value : Nat) (s : State) : (State.intEnable f value s).ident.opState = s.ident.opState := by
  simp [State.intEnable]

@[simp] theorem State.overflowClear_op (s : State) : (State.overflowClear s).ident.opState = s.ident.opState := by
  simp [State.overflowClear]

@[simp] theorem State.snapshot_op (f : Nat) (s : State) : (State.snapshot f s).ident.opState = s.ident.opState := by
  simp [State.snapshot]

@[simp] theorem State.ringWrite_op (s : State) : (State.ringWrite s).ident.opState = s.ident.opState := by
  unfold State.ringWrite; (repeat' split) <;> simp

end Sys2Proof.Machine
end

