-- ==== Sys2Proof/Laws/OpVerbs.lean ====
section
/-! SUPPORT. What leaves the operating state alone, keeps it unarmed (un) or keeps it from PRINTING (np): the mailbox verbs and the mailbox itself. -/

namespace Sys2Proof.Machine

open Sys2Proof

-- The terms of a step are records inside records, deeper than the default allows.
set_option maxRecDepth 4000

theorem verbRun_op (ok : Bool) (bad : Option Nat) (f : State → VRes) (s : State) (hf : ∀ s, (f s).1.ident.opState = s.ident.opState) :
    (verbRun ok bad f s).1.ident.opState = s.ident.opState := by
  unfold verbRun
  split
  · rfl
  · split
    · rfl
    · exact hf s

theorem verbRun_un (ok : Bool) (bad : Option Nat) (f : State → VRes) (s : State) (hf : ∀ s, Unarmed s.ident.opState → Unarmed (f s).1.ident.opState)
    (h : Unarmed s.ident.opState) : Unarmed (verbRun ok bad f s).1.ident.opState := by
  unfold verbRun
  split
  · exact h
  · split
    · exact h
    · exact hf s h

theorem verbRun_np (ok : Bool) (bad : Option Nat) (f : State → VRes) (s : State) (hf : ∀ s, s.ident.opState ≠ .printing → (f s).1.ident.opState ≠ .printing)
    (h : s.ident.opState ≠ .printing) : (verbRun ok bad f s).1.ident.opState ≠ .printing := by
  unfold verbRun
  split
  · exact h
  · split
    · exact h
    · exact hf s h

@[simp] theorem vSysInfo_op (q : QCmd) (s : State) : (vSysInfo q s).1.ident.opState = s.ident.opState := by
  exact verbRun_op _ _ _ _ (fun s => by (repeat' split) <;> simp)

@[simp] theorem vSysPing_op (q : QCmd) (s : State) : (vSysPing q s).1.ident.opState = s.ident.opState := by
  exact verbRun_op _ _ _ _ (fun s => by (repeat' split) <;> simp)

@[simp] theorem vEventRing_op (q : QCmd) (s : State) : (vEventRing q s).1.ident.opState = s.ident.opState := by
  exact verbRun_op _ _ _ _ (fun s => by (repeat' split) <;> simp)

@[simp] theorem State.coldReset_un (s : State) (h : Unarmed s.ident.opState) : Unarmed (State.coldReset s).ident.opState := by
  simp [State.coldReset, h]

@[simp] theorem State.coldReset_np (s : State) (h : s.ident.opState ≠ .printing) : (State.coldReset s).ident.opState ≠ .printing := by
  simp [State.coldReset, h]

@[simp] theorem vReset_op (q : QCmd) (s : State) : (vReset q s).1.ident.opState = s.ident.opState := by
  exact verbRun_op _ _ _ _ (fun s => by (repeat' split) <;> simp)

@[simp] theorem State.clearFirst_op (s : State) : (State.clearFirst s).ident.opState = s.ident.opState := by
  simp [State.clearFirst]

@[simp] theorem State.arm_np (s : State) (h : s.ident.opState ≠ .printing) : (State.arm s).ident.opState ≠ .printing := by
  simp [State.arm, h]

@[simp] theorem vArm_np (q : QCmd) (s : State) (h : s.ident.opState ≠ .printing) : (vArm q s).1.ident.opState ≠ .printing := by
  exact verbRun_np _ _ _ _ (fun s h => by (repeat' split) <;> simp [h]) h

@[simp] theorem vDisarm_un (q : QCmd) (s : State) (h : Unarmed s.ident.opState) : Unarmed (vDisarm q s).1.ident.opState := by
  exact verbRun_un _ _ _ _ (fun s h => by (repeat' split) <;> simp [h]) h

@[simp] theorem vDisarm_np (q : QCmd) (s : State) (h : s.ident.opState ≠ .printing) : (vDisarm q s).1.ident.opState ≠ .printing := by
  exact verbRun_np _ _ _ _ (fun s h => by (repeat' split) <;> simp [h]) h

@[simp] theorem vRest_un (q : QCmd) (s : State) (h : Unarmed s.ident.opState) : Unarmed (vRest q s).1.ident.opState := by
  exact verbRun_un _ _ _ _ (fun s h => by (repeat' split) <;> simp [h]) h

@[simp] theorem vRest_np (q : QCmd) (s : State) (h : s.ident.opState ≠ .printing) : (vRest q s).1.ident.opState ≠ .printing := by
  exact verbRun_np _ _ _ _ (fun s h => by (repeat' split) <;> simp [h]) h

@[simp] theorem State.clearLatches_un (s : State) (h : Unarmed s.ident.opState) : Unarmed (State.clearLatches s).ident.opState := by
  simp [State.clearLatches, h]

@[simp] theorem State.clearLatches_np (s : State) (h : s.ident.opState ≠ .printing) : (State.clearLatches s).ident.opState ≠ .printing := by
  simp [State.clearLatches, h]

@[simp] theorem vClear_un (q : QCmd) (s : State) (h : Unarmed s.ident.opState) : Unarmed (vClear q s).1.ident.opState := by
  exact verbRun_un _ _ _ _ (fun s h => by (repeat' split) <;> simp [h]) h

@[simp] theorem vClear_np (q : QCmd) (s : State) (h : s.ident.opState ≠ .printing) : (vClear q s).1.ident.opState ≠ .printing := by
  exact verbRun_np _ _ _ _ (fun s h => by (repeat' split) <;> simp [h]) h

@[simp] theorem State.ownFault_op (fn ch : Nat) (s : State) : (State.ownFault fn ch s).1.ident.opState = s.ident.opState := by
  simp [State.ownFault]

@[simp] theorem State.fetchFault_op (ch : Nat) (s : State) : (State.fetchFault ch s).1.ident.opState = s.ident.opState := by
  simp [State.fetchFault]

@[simp] theorem State.bulkFault_op (n : Nat × Nat) (s : State) : (State.bulkFault n s).1.ident.opState = s.ident.opState := by
  simp [State.bulkFault]

@[simp] theorem State.modCfg_op (f : Cfg → Cfg) (s : State) : (State.modCfg f s).ident.opState = s.ident.opState := by
  simp [State.modCfg]

@[simp] theorem State.stage_op (id off : Nat) (bytes : List Nat) (s : State) : (State.stage id off bytes s).ident.opState = s.ident.opState := by
  simp [State.stage]

@[simp] theorem vStage_op (q : QCmd) (s : State) : (vStage q s).1.ident.opState = s.ident.opState := by
  exact verbRun_op _ _ _ _ (fun s => by (repeat' split) <;> simp)

@[simp] theorem vCheck_op (q : QCmd) (s : State) : (vCheck q s).1.ident.opState = s.ident.opState := by
  exact verbRun_op _ _ _ _ (fun s => by simp only []; (repeat' split) <;> simp)

@[simp] theorem State.commitNow_un (ch slot : Nat) (warn : Bool) (s : State) (h : Unarmed s.ident.opState) : Unarmed (State.commitNow ch slot warn s).1.ident.opState := by
  simp [State.commitNow, h]

@[simp] theorem State.commitNow_np (ch slot : Nat) (warn : Bool) (s : State) (h : s.ident.opState ≠ .printing) : (State.commitNow ch slot warn s).1.ident.opState ≠ .printing := by
  simp [State.commitNow, h]

@[simp] theorem State.commitAt_op (ch slot lift : Nat) (late : Bool) (s : State) : (State.commitAt ch slot lift late s).ident.opState = s.ident.opState := by
  simp [State.commitAt]

@[simp] theorem vCommit_un (ch : Nat) (q : QCmd) (s : State) (h : Unarmed s.ident.opState) : Unarmed (vCommit ch q s).1.ident.opState := by
  unfold vCommit
  dsimp only
  refine verbRun_un _ _ _ _ (fun s h => ?_) h
  simp [h]
  (repeat' split) <;> simp [h]

@[simp] theorem vCommit_np (ch : Nat) (q : QCmd) (s : State) (h : s.ident.opState ≠ .printing) : (vCommit ch q s).1.ident.opState ≠ .printing := by
  unfold vCommit
  dsimp only
  refine verbRun_np _ _ _ _ (fun s h => ?_) h
  simp [h]
  (repeat' split) <;> simp [h]

@[simp] theorem vCancel_op (q : QCmd) (s : State) : (vCancel q s).1.ident.opState = s.ident.opState := by
  exact verbRun_op _ _ _ _ (fun s => by (repeat' split) <;> simp)

@[simp] theorem vDiscard_op (q : QCmd) (s : State) : (vDiscard q s).1.ident.opState = s.ident.opState := by
  exact verbRun_op _ _ _ _ (fun s => by (repeat' split) <;> simp)

@[simp] theorem State.copyOut_op (addr : Nat) (bytes : List Nat) (s : State) : (State.copyOut addr bytes s).ident.opState = s.ident.opState := by
  simp [State.copyOut]

@[simp] theorem vCfgRead_op (q : QCmd) (s : State) : (vCfgRead q s).1.ident.opState = s.ident.opState := by
  exact verbRun_op _ _ _ _ (fun s => by (repeat' split) <;> simp)

@[simp] theorem State.modJobs_op (f : Jobs → Jobs) (s : State) : (State.modJobs f s).ident.opState = s.ident.opState := by
  simp [State.modJobs]

@[simp] theorem vJobOpen_op (q : QCmd) (s : State) : (vJobOpen q s).1.ident.opState = s.ident.opState := by
  exact verbRun_op _ _ _ _ (fun s => by simp only []; (repeat' split) <;> simp)

@[simp] theorem vJobSubmit_un (q : QCmd) (s : State) (h : Unarmed s.ident.opState) : Unarmed (vJobSubmit q s).1.ident.opState := by
  exact verbRun_un _ _ _ _ (fun s h => by (repeat' split) <;> simp [h]) h

@[simp] theorem vJobSubmit_np (q : QCmd) (s : State) (h : s.ident.opState ≠ .printing) : (vJobSubmit q s).1.ident.opState ≠ .printing := by
  exact verbRun_np _ _ _ _ (fun s h => by (repeat' split) <;> simp [h]) h

@[simp] theorem State.queueJob_op (j : Job) (boundary : Nat) (s : State) : (State.queueJob j boundary s).ident.opState = s.ident.opState := by
  simp [State.queueJob]

@[simp] theorem vJobStart_op (q : QCmd) (s : State) : (vJobStart q s).1.ident.opState = s.ident.opState := by
  exact verbRun_op _ _ _ _ (fun s => by (repeat' split) <;> simp)

@[simp] theorem vJobPause_un (q : QCmd) (s : State) (h : Unarmed s.ident.opState) : Unarmed (vJobPause q s).1.ident.opState := by
  exact verbRun_un _ _ _ _ (fun s h => by (repeat' split) <;> simp [h]) h

@[simp] theorem vJobPause_np (q : QCmd) (s : State) (h : s.ident.opState ≠ .printing) : (vJobPause q s).1.ident.opState ≠ .printing := by
  exact verbRun_np _ _ _ _ (fun s h => by (repeat' split) <;> simp [h]) h

@[simp] theorem vJobContinue_op (q : QCmd) (s : State) : (vJobContinue q s).1.ident.opState = s.ident.opState := by
  exact verbRun_op _ _ _ _ (fun s => by (repeat' split) <;> simp)

@[simp] theorem State.holdWithoutJob_un (s : State) (h : Unarmed s.ident.opState) : Unarmed (State.holdWithoutJob s).ident.opState := by
  unfold State.holdWithoutJob; (repeat' split) <;> simp [h]

@[simp] theorem State.holdWithoutJob_np (s : State) (h : s.ident.opState ≠ .printing) : (State.holdWithoutJob s).ident.opState ≠ .printing := by
  unfold State.holdWithoutJob; (repeat' split) <;> simp [h]

@[simp] theorem State.abortJob_un (j : Job) (s : State) (h : Unarmed s.ident.opState) : Unarmed (State.abortJob j s).ident.opState := by
  unfold State.abortJob; (repeat' split) <;> simp [h]

@[simp] theorem State.abortJob_np (j : Job) (s : State) (h : s.ident.opState ≠ .printing) : (State.abortJob j s).ident.opState ≠ .printing := by
  unfold State.abortJob; (repeat' split) <;> simp [h]

@[simp] theorem vJobAbort_un (q : QCmd) (s : State) (h : Unarmed s.ident.opState) : Unarmed (vJobAbort q s).1.ident.opState := by
  exact verbRun_un _ _ _ _ (fun s h => by (repeat' split) <;> simp [h]) h

@[simp] theorem vJobAbort_np (q : QCmd) (s : State) (h : s.ident.opState ≠ .printing) : (vJobAbort q s).1.ident.opState ≠ .printing := by
  exact verbRun_np _ _ _ _ (fun s h => by (repeat' split) <;> simp [h]) h

@[simp] theorem vJobClose_op (q : QCmd) (s : State) : (vJobClose q s).1.ident.opState = s.ident.opState := by
  exact verbRun_op _ _ _ _ (fun s => by (repeat' split) <;> simp)

@[simp] theorem vJobStatus_op (q : QCmd) (s : State) : (vJobStatus q s).1.ident.opState = s.ident.opState := by
  exact verbRun_op _ _ _ _ (fun s => by (repeat' split) <;> simp)

@[simp] theorem State.modActs_op (f : Acts → Acts) (s : State) : (State.modActs f s).ident.opState = s.ident.opState := by
  simp [State.modActs]

@[simp] theorem State.schedule_op (a : Act) (s : State) : (State.schedule a s).ident.opState = s.ident.opState := by
  simp [State.schedule]

@[simp] theorem State.acceptAct_op (a : Act) (passed atOnce : Bool) (verb : Nat) (s : State) : (State.acceptAct a passed atOnce verb s).1.ident.opState = s.ident.opState := by
  simp [State.acceptAct]

@[simp] theorem vAtCourse_op (q : QCmd) (s : State) : (vAtCourse q s).1.ident.opState = s.ident.opState := by
  exact verbRun_op _ _ _ _ (fun s => by (repeat' split) <;> simp)

@[simp] theorem vAtTime_op (q : QCmd) (s : State) : (vAtTime q s).1.ident.opState = s.ident.opState := by
  unfold vAtTime
  dsimp only
  refine verbRun_op _ _ _ _ (fun s => ?_)
  simp

@[simp] theorem vEvtCancel_op (q : QCmd) (s : State) : (vEvtCancel q s).1.ident.opState = s.ident.opState := by
  exact verbRun_op _ _ _ _ (fun s => by (repeat' split) <;> simp)

@[simp] theorem vEvtList_op (q : QCmd) (s : State) : (vEvtList q s).1.ident.opState = s.ident.opState := by
  exact verbRun_op _ _ _ _ (fun s => by (repeat' split) <;> simp)

@[simp] theorem State.limitRecord_op (bar : Nat) (s : State) (n : Nat) : (State.limitRecord bar s n).ident.opState = s.ident.opState := by
  simp [State.limitRecord]

@[simp] theorem State.applyDens_op (bar : Nat) (a : DensAcc) (s : State) : (State.applyDens bar a s).ident.opState = s.ident.opState := by
  simp [State.applyDens]

@[simp] theorem State.densUpdate_op (bar rows exp first lift : Nat) (atOnce : Bool) (es : List Int) (s : State) : (State.densUpdate bar rows exp first lift atOnce es s).1.ident.opState = s.ident.opState := by
  simp [State.densUpdate]

@[simp] theorem vDensUpdate_op (q : QCmd) (s : State) : (vDensUpdate q s).1.ident.opState = s.ident.opState := by
  unfold vDensUpdate
  dsimp only
  refine verbRun_op _ _ _ _ (fun s => ?_)
  simp

@[simp] theorem vDensRead_op (q : QCmd) (s : State) : (vDensRead q s).1.ident.opState = s.ident.opState := by
  exact verbRun_op _ _ _ _ (fun s => by (repeat' split) <;> simp)

@[simp] theorem vDensFreeze_op (q : QCmd) (s : State) : (vDensFreeze q s).1.ident.opState = s.ident.opState := by
  exact verbRun_op _ _ _ _ (fun s => by (repeat' split) <;> simp)

@[simp] theorem State.mapNozzles_op (l : Nat) (late : Bool) (es : List (Nat × Nat)) (s : State) : (State.mapNozzles l late es s).1.ident.opState = s.ident.opState := by
  simp [State.mapNozzles]

@[simp] theorem vNozMap_op (q : QCmd) (s : State) : (vNozMap q s).1.ident.opState = s.ident.opState := by
  unfold vNozMap
  dsimp only
  refine verbRun_op _ _ _ _ (fun s => ?_)
  split
  · simp
  · split <;> simp

@[simp] theorem vNozRead_op (q : QCmd) (s : State) : (vNozRead q s).1.ident.opState = s.ident.opState := by
  exact verbRun_op _ _ _ _ (fun s => by (repeat' split) <;> simp)

@[simp] theorem vLaneBond_un (q : QCmd) (s : State) (h : Unarmed s.ident.opState) : Unarmed (vLaneBond q s).1.ident.opState := by
  exact verbRun_un _ _ _ _ (fun s h => by (repeat' split) <;> simp [h]) h

@[simp] theorem vLaneBond_np (q : QCmd) (s : State) (h : s.ident.opState ≠ .printing) : (vLaneBond q s).1.ident.opState ≠ .printing := by
  exact verbRun_np _ _ _ _ (fun s h => by (repeat' split) <;> simp [h]) h

@[simp] theorem vPairSwap_un (ch : Nat) (q : QCmd) (s : State) (h : Unarmed s.ident.opState) : Unarmed (vPairSwap ch q s).1.ident.opState := by
  exact verbRun_un _ _ _ _ (fun s h => by (repeat' split) <;> simp [h]) h

@[simp] theorem vPairSwap_np (ch : Nat) (q : QCmd) (s : State) (h : s.ident.opState ≠ .printing) : (vPairSwap ch q s).1.ident.opState ≠ .printing := by
  exact verbRun_np _ _ _ _ (fun s h => by (repeat' split) <;> simp [h]) h

@[simp] theorem State.joinActive_op (s : State) : (State.joinActive s).ident.opState = s.ident.opState := by
  simp [State.joinActive]

@[simp] theorem vPairJoin_op (q : QCmd) (s : State) : (vPairJoin q s).1.ident.opState = s.ident.opState := by
  exact verbRun_op _ _ _ _ (fun s => by simp only []; (repeat' split) <;> simp)

@[simp] theorem vPairLeave_op (q : QCmd) (s : State) : (vPairLeave q s).1.ident.opState = s.ident.opState := by
  exact verbRun_op _ _ _ _ (fun s => by (repeat' split) <;> simp)

@[simp] theorem State.abortStarted_un (s : State) (h : Unarmed s.ident.opState) : Unarmed (State.abortStarted s).ident.opState := by
  unfold State.abortStarted; (repeat' split) <;> (try simp [h]) <;> (refine foldl_un _ _ _ ?_ ?_) <;> (try intro s a h) <;> (repeat' split) <;> simp [h]

@[simp] theorem State.abortStarted_np (s : State) (h : s.ident.opState ≠ .printing) : (State.abortStarted s).ident.opState ≠ .printing := by
  unfold State.abortStarted; (repeat' split) <;> (try simp [h]) <;> (refine foldl_np _ _ _ ?_ ?_) <;> (try intro s a h) <;> (repeat' split) <;> simp [h]

@[simp] theorem vPairTake_un (q : QCmd) (s : State) (h : Unarmed s.ident.opState) : Unarmed (vPairTake q s).1.ident.opState := by
  exact verbRun_un _ _ _ _ (fun s h => by simp only []; (repeat' split) <;> simp [h]) h

@[simp] theorem vPairTake_np (q : QCmd) (s : State) (h : s.ident.opState ≠ .printing) : (vPairTake q s).1.ident.opState ≠ .printing := by
  exact verbRun_np _ _ _ _ (fun s h => by simp only []; (repeat' split) <;> simp [h]) h

@[simp] theorem vPairInfo_op (q : QCmd) (s : State) : (vPairInfo q s).1.ident.opState = s.ident.opState := by
  exact verbRun_op _ _ _ _ (fun s => by (repeat' split) <;> simp)

@[simp] theorem vGangForm_op (q : QCmd) (s : State) : (vGangForm q s).1.ident.opState = s.ident.opState := by
  exact verbRun_op _ _ _ _ (fun s => by (repeat' split) <;> simp)

@[simp] theorem vGangDissolve_op (q : QCmd) (s : State) : (vGangDissolve q s).1.ident.opState = s.ident.opState := by
  exact verbRun_op _ _ _ _ (fun s => by (repeat' split) <;> simp)

@[simp] theorem vGangInfo_op (q : QCmd) (s : State) : (vGangInfo q s).1.ident.opState = s.ident.opState := by
  exact verbRun_op _ _ _ _ (fun s => by (repeat' split) <;> simp)

@[simp] theorem vAcceptStep_op (ch : Nat) (q : QCmd) (s : State) : (vAcceptStep ch q s).1.ident.opState = s.ident.opState := by
  exact verbRun_op _ _ _ _ (fun s => by (repeat' split) <;> simp)

@[simp] theorem vTimeSet_op (ch : Nat) (q : QCmd) (s : State) : (vTimeSet ch q s).1.ident.opState = s.ident.opState := by
  exact verbRun_op _ _ _ _ (fun s => by (repeat' split) <;> simp)

@[simp] theorem vTimeStatus_op (q : QCmd) (s : State) : (vTimeStatus q s).1.ident.opState = s.ident.opState := by
  exact verbRun_op _ _ _ _ (fun s => by (repeat' split) <;> simp)

@[simp] theorem State.stepApply_op (s : State) : (State.stepApply s).ident.opState = s.ident.opState := by
  unfold State.stepApply; (repeat' split) <;> simp

@[simp] theorem vLampSet_op (q : QCmd) (s : State) : (vLampSet q s).1.ident.opState = s.ident.opState := by
  exact verbRun_op _ _ _ _ (fun s => by (repeat' split) <;> simp)

@[simp] theorem vLampRead_op (q : QCmd) (s : State) : (vLampRead q s).1.ident.opState = s.ident.opState := by
  exact verbRun_op _ _ _ _ (fun s => by (repeat' split) <;> simp)

@[simp] theorem State.clearShort_op (s : State) (n : Nat) : (State.clearShort s n).ident.opState = s.ident.opState := by
  simp [State.clearShort]

@[simp] theorem State.clearShorts_op (s : State) : (State.clearShorts s).ident.opState = s.ident.opState := by
  simp [State.clearShorts]

@[simp] theorem State.clearPins_op (s : State) : (State.clearPins s).ident.opState = s.ident.opState := by
  simp [State.clearPins]

@[simp] theorem vLampClear_op (q : QCmd) (s : State) : (vLampClear q s).1.ident.opState = s.ident.opState := by
  exact verbRun_op _ _ _ _ (fun s => by (repeat' split) <;> simp)

@[simp] theorem vPanelSet_op (q : QCmd) (s : State) : (vPanelSet q s).1.ident.opState = s.ident.opState := by
  exact verbRun_op _ _ _ _ (fun s => by (repeat' split) <;> simp)

@[simp] theorem vCopingRead_op (q : QCmd) (s : State) : (vCopingRead q s).1.ident.opState = s.ident.opState := by
  exact verbRun_op _ _ _ _ (fun s => by (repeat' split) <;> simp)

@[simp] theorem vCopingCal_op (q : QCmd) (s : State) : (vCopingCal q s).1.ident.opState = s.ident.opState := by
  exact verbRun_op _ _ _ _ (fun s => by (repeat' split) <;> simp)

@[simp] theorem vLogRead_op (q : QCmd) (s : State) : (vLogRead q s).1.ident.opState = s.ident.opState := by
  exact verbRun_op _ _ _ _ (fun s => by (repeat' split) <;> simp)

@[simp] theorem State.plinthFail_op (result : Nat) (s : State) : (State.plinthFail result s).1.ident.opState = s.ident.opState := by
  simp [State.plinthFail]

@[simp] theorem vPlinthFw_op (q : QCmd) (s : State) : (vPlinthFw q s).1.ident.opState = s.ident.opState := by
  exact verbRun_op _ _ _ _ (fun s => by simp only []; (repeat' split) <;> simp)

@[simp] theorem vFwSelect_op (q : QCmd) (s : State) : (vFwSelect q s).1.ident.opState = s.ident.opState := by
  exact verbRun_op _ _ _ _ (fun s => by (repeat' split) <;> simp)

@[simp] theorem runLow_np (ch : Nat) (q : QCmd) (s : State) (h : s.ident.opState ≠ .printing) : (runLow ch q s).1.ident.opState ≠ .printing := by
  unfold runLow; (repeat' split) <;> simp [h]

@[simp] theorem runHigh_un (ch : Nat) (q : QCmd) (s : State) (h : Unarmed s.ident.opState) : Unarmed (runHigh ch q s).1.ident.opState := by
  unfold runHigh; (repeat' split) <;> simp [h]

@[simp] theorem runHigh_np (ch : Nat) (q : QCmd) (s : State) (h : s.ident.opState ≠ .printing) : (runHigh ch q s).1.ident.opState ≠ .printing := by
  unfold runHigh; (repeat' split) <;> simp [h]

@[simp] theorem runVerb_np (ch : Nat) (q : QCmd) (s : State) (h : s.ident.opState ≠ .printing) : (runVerb ch q s).1.ident.opState ≠ .printing := by
  unfold runVerb; (repeat' split) <;> simp [h]

@[simp] theorem State.keystones_op (q : QCmd) (s : State) : (State.keystones q s).ident.opState = s.ident.opState := by
  simp [State.keystones]

@[simp] theorem State.keystoneDone_op (q : QCmd) (s : State) : (State.keystoneDone q s).ident.opState = s.ident.opState := by
  simp [State.keystoneDone]

@[simp] theorem bothWythes_np (ch : Nat) (q : QCmd) (s : State) (h : s.ident.opState ≠ .printing) : (bothWythes ch q s).1.ident.opState ≠ .printing := by
  simp [bothWythes, h]

theorem State.carry_op (ch : Nat) (q : QCmd) (r : VRes) : (State.carry ch q r).1.ident.opState = r.1.ident.opState := by
  unfold State.carry
  dsimp only
  (repeat' split) <;> simp

theorem State.runCmd_np (ch : Nat) (q : QCmd) (s : State) (h : s.ident.opState ≠ .printing) :
    (State.runCmd ch q s).1.ident.opState ≠ .printing := by
  have hr : (bothWythes ch q s).1.ident.opState ≠ .printing := bothWythes_np ch q s h
  unfold State.runCmd
  split
  · exact h
  · split
    · exact h
    · dsimp only
      split
      · exact hr
      · rw [State.carry_op]; exact hr
@[simp] theorem State.runHead_np (ch : Nat) (s : State) (h : s.ident.opState ≠ .printing) : (State.runHead ch s).ident.opState ≠ .printing := by
  unfold State.runHead
  split
  · exact h
  · have := State.runCmd_np ch ‹QCmd› (s.modChan ch (fun x => { x with running := true })) (by simpa using h)
    dsimp only
    split
    · simpa using this
    · exact this

theorem settleGo_np (n : Nat) (s : State) (h : s.ident.opState ≠ .printing) : (settleGo n s).ident.opState ≠ .printing := by
  induction n generalizing s with
  | zero => exact h
  | succ n ih =>
    unfold settleGo
    split
    · exact h
    · exact ih _ (State.runHead_np _ _ h)

@[simp] theorem State.settle_np (s : State) (h : s.ident.opState ≠ .printing) : (State.settle s).ident.opState ≠ .printing := by
  exact settleGo_np 256 s h

@[simp] theorem State.restAtOnce_un (ch : Nat) (q : QCmd) (s : State) (h : Unarmed s.ident.opState) : Unarmed (State.restAtOnce ch q s).ident.opState := by
  unfold State.restAtOnce; (repeat' split) <;> simp [h]

@[simp] theorem State.restAtOnce_np (ch : Nat) (q : QCmd) (s : State) (h : s.ident.opState ≠ .printing) : (State.restAtOnce ch q s).ident.opState ≠ .printing := by
  unfold State.restAtOnce; (repeat' split) <;> simp [h]

@[simp] theorem State.submit_un (verb : Nat) (m : Mbox) (s : State) (h : Unarmed s.ident.opState) : Unarmed (State.submit verb m s).ident.opState := by
  unfold State.submit; dsimp only; (repeat' split) <;> simp [h]

@[simp] theorem State.submit_np (verb : Nat) (m : Mbox) (s : State) (h : s.ident.opState ≠ .printing) : (State.submit verb m s).ident.opState ≠ .printing := by
  unfold State.submit; dsimp only; (repeat' split) <;> simp [h]

@[simp] theorem State.remote_np (side verb : Nat) (m : Mbox) (data : List Nat) (s : State) (h : s.ident.opState ≠ .printing) : (State.remote side verb m data s).ident.opState ≠ .printing := by
  unfold State.remote; dsimp only; (repeat' split) <;> simp [h]

@[simp] theorem State.msg_np (side : Nat) (b : BMsg) (s : State) (h : s.ident.opState ≠ .printing) : (State.msg side b s).ident.opState ≠ .printing := by
  unfold State.msg; (repeat' split) <;> simp [h]

end Sys2Proof.Machine
end

