-- ==== Sys2Proof/Laws/OpOutside.lean ====
section
/-! SUPPORT. What leaves the operating state alone, keeps it unarmed (un) or keeps it from PRINTING (np): interlocks, memory events, PTP, the nodes and the form of every command. -/

namespace Sys2Proof.Machine

open Sys2Proof

-- The terms of a step are records inside records, deeper than the default allows.
set_option maxRecDepth 4000

@[simp] theorem State.plumbChange_un (f : Plumb → Plumb) (s : State) (h : Unarmed s.ident.opState) : Unarmed (State.plumbChange f s).ident.opState := by
  unfold State.plumbChange; dsimp only; (repeat' split) <;> simp [h]

@[simp] theorem State.plumbChange_np (f : Plumb → Plumb) (s : State) (h : s.ident.opState ≠ .printing) : (State.plumbChange f s).ident.opState ≠ .printing := by
  unfold State.plumbChange; dsimp only; (repeat' split) <;> simp [h]

@[simp] theorem State.inputLevel_un (i : Nat) (level opened : Bool) (s : State) (h : Unarmed s.ident.opState) : Unarmed (State.inputLevel i level opened s).ident.opState := by
  simp [State.inputLevel, h]

@[simp] theorem State.inputLevel_np (i : Nat) (level opened : Bool) (s : State) (h : s.ident.opState ≠ .printing) : (State.inputLevel i level opened s).ident.opState ≠ .printing := by
  simp [State.inputLevel, h]

@[simp] theorem State.fieldInput_un (i : Nat) (level : Bool) (ua : Nat) (s : State) (h : Unarmed s.ident.opState) : Unarmed (State.fieldInput i level ua s).ident.opState := by
  unfold State.fieldInput; dsimp only; (repeat' split) <;> simp [h]

@[simp] theorem State.fieldInput_np (i : Nat) (level : Bool) (ua : Nat) (s : State) (h : s.ident.opState ≠ .printing) : (State.fieldInput i level ua s).ident.opState ≠ .printing := by
  unfold State.fieldInput; dsimp only; (repeat' split) <;> simp [h]

@[simp] theorem State.estopDisc_un (s : State) (h : Unarmed s.ident.opState) : Unarmed (State.estopDisc s).ident.opState := by
  unfold State.estopDisc; dsimp only; (repeat' split) <;> simp [h]

@[simp] theorem State.estopDisc_np (s : State) (h : s.ident.opState ≠ .printing) : (State.estopDisc s).ident.opState ≠ .printing := by
  unfold State.estopDisc; dsimp only; (repeat' split) <;> simp [h]

@[simp] theorem State.outputFault_un (o kind : Nat) (s : State) (h : Unarmed s.ident.opState) : Unarmed (State.outputFault o kind s).ident.opState := by
  unfold State.outputFault; dsimp only; (repeat' split) <;> simp [h]

@[simp] theorem State.outputFault_np (o kind : Nat) (s : State) (h : s.ident.opState ≠ .printing) : (State.outputFault o kind s).ident.opState ≠ .printing := by
  unfold State.outputFault; dsimp only; (repeat' split) <;> simp [h]

@[simp] theorem State.openLoad_op (o ua : Nat) (s : State) : (State.openLoad o ua s).ident.opState = s.ident.opState := by
  simp [State.openLoad]

@[simp] theorem State.fieldSupply_un (mv : Int) (s : State) (h : Unarmed s.ident.opState) : Unarmed (State.fieldSupply mv s).ident.opState := by
  unfold State.fieldSupply; (repeat' split) <;> simp [h]

@[simp] theorem State.fieldSupply_np (mv : Int) (s : State) (h : s.ident.opState ≠ .printing) : (State.fieldSupply mv s).ident.opState ≠ .printing := by
  unfold State.fieldSupply; (repeat' split) <;> simp [h]

@[simp] theorem State.thermChange_un (tj0 tj1 : Int) (s : State) (h : Unarmed s.ident.opState) : Unarmed (State.thermChange tj0 tj1 s).ident.opState := by
  simp [State.thermChange, h]

@[simp] theorem State.thermChange_np (tj0 tj1 : Int) (s : State) (h : s.ident.opState ≠ .printing) : (State.thermChange tj0 tj1 s).ident.opState ≠ .printing := by
  simp [State.thermChange, h]

@[simp] theorem State.supplyOverload_op (k : Nat) (limit : Bool) (s : State) : (State.supplyOverload k limit s).ident.opState = s.ident.opState := by
  simp [State.supplyOverload]

@[simp] theorem State.wdogDrop_un (s : State) (h : Unarmed s.ident.opState) : Unarmed (State.wdogDrop s).ident.opState := by
  unfold State.wdogDrop; (repeat' split) <;> simp [h]

@[simp] theorem State.wdogDrop_np (s : State) (h : s.ident.opState ≠ .printing) : (State.wdogDrop s).ident.opState ≠ .printing := by
  unfold State.wdogDrop; (repeat' split) <;> simp [h]

@[simp] theorem State.wdogKey_un (s : State) (h : Unarmed s.ident.opState) : Unarmed (State.wdogKey s).ident.opState := by
  unfold State.wdogKey; (repeat' split) <;> simp [h]

@[simp] theorem State.wdogKey_np (s : State) (h : s.ident.opState ≠ .printing) : (State.wdogKey s).ident.opState ≠ .printing := by
  unfold State.wdogKey; (repeat' split) <;> simp [h]

@[simp] theorem State.watchdog_un (wrong : Bool) (s : State) (h : Unarmed s.ident.opState) : Unarmed (State.watchdog wrong s).ident.opState := by
  unfold State.watchdog; (repeat' split) <;> simp [h]

@[simp] theorem State.watchdog_np (wrong : Bool) (s : State) (h : s.ident.opState ≠ .printing) : (State.watchdog wrong s).ident.opState ≠ .printing := by
  unfold State.watchdog; (repeat' split) <;> simp [h]

@[simp] theorem State.heartbeats_un (beats : List (Nat × Nat)) (s : State) (h : Unarmed s.ident.opState) : Unarmed (State.heartbeats beats s).ident.opState := by
  unfold State.heartbeats; dsimp only; (repeat' split) <;> simp [h]

@[simp] theorem State.heartbeats_np (beats : List (Nat × Nat)) (s : State) (h : s.ident.opState ≠ .printing) : (State.heartbeats beats s).ident.opState ≠ .printing := by
  unfold State.heartbeats; dsimp only; (repeat' split) <;> simp [h]

@[simp] theorem State.aliveTick_op (s : State) : (State.aliveTick s).ident.opState = s.ident.opState := by
  simp [State.aliveTick]

@[simp] theorem State.courseRecord_un (course fire : Nat) (s : State) (h : Unarmed s.ident.opState) : Unarmed (State.courseRecord course fire s).ident.opState := by
  unfold State.courseRecord; (repeat' split) <;> simp [h]

@[simp] theorem State.courseRecord_np (course fire : Nat) (s : State) (h : s.ident.opState ≠ .printing) : (State.courseRecord course fire s).ident.opState ≠ .printing := by
  unfold State.courseRecord; (repeat' split) <;> simp [h]

@[simp] theorem State.tieCorrected_op (to_ : Nat) (s : State) : (State.tieCorrected to_ s).ident.opState = s.ident.opState := by
  simp [State.tieCorrected]

@[simp] theorem State.tieBlocks_un (to_ : Nat) (l : List BlockRead) (n : Nat) (s : State) (h : Unarmed s.ident.opState) :
    Unarmed (State.tieBlocks to_ l n s).ident.opState := by
  induction l generalizing n s with
  | nil => exact h
  | cons e l ih =>
    cases e with
    | clean _ => exact h
    | corrected _ => simp [State.tieBlocks, h]
    | bad =>
      unfold State.tieBlocks
      split
      · simp [h]
      · exact ih _ _ h

@[simp] theorem State.tieBlocks_np (to_ : Nat) (l : List BlockRead) (n : Nat) (s : State) (h : s.ident.opState ≠ .printing) :
    (State.tieBlocks to_ l n s).ident.opState ≠ .printing := by
  induction l generalizing n s with
  | nil => exact h
  | cons e l ih =>
    cases e with
    | clean _ => exact h
    | corrected _ => simp [State.tieBlocks, h]
    | bad =>
      unfold State.tieBlocks
      split
      · simp [h]
      · exact ih _ _ h

@[simp] theorem State.tieReplay_un (to_ back : Nat) (errors : List Nat) (s : State) (h : Unarmed s.ident.opState) : Unarmed (State.tieReplay to_ back errors s).ident.opState := by
  unfold State.tieReplay; (repeat' split) <;> simp [h]

@[simp] theorem State.tieReplay_np (to_ back : Nat) (errors : List Nat) (s : State) (h : s.ident.opState ≠ .printing) : (State.tieReplay to_ back errors s).ident.opState ≠ .printing := by
  unfold State.tieReplay; (repeat' split) <;> simp [h]

@[simp] theorem State.seamMissed_un (s : State) (h : Unarmed s.ident.opState) : Unarmed (State.seamMissed s).ident.opState := by
  unfold State.seamMissed; (repeat' split) <;> simp [h]

@[simp] theorem State.seamMissed_np (s : State) (h : s.ident.opState ≠ .printing) : (State.seamMissed s).ident.opState ≠ .printing := by
  unfold State.seamMissed; (repeat' split) <;> simp [h]

@[simp] theorem State.tieLost_un (s : State) (h : Unarmed s.ident.opState) : Unarmed (State.tieLost s).ident.opState := by
  unfold State.tieLost; (repeat' split) <;> simp [h]

@[simp] theorem State.tieLost_np (s : State) (h : s.ident.opState ≠ .printing) : (State.tieLost s).ident.opState ≠ .printing := by
  unfold State.tieLost; (repeat' split) <;> simp [h]

@[simp] theorem State.lockstep_un (w : Nat) (s : State) (h : Unarmed s.ident.opState) : Unarmed (State.lockstep w s).ident.opState := by
  unfold State.lockstep; (repeat' split) <;> simp [h]

@[simp] theorem State.lockstep_np (w : Nat) (s : State) (h : s.ident.opState ≠ .printing) : (State.lockstep w s).ident.opState ≠ .printing := by
  unfold State.lockstep; (repeat' split) <;> simp [h]

@[simp] theorem State.liftToken_op (lift : Nat) (s : State) : (State.liftToken lift s).ident.opState = s.ident.opState := by
  simp [State.liftToken]

@[simp] theorem State.commitToken_op (s : State) : (State.commitToken s).ident.opState = s.ident.opState := by
  simp [State.commitToken]

@[simp] theorem State.loseLines_un (w job fluid line n : Nat) (s : State) (h : Unarmed s.ident.opState) : Unarmed (State.loseLines w job fluid line n s).ident.opState := by
  simp [State.loseLines, h]

@[simp] theorem State.loseLines_np (w job fluid line n : Nat) (s : State) (h : s.ident.opState ≠ .printing) : (State.loseLines w job fluid line n s).ident.opState ≠ .printing := by
  simp [State.loseLines, h]

@[simp] theorem State.spoilSection_op (id : Nat) (s : State) : (State.spoilSection id s).ident.opState = s.ident.opState := by
  simp [State.spoilSection]

@[simp] theorem State.spoilBank_op (b : Nat) (s : State) : (State.spoilBank b s).ident.opState = s.ident.opState := by
  simp [State.spoilBank]

@[simp] theorem State.memoryError_un (w target addr : Nat) (u : MemUse) (s : State) (h : Unarmed s.ident.opState) : Unarmed (State.memoryError w target addr u s).ident.opState := by
  unfold State.memoryError; dsimp only; (repeat' split) <;> simp [h]

@[simp] theorem State.memoryError_np (w target addr : Nat) (u : MemUse) (s : State) (h : s.ident.opState ≠ .printing) : (State.memoryError w target addr u s).ident.opState ≠ .printing := by
  unfold State.memoryError; dsimp only; (repeat' split) <;> simp [h]

@[simp] theorem State.scrubRead_un (unit addr : Nat) (u : MemUse) (b : BlockRead) (s : State) (h : Unarmed s.ident.opState) : Unarmed (State.scrubRead unit addr u b s).ident.opState := by
  unfold State.scrubRead; (repeat' split) <;> simp [h]

@[simp] theorem State.scrubRead_np (unit addr : Nat) (u : MemUse) (b : BlockRead) (s : State) (h : s.ident.opState ≠ .printing) : (State.scrubRead unit addr u b s).ident.opState ≠ .printing := by
  unfold State.scrubRead; (repeat' split) <;> simp [h]

@[simp] theorem State.scrubWord_un (unit : Nat) (s : State) (p : Nat × Nat × MemUse) (h : Unarmed s.ident.opState) : Unarmed (State.scrubWord unit s p).ident.opState := by
  simp [State.scrubWord, h]

@[simp] theorem State.scrubWord_np (unit : Nat) (s : State) (p : Nat × Nat × MemUse) (h : s.ident.opState ≠ .printing) : (State.scrubWord unit s p).ident.opState ≠ .printing := by
  simp [State.scrubWord, h]

@[simp] theorem State.scrubEmit_op (unit : Nat) (s : State) : (State.scrubEmit unit s).ident.opState = s.ident.opState := by
  simp [State.scrubEmit]

@[simp] theorem State.scrubReport_un (unit : Nat) (words : List (Nat × Nat × MemUse)) (s : State) (h : Unarmed s.ident.opState) : Unarmed (State.scrubReport unit words s).ident.opState := by
  unfold State.scrubReport; (repeat' split) <;> (try simp [h]) <;> (refine foldl_un _ _ _ ?_ ?_) <;> (try intro s a h) <;> (repeat' split) <;> simp [h]

@[simp] theorem State.scrubReport_np (unit : Nat) (words : List (Nat × Nat × MemUse)) (s : State) (h : s.ident.opState ≠ .printing) : (State.scrubReport unit words s).ident.opState ≠ .printing := by
  unfold State.scrubReport; (repeat' split) <;> (try simp [h]) <;> (refine foldl_np _ _ _ ?_ ?_) <;> (try intro s a h) <;> (repeat' split) <;> simp [h]

@[simp] theorem State.pipelineDecode_un (w : Nat) (memErr : Bool) (pieces : List (List Nat)) (s : State) (h : Unarmed s.ident.opState) : Unarmed (State.pipelineDecode w memErr pieces s).ident.opState := by
  unfold State.pipelineDecode; (repeat' split) <;> simp [h]

@[simp] theorem State.pipelineDecode_np (w : Nat) (memErr : Bool) (pieces : List (List Nat)) (s : State) (h : s.ident.opState ≠ .printing) : (State.pipelineDecode w memErr pieces s).ident.opState ≠ .printing := by
  unfold State.pipelineDecode; (repeat' split) <;> simp [h]

@[simp] theorem State.quantaReport_op (w : Nat) (s : State) : (State.quantaReport w s).ident.opState = s.ident.opState := by
  simp [State.quantaReport]

@[simp] theorem State.saturationReport_op (w : Nat) (s : State) : (State.saturationReport w s).ident.opState = s.ident.opState := by
  simp [State.saturationReport]

@[simp] theorem State.ptpSend_op (p kind : Nat) (fields : List Int) (s : State) : (State.ptpSend p kind fields s).ident.opState = s.ident.opState := by
  simp [State.ptpSend]

@[simp] theorem State.syncMsg_op (p : Nat) (sent : Bool) (m : PtpId) (t1 : Option Nat) (s : State) : (State.syncMsg p sent m t1 s).ident.opState = s.ident.opState := by
  unfold State.syncMsg; (repeat' split) <;> simp

@[simp] theorem State.followUp_op (p : Nat) (sent : Bool) (m : PtpId) (t1 : Nat) (s : State) : (State.followUp p sent m t1 s).ident.opState = s.ident.opState := by
  unfold State.followUp; (repeat' split) <;> simp

@[simp] theorem State.delayReq_op (p : Nat) (sent : Bool) (m : PtpId) (s : State) : (State.delayReq p sent m s).ident.opState = s.ident.opState := by
  simp [State.delayReq]

@[simp] theorem State.delayResp_op (p : Nat) (m : PtpId) (t4 : Nat) (s : State) : (State.delayResp p m t4 s).ident.opState = s.ident.opState := by
  unfold State.delayResp; (repeat' split) <;> simp

@[simp] theorem State.pdelayReq_op (p : Nat) (sent : Bool) (m : PtpId) (turn : Nat) (s : State) : (State.pdelayReq p sent m turn s).ident.opState = s.ident.opState := by
  simp [State.pdelayReq]

@[simp] theorem State.peerDone_op (p : Nat) (t1 t2 t3 t4 : Int) (s : State) : (State.peerDone p t1 t2 t3 t4 s).ident.opState = s.ident.opState := by
  simp [State.peerDone]

@[simp] theorem State.pdelayResp_op (p : Nat) (m : PtpId) (t2 : Nat) (t3 : Option Nat) (s : State) : (State.pdelayResp p m t2 t3 s).ident.opState = s.ident.opState := by
  unfold State.pdelayResp; (repeat' split) <;> simp

@[simp] theorem State.pdelayFollowUp_op (p : Nat) (m : PtpId) (t3 : Nat) (s : State) : (State.pdelayFollowUp p m t3 s).ident.opState = s.ident.opState := by
  unfold State.pdelayFollowUp; (repeat' split) <;> simp

@[simp] theorem State.announceMsg_op (p : Nat) (io : AnnounceIo) (fields : List Nat) (s : State) : (State.announceMsg p io fields s).ident.opState = s.ident.opState := by
  unfold State.announceMsg; (repeat' split) <;> simp

@[simp] theorem State.forgetMaster_op (p : Nat) (s : State) : (State.forgetMaster p s).ident.opState = s.ident.opState := by
  simp [State.forgetMaster]

@[simp] theorem State.announceTimeout_op (s : State) : (State.announceTimeout s).ident.opState = s.ident.opState := by
  simp [State.announceTimeout]

@[simp] theorem State.ethernetLink_op (p : Nat) (up : Bool) (s : State) : (State.ethernetLink p up s).ident.opState = s.ident.opState := by
  simp [State.ethernetLink]

@[simp] theorem State.ipAnswer_op (p kind addr : Nat) (s : State) : (State.ipAnswer p kind addr s).ident.opState = s.ident.opState := by
  simp [State.ipAnswer]

@[simp] theorem State.rtcCopy_op (s : State) : (State.rtcCopy s).ident.opState = s.ident.opState := by
  simp [State.rtcCopy]

@[simp] theorem State.ppsIn_op (s : State) : (State.ppsIn s).ident.opState = s.ident.opState := by
  simp [State.ppsIn]

@[simp] theorem State.ppsOut_op (s : State) : (State.ppsOut s).ident.opState = s.ident.opState := by
  simp [State.ppsOut]

@[simp] theorem State.ref10_op (ok : Bool) (s : State) : (State.ref10 ok s).ident.opState = s.ident.opState := by
  simp [State.ref10]

@[simp] theorem State.camPulse_op (k course : Nat) (s : State) : (State.camPulse k course s).ident.opState = s.ident.opState := by
  simp [State.camPulse]

@[simp] theorem State.setNode_op (n : Node) (s : State) : (State.setNode n s).ident.opState = s.ident.opState := by
  simp [State.setNode]

@[simp] theorem State.nodeExpiry_op (id : Nat) (s : State) : (State.nodeExpiry id s).ident.opState = s.ident.opState := by
  unfold State.nodeExpiry; (repeat' split) <;> simp

@[simp] theorem State.nodeTake_op (id port k kind len bits : Nat) (other : Node → Node) (f : Node → List Nat → State → State) (s : State)
    (hf : ∀ n d s, (f n d s).ident.opState = s.ident.opState) : (State.nodeTake id port k kind len bits other f s).ident.opState = s.ident.opState := by
  unfold State.nodeTake
  dsimp only
  split
  · simp
  · simp
  · split
    · simp
    · rw [hf]; simp
@[simp] theorem State.sendNode_op (id port k prio kind : Nat) (data : List Nat) (s : State) : (State.sendNode id port k prio kind data s).ident.opState = s.ident.opState := by
  unfold State.sendNode; (repeat' split) <;> simp

@[simp] theorem State.nodeBegin_op (limit id i : Nat) (s : State) : (State.nodeBegin limit id i s).ident.opState = s.ident.opState := by
  unfold State.nodeBegin; (repeat' split) <;> simp

@[simp] theorem State.nodesBegin_op (limit : Nat) (s : State) : (State.nodesBegin limit s).ident.opState = s.ident.opState := by
  unfold State.nodesBegin; (repeat' split) <;> (try simp) <;> (refine foldl_op _ _ _ ?_) <;> intro s a <;> (repeat' split) <;> simp

@[simp] theorem State.nodeFrame_op (id port k len bits : Nat) (s : State) : (State.nodeFrame id port k len bits s).ident.opState = s.ident.opState := by
  unfold State.nodeFrame
  exact State.nodeTake_op _ _ _ _ _ _ _ _ _ (fun n d s => by (try dsimp only); (repeat' split) <;> simp)

@[simp] theorem stopRows_op (hit : NRow → Bool) (t : Nat) (rs : List NRow) (s : State) :
    (stopRows hit t rs s).2.ident.opState = s.ident.opState := by
  induction rs generalizing s with
  | nil => rfl
  | cons r rs ih => simp only [stopRows, ih]; split <;> simp [State.fresh]

@[simp] theorem State.nodeStopAll_op (n : Node) (s : State) : (State.nodeStopAll n s).ident.opState = s.ident.opState := by
  simp [State.nodeStopAll]

@[simp] theorem State.nodeCancelFrom_op (c0 : Nat) (n : Node) (s : State) : (State.nodeCancelFrom c0 n s).ident.opState = s.ident.opState := by
  simp [State.nodeCancelFrom]

@[simp] theorem State.nodeLease_op (op id port k len bits : Nat) (s : State) : (State.nodeLease op id port k len bits s).ident.opState = s.ident.opState := by
  unfold State.nodeLease
  exact State.nodeTake_op _ _ _ _ _ _ _ _ _ (fun n d s => by (try dsimp only); (repeat' split) <;> simp)

@[simp] theorem State.nodeAcquire_op (id port k len bits : Nat) (s : State) : (State.nodeAcquire id port k len bits s).ident.opState = s.ident.opState := by
  unfold State.nodeAcquire
  exact State.nodeTake_op _ _ _ _ _ _ _ _ _ (fun n d s => by (try dsimp only); (repeat' split) <;> simp)

@[simp] theorem State.nodeConfig_op (id port k len bits : Nat) (s : State) : (State.nodeConfig id port k len bits s).ident.opState = s.ident.opState := by
  unfold State.nodeConfig
  exact State.nodeTake_op _ _ _ _ _ _ _ _ _ (fun n d s => by (try dsimp only); (repeat' split) <;> simp)

@[simp] theorem State.nodeTimeUnit_op (id port k len bits : Nat) (s : State) : (State.nodeTimeUnit id port k len bits s).ident.opState = s.ident.opState := by
  unfold State.nodeTimeUnit
  exact State.nodeTake_op _ _ _ _ _ _ _ _ _ (fun n d s => by (try dsimp only); (repeat' split) <;> simp)

@[simp] theorem State.nodeEcho_op (id port k len bits turn : Nat) (s : State) : (State.nodeEcho id port k len bits turn s).ident.opState = s.ident.opState := by
  unfold State.nodeEcho
  exact State.nodeTake_op _ _ _ _ _ _ _ _ _ (fun n d s => by (try dsimp only); (repeat' split) <;> simp)

@[simp] theorem State.nodeDiscover_op (id port k len bits : Nat) (s : State) : (State.nodeDiscover id port k len bits s).ident.opState = s.ident.opState := by
  unfold State.nodeDiscover
  exact State.nodeTake_op _ _ _ _ _ _ _ _ _ (fun n d s => by (try dsimp only); (repeat' split) <;> simp)

@[simp] theorem State.nodeRowFire_op (id head row : Nat) (s : State) : (State.nodeRowFire id head row s).ident.opState = s.ident.opState := by
  unfold State.nodeRowFire; (repeat' split) <;> simp

@[simp] theorem State.nodeStatusSend_op (id port k : Nat) (s : State) : (State.nodeStatusSend id port k s).ident.opState = s.ident.opState := by
  unfold State.nodeStatusSend; (repeat' split) <;> simp

@[simp] theorem State.nodeTempsSend_op (id port : Nat) (temps : List Int) (s : State) : (State.nodeTempsSend id port temps s).ident.opState = s.ident.opState := by
  unfold State.nodeTempsSend; (repeat' split) <;> simp

@[simp] theorem State.nodeReset_op (id lanesA lanesB maxK : Nat) (heads : List Nat) (s : State) : (State.nodeReset id lanesA lanesB maxK heads s).ident.opState = s.ident.opState := by
  simp [State.nodeReset]

@[simp] theorem State.nodeAlign_op (id port k : Nat) (ok : Bool) (s : State) : (State.nodeAlign id port k ok s).ident.opState = s.ident.opState := by
  unfold State.nodeAlign; (repeat' split) <;> simp

@[simp] theorem State.nodeHeadFault_op (id head : Nat) (on : Bool) (s : State) : (State.nodeHeadFault id head on s).ident.opState = s.ident.opState := by
  unfold State.nodeHeadFault; (repeat' split) <;> simp

@[simp] theorem State.nodeTimeout_op (id : Nat) (s : State) : (State.nodeTimeout id s).ident.opState = s.ident.opState := by
  unfold State.nodeTimeout; (repeat' split) <;> simp

@[simp] theorem State.linesBegin_op (limit : Nat) (s : State) : (State.linesBegin limit s).ident.opState = s.ident.opState := by
  simp [State.linesBegin]

@[simp] theorem State.passes_op (dt : Nat) (s : State) : (State.passes dt s).ident.opState = s.ident.opState := by
  simp [State.passes]

@[simp] theorem State.opens_un (dt : Nat) (s : State) (h : Unarmed s.ident.opState) : Unarmed (State.opens dt s).ident.opState := by
  unfold State.opens; (repeat' split) <;> simp [h]

@[simp] theorem State.opens_np (dt : Nat) (s : State) (h : s.ident.opState ≠ .printing) : (State.opens dt s).ident.opState ≠ .printing := by
  unfold State.opens; (repeat' split) <;> simp [h]

@[simp] theorem State.sends_un (s : State) (h : Unarmed s.ident.opState) : Unarmed (State.sends s).ident.opState := by
  simp [State.sends, h]

@[simp] theorem State.sends_np (s : State) (h : s.ident.opState ≠ .printing) : (State.sends s).ident.opState ≠ .printing := by
  simp [State.sends, h]

@[simp] theorem State.closes_np (s : State) (h : s.ident.opState ≠ .printing) : (State.closes s).ident.opState ≠ .printing := by
  simp [State.closes, h]

theorem State.whenOn_un (f : State → State) (s : State) (hf : Unarmed s.ident.opState → Unarmed (f s).ident.opState) (h : Unarmed s.ident.opState) :
    Unarmed (State.whenOn f s).ident.opState := by
  unfold State.whenOn
  split
  · exact hf h
  · exact h

theorem State.whenOn_np (f : State → State) (s : State) (hf : s.ident.opState ≠ .printing → (f s).ident.opState ≠ .printing) (h : s.ident.opState ≠ .printing) :
    (State.whenOn f s).ident.opState ≠ .printing := by
  unfold State.whenOn
  split
  · exact hf h
  · exact h

theorem State.whenPowered_un (d : Nat) (f : State → State) (s : State) (hf : Unarmed s.ident.opState → Unarmed (f s).ident.opState) (h : Unarmed s.ident.opState) :
    Unarmed (State.whenPowered d f s).ident.opState := by
  unfold State.whenPowered
  split
  · exact hf h
  · exact h

theorem State.whenPowered_np (d : Nat) (f : State → State) (s : State) (hf : s.ident.opState ≠ .printing → (f s).ident.opState ≠ .printing) (h : s.ident.opState ≠ .printing) :
    (State.whenPowered d f s).ident.opState ≠ .printing := by
  unfold State.whenPowered
  split
  · exact hf h
  · exact h

theorem State.whenReach_un (fn : Nat) (f : State → State) (s : State) (hf : Unarmed s.ident.opState → Unarmed (f s).ident.opState) (h : Unarmed s.ident.opState) :
    Unarmed (State.whenReach fn f s).ident.opState := by
  unfold State.whenReach
  split
  · exact hf h
  · exact h

theorem State.whenReach_np (fn : Nat) (f : State → State) (s : State) (hf : s.ident.opState ≠ .printing → (f s).ident.opState ≠ .printing) (h : s.ident.opState ≠ .printing) :
    (State.whenReach fn f s).ident.opState ≠ .printing := by
  unfold State.whenReach
  split
  · exact hf h
  · exact h

@[simp] theorem State.linkDown1_op (fn : Nat) (down : Bool) (s : State) : (State.linkDown1 fn down s).ident.opState = s.ident.opState := by
  simp [State.linkDown1]

@[simp] theorem State.linkTrained_op (fn : Nat) (l : Link) (s : State) : (State.linkTrained fn l s).ident.opState = s.ident.opState := by
  simp [State.linkTrained]

@[simp] theorem State.rejectEdge_op (s : State) : (State.rejectEdge s).ident.opState = s.ident.opState := by
  simp [State.rejectEdge]

@[simp] theorem State.encoderIn_un (enc : Nat) (i : EncIn) (s : State) (h : Unarmed s.ident.opState) : Unarmed (State.encoderIn enc i s).ident.opState := by
  unfold State.encoderIn; (repeat' split) <;> simp [h]

@[simp] theorem State.encoderIn_np (enc : Nat) (i : EncIn) (s : State) (h : s.ident.opState ≠ .printing) : (State.encoderIn enc i s).ident.opState ≠ .printing := by
  unfold State.encoderIn; (repeat' split) <;> simp [h]

end Sys2Proof.Machine
end

