-- ==== Sys2Proof/Laws/OpRows.lean ====
section
/-! SUPPORT. What leaves the operating state alone, keeps it unarmed (un) or keeps it from PRINTING (np): the commands. -/

namespace Sys2Proof.Machine

open Sys2Proof

-- The terms of a step are records inside records, deeper than the default allows.
set_option maxRecDepth 4000

theorem perform_np (ok : Bool) (dt : Nat) (f : State → State) (s t : State)
    (hf : ∀ s, Unarmed s.ident.opState → (f s).ident.opState ≠ .printing)
    (h : Unarmed s.ident.opState) (e : perform ok dt f s = .next t) : t.ident.opState ≠ .printing := by
  unfold perform at e
  simp only [Host.Outcome.next.injEq] at e
  subst e
  split
  · exact State.closes_np _ (hf _ (State.opens_un _ _ h))
  · exact unarmed_printing_ne h

theorem execBeat_np (dt : Nat) (side : Nat) (role : Nat) (op : Nat) (phase : Nat) (unit : BeatIn) (s t : State) (h : Unarmed s.ident.opState) (e : execBeat dt side role op phase unit s = .next t) :
    t.ident.opState ≠ .printing :=
  perform_np _ _ _ _ _ (fun s h => unarmed_printing_ne (State.whenOn_un _ _ (fun h => by simp [h]) h)) h e

theorem execBeatSend_np (dt : Nat) (side : Nat) (s t : State) (h : Unarmed s.ident.opState) (e : execBeatSend dt side s = .next t) :
    t.ident.opState ≠ .printing :=
  perform_np _ _ _ _ _ (fun s h => unarmed_printing_ne (State.whenOn_un _ _ (fun h => by simp [h]) h)) h e

theorem execButtressLinkDown_np (dt : Nat) (side : Nat) (lanes : Nat) (s t : State) (h : Unarmed s.ident.opState) (e : execButtressLinkDown dt side lanes s = .next t) :
    t.ident.opState ≠ .printing :=
  perform_np _ _ _ _ _ (fun s h => unarmed_printing_ne (State.whenOn_un _ _ (fun h => by simp [h]) h)) h e

theorem execButtressLinkUp_np (dt : Nat) (side : Nat) (lanes : Nat) (s t : State) (h : Unarmed s.ident.opState) (e : execButtressLinkUp dt side lanes s = .next t) :
    t.ident.opState ≠ .printing :=
  perform_np _ _ _ _ _ (fun s h => unarmed_printing_ne (State.whenOn_un _ _ (fun h => by simp [h]) h)) h e

theorem execMirror_np (dt : Nat) (lift : Nat) (item : Nat) (off : Nat) (bytes : List Nat) (s t : State) (h : Unarmed s.ident.opState) (e : execMirror dt lift item off bytes s = .next t) :
    t.ident.opState ≠ .printing :=
  perform_np _ _ _ _ _ (fun s h => unarmed_printing_ne (State.whenOn_un _ _ (fun h => by simp [h]) h)) h e

theorem execEpochEnd_np (dt : Nat) (lift : Nat) (units : Nat) (ecrc : Nat) (s t : State) (h : Unarmed s.ident.opState) (e : execEpochEnd dt lift units ecrc s = .next t) :
    t.ident.opState ≠ .printing :=
  perform_np _ _ _ _ _ (fun s h => unarmed_printing_ne (State.whenOn_un _ _ (fun h => by simp [h]) h)) h e

theorem execProgress_np (dt : Nat) (course : Nat) (s t : State) (h : Unarmed s.ident.opState) (e : execProgress dt course s = .next t) :
    t.ident.opState ≠ .printing :=
  perform_np _ _ _ _ _ (fun s h => unarmed_printing_ne (State.whenOn_un _ _ (fun h => by simp [h]) h)) h e

theorem execHandover_np (dt : Nat) (fDone : Nat) (oneMore : Bool) (cause : Nat) (s t : State) (h : Unarmed s.ident.opState) (e : execHandover dt fDone oneMore cause s = .next t) :
    t.ident.opState ≠ .printing :=
  perform_np _ _ _ _ _ (fun s h => unarmed_printing_ne (State.whenOn_un _ _ (fun h => by simp [h]) h)) h e

theorem execMsg_np (dt : Nat) (side : Nat) (unit : BMsg) (s t : State) (h : Unarmed s.ident.opState) (e : execMsg dt side unit s = .next t) :
    t.ident.opState ≠ .printing :=
  perform_np _ _ _ _ _ (fun s h => State.whenOn_np _ _ (fun h => by simp [h]) (unarmed_printing_ne h)) h e

theorem execForwardAckTimeout_np (dt : Nat) (ch : Nat) (slot : Nat) (s t : State) (h : Unarmed s.ident.opState) (e : execForwardAckTimeout dt ch slot s = .next t) :
    t.ident.opState ≠ .printing :=
  perform_np _ _ _ _ _ (fun s h => unarmed_printing_ne (State.whenOn_un _ _ (fun h => by simp [h]) h)) h e

theorem execGsync_np (dt : Nat) (side : Nat) (unit : GMsg) (s t : State) (h : Unarmed s.ident.opState) (e : execGsync dt side unit s = .next t) :
    t.ident.opState ≠ .printing :=
  perform_np _ _ _ _ _ (fun s h => unarmed_printing_ne (State.whenOn_un _ _ (fun h => by simp [h]) h)) h e

theorem execGtime_np (dt : Nat) (side : Nat) (request : Bool) (echo : GEcho) (s t : State) (h : Unarmed s.ident.opState) (e : execGtime dt side request echo s = .next t) :
    t.ident.opState ≠ .printing :=
  perform_np _ _ _ _ _ (fun s h => unarmed_printing_ne (State.whenOn_un _ _ (fun h => by simp [h]) h)) h e

theorem execGseam_np (dt : Nat) (side : Nat) (course : Nat) (levels : List Nat) (crc : Option Nat) (s t : State) (h : Unarmed s.ident.opState) (e : execGseam dt side course levels crc s = .next t) :
    t.ident.opState ≠ .printing :=
  perform_np _ _ _ _ _ (fun s h => unarmed_printing_ne (State.whenOn_un _ _ (fun h => by simp [h]) h)) h e

theorem execOffsetMeasure_np (dt : Nat) (s t : State) (h : Unarmed s.ident.opState) (e : execOffsetMeasure dt s = .next t) :
    t.ident.opState ≠ .printing :=
  perform_np _ _ _ _ _ (fun s h => unarmed_printing_ne (State.whenOn_un _ _ (fun h => by simp [h]) h)) h e

theorem execPairFormation_np (dt : Nat) (digest : Nat) (fw : Nat) (offset : Int) (prefer : Bool) (s t : State) (h : Unarmed s.ident.opState) (e : execPairFormation dt digest fw offset prefer s = .next t) :
    t.ident.opState ≠ .printing :=
  perform_np _ _ _ _ _ (fun s h => unarmed_printing_ne (State.whenOn_un _ _ (fun h => by simp [h]) h)) h e

theorem execResync_np (dt : Nat) (s t : State) (h : Unarmed s.ident.opState) (e : execResync dt s = .next t) :
    t.ident.opState ≠ .printing :=
  perform_np _ _ _ _ _ (fun s h => unarmed_printing_ne (State.whenOn_un _ _ (fun h => by simp [h]) h)) h e

theorem execTakeover_np (dt : Nat) (s t : State) (h : Unarmed s.ident.opState) (e : execTakeover dt s = .next t) :
    t.ident.opState ≠ .printing :=
  perform_np _ _ _ _ _ (fun s h => unarmed_printing_ne (State.whenOn_un _ _ (fun h => by simp [h]) h)) h e

theorem execAcquireTimeout_np (dt : Nat) (s t : State) (h : Unarmed s.ident.opState) (e : execAcquireTimeout dt s = .next t) :
    t.ident.opState ≠ .printing :=
  perform_np _ _ _ _ _ (fun s h => unarmed_printing_ne (State.whenOn_un _ _ (fun h => by simp [h]) h)) h e

theorem execSwapAtReady_np (dt : Nat) (s t : State) (h : Unarmed s.ident.opState) (e : execSwapAtReady dt s = .next t) :
    t.ident.opState ≠ .printing :=
  perform_np _ _ _ _ _ (fun s h => unarmed_printing_ne (State.whenOn_un _ _ (fun h => by simp [h]) h)) h e

theorem execAutoSwap_np (dt : Nat) (s t : State) (h : Unarmed s.ident.opState) (e : execAutoSwap dt s = .next t) :
    t.ident.opState ≠ .printing :=
  perform_np _ _ _ _ _ (fun s h => unarmed_printing_ne (State.whenOn_un _ _ (fun h => by simp [h]) h)) h e

theorem execSinceSwapTick_np (dt : Nat) (s t : State) (h : Unarmed s.ident.opState) (e : execSinceSwapTick dt s = .next t) :
    t.ident.opState ≠ .printing :=
  perform_np _ _ _ _ _ (fun s h => unarmed_printing_ne (State.whenOn_un _ _ (fun h => by simp [h]) h)) h e

theorem execHeartbeatSend_np (dt : Nat) (s t : State) (h : Unarmed s.ident.opState) (e : execHeartbeatSend dt s = .next t) :
    t.ident.opState ≠ .printing :=
  perform_np _ _ _ _ _ (fun s h => unarmed_printing_ne (by simp [h])) h e

theorem execHeartbeatDatagram_np (dt : Nat) (member : Nat) (fields : List Nat) (s t : State) (h : Unarmed s.ident.opState) (e : execHeartbeatDatagram dt member fields s = .next t) :
    t.ident.opState ≠ .printing :=
  perform_np _ _ _ _ _ (fun s h => unarmed_printing_ne (by simp [h])) h e

theorem execHbOkTimeout_np (dt : Nat) (s t : State) (h : Unarmed s.ident.opState) (e : execHbOkTimeout dt s = .next t) :
    t.ident.opState ≠ .printing :=
  perform_np _ _ _ _ _ (fun s h => unarmed_printing_ne (State.whenOn_un _ _ (fun h => by simp [h]) h)) h e

theorem execRingBaseWrite_np (dt : Nat) (fn : Nat) (ch : Nat) (value : Nat) (s t : State) (h : Unarmed s.ident.opState) (e : execRingBaseWrite dt fn ch value s = .next t) :
    t.ident.opState ≠ .printing :=
  perform_np _ _ _ _ _ (fun s h => unarmed_printing_ne (by (try dsimp only); (repeat' split) <;> (first | exact State.whenReach_un _ _ _ (fun h => by simp [h]) h | exact State.whenOn_un _ _ (fun h => by simp [h]) h | simp [h]))) h e

theorem execEnable_np (dt : Nat) (fn : Nat) (ch : Nat) (host : List (Nat × List Nat)) (s t : State) (h : Unarmed s.ident.opState) (e : execEnable dt fn ch host s = .next t) :
    t.ident.opState ≠ .printing :=
  perform_np _ _ _ _ _ (fun s h => unarmed_printing_ne (by (try dsimp only); (repeat' split) <;> (first | exact State.whenReach_un _ _ _ (fun h => by simp [h]) h | exact State.whenOn_un _ _ (fun h => by simp [h]) h | simp [h]))) h e

theorem execAbort_np (dt : Nat) (fn : Nat) (ch : Nat) (s t : State) (h : Unarmed s.ident.opState) (e : execAbort dt fn ch s = .next t) :
    t.ident.opState ≠ .printing :=
  perform_np _ _ _ _ _ (fun s h => unarmed_printing_ne (by (try dsimp only); (repeat' split) <;> (first | exact State.whenReach_un _ _ _ (fun h => by simp [h]) h | exact State.whenOn_un _ _ (fun h => by simp [h]) h | simp [h]))) h e

theorem execDisable_np (dt : Nat) (fn : Nat) (ch : Nat) (s t : State) (h : Unarmed s.ident.opState) (e : execDisable dt fn ch s = .next t) :
    t.ident.opState ≠ .printing :=
  perform_np _ _ _ _ _ (fun s h => unarmed_printing_ne (by (try dsimp only); (repeat' split) <;> (first | exact State.whenReach_un _ _ _ (fun h => by simp [h]) h | exact State.whenOn_un _ _ (fun h => by simp [h]) h | simp [h]))) h e

theorem execTailWrite_np (dt : Nat) (fn : Nat) (ch : Nat) (value : Nat) (host : List (Nat × List Nat)) (s t : State) (h : Unarmed s.ident.opState) (e : execTailWrite dt fn ch value host s = .next t) :
    t.ident.opState ≠ .printing :=
  perform_np _ _ _ _ _ (fun s h => unarmed_printing_ne (by (try dsimp only); (repeat' split) <;> (first | exact State.whenReach_un _ _ _ (fun h => by simp [h]) h | exact State.whenOn_un _ _ (fun h => by simp [h]) h | simp [h]))) h e

theorem execSourceDestinationFree_np (dt : Nat) (fn : Nat) (s t : State) (h : Unarmed s.ident.opState) (e : execSourceDestinationFree dt fn s = .next t) :
    t.ident.opState ≠ .printing :=
  perform_np _ _ _ _ _ (fun s h => unarmed_printing_ne (State.whenOn_un _ _ (fun h => by simp [h]) h)) h e

theorem execReadCompletion_np (dt : Nat) (fn : Nat) (ch : Nat) (k : Nat) (err : Nat) (beat : Bool) (host : List (Nat × List Nat)) (runMin : Nat) (s t : State) (h : Unarmed s.ident.opState) (e : execReadCompletion dt fn ch k err beat host runMin s = .next t) :
    t.ident.opState ≠ .printing :=
  perform_np _ _ _ _ _ (fun s h => unarmed_printing_ne (State.whenOn_un _ _ (fun h => by simp [h]) h)) h e

theorem execCompletionTimeout_np (dt : Nat) (fn : Nat) (ch : Nat) (k : Nat) (s t : State) (h : Unarmed s.ident.opState) (e : execCompletionTimeout dt fn ch k s = .next t) :
    t.ident.opState ≠ .printing :=
  perform_np _ _ _ _ _ (fun s h => unarmed_printing_ne (State.whenOn_un _ _ (fun h => by simp [h]) h)) h e

theorem execAdmissionEnd_np (dt : Nat) (fn : Nat) (ch : Nat) (s t : State) (h : Unarmed s.ident.opState) (e : execAdmissionEnd dt fn ch s = .next t) :
    t.ident.opState ≠ .printing :=
  perform_np _ _ _ _ _ (fun s h => unarmed_printing_ne (State.whenOn_un _ _ (fun h => by simp [h]) h)) h e

theorem execDescriptorEnd_np (dt : Nat) (fn : Nat) (ch : Nat) (s t : State) (h : Unarmed s.ident.opState) (e : execDescriptorEnd dt fn ch s = .next t) :
    t.ident.opState ≠ .printing :=
  perform_np _ _ _ _ _ (fun s h => unarmed_printing_ne (State.whenOn_un _ _ (fun h => by (try dsimp only); (repeat' split) <;> simp [h]) h)) h e

theorem execCompressionResume_np (dt : Nat) (job : Nat) (s t : State) (h : Unarmed s.ident.opState) (e : execCompressionResume dt job s = .next t) :
    t.ident.opState ≠ .printing :=
  perform_np _ _ _ _ _ (fun s h => unarmed_printing_ne (State.whenOn_un _ _ (fun h => by simp [h]) h)) h e

theorem execStripPipelineDecode_np (dt : Nat) (w : Nat) (memErr : Bool) (pieces : List (List Nat)) (s t : State) (h : Unarmed s.ident.opState) (e : execStripPipelineDecode dt w memErr pieces s = .next t) :
    t.ident.opState ≠ .printing :=
  perform_np _ _ _ _ _ (fun s h => unarmed_printing_ne (by simp [h])) h e

theorem execMemoryError_np (dt : Nat) (w : Nat) (target : Nat) (addr : Nat) (item : MemUse) (s t : State) (h : Unarmed s.ident.opState) (e : execMemoryError dt w target addr item s = .next t) :
    t.ident.opState ≠ .printing :=
  perform_np _ _ _ _ _ (fun s h => unarmed_printing_ne (by simp [h])) h e

theorem execScrubReport_np (dt : Nat) (unit : Nat) (words : List (Nat × Nat × MemUse)) (s t : State) (h : Unarmed s.ident.opState) (e : execScrubReport dt unit words s = .next t) :
    t.ident.opState ≠ .printing :=
  perform_np _ _ _ _ _ (fun s h => unarmed_printing_ne (by simp [h])) h e

theorem execRegisterWrite_np (dt : Nat) (fn : Nat) (off : Nat) (bytes : List Nat) (s t : State) (h : Unarmed s.ident.opState) (e : execRegisterWrite dt fn off bytes s = .next t) :
    t.ident.opState ≠ .printing :=
  perform_np _ _ _ _ _ (fun s h => unarmed_printing_ne (by simp [h])) h e

theorem execResponseRead_np (dt : Nat) (ch : Nat) (slot : Nat) (off : Nat) (n : Nat) (s t : State) (h : Unarmed s.ident.opState) (e : execResponseRead dt ch slot off n s = .next t) :
    t.ident.opState ≠ .printing :=
  perform_np _ _ _ _ _ (fun s h => unarmed_printing_ne (by simp [h])) h e

theorem execIntCauseClear_np (dt : Nat) (fn : Nat) (clear : Nat) (again : Nat) (s t : State) (h : Unarmed s.ident.opState) (e : execIntCauseClear dt fn clear again s = .next t) :
    t.ident.opState ≠ .printing :=
  perform_np _ _ _ _ _ (fun s h => unarmed_printing_ne (by simp [h])) h e

theorem execIntEnableWrite_np (dt : Nat) (fn : Nat) (value : Nat) (s t : State) (h : Unarmed s.ident.opState) (e : execIntEnableWrite dt fn value s = .next t) :
    t.ident.opState ≠ .printing :=
  perform_np _ _ _ _ _ (fun s h => unarmed_printing_ne (by simp [h])) h e

theorem execOverflowClear_np (dt : Nat) (s t : State) (h : Unarmed s.ident.opState) (e : execOverflowClear dt s = .next t) :
    t.ident.opState ≠ .printing :=
  perform_np _ _ _ _ _ (fun s h => unarmed_printing_ne (by simp [h])) h e

theorem execEventRingWrite_np (dt : Nat) (s t : State) (h : Unarmed s.ident.opState) (e : execEventRingWrite dt s = .next t) :
    t.ident.opState ≠ .printing :=
  perform_np _ _ _ _ _ (fun s h => unarmed_printing_ne (State.whenOn_un _ _ (fun h => by simp [h]) h)) h e

theorem execBar2Read_np (dt : Nat) (fn : Nat) (off : Nat) (n : Nat) (s t : State) (h : Unarmed s.ident.opState) (e : execBar2Read dt fn off n s = .next t) :
    t.ident.opState ≠ .printing :=
  perform_np _ _ _ _ _ (fun s h => unarmed_printing_ne (by simp [h])) h e

theorem execBar2Write_np (dt : Nat) (fn : Nat) (off : Nat) (bytes : List Nat) (s t : State) (h : Unarmed s.ident.opState) (e : execBar2Write dt fn off bytes s = .next t) :
    t.ident.opState ≠ .printing :=
  perform_np _ _ _ _ _ (fun s h => unarmed_printing_ne (State.whenReach_un _ _ _ (fun h => by simp [h]) h)) h e

theorem execBar2DroppedRead_np (dt : Nat) (fn : Nat) (s t : State) (h : Unarmed s.ident.opState) (e : execBar2DroppedRead dt fn s = .next t) :
    t.ident.opState ≠ .printing :=
  perform_np _ _ _ _ _ (fun s h => unarmed_printing_ne (by simp [h])) h e

theorem execSnapReq_np (dt : Nat) (fn : Nat) (s t : State) (h : Unarmed s.ident.opState) (e : execSnapReq dt fn s = .next t) :
    t.ident.opState ≠ .printing :=
  perform_np _ _ _ _ _ (fun s h => unarmed_printing_ne (by simp [h])) h e

theorem execTimeNowLowRead_np (dt : Nat) (rd : TimeRead × Nat) (s t : State) (h : Unarmed s.ident.opState) (e : execTimeNowLowRead dt rd s = .next t) :
    t.ident.opState ≠ .printing :=
  perform_np _ _ _ _ _ (fun s h => unarmed_printing_ne (by simp [h])) h e

theorem execAliveTick_np (dt : Nat) (s t : State) (h : Unarmed s.ident.opState) (e : execAliveTick dt s = .next t) :
    t.ident.opState ≠ .printing :=
  perform_np _ _ _ _ _ (fun s h => unarmed_printing_ne (by simp [h])) h e

theorem execChainFrameStart_np (dt : Nat) (s t : State) (h : Unarmed s.ident.opState) (e : execChainFrameStart dt s = .next t) :
    t.ident.opState ≠ .printing :=
  perform_np _ _ _ _ _ (fun s h => unarmed_printing_ne (by simp [h])) h e

theorem execChainReturnEnd_np (dt : Nat) (chain : Nat) (words : List (Option Nat)) (ended : Nat) (s t : State) (h : Unarmed s.ident.opState) (e : execChainReturnEnd dt chain words ended s = .next t) :
    t.ident.opState ≠ .printing :=
  perform_np _ _ _ _ _ (fun s h => unarmed_printing_ne (by simp [h])) h e

theorem execChainRestFrame_np (dt : Nat) (s t : State) (h : Unarmed s.ident.opState) (e : execChainRestFrame dt s = .next t) :
    t.ident.opState ≠ .printing :=
  perform_np _ _ _ _ _ (fun s h => unarmed_printing_ne (by simp [h])) h e

theorem execDriverLatch_np (dt : Nat) (driver : Nat) (inp : ChainIn) (s t : State) (h : Unarmed s.ident.opState) (e : execDriverLatch dt driver inp s = .next t) :
    t.ident.opState ≠ .printing :=
  perform_np _ _ _ _ _ (fun s h => unarmed_printing_ne (by simp [h])) h e

theorem execDriverShareTimeout_np (dt : Nat) (driver : Nat) (s t : State) (h : Unarmed s.ident.opState) (e : execDriverShareTimeout dt driver s = .next t) :
    t.ident.opState ≠ .printing :=
  perform_np _ _ _ _ _ (fun s h => unarmed_printing_ne (by simp [h])) h e

theorem execMatrixRowSlot_np (dt : Nat) (ohm : Nat) (ua : List Nat) (s t : State) (h : Unarmed s.ident.opState) (e : execMatrixRowSlot dt ohm ua s = .next t) :
    t.ident.opState ≠ .printing :=
  perform_np _ _ _ _ _ (fun s h => unarmed_printing_ne (by simp [h])) h e

theorem execRowOvercurrent_np (dt : Nat) (sw : RowIn) (s t : State) (h : Unarmed s.ident.opState) (e : execRowOvercurrent dt sw s = .next t) :
    t.ident.opState ≠ .printing :=
  perform_np _ _ _ _ _ (fun s h => unarmed_printing_ne (by simp [h])) h e

theorem execLaneRxAligned_np (dt : Nat) (l : Nat) (s t : State) (h : Unarmed s.ident.opState) (e : execLaneRxAligned dt l s = .next t) :
    t.ident.opState ≠ .printing :=
  perform_np _ _ _ _ _ (fun s h => unarmed_printing_ne (State.whenOn_un _ _ (fun h => by simp [h]) h)) h e

theorem execLaneRxUnaligned_np (dt : Nat) (l : Nat) (s t : State) (h : Unarmed s.ident.opState) (e : execLaneRxUnaligned dt l s = .next t) :
    t.ident.opState ≠ .printing :=
  perform_np _ _ _ _ _ (fun s h => unarmed_printing_ne (State.whenOn_un _ _ (fun h => by simp [h]) h)) h e

theorem execHello_np (dt : Nat) (l : Nat) (len : Nat) (bits : Nat) (s t : State) (h : Unarmed s.ident.opState) (e : execHello dt l len bits s = .next t) :
    t.ident.opState ≠ .printing :=
  perform_np _ _ _ _ _ (fun s h => unarmed_printing_ne (State.whenOn_un _ _ (fun h => by simp [h]) h)) h e

theorem execIdentTimeout_np (dt : Nat) (l : Nat) (s t : State) (h : Unarmed s.ident.opState) (e : execIdentTimeout dt l s = .next t) :
    t.ident.opState ≠ .printing :=
  perform_np _ _ _ _ _ (fun s h => unarmed_printing_ne (State.whenOn_un _ _ (fun h => by simp [h]) h)) h e

theorem execEchoReply_np (dt : Nat) (l : Nat) (len : Nat) (bits : Nat) (rtt : Nat) (s t : State) (h : Unarmed s.ident.opState) (e : execEchoReply dt l len bits rtt s = .next t) :
    t.ident.opState ≠ .printing :=
  perform_np _ _ _ _ _ (fun s h => unarmed_printing_ne (State.whenOn_un _ _ (fun h => by simp [h]) h)) h e

theorem execDelayTimeout_np (dt : Nat) (l : Nat) (s t : State) (h : Unarmed s.ident.opState) (e : execDelayTimeout dt l s = .next t) :
    t.ident.opState ≠ .printing :=
  perform_np _ _ _ _ _ (fun s h => unarmed_printing_ne (State.whenOn_un _ _ (fun h => by simp [h]) h)) h e

theorem execStatusUnit_np (dt : Nat) (l : Nat) (len : Nat) (bits : Nat) (s t : State) (h : Unarmed s.ident.opState) (e : execStatusUnit dt l len bits s = .next t) :
    t.ident.opState ≠ .printing :=
  perform_np _ _ _ _ _ (fun s h => unarmed_printing_ne (State.whenOn_un _ _ (fun h => by simp [h]) h)) h e

theorem execTempsUnit_np (dt : Nat) (l : Nat) (len : Nat) (bits : Nat) (s t : State) (h : Unarmed s.ident.opState) (e : execTempsUnit dt l len bits s = .next t) :
    t.ident.opState ≠ .printing :=
  perform_np _ _ _ _ _ (fun s h => unarmed_printing_ne (State.whenOn_un _ _ (fun h => by simp [h]) h)) h e

theorem execStatusTimeout_np (dt : Nat) (l : Nat) (s t : State) (h : Unarmed s.ident.opState) (e : execStatusTimeout dt l s = .next t) :
    t.ident.opState ≠ .printing :=
  perform_np _ _ _ _ _ (fun s h => unarmed_printing_ne (State.whenOn_un _ _ (fun h => by simp [h]) h)) h e

theorem execUnalignedTimeout_np (dt : Nat) (l : Nat) (s t : State) (h : Unarmed s.ident.opState) (e : execUnalignedTimeout dt l s = .next t) :
    t.ident.opState ≠ .printing :=
  perform_np _ _ _ _ _ (fun s h => unarmed_printing_ne (State.whenOn_un _ _ (fun h => by simp [h]) h)) h e

theorem execLostTimeout_np (dt : Nat) (l : Nat) (s t : State) (h : Unarmed s.ident.opState) (e : execLostTimeout dt l s = .next t) :
    t.ident.opState ≠ .printing :=
  perform_np _ _ _ _ _ (fun s h => unarmed_printing_ne (State.whenOn_un _ _ (fun h => by simp [h]) h)) h e

theorem execDiscovery_np (dt : Nat) (s t : State) (h : Unarmed s.ident.opState) (e : execDiscovery dt s = .next t) :
    t.ident.opState ≠ .printing :=
  perform_np _ _ _ _ _ (fun s h => unarmed_printing_ne (State.whenOn_un _ _ (fun h => by simp [h]) h)) h e

theorem execTimeSend_np (dt : Nat) (l : Nat) (s t : State) (h : Unarmed s.ident.opState) (e : execTimeSend dt l s = .next t) :
    t.ident.opState ≠ .printing :=
  perform_np _ _ _ _ _ (fun s h => unarmed_printing_ne (State.whenOn_un _ _ (fun h => by simp [h]) h)) h e

theorem execEchoSend_np (dt : Nat) (l : Nat) (s t : State) (h : Unarmed s.ident.opState) (e : execEchoSend dt l s = .next t) :
    t.ident.opState ≠ .printing :=
  perform_np _ _ _ _ _ (fun s h => unarmed_printing_ne (State.whenOn_un _ _ (fun h => by simp [h]) h)) h e

theorem execDiscoverSend_np (dt : Nat) (l : Nat) (s t : State) (h : Unarmed s.ident.opState) (e : execDiscoverSend dt l s = .next t) :
    t.ident.opState ≠ .printing :=
  perform_np _ _ _ _ _ (fun s h => unarmed_printing_ne (State.whenOn_un _ _ (fun h => by simp [h]) h)) h e

theorem execRenewSend_np (dt : Nat) (id : Nat) (s t : State) (h : Unarmed s.ident.opState) (e : execRenewSend dt id s = .next t) :
    t.ident.opState ≠ .printing :=
  perform_np _ _ _ _ _ (fun s h => unarmed_printing_ne (State.whenOn_un _ _ (fun h => by simp [h]) h)) h e

theorem execAcquireRetry_np (dt : Nat) (id : Nat) (s t : State) (h : Unarmed s.ident.opState) (e : execAcquireRetry dt id s = .next t) :
    t.ident.opState ≠ .printing :=
  perform_np _ _ _ _ _ (fun s h => unarmed_printing_ne (State.whenOn_un _ _ (fun h => by simp [h]) h)) h e

theorem execRestSend_np (dt : Nat) (s t : State) (h : Unarmed s.ident.opState) (e : execRestSend dt s = .next t) :
    t.ident.opState ≠ .printing :=
  perform_np _ _ _ _ _ (fun s h => unarmed_printing_ne (State.whenOn_un _ _ (fun h => by simp [h]) h)) h e

theorem execSysInfo_np (dt : Nat) (m : Mbox) (s t : State) (h : Unarmed s.ident.opState) (e : execSysInfo dt m s = .next t) :
    t.ident.opState ≠ .printing :=
  perform_np _ _ _ _ _ (fun s h => unarmed_printing_ne (by simp [h])) h e

theorem execSysPing_np (dt : Nat) (m : Mbox) (s t : State) (h : Unarmed s.ident.opState) (e : execSysPing dt m s = .next t) :
    t.ident.opState ≠ .printing :=
  perform_np _ _ _ _ _ (fun s h => unarmed_printing_ne (by simp [h])) h e

theorem execSysEventRing_np (dt : Nat) (m : Mbox) (s t : State) (h : Unarmed s.ident.opState) (e : execSysEventRing dt m s = .next t) :
    t.ident.opState ≠ .printing :=
  perform_np _ _ _ _ _ (fun s h => unarmed_printing_ne (by simp [h])) h e

theorem execSysResetWarm_np (dt : Nat) (m : Mbox) (s t : State) (h : Unarmed s.ident.opState) (e : execSysResetWarm dt m s = .next t) :
    t.ident.opState ≠ .printing :=
  perform_np _ _ _ _ _ (fun s h => unarmed_printing_ne (by simp [h])) h e

theorem execSysResetCold_np (dt : Nat) (m : Mbox) (s t : State) (h : Unarmed s.ident.opState) (e : execSysResetCold dt m s = .next t) :
    t.ident.opState ≠ .printing :=
  perform_np _ _ _ _ _ (fun s h => unarmed_printing_ne (by simp [h])) h e

theorem execStateArm_np (dt : Nat) (m : Mbox) (s t : State) (h : Unarmed s.ident.opState) (e : execStateArm dt m s = .next t) :
    t.ident.opState ≠ .printing :=
  perform_np _ _ _ _ _ (fun s h => unarmed_printing_ne (by simp [h])) h e

theorem execStateDisarm_np (dt : Nat) (m : Mbox) (s t : State) (h : Unarmed s.ident.opState) (e : execStateDisarm dt m s = .next t) :
    t.ident.opState ≠ .printing :=
  perform_np _ _ _ _ _ (fun s h => unarmed_printing_ne (by simp [h])) h e

theorem execStateRest_np (dt : Nat) (m : Mbox) (s t : State) (h : Unarmed s.ident.opState) (e : execStateRest dt m s = .next t) :
    t.ident.opState ≠ .printing :=
  perform_np _ _ _ _ _ (fun s h => unarmed_printing_ne (by simp [h])) h e

theorem execStateClear_np (dt : Nat) (m : Mbox) (s t : State) (h : Unarmed s.ident.opState) (e : execStateClear dt m s = .next t) :
    t.ident.opState ≠ .printing :=
  perform_np _ _ _ _ _ (fun s h => unarmed_printing_ne (by simp [h])) h e

theorem execCfgStage_np (dt : Nat) (m : Mbox) (s t : State) (h : Unarmed s.ident.opState) (e : execCfgStage dt m s = .next t) :
    t.ident.opState ≠ .printing :=
  perform_np _ _ _ _ _ (fun s h => unarmed_printing_ne (by simp [h])) h e

theorem execCfgCheck_np (dt : Nat) (m : Mbox) (s t : State) (h : Unarmed s.ident.opState) (e : execCfgCheck dt m s = .next t) :
    t.ident.opState ≠ .printing :=
  perform_np _ _ _ _ _ (fun s h => unarmed_printing_ne (by simp [h])) h e

theorem execCfgCommit_np (dt : Nat) (m : Mbox) (s t : State) (h : Unarmed s.ident.opState) (e : execCfgCommit dt m s = .next t) :
    t.ident.opState ≠ .printing :=
  perform_np _ _ _ _ _ (fun s h => unarmed_printing_ne (by simp [h])) h e

theorem execCfgCancel_np (dt : Nat) (m : Mbox) (s t : State) (h : Unarmed s.ident.opState) (e : execCfgCancel dt m s = .next t) :
    t.ident.opState ≠ .printing :=
  perform_np _ _ _ _ _ (fun s h => unarmed_printing_ne (by simp [h])) h e

theorem execCfgDiscard_np (dt : Nat) (m : Mbox) (s t : State) (h : Unarmed s.ident.opState) (e : execCfgDiscard dt m s = .next t) :
    t.ident.opState ≠ .printing :=
  perform_np _ _ _ _ _ (fun s h => unarmed_printing_ne (by simp [h])) h e

theorem execCfgRead_np (dt : Nat) (m : Mbox) (s t : State) (h : Unarmed s.ident.opState) (e : execCfgRead dt m s = .next t) :
    t.ident.opState ≠ .printing :=
  perform_np _ _ _ _ _ (fun s h => unarmed_printing_ne (by simp [h])) h e

theorem execJobOpen_np (dt : Nat) (m : Mbox) (s t : State) (h : Unarmed s.ident.opState) (e : execJobOpen dt m s = .next t) :
    t.ident.opState ≠ .printing :=
  perform_np _ _ _ _ _ (fun s h => unarmed_printing_ne (by simp [h])) h e

theorem execJobSubmitAttach_np (dt : Nat) (m : Mbox) (s t : State) (h : Unarmed s.ident.opState) (e : execJobSubmitAttach dt m s = .next t) :
    t.ident.opState ≠ .printing :=
  perform_np _ _ _ _ _ (fun s h => unarmed_printing_ne (by simp [h])) h e

theorem execJobSubmitDetach_np (dt : Nat) (m : Mbox) (s t : State) (h : Unarmed s.ident.opState) (e : execJobSubmitDetach dt m s = .next t) :
    t.ident.opState ≠ .printing :=
  perform_np _ _ _ _ _ (fun s h => unarmed_printing_ne (by simp [h])) h e

theorem execJobSubmitEnd_np (dt : Nat) (m : Mbox) (s t : State) (h : Unarmed s.ident.opState) (e : execJobSubmitEnd dt m s = .next t) :
    t.ident.opState ≠ .printing :=
  perform_np _ _ _ _ _ (fun s h => unarmed_printing_ne (by simp [h])) h e

theorem execJobStart_np (dt : Nat) (m : Mbox) (s t : State) (h : Unarmed s.ident.opState) (e : execJobStart dt m s = .next t) :
    t.ident.opState ≠ .printing :=
  perform_np _ _ _ _ _ (fun s h => unarmed_printing_ne (by simp [h])) h e

theorem execJobPause_np (dt : Nat) (m : Mbox) (s t : State) (h : Unarmed s.ident.opState) (e : execJobPause dt m s = .next t) :
    t.ident.opState ≠ .printing :=
  perform_np _ _ _ _ _ (fun s h => unarmed_printing_ne (by simp [h])) h e

theorem execJobContinue_np (dt : Nat) (m : Mbox) (s t : State) (h : Unarmed s.ident.opState) (e : execJobContinue dt m s = .next t) :
    t.ident.opState ≠ .printing :=
  perform_np _ _ _ _ _ (fun s h => unarmed_printing_ne (by simp [h])) h e

theorem execJobAbort_np (dt : Nat) (m : Mbox) (s t : State) (h : Unarmed s.ident.opState) (e : execJobAbort dt m s = .next t) :
    t.ident.opState ≠ .printing :=
  perform_np _ _ _ _ _ (fun s h => unarmed_printing_ne (by simp [h])) h e

theorem execJobClose_np (dt : Nat) (m : Mbox) (s t : State) (h : Unarmed s.ident.opState) (e : execJobClose dt m s = .next t) :
    t.ident.opState ≠ .printing :=
  perform_np _ _ _ _ _ (fun s h => unarmed_printing_ne (by simp [h])) h e

theorem execJobStatus_np (dt : Nat) (m : Mbox) (s t : State) (h : Unarmed s.ident.opState) (e : execJobStatus dt m s = .next t) :
    t.ident.opState ≠ .printing :=
  perform_np _ _ _ _ _ (fun s h => unarmed_printing_ne (by simp [h])) h e

theorem execEvtAtCourse_np (dt : Nat) (m : Mbox) (s t : State) (h : Unarmed s.ident.opState) (e : execEvtAtCourse dt m s = .next t) :
    t.ident.opState ≠ .printing :=
  perform_np _ _ _ _ _ (fun s h => unarmed_printing_ne (by simp [h])) h e

theorem execEvtAtTime_np (dt : Nat) (m : Mbox) (s t : State) (h : Unarmed s.ident.opState) (e : execEvtAtTime dt m s = .next t) :
    t.ident.opState ≠ .printing :=
  perform_np _ _ _ _ _ (fun s h => unarmed_printing_ne (by simp [h])) h e

theorem execEvtCancel_np (dt : Nat) (m : Mbox) (s t : State) (h : Unarmed s.ident.opState) (e : execEvtCancel dt m s = .next t) :
    t.ident.opState ≠ .printing :=
  perform_np _ _ _ _ _ (fun s h => unarmed_printing_ne (by simp [h])) h e

theorem execEvtList_np (dt : Nat) (m : Mbox) (s t : State) (h : Unarmed s.ident.opState) (e : execEvtList dt m s = .next t) :
    t.ident.opState ≠ .printing :=
  perform_np _ _ _ _ _ (fun s h => unarmed_printing_ne (by simp [h])) h e

theorem execDensUpdate_np (dt : Nat) (m : Mbox) (s t : State) (h : Unarmed s.ident.opState) (e : execDensUpdate dt m s = .next t) :
    t.ident.opState ≠ .printing :=
  perform_np _ _ _ _ _ (fun s h => unarmed_printing_ne (by simp [h])) h e

theorem execDensRead_np (dt : Nat) (m : Mbox) (s t : State) (h : Unarmed s.ident.opState) (e : execDensRead dt m s = .next t) :
    t.ident.opState ≠ .printing :=
  perform_np _ _ _ _ _ (fun s h => unarmed_printing_ne (by simp [h])) h e

theorem execDensFreeze_np (dt : Nat) (m : Mbox) (s t : State) (h : Unarmed s.ident.opState) (e : execDensFreeze dt m s = .next t) :
    t.ident.opState ≠ .printing :=
  perform_np _ _ _ _ _ (fun s h => unarmed_printing_ne (by simp [h])) h e

theorem execNozMap_np (dt : Nat) (m : Mbox) (s t : State) (h : Unarmed s.ident.opState) (e : execNozMap dt m s = .next t) :
    t.ident.opState ≠ .printing :=
  perform_np _ _ _ _ _ (fun s h => unarmed_printing_ne (by simp [h])) h e

theorem execNozRead_np (dt : Nat) (m : Mbox) (s t : State) (h : Unarmed s.ident.opState) (e : execNozRead dt m s = .next t) :
    t.ident.opState ≠ .printing :=
  perform_np _ _ _ _ _ (fun s h => unarmed_printing_ne (by simp [h])) h e

theorem execDiscover_np (dt : Nat) (m : Mbox) (s t : State) (h : Unarmed s.ident.opState) (e : execDiscover dt m s = .next t) :
    t.ident.opState ≠ .printing :=
  perform_np _ _ _ _ _ (fun s h => unarmed_printing_ne (by simp [h])) h e

theorem execReadBond_np (dt : Nat) (m : Mbox) (s t : State) (h : Unarmed s.ident.opState) (e : execReadBond dt m s = .next t) :
    t.ident.opState ≠ .printing :=
  perform_np _ _ _ _ _ (fun s h => unarmed_printing_ne (by simp [h])) h e

theorem execReadNodes_np (dt : Nat) (m : Mbox) (s t : State) (h : Unarmed s.ident.opState) (e : execReadNodes dt m s = .next t) :
    t.ident.opState ≠ .printing :=
  perform_np _ _ _ _ _ (fun s h => unarmed_printing_ne (by simp [h])) h e

theorem execPairSwap_np (dt : Nat) (m : Mbox) (s t : State) (h : Unarmed s.ident.opState) (e : execPairSwap dt m s = .next t) :
    t.ident.opState ≠ .printing :=
  perform_np _ _ _ _ _ (fun s h => unarmed_printing_ne (by simp [h])) h e

theorem execPairJoin_np (dt : Nat) (m : Mbox) (partner : PInfo) (s t : State) (h : Unarmed s.ident.opState) (e : execPairJoin dt m partner s = .next t) :
    t.ident.opState ≠ .printing :=
  perform_np _ _ _ _ _ (fun s h => unarmed_printing_ne (by simp [h])) h e

theorem execPairLeave_np (dt : Nat) (m : Mbox) (s t : State) (h : Unarmed s.ident.opState) (e : execPairLeave dt m s = .next t) :
    t.ident.opState ≠ .printing :=
  perform_np _ _ _ _ _ (fun s h => unarmed_printing_ne (by simp [h])) h e

theorem execPairTake_np (dt : Nat) (m : Mbox) (s t : State) (h : Unarmed s.ident.opState) (e : execPairTake dt m s = .next t) :
    t.ident.opState ≠ .printing :=
  perform_np _ _ _ _ _ (fun s h => unarmed_printing_ne (by simp [h])) h e

theorem execPairInfo_np (dt : Nat) (m : Mbox) (s t : State) (h : Unarmed s.ident.opState) (e : execPairInfo dt m s = .next t) :
    t.ident.opState ≠ .printing :=
  perform_np _ _ _ _ _ (fun s h => unarmed_printing_ne (by simp [h])) h e

theorem execGangForm_np (dt : Nat) (m : Mbox) (members : List GInfo) (s t : State) (h : Unarmed s.ident.opState) (e : execGangForm dt m members s = .next t) :
    t.ident.opState ≠ .printing :=
  perform_np _ _ _ _ _ (fun s h => unarmed_printing_ne (by simp [h])) h e

theorem execGangDissolve_np (dt : Nat) (m : Mbox) (s t : State) (h : Unarmed s.ident.opState) (e : execGangDissolve dt m s = .next t) :
    t.ident.opState ≠ .printing :=
  perform_np _ _ _ _ _ (fun s h => unarmed_printing_ne (by simp [h])) h e

theorem execGangInfo_np (dt : Nat) (m : Mbox) (s t : State) (h : Unarmed s.ident.opState) (e : execGangInfo dt m s = .next t) :
    t.ident.opState ≠ .printing :=
  perform_np _ _ _ _ _ (fun s h => unarmed_printing_ne (by simp [h])) h e

theorem execTimeAcceptStep_np (dt : Nat) (m : Mbox) (s t : State) (h : Unarmed s.ident.opState) (e : execTimeAcceptStep dt m s = .next t) :
    t.ident.opState ≠ .printing :=
  perform_np _ _ _ _ _ (fun s h => unarmed_printing_ne (by simp [h])) h e

theorem execTimeSet_np (dt : Nat) (m : Mbox) (s t : State) (h : Unarmed s.ident.opState) (e : execTimeSet dt m s = .next t) :
    t.ident.opState ≠ .printing :=
  perform_np _ _ _ _ _ (fun s h => unarmed_printing_ne (by simp [h])) h e

theorem execTimeStatus_np (dt : Nat) (m : Mbox) (s t : State) (h : Unarmed s.ident.opState) (e : execTimeStatus dt m s = .next t) :
    t.ident.opState ≠ .printing :=
  perform_np _ _ _ _ _ (fun s h => unarmed_printing_ne (by simp [h])) h e

theorem execLampSet_np (dt : Nat) (m : Mbox) (s t : State) (h : Unarmed s.ident.opState) (e : execLampSet dt m s = .next t) :
    t.ident.opState ≠ .printing :=
  perform_np _ _ _ _ _ (fun s h => unarmed_printing_ne (by simp [h])) h e

theorem execLampRead_np (dt : Nat) (m : Mbox) (s t : State) (h : Unarmed s.ident.opState) (e : execLampRead dt m s = .next t) :
    t.ident.opState ≠ .printing :=
  perform_np _ _ _ _ _ (fun s h => unarmed_printing_ne (by simp [h])) h e

theorem execLampClearShort_np (dt : Nat) (m : Mbox) (s t : State) (h : Unarmed s.ident.opState) (e : execLampClearShort dt m s = .next t) :
    t.ident.opState ≠ .printing :=
  perform_np _ _ _ _ _ (fun s h => unarmed_printing_ne (by simp [h])) h e

theorem execLampClearPins_np (dt : Nat) (m : Mbox) (s t : State) (h : Unarmed s.ident.opState) (e : execLampClearPins dt m s = .next t) :
    t.ident.opState ≠ .printing :=
  perform_np _ _ _ _ _ (fun s h => unarmed_printing_ne (by simp [h])) h e

theorem execPanelSet_np (dt : Nat) (m : Mbox) (s t : State) (h : Unarmed s.ident.opState) (e : execPanelSet dt m s = .next t) :
    t.ident.opState ≠ .printing :=
  perform_np _ _ _ _ _ (fun s h => unarmed_printing_ne (by simp [h])) h e

theorem execCopingRead_np (dt : Nat) (m : Mbox) (s t : State) (h : Unarmed s.ident.opState) (e : execCopingRead dt m s = .next t) :
    t.ident.opState ≠ .printing :=
  perform_np _ _ _ _ _ (fun s h => unarmed_printing_ne (by simp [h])) h e

theorem execCopingCal_np (dt : Nat) (m : Mbox) (s t : State) (h : Unarmed s.ident.opState) (e : execCopingCal dt m s = .next t) :
    t.ident.opState ≠ .printing :=
  perform_np _ _ _ _ _ (fun s h => unarmed_printing_ne (by simp [h])) h e

theorem execPlinthLogRead_np (dt : Nat) (m : Mbox) (s t : State) (h : Unarmed s.ident.opState) (e : execPlinthLogRead dt m s = .next t) :
    t.ident.opState ≠ .printing :=
  perform_np _ _ _ _ _ (fun s h => unarmed_printing_ne (by simp [h])) h e

theorem execPlinthFw_np (dt : Nat) (m : Mbox) (s t : State) (h : Unarmed s.ident.opState) (e : execPlinthFw dt m s = .next t) :
    t.ident.opState ≠ .printing :=
  perform_np _ _ _ _ _ (fun s h => unarmed_printing_ne (by simp [h])) h e

theorem execPlinthFwSelect_np (dt : Nat) (m : Mbox) (s t : State) (h : Unarmed s.ident.opState) (e : execPlinthFwSelect dt m s = .next t) :
    t.ident.opState ≠ .printing :=
  perform_np _ _ _ _ _ (fun s h => unarmed_printing_ne (by simp [h])) h e

theorem execUnknownVerb_np (dt : Nat) (verb : Nat) (m : Mbox) (s t : State) (h : Unarmed s.ident.opState) (e : execUnknownVerb dt verb m s = .next t) :
    t.ident.opState ≠ .printing :=
  perform_np _ _ _ _ _ (fun s h => unarmed_printing_ne (by simp [h])) h e

theorem execNodeFrame_np (dt : Nat) (id : Nat) (port : Nat) (k : Nat) (len : Nat) (bits : Nat) (s t : State) (h : Unarmed s.ident.opState) (e : execNodeFrame dt id port k len bits s = .next t) :
    t.ident.opState ≠ .printing :=
  perform_np _ _ _ _ _ (fun s h => unarmed_printing_ne (by simp [h])) h e

theorem execNodeRenew_np (dt : Nat) (id : Nat) (port : Nat) (k : Nat) (len : Nat) (bits : Nat) (s t : State) (h : Unarmed s.ident.opState) (e : execNodeRenew dt id port k len bits s = .next t) :
    t.ident.opState ≠ .printing :=
  perform_np _ _ _ _ _ (fun s h => unarmed_printing_ne (by simp [h])) h e

theorem execNodeAcquire_np (dt : Nat) (id : Nat) (port : Nat) (k : Nat) (len : Nat) (bits : Nat) (s t : State) (h : Unarmed s.ident.opState) (e : execNodeAcquire dt id port k len bits s = .next t) :
    t.ident.opState ≠ .printing :=
  perform_np _ _ _ _ _ (fun s h => unarmed_printing_ne (by simp [h])) h e

theorem execNodeRelease_np (dt : Nat) (id : Nat) (port : Nat) (k : Nat) (len : Nat) (bits : Nat) (s t : State) (h : Unarmed s.ident.opState) (e : execNodeRelease dt id port k len bits s = .next t) :
    t.ident.opState ≠ .printing :=
  perform_np _ _ _ _ _ (fun s h => unarmed_printing_ne (by simp [h])) h e

theorem execNodeRest_np (dt : Nat) (id : Nat) (port : Nat) (k : Nat) (len : Nat) (bits : Nat) (s t : State) (h : Unarmed s.ident.opState) (e : execNodeRest dt id port k len bits s = .next t) :
    t.ident.opState ≠ .printing :=
  perform_np _ _ _ _ _ (fun s h => unarmed_printing_ne (by simp [h])) h e

theorem execNodeCancel_np (dt : Nat) (id : Nat) (port : Nat) (k : Nat) (len : Nat) (bits : Nat) (s t : State) (h : Unarmed s.ident.opState) (e : execNodeCancel dt id port k len bits s = .next t) :
    t.ident.opState ≠ .printing :=
  perform_np _ _ _ _ _ (fun s h => unarmed_printing_ne (by simp [h])) h e

theorem execNodeConfig_np (dt : Nat) (id : Nat) (port : Nat) (k : Nat) (len : Nat) (bits : Nat) (s t : State) (h : Unarmed s.ident.opState) (e : execNodeConfig dt id port k len bits s = .next t) :
    t.ident.opState ≠ .printing :=
  perform_np _ _ _ _ _ (fun s h => unarmed_printing_ne (by simp [h])) h e

theorem execNodeTime_np (dt : Nat) (id : Nat) (port : Nat) (k : Nat) (len : Nat) (bits : Nat) (s t : State) (h : Unarmed s.ident.opState) (e : execNodeTime dt id port k len bits s = .next t) :
    t.ident.opState ≠ .printing :=
  perform_np _ _ _ _ _ (fun s h => unarmed_printing_ne (by simp [h])) h e

theorem execNodeEcho_np (dt : Nat) (id : Nat) (port : Nat) (k : Nat) (len : Nat) (bits : Nat) (turn : Nat) (s t : State) (h : Unarmed s.ident.opState) (e : execNodeEcho dt id port k len bits turn s = .next t) :
    t.ident.opState ≠ .printing :=
  perform_np _ _ _ _ _ (fun s h => unarmed_printing_ne (by simp [h])) h e

theorem execNodeDiscover_np (dt : Nat) (id : Nat) (port : Nat) (k : Nat) (len : Nat) (bits : Nat) (s t : State) (h : Unarmed s.ident.opState) (e : execNodeDiscover dt id port k len bits s = .next t) :
    t.ident.opState ≠ .printing :=
  perform_np _ _ _ _ _ (fun s h => unarmed_printing_ne (by simp [h])) h e

theorem execNodeLeaseExpiry_np (dt : Nat) (id : Nat) (s t : State) (h : Unarmed s.ident.opState) (e : execNodeLeaseExpiry dt id s = .next t) :
    t.ident.opState ≠ .printing :=
  perform_np _ _ _ _ _ (fun s h => unarmed_printing_ne (by simp [h])) h e

theorem execNodeRowFire_np (dt : Nat) (id : Nat) (head : Nat) (row : Nat) (s t : State) (h : Unarmed s.ident.opState) (e : execNodeRowFire dt id head row s = .next t) :
    t.ident.opState ≠ .printing :=
  perform_np _ _ _ _ _ (fun s h => unarmed_printing_ne (by simp [h])) h e

theorem execNodeStatusSend_np (dt : Nat) (id : Nat) (port : Nat) (k : Nat) (s t : State) (h : Unarmed s.ident.opState) (e : execNodeStatusSend dt id port k s = .next t) :
    t.ident.opState ≠ .printing :=
  perform_np _ _ _ _ _ (fun s h => unarmed_printing_ne (by simp [h])) h e

theorem execNodeTempsSend_np (dt : Nat) (id : Nat) (port : Nat) (temps : List Int) (s t : State) (h : Unarmed s.ident.opState) (e : execNodeTempsSend dt id port temps s = .next t) :
    t.ident.opState ≠ .printing :=
  perform_np _ _ _ _ _ (fun s h => unarmed_printing_ne (by simp [h])) h e

theorem execNodeReset_np (dt : Nat) (id : Nat) (lanesA : Nat) (lanesB : Nat) (heads : List Nat) (maxK : Nat) (s t : State) (h : Unarmed s.ident.opState) (e : execNodeReset dt id lanesA lanesB heads maxK s = .next t) :
    t.ident.opState ≠ .printing :=
  perform_np _ _ _ _ _ (fun s h => unarmed_printing_ne (by simp [h])) h e

theorem execNodeReceiverAlignment_np (dt : Nat) (id : Nat) (port : Nat) (k : Nat) (ok : Bool) (s t : State) (h : Unarmed s.ident.opState) (e : execNodeReceiverAlignment dt id port k ok s = .next t) :
    t.ident.opState ≠ .printing :=
  perform_np _ _ _ _ _ (fun s h => unarmed_printing_ne (by simp [h])) h e

theorem execHeadFault_np (dt : Nat) (id : Nat) (head : Nat) (faulty : Bool) (s t : State) (h : Unarmed s.ident.opState) (e : execHeadFault dt id head faulty s = .next t) :
    t.ident.opState ≠ .printing :=
  perform_np _ _ _ _ _ (fun s h => unarmed_printing_ne (by simp [h])) h e

theorem execNodeTimeOkTimeout_np (dt : Nat) (id : Nat) (s t : State) (h : Unarmed s.ident.opState) (e : execNodeTimeOkTimeout dt id s = .next t) :
    t.ident.opState ≠ .printing :=
  perform_np _ _ _ _ _ (fun s h => unarmed_printing_ne (by simp [h])) h e

theorem execFieldInputChange_np (dt : Nat) (inp : Nat) (level : Bool) (ua : Nat) (s t : State) (h : Unarmed s.ident.opState) (e : execFieldInputChange dt inp level ua s = .next t) :
    t.ident.opState ≠ .printing :=
  perform_np _ _ _ _ _ (fun s h => unarmed_printing_ne (by simp [h])) h e

theorem execEstopDisc_np (dt : Nat) (s t : State) (h : Unarmed s.ident.opState) (e : execEstopDisc dt s = .next t) :
    t.ident.opState ≠ .printing :=
  perform_np _ _ _ _ _ (fun s h => unarmed_printing_ne (by simp [h])) h e

theorem execFieldSupply_np (dt : Nat) (mv : Int) (s t : State) (h : Unarmed s.ident.opState) (e : execFieldSupply dt mv s = .next t) :
    t.ident.opState ≠ .printing :=
  perform_np _ _ _ _ _ (fun s h => unarmed_printing_ne (by simp [h])) h e

theorem execOutputFault_np (dt : Nat) (output : Nat) (kind : Nat) (s t : State) (h : Unarmed s.ident.opState) (e : execOutputFault dt output kind s = .next t) :
    t.ident.opState ≠ .printing :=
  perform_np _ _ _ _ _ (fun s h => unarmed_printing_ne (by simp [h])) h e

theorem execOpenLoad_np (dt : Nat) (load : LoadIn) (s t : State) (h : Unarmed s.ident.opState) (e : execOpenLoad dt load s = .next t) :
    t.ident.opState ≠ .printing :=
  perform_np _ _ _ _ _ (fun s h => unarmed_printing_ne (by simp [h])) h e

theorem execThermOkChange_np (dt : Nat) (tj : ThermIn) (s t : State) (h : Unarmed s.ident.opState) (e : execThermOkChange dt tj s = .next t) :
    t.ident.opState ≠ .printing :=
  perform_np _ _ _ _ _ (fun s h => unarmed_printing_ne (by simp [h])) h e

theorem execWatchdogKey_np (dt : Nat) (s t : State) (h : Unarmed s.ident.opState) (e : execWatchdogKey dt s = .next t) :
    t.ident.opState ≠ .printing :=
  perform_np _ _ _ _ _ (fun s h => unarmed_printing_ne (by simp [h])) h e

theorem execWatchdog_np (dt : Nat) (wrong : Bool) (s t : State) (h : Unarmed s.ident.opState) (e : execWatchdog dt wrong s = .next t) :
    t.ident.opState ≠ .printing :=
  perform_np _ _ _ _ _ (fun s h => unarmed_printing_ne (by simp [h])) h e

theorem execHeartbeatScan_np (dt : Nat) (beats : List (Nat × Nat)) (s t : State) (h : Unarmed s.ident.opState) (e : execHeartbeatScan dt beats s = .next t) :
    t.ident.opState ≠ .printing :=
  perform_np _ _ _ _ _ (fun s h => unarmed_printing_ne (by simp [h])) h e

theorem execVAuxApplied_np (dt : Nat) (sel : Nat) (mv : Nat) (s t : State) (h : Unarmed s.ident.opState) (e : execVAuxApplied dt sel mv s = .next t) :
    t.ident.opState ≠ .printing :=
  perform_np _ _ _ _ _ (fun s h => unarmed_printing_ne (by (try dsimp only); (repeat' split) <;> (first | exact State.whenReach_un _ _ _ (fun h => by simp [h]) h | exact State.whenOn_un _ _ (fun h => by simp [h]) h | simp [h]))) h e

theorem execKeepReset_np (dt : Nat) (s t : State) (h : Unarmed s.ident.opState) (e : execKeepReset dt s = .next t) :
    t.ident.opState ≠ .printing :=
  perform_np _ _ _ _ _ (fun s h => unarmed_printing_ne (by simp [h])) h e

theorem execSupplyThreshold_np (dt : Nat) (input : Nat) (kind : Nat) (mv : Int) (s t : State) (h : Unarmed s.ident.opState) (e : execSupplyThreshold dt input kind mv s = .next t) :
    t.ident.opState ≠ .printing :=
  perform_np _ _ _ _ _ (fun s h => unarmed_printing_ne (by simp [h])) h e

theorem execSuppliesLost_np (dt : Nat) (s t : State) (h : Unarmed s.ident.opState) (e : execSuppliesLost dt s = .next t) :
    t.ident.opState ≠ .printing :=
  perform_np _ _ _ _ _ (fun s h => unarmed_printing_ne (by simp [h])) h e

theorem execAutoOn_np (dt : Nat) (s t : State) (h : Unarmed s.ident.opState) (e : execAutoOn dt s = .next t) :
    t.ident.opState ≠ .printing :=
  perform_np _ _ _ _ _ (fun s h => unarmed_printing_ne (by simp [h])) h e

theorem execDomainPowerGood_np (dt : Nat) (s t : State) (h : Unarmed s.ident.opState) (e : execDomainPowerGood dt s = .next t) :
    t.ident.opState ≠ .printing :=
  perform_np _ _ _ _ _ (fun s h => unarmed_printing_ne (by simp [h])) h e

theorem execPowerGoodMissed_np (dt : Nat) (d : Nat) (s t : State) (h : Unarmed s.ident.opState) (e : execPowerGoodMissed dt d s = .next t) :
    t.ident.opState ≠ .printing :=
  perform_np _ _ _ _ _ (fun s h => unarmed_printing_ne (by simp [h])) h e

theorem execPowerGoodLost_np (dt : Nat) (d : Nat) (s t : State) (h : Unarmed s.ident.opState) (e : execPowerGoodLost dt d s = .next t) :
    t.ident.opState ≠ .printing :=
  perform_np _ _ _ _ _ (fun s h => unarmed_printing_ne (by simp [h])) h e

theorem execBootEnd_np (dt : Nat) (crcA : Bool) (crcB : Bool) (test : Nat) (fence0 : List Nat) (fence1 : List Nat) (s t : State) (h : Unarmed s.ident.opState) (e : execBootEnd dt crcA crcB test fence0 fence1 s = .next t) :
    t.ident.opState ≠ .printing :=
  perform_np _ _ _ _ _ (fun s h => unarmed_printing_ne (by simp [h])) h e

theorem execBootTimeout_np (dt : Nat) (s t : State) (h : Unarmed s.ident.opState) (e : execBootTimeout dt s = .next t) :
    t.ident.opState ≠ .printing :=
  perform_np _ _ _ _ _ (fun s h => unarmed_printing_ne (by simp [h])) h e

theorem execFunctionReset_np (dt : Nat) (fn : Nat) (down : Bool) (s t : State) (h : Unarmed s.ident.opState) (e : execFunctionReset dt fn down s = .next t) :
    t.ident.opState ≠ .printing :=
  perform_np _ _ _ _ _ (fun s h => unarmed_printing_ne (State.whenOn_un _ _ (fun h => by simp [h]) h)) h e

theorem execLinkTrained_np (dt : Nat) (fn : Nat) (lanes : Nat) (rate : Nat) (mrrs : Nat) (mps : Nat) (extTag : Bool) (s t : State) (h : Unarmed s.ident.opState) (e : execLinkTrained dt fn lanes rate mrrs mps extTag s = .next t) :
    t.ident.opState ≠ .printing :=
  perform_np _ _ _ _ _ (fun s h => unarmed_printing_ne (State.whenPowered_un _ _ _ (fun h => by simp [h]) h)) h e

theorem execPcieLinkLost_np (dt : Nat) (fn : Nat) (s t : State) (h : Unarmed s.ident.opState) (e : execPcieLinkLost dt fn s = .next t) :
    t.ident.opState ≠ .printing :=
  perform_np _ _ _ _ _ (fun s h => unarmed_printing_ne (State.whenOn_un _ _ (fun h => by simp [h]) h)) h e

theorem execHardwareShutdown_np (dt : Nat) (w : Nat) (tj : Int) (s t : State) (h : Unarmed s.ident.opState) (e : execHardwareShutdown dt w tj s = .next t) :
    t.ident.opState ≠ .printing :=
  perform_np _ _ _ _ _ (fun s h => unarmed_printing_ne (by simp [h])) h e

theorem execThermalRestart_np (dt : Nat) (t0 : Int) (t1 : Int) (s t : State) (h : Unarmed s.ident.opState) (e : execThermalRestart dt t0 t1 s = .next t) :
    t.ident.opState ≠ .printing :=
  perform_np _ _ _ _ _ (fun s h => unarmed_printing_ne (by simp [h])) h e

theorem execSensorSample_np (dt : Nat) (temps : List (Option Int)) (pMeas : Nat) (tj0 : Option Int) (tj1 : Option Int) (s t : State) (h : Unarmed s.ident.opState) (e : execSensorSample dt temps pMeas tj0 tj1 s = .next t) :
    t.ident.opState ≠ .printing :=
  perform_np _ _ _ _ _ (fun s h => unarmed_printing_ne (by simp [h])) h e

theorem execCalRunEnd_np (dt : Nat) (block : Nat) (trims : List Nat) (quality : Nat) (diff : Nat) (s t : State) (h : Unarmed s.ident.opState) (e : execCalRunEnd dt block trims quality diff s = .next t) :
    t.ident.opState ≠ .printing :=
  perform_np _ _ _ _ _ (fun s h => unarmed_printing_ne (by simp [h])) h e

theorem execReferenceCompare_np (dt : Nat) (diff : Int) (s t : State) (h : Unarmed s.ident.opState) (e : execReferenceCompare dt diff s = .next t) :
    t.ident.opState ≠ .printing :=
  perform_np _ _ _ _ _ (fun s h => unarmed_printing_ne (by simp [h])) h e

theorem execSync_np (dt : Nat) (p : Nat) (sent : Bool) (m : PtpId) (t1 : Option Nat) (s t : State) (h : Unarmed s.ident.opState) (e : execSync dt p sent m t1 s = .next t) :
    t.ident.opState ≠ .printing :=
  perform_np _ _ _ _ _ (fun s h => unarmed_printing_ne (by simp [h])) h e

theorem execFollowUp_np (dt : Nat) (p : Nat) (sent : Bool) (m : PtpId) (t1 : Nat) (s t : State) (h : Unarmed s.ident.opState) (e : execFollowUp dt p sent m t1 s = .next t) :
    t.ident.opState ≠ .printing :=
  perform_np _ _ _ _ _ (fun s h => unarmed_printing_ne (by simp [h])) h e

theorem execDelayReq_np (dt : Nat) (p : Nat) (sent : Bool) (m : PtpId) (s t : State) (h : Unarmed s.ident.opState) (e : execDelayReq dt p sent m s = .next t) :
    t.ident.opState ≠ .printing :=
  perform_np _ _ _ _ _ (fun s h => unarmed_printing_ne (by simp [h])) h e

theorem execDelayResp_np (dt : Nat) (p : Nat) (m : PtpId) (t4 : Nat) (s t : State) (h : Unarmed s.ident.opState) (e : execDelayResp dt p m t4 s = .next t) :
    t.ident.opState ≠ .printing :=
  perform_np _ _ _ _ _ (fun s h => unarmed_printing_ne (by simp [h])) h e

theorem execPdelayReq_np (dt : Nat) (p : Nat) (sent : Bool) (m : PtpId) (turn : Nat) (s t : State) (h : Unarmed s.ident.opState) (e : execPdelayReq dt p sent m turn s = .next t) :
    t.ident.opState ≠ .printing :=
  perform_np _ _ _ _ _ (fun s h => unarmed_printing_ne (by simp [h])) h e

theorem execPdelayResp_np (dt : Nat) (p : Nat) (m : PtpId) (t2 : Nat) (t3 : Option Nat) (s t : State) (h : Unarmed s.ident.opState) (e : execPdelayResp dt p m t2 t3 s = .next t) :
    t.ident.opState ≠ .printing :=
  perform_np _ _ _ _ _ (fun s h => unarmed_printing_ne (by simp [h])) h e

theorem execPdelayRespFollowUp_np (dt : Nat) (p : Nat) (m : PtpId) (t3 : Nat) (s t : State) (h : Unarmed s.ident.opState) (e : execPdelayRespFollowUp dt p m t3 s = .next t) :
    t.ident.opState ≠ .printing :=
  perform_np _ _ _ _ _ (fun s h => unarmed_printing_ne (by simp [h])) h e

theorem execAnnounce_np (dt : Nat) (p : Nat) (io : AnnounceIo) (fields : List Nat) (s t : State) (h : Unarmed s.ident.opState) (e : execAnnounce dt p io fields s = .next t) :
    t.ident.opState ≠ .printing :=
  perform_np _ _ _ _ _ (fun s h => unarmed_printing_ne (by simp [h])) h e

theorem execArp_np (dt : Nat) (p : Nat) (addr : Nat) (s t : State) (h : Unarmed s.ident.opState) (e : execArp dt p addr s = .next t) :
    t.ident.opState ≠ .printing :=
  perform_np _ _ _ _ _ (fun s h => unarmed_printing_ne (by simp [h])) h e

theorem execIcmpEcho_np (dt : Nat) (p : Nat) (addr : Nat) (s t : State) (h : Unarmed s.ident.opState) (e : execIcmpEcho dt p addr s = .next t) :
    t.ident.opState ≠ .printing :=
  perform_np _ _ _ _ _ (fun s h => unarmed_printing_ne (by simp [h])) h e

theorem execAnnounceTimeout_np (dt : Nat) (s t : State) (h : Unarmed s.ident.opState) (e : execAnnounceTimeout dt s = .next t) :
    t.ident.opState ≠ .printing :=
  perform_np _ _ _ _ _ (fun s h => unarmed_printing_ne (by simp [h])) h e

theorem execStepApply_np (dt : Nat) (s t : State) (h : Unarmed s.ident.opState) (e : execStepApply dt s = .next t) :
    t.ident.opState ≠ .printing :=
  perform_np _ _ _ _ _ (fun s h => unarmed_printing_ne (State.whenOn_un _ _ (fun h => by simp [h]) h)) h e

theorem execRtcCopy_np (dt : Nat) (s t : State) (h : Unarmed s.ident.opState) (e : execRtcCopy dt s = .next t) :
    t.ident.opState ≠ .printing :=
  perform_np _ _ _ _ _ (fun s h => unarmed_printing_ne (by simp [h])) h e

theorem execPpsInEdge_np (dt : Nat) (s t : State) (h : Unarmed s.ident.opState) (e : execPpsInEdge dt s = .next t) :
    t.ident.opState ≠ .printing :=
  perform_np _ _ _ _ _ (fun s h => unarmed_printing_ne (by simp [h])) h e

theorem execPpsOut_np (dt : Nat) (s t : State) (h : Unarmed s.ident.opState) (e : execPpsOut dt s = .next t) :
    t.ident.opState ≠ .printing :=
  perform_np _ _ _ _ _ (fun s h => unarmed_printing_ne (by simp [h])) h e

theorem execRef10Lost_np (dt : Nat) (s t : State) (h : Unarmed s.ident.opState) (e : execRef10Lost dt s = .next t) :
    t.ident.opState ≠ .printing :=
  perform_np _ _ _ _ _ (fun s h => unarmed_printing_ne (by simp [h])) h e

theorem execRef10Restored_np (dt : Nat) (s t : State) (h : Unarmed s.ident.opState) (e : execRef10Restored dt s = .next t) :
    t.ident.opState ≠ .printing :=
  perform_np _ _ _ _ _ (fun s h => unarmed_printing_ne (by simp [h])) h e

theorem execCamPulse_np (dt : Nat) (k : Nat) (course : Nat) (s t : State) (h : Unarmed s.ident.opState) (e : execCamPulse dt k course s = .next t) :
    t.ident.opState ≠ .printing :=
  perform_np _ _ _ _ _ (fun s h => unarmed_printing_ne (by simp [h])) h e

theorem execEthernetLink_np (dt : Nat) (p : Nat) (up : Bool) (s t : State) (h : Unarmed s.ident.opState) (e : execEthernetLink dt p up s = .next t) :
    t.ident.opState ≠ .printing :=
  perform_np _ _ _ _ _ (fun s h => unarmed_printing_ne (by simp [h])) h e

theorem execActionAtCourse_np (dt : Nat) (id : Nat) (s t : State) (h : Unarmed s.ident.opState) (e : execActionAtCourse dt id s = .next t) :
    t.ident.opState ≠ .printing :=
  perform_np _ _ _ _ _ (fun s h => unarmed_printing_ne (State.whenOn_un _ _ (fun h => by simp [h]) h)) h e

theorem execActionAtTime_np (dt : Nat) (id : Nat) (s t : State) (h : Unarmed s.ident.opState) (e : execActionAtTime dt id s = .next t) :
    t.ident.opState ≠ .printing :=
  perform_np _ _ _ _ _ (fun s h => unarmed_printing_ne (State.whenOn_un _ _ (fun h => by simp [h]) h)) h e

theorem execCourseRecord_np (dt : Nat) (course : Nat) (fire : Nat) (s t : State) (h : Unarmed s.ident.opState) (e : execCourseRecord dt course fire s = .next t) :
    t.ident.opState ≠ .printing :=
  perform_np _ _ _ _ _ (fun s h => unarmed_printing_ne (by simp [h])) h e

theorem execTieReplay_np (dt : Nat) (failed : TieIn) (s t : State) (h : Unarmed s.ident.opState) (e : execTieReplay dt failed s = .next t) :
    t.ident.opState ≠ .printing :=
  perform_np _ _ _ _ _ (fun s h => unarmed_printing_ne (by simp [h])) h e

theorem execSeamDeadlineMiss_np (dt : Nat) (s t : State) (h : Unarmed s.ident.opState) (e : execSeamDeadlineMiss dt s = .next t) :
    t.ident.opState ≠ .printing :=
  perform_np _ _ _ _ _ (fun s h => unarmed_printing_ne (State.whenOn_un _ _ (fun h => by simp [h]) h)) h e

theorem execTieTrainingLost_np (dt : Nat) (s t : State) (h : Unarmed s.ident.opState) (e : execTieTrainingLost dt s = .next t) :
    t.ident.opState ≠ .printing :=
  perform_np _ _ _ _ _ (fun s h => unarmed_printing_ne (State.whenOn_un _ _ (fun h => by simp [h]) h)) h e

theorem execLockstep_np (dt : Nat) (w : Nat) (s t : State) (h : Unarmed s.ident.opState) (e : execLockstep dt w s = .next t) :
    t.ident.opState ≠ .printing :=
  perform_np _ _ _ _ _ (fun s h => unarmed_printing_ne (State.whenOn_un _ _ (fun h => by simp [h]) h)) h e

theorem execLiftToken_np (dt : Nat) (lift : Nat) (s t : State) (h : Unarmed s.ident.opState) (e : execLiftToken dt lift s = .next t) :
    t.ident.opState ≠ .printing :=
  perform_np _ _ _ _ _ (fun s h => unarmed_printing_ne (State.whenOn_un _ _ (fun h => by simp [h]) h)) h e

theorem execCommitToken_np (dt : Nat) (s t : State) (h : Unarmed s.ident.opState) (e : execCommitToken dt s = .next t) :
    t.ident.opState ≠ .printing :=
  perform_np _ _ _ _ _ (fun s h => unarmed_printing_ne (State.whenOn_un _ _ (fun h => by simp [h]) h)) h e

theorem execLiftScreened_np (dt : Nat) (w : Nat) (lift : Nat) (audit : Bool) (s t : State) (h : Unarmed s.ident.opState) (e : execLiftScreened dt w lift audit s = .next t) :
    t.ident.opState ≠ .printing :=
  perform_np _ _ _ _ _ (fun s h => unarmed_printing_ne (State.whenOn_un _ _ (fun h => by simp [h]) h)) h e

theorem execCourseRelease_np (dt : Nat) (s t : State) (h : Unarmed s.ident.opState) (e : execCourseRelease dt s = .next t) :
    t.ident.opState ≠ .printing :=
  perform_np _ _ _ _ _ (fun s h => unarmed_printing_ne (State.whenOn_un _ _ (fun h => by simp [h]) h)) h e

theorem execCourseFire_np (dt : Nat) (s t : State) (h : Unarmed s.ident.opState) (e : execCourseFire dt s = .next t) :
    t.ident.opState ≠ .printing :=
  perform_np _ _ _ _ _ (fun s h => unarmed_printing_ne (State.whenOn_un _ _ (fun h => by simp [h]) h)) h e

theorem execLiftBoundary_np (dt : Nat) (seam : List SeamUpset) (s t : State) (h : Unarmed s.ident.opState) (e : execLiftBoundary dt seam s = .next t) :
    t.ident.opState ≠ .printing :=
  perform_np _ _ _ _ _ (fun s h => unarmed_printing_ne (State.whenOn_un _ _ (fun h => by simp [h]) h)) h e

theorem execSpeedLoopCycle_np (dt : Nat) (s t : State) (h : Unarmed s.ident.opState) (e : execSpeedLoopCycle dt s = .next t) :
    t.ident.opState ≠ .printing :=
  perform_np _ _ _ _ _ (fun s h => unarmed_printing_ne (State.whenOn_un _ _ (fun h => by simp [h]) h)) h e

theorem execOverspeedClear_np (dt : Nat) (s t : State) (h : Unarmed s.ident.opState) (e : execOverspeedClear dt s = .next t) :
    t.ident.opState ≠ .printing :=
  perform_np _ _ _ _ _ (fun s h => unarmed_printing_ne (State.whenOn_un _ _ (fun h => by simp [h]) h)) h e

theorem execWebAtRest_np (dt : Nat) (s t : State) (h : Unarmed s.ident.opState) (e : execWebAtRest dt s = .next t) :
    t.ident.opState ≠ .printing :=
  perform_np _ _ _ _ _ (fun s h => unarmed_printing_ne (State.whenOn_un _ _ (fun h => by simp [h]) h)) h e

theorem execCeiling_np (dt : Nat) (s t : State) (h : Unarmed s.ident.opState) (e : execCeiling dt s = .next t) :
    t.ident.opState ≠ .printing :=
  perform_np _ _ _ _ _ (fun s h => unarmed_printing_ne (State.whenOn_un _ _ (fun h => by simp [h]) h)) h e

theorem execResumeBegin_np (dt : Nat) (s t : State) (h : Unarmed s.ident.opState) (e : execResumeBegin dt s = .next t) :
    t.ident.opState ≠ .printing :=
  perform_np _ _ _ _ _ (fun s h => unarmed_printing_ne (State.whenOn_un _ _ (fun h => by simp [h]) h)) h e

theorem execRejectEdge_np (dt : Nat) (s t : State) (h : Unarmed s.ident.opState) (e : execRejectEdge dt s = .next t) :
    t.ident.opState ≠ .printing :=
  perform_np _ _ _ _ _ (fun s h => unarmed_printing_ne (State.whenOn_un _ _ (fun h => by simp [h]) h)) h e

theorem execQuantaLostReport_np (dt : Nat) (w : Nat) (s t : State) (h : Unarmed s.ident.opState) (e : execQuantaLostReport dt w s = .next t) :
    t.ident.opState ≠ .printing :=
  perform_np _ _ _ _ _ (fun s h => unarmed_printing_ne (State.whenOn_un _ _ (fun h => by simp [h]) h)) h e

theorem execSaturationReport_np (dt : Nat) (w : Nat) (s t : State) (h : Unarmed s.ident.opState) (e : execSaturationReport dt w s = .next t) :
    t.ident.opState ≠ .printing :=
  perform_np _ _ _ _ _ (fun s h => unarmed_printing_ne (State.whenOn_un _ _ (fun h => by simp [h]) h)) h e

theorem execActionPulseEnd_np (dt : Nat) (output : Nat) (s t : State) (h : Unarmed s.ident.opState) (e : execActionPulseEnd dt output s = .next t) :
    t.ident.opState ≠ .printing :=
  perform_np _ _ _ _ _ (fun s h => unarmed_printing_ne (State.whenOn_un _ _ (fun h => by simp [h]) h)) h e

theorem execMarkEdge_np (dt : Nat) (run : MarkRun) (s t : State) (h : Unarmed s.ident.opState) (e : execMarkEdge dt run s = .next t) :
    t.ident.opState ≠ .printing :=
  perform_np _ _ _ _ _ (fun s h => unarmed_printing_ne (State.whenOn_un _ _ (fun h => by simp [h]) h)) h e

theorem execMarkMiss_np (dt : Nat) (k : Nat) (s t : State) (h : Unarmed s.ident.opState) (e : execMarkMiss dt k s = .next t) :
    t.ident.opState ≠ .printing :=
  perform_np _ _ _ _ _ (fun s h => unarmed_printing_ne (State.whenOn_un _ _ (fun h => by simp [h]) h)) h e

theorem execPositionChange_np (dt : Nat) (enc : Nat) (inp : EncIn) (s t : State) (h : Unarmed s.ident.opState) (e : execPositionChange dt enc inp s = .next t) :
    t.ident.opState ≠ .printing :=
  perform_np _ _ _ _ _ (fun s h => unarmed_printing_ne (State.whenOn_un _ _ (fun h => by simp [h]) h)) h e

theorem execIllegalTransition_np (dt : Nat) (enc : Nat) (a : Bool) (b : Bool) (run : Held) (s t : State) (h : Unarmed s.ident.opState) (e : execIllegalTransition dt enc a b run s = .next t) :
    t.ident.opState ≠ .printing :=
  perform_np _ _ _ _ _ (fun s h => unarmed_printing_ne (State.whenOn_un _ _ (fun h => by simp [h]) h)) h e

theorem execRadiusFault_np (dt : Nat) (enc : Nat) (samples : List (Int × Int)) (s t : State) (h : Unarmed s.ident.opState) (e : execRadiusFault dt enc samples s = .next t) :
    t.ident.opState ≠ .printing :=
  perform_np _ _ _ _ _ (fun s h => unarmed_printing_ne (State.whenOn_un _ _ (fun h => foldl_un _ _ _ (fun s a h => by simp [h]) h) h)) h e

theorem execIndex_np (dt : Nat) (enc : Nat) (pins : Pins) (s t : State) (h : Unarmed s.ident.opState) (e : execIndex dt enc pins s = .next t) :
    t.ident.opState ≠ .printing :=
  perform_np _ _ _ _ _ (fun s h => unarmed_printing_ne (State.whenOn_un _ _ (fun h => by simp [h]) h)) h e

theorem execMissingIndex_np (dt : Nat) (enc : Nat) (s t : State) (h : Unarmed s.ident.opState) (e : execMissingIndex dt enc s = .next t) :
    t.ident.opState ≠ .printing :=
  perform_np _ _ _ _ _ (fun s h => unarmed_printing_ne (State.whenOn_un _ _ (fun h => by simp [h]) h)) h e

theorem execPairStatusChange_np (dt : Nat) (enc : Nat) (k : Nat) (v : PairIn) (s t : State) (h : Unarmed s.ident.opState) (e : execPairStatusChange dt enc k v s = .next t) :
    t.ident.opState ≠ .printing :=
  perform_np _ _ _ _ _ (fun s h => unarmed_printing_ne (State.whenOn_un _ _ (fun h => by simp [h]) h)) h e

theorem execHallChange_np (dt : Nat) (run : HallRun) (s t : State) (h : Unarmed s.ident.opState) (e : execHallChange dt run s = .next t) :
    t.ident.opState ≠ .printing :=
  perform_np _ _ _ _ _ (fun s h => unarmed_printing_ne (by simp [h])) h e

theorem execCheckWindow_np (dt : Nat) (s t : State) (h : Unarmed s.ident.opState) (e : execCheckWindow dt s = .next t) :
    t.ident.opState ≠ .printing :=
  perform_np _ _ _ _ _ (fun s h => unarmed_printing_ne (State.whenOn_un _ _ (fun h => by simp [h]) h)) h e

theorem execSupplyOverload_np (dt : Nat) (supply : SupplyIn) (s t : State) (h : Unarmed s.ident.opState) (e : execSupplyOverload dt supply s = .next t) :
    t.ident.opState ≠ .printing :=
  perform_np _ _ _ _ _ (fun s h => unarmed_printing_ne (by simp [h])) h e

theorem execIllegalTransitionReport_np (dt : Nat) (enc : Nat) (s t : State) (h : Unarmed s.ident.opState) (e : execIllegalTransitionReport dt enc s = .next t) :
    t.ident.opState ≠ .printing :=
  perform_np _ _ _ _ _ (fun s h => unarmed_printing_ne (State.whenOn_un _ _ (fun h => by simp [h]) h)) h e

theorem execHallReport_np (dt : Nat) (s t : State) (h : Unarmed s.ident.opState) (e : execHallReport dt s = .next t) :
    t.ident.opState ≠ .printing :=
  perform_np _ _ _ _ _ (fun s h => unarmed_printing_ne (State.whenOn_un _ _ (fun h => by simp [h]) h)) h e

theorem execIdent_np (dt : Nat) (r : ZReq) (s t : State) (h : Unarmed s.ident.opState) (e : execIdent dt r s = .next t) :
    t.ident.opState ≠ .printing :=
  perform_np _ _ _ _ _ (fun s h => unarmed_printing_ne (by simp [h])) h e

theorem execStatus_np (dt : Nat) (r : ZReq) (s t : State) (h : Unarmed s.ident.opState) (e : execStatus dt r s = .next t) :
    t.ident.opState ≠ .printing :=
  perform_np _ _ _ _ _ (fun s h => unarmed_printing_ne (by simp [h])) h e

theorem execZarnetrumTemps_np (dt : Nat) (r : ZReq) (s t : State) (h : Unarmed s.ident.opState) (e : execZarnetrumTemps dt r s = .next t) :
    t.ident.opState ≠ .printing :=
  perform_np _ _ _ _ _ (fun s h => unarmed_printing_ne (by simp [h])) h e

theorem execPair_np (dt : Nat) (r : ZReq) (s t : State) (h : Unarmed s.ident.opState) (e : execPair dt r s = .next t) :
    t.ident.opState ≠ .printing :=
  perform_np _ _ _ _ _ (fun s h => unarmed_printing_ne (by simp [h])) h e

theorem execSettings_np (dt : Nat) (r : ZReq) (s t : State) (h : Unarmed s.ident.opState) (e : execSettings dt r s = .next t) :
    t.ident.opState ≠ .printing :=
  perform_np _ _ _ _ _ (fun s h => unarmed_printing_ne (by simp [h])) h e

theorem execPowerOn_np (dt : Nat) (r : ZReq) (s t : State) (h : Unarmed s.ident.opState) (e : execPowerOn dt r s = .next t) :
    t.ident.opState ≠ .printing :=
  perform_np _ _ _ _ _ (fun s h => unarmed_printing_ne (by simp [h])) h e

theorem execPowerOff_np (dt : Nat) (r : ZReq) (ack : Bool) (s t : State) (h : Unarmed s.ident.opState) (e : execPowerOff dt r ack s = .next t) :
    t.ident.opState ≠ .printing :=
  perform_np _ _ _ _ _ (fun s h => unarmed_printing_ne (by simp [h])) h e

theorem execPowerCycle_np (dt : Nat) (r : ZReq) (ack : Bool) (s t : State) (h : Unarmed s.ident.opState) (e : execPowerCycle dt r ack s = .next t) :
    t.ident.opState ≠ .printing :=
  perform_np _ _ _ _ _ (fun s h => unarmed_printing_ne (by simp [h])) h e

theorem execRestReq_np (dt : Nat) (r : ZReq) (ack : Bool) (s t : State) (h : Unarmed s.ident.opState) (e : execRestReq dt r ack s = .next t) :
    t.ident.opState ≠ .printing :=
  perform_np _ _ _ _ _ (fun s h => unarmed_printing_ne (by simp [h])) h e

theorem execForce_np (dt : Nat) (r : ZReq) (s t : State) (h : Unarmed s.ident.opState) (e : execForce dt r s = .next t) :
    t.ident.opState ≠ .printing :=
  perform_np _ _ _ _ _ (fun s h => unarmed_printing_ne (by simp [h])) h e

theorem execLockoutClear_np (dt : Nat) (r : ZReq) (s t : State) (h : Unarmed s.ident.opState) (e : execLockoutClear dt r s = .next t) :
    t.ident.opState ≠ .printing :=
  perform_np _ _ _ _ _ (fun s h => unarmed_printing_ne (by simp [h])) h e

theorem execLogInfo_np (dt : Nat) (r : ZReq) (s t : State) (h : Unarmed s.ident.opState) (e : execLogInfo dt r s = .next t) :
    t.ident.opState ≠ .printing :=
  perform_np _ _ _ _ _ (fun s h => unarmed_printing_ne (by simp [h])) h e

theorem execLogRead_np (dt : Nat) (r : ZReq) (s t : State) (h : Unarmed s.ident.opState) (e : execLogRead dt r s = .next t) :
    t.ident.opState ≠ .printing :=
  perform_np _ _ _ _ _ (fun s h => unarmed_printing_ne (by simp [h])) h e

theorem execFwOpen_np (dt : Nat) (r : ZReq) (s t : State) (h : Unarmed s.ident.opState) (e : execFwOpen dt r s = .next t) :
    t.ident.opState ≠ .printing :=
  perform_np _ _ _ _ _ (fun s h => unarmed_printing_ne (by simp [h])) h e

theorem execFwData_np (dt : Nat) (r : ZReq) (s t : State) (h : Unarmed s.ident.opState) (e : execFwData dt r s = .next t) :
    t.ident.opState ≠ .printing :=
  perform_np _ _ _ _ _ (fun s h => unarmed_printing_ne (by simp [h])) h e

theorem execFwClose_np (dt : Nat) (r : ZReq) (s t : State) (h : Unarmed s.ident.opState) (e : execFwClose dt r s = .next t) :
    t.ident.opState ≠ .printing :=
  perform_np _ _ _ _ _ (fun s h => unarmed_printing_ne (by simp [h])) h e

theorem execFwSelect_np (dt : Nat) (r : ZReq) (s t : State) (h : Unarmed s.ident.opState) (e : execFwSelect dt r s = .next t) :
    t.ident.opState ≠ .printing :=
  perform_np _ _ _ _ _ (fun s h => unarmed_printing_ne (by simp [h])) h e

theorem execFwSessionTimeout_np (dt : Nat) (s t : State) (h : Unarmed s.ident.opState) (e : execFwSessionTimeout dt s = .next t) :
    t.ident.opState ≠ .printing :=
  perform_np _ _ _ _ _ (fun s h => unarmed_printing_ne (by simp [h])) h e

theorem execAlertResponse_np (dt : Nat) (s t : State) (h : Unarmed s.ident.opState) (e : execAlertResponse dt s = .next t) :
    t.ident.opState ≠ .printing :=
  perform_np _ _ _ _ _ (fun s h => unarmed_printing_ne (by simp [h])) h e

theorem execStatusMirrorCopy_np (dt : Nat) (s t : State) (h : Unarmed s.ident.opState) (e : execStatusMirrorCopy dt s = .next t) :
    t.ident.opState ≠ .printing :=
  perform_np _ _ _ _ _ (fun s h => unarmed_printing_ne (by simp [h])) h e

theorem execLogCommit_np (dt : Nat) (s t : State) (h : Unarmed s.ident.opState) (e : execLogCommit dt s = .next t) :
    t.ident.opState ≠ .printing :=
  perform_np _ _ _ _ _ (fun s h => unarmed_printing_ne (by simp [h])) h e

theorem execTamper_np (dt : Nat) (s t : State) (h : Unarmed s.ident.opState) (e : execTamper dt s = .next t) :
    t.ident.opState ≠ .printing :=
  perform_np _ _ _ _ _ (fun s h => unarmed_printing_ne (by simp [h])) h e

theorem execFlashRefresh_np (dt : Nat) (bad : List Nat) (s t : State) (h : Unarmed s.ident.opState) (e : execFlashRefresh dt bad s = .next t) :
    t.ident.opState ≠ .printing :=
  perform_np _ _ _ _ _ (fun s h => unarmed_printing_ne (by simp [h])) h e

theorem execUnknownOp_np (dt : Nat) (r : ZReq) (op : Nat) (s t : State) (h : Unarmed s.ident.opState) (e : execUnknownOp dt r op s = .next t) :
    t.ident.opState ≠ .printing :=
  perform_np _ _ _ _ _ (fun s h => unarmed_printing_ne (by simp [h])) h e

theorem execRequestDiscarded_np (dt : Nat) (frame : ZFrame) (s t : State) (h : Unarmed s.ident.opState) (e : execRequestDiscarded dt frame s = .next t) :
    t.ident.opState ≠ .printing :=
  perform_np _ _ _ _ _ (fun s h => unarmed_printing_ne (by simp [h])) h e

end Sys2Proof.Machine
end

