-- ==== Sys2Proof/Laws/StoreUnits.lean ====
section
/-! SUPPORT. What leaves the memories alone or keeps them canonical: the units below the press: records, memory, DMA, screening, lamps, thermal. -/

namespace Sys2Proof.Machine

open Sys2Proof

-- The terms of a step are records inside records, deeper than the default allows.
set_option maxRecDepth 4000

@[simp] theorem State.tieSendAll_store (from_ cls : Nat) (l : List (List Int)) (s : State) : (State.tieSendAll from_ cls l s).store = s.store := by
  simp [State.tieSendAll]

@[simp] theorem State.tieOut_store (u : Nat × Nat × List Int) (s : State) : (State.tieOut u s).store = s.store := by
  simp [State.tieOut]

@[simp] theorem State.tieFlush_store (s : State) : (State.tieFlush s).store = s.store := by
  simp [State.tieFlush]

@[simp] theorem State.buttSend_store (o : Out) (s : State) : (State.buttSend o s).store = s.store := by
  simp [State.buttSend]

@[simp] theorem State.buttFlush_store (s : State) : (State.buttFlush s).store = s.store := by
  simp [State.buttFlush]

@[simp] theorem State.fresh_store (s : State) : (State.fresh s).2.store = s.store := by
  simp [State.fresh]

@[simp] theorem State.roundFree_store (n d : Nat) (s : State) : (State.roundFree n d s).2.store = s.store := by
  unfold State.roundFree; (repeat' split) <;> simp

@[simp] theorem State.alert_store (k : Nat) (s : State) : (State.alert k s).store = s.store := by
  simp [State.alert]

@[simp] theorem State.commitEv_store (late : Bool) (s : State) (e : Ev) : (State.commitEv late s e).store = s.store := by
  simp [State.commitEv]

@[simp] theorem State.queueRecord_store (e : Ev) (s : State) : (State.queueRecord e s).store = s.store := by
  simp [State.queueRecord]

@[simp] theorem State.putRecord_store (e : Ev) (s : State) : (State.putRecord e s).store = s.store := by
  simp [State.putRecord]

@[simp] theorem State.emit_store (source code : Nat) (detail : Int) (data : List Int) (s : State) : (State.emit source code detail data s).store = s.store := by
  simp [State.emit]

@[simp] theorem State.message_store (f v : Nat) (s : State) : (State.message f v s).store = s.store := by
  simp [State.message]

@[simp] theorem State.raise_store (f v : Nat) (s : State) : (State.raise f v s).store = s.store := by
  simp [State.raise]

@[simp] theorem State.raiseBoth_store (v : Nat) (s : State) : (State.raiseBoth v s).store = s.store := by
  simp [State.raiseBoth]

@[simp] theorem State.startTime_store (s : State) : (State.startTime s).store = s.store := by
  simp [State.startTime]

@[simp] theorem State.enter_store (o : OpState) (s : State) : (State.enter o s).store = s.store := by
  simp [State.enter]



@[simp] theorem State.respond_store (c : Nat) (r : Reply) (s : State) : (State.respond c r s).store = s.store := by
  simp only [State.respond]; (repeat' split) <;> simp

@[simp] theorem State.rebase_store (s : State) : (State.rebase s).store = s.store := by
  simp [State.rebase]



/-- Every module memory of a canonical store is canonical. -/
theorem State.mem_wf (s : State) (w t : Nat) (h : s.store.ok) : (s.mem w t).wf = true := by
  obtain ⟨_, h1, h2, h3, h4, h5, h6⟩ := h
  unfold State.mem
  split <;> assumption

theorem State.setMem_ok (w t : Nat) (m : Mem) (s : State) (h : s.store.ok) (hm : m.wf = true) : (State.setMem w t m s).store.ok := by
  obtain ⟨h0, h1, h2, h3, h4, h5, h6⟩ := h
  unfold State.setMem
  split <;> simp only [Store.ok] <;> simp [*]

@[simp] theorem State.storeWrite_ok (w t addr : Nat) (bytes : List Nat) (s : State) (h : s.store.ok) : (State.storeWrite w t addr bytes s).store.ok := by
  exact State.setMem_ok _ _ _ _ h (Mem.write_wf _ _ (State.mem_wf _ _ _ h))

@[simp] theorem State.hostWrite_ok (addr : Nat) (bytes : List Nat) (s : State) (h : s.store.ok) : (State.hostWrite addr bytes s).store.ok := by
  exact ⟨Mem.write_wf addr bytes h.1, h.2⟩

@[simp] theorem State.hostLoad_ok (l : List (Nat × List Nat)) (s : State) (h : s.store.ok) : (State.hostLoad l s).store.ok := by
  exact foldl_ok _ _ _ (fun s a h => State.hostWrite_ok _ _ _ h) h

@[simp] theorem State.growChain_store (id c w n : Nat) (s : State) : (State.growChain id c w n s).store = s.store := by
  unfold State.growChain; (repeat' split) <;> simp

@[simp] theorem State.returnExtents_store (id w : Nat) (s : State) : (State.returnExtents id w s).store = s.store := by
  unfold State.returnExtents; (repeat' split) <;> simp

@[simp] theorem State.chainWriteGo_ok (w : Nat) (l : List (Nat × Nat)) (x0 : Nat) (x1 : Nat) (x2 : List Nat) (s : State) (h : s.store.ok) : (State.chainWriteGo w l x0 x1 x2 s).store.ok := by
  induction x0 generalizing x1 x2 s with
  | zero => exact h
  | succ n ih =>
    unfold State.chainWriteGo
    split
    · exact h
    · exact ih _ _ _ (State.storeWrite_ok _ _ _ _ _ h)

@[simp] theorem State.chainWrite_ok (w : Nat) (l : List (Nat × Nat)) (off : Nat) (bytes : List Nat) (s : State) (h : s.store.ok) : (State.chainWrite w l off bytes s).store.ok := by
  simp [State.chainWrite, h]

@[simp] theorem State.dropLines_store (w job fluid line n : Nat) (s : State) : (State.dropLines w job fluid line n s).store = s.store := by
  simp [State.dropLines]

@[simp] theorem State.addLines_store (ls : List Line) (s : State) : (State.addLines ls s).store = s.store := by
  simp [State.addLines]

@[simp] theorem State.keepStrips_ok (f : Nat) (d : Desc) (j : Job) (s : State) (h : s.store.ok) : (State.keepStrips f d j s).store.ok := by
  unfold State.keepStrips
  split
  · exact h
  · dsimp only
    split
    · simp [h]
    · simp only [State.addLines_store]
      exact State.chainWrite_ok _ _ _ _ _ (by simp [h])

@[simp] theorem State.keepRaw_ok (f : Nat) (d : Desc) (j : Job) (s : State) (h : s.store.ok) : (State.keepRaw f d j s).store.ok := by
  unfold State.keepRaw
  dsimp only
  split
  · simp [h]
  · simp only [State.addLines_store]
    exact foldl_ok _ _ _ (fun s a h => State.chainWrite_ok _ _ _ _ _ h) (by simp [h])

@[simp] theorem State.keepCompressed_ok (f : Nat) (d : Desc) (j : Job) (s : State) (h : s.store.ok) : (State.keepCompressed f d j s).store.ok := by
  unfold State.keepCompressed
  dsimp only
  split
  · simp [h]
  · simp only [State.addLines_store]
    exact foldl_ok _ _ _ (fun s a h => foldl_ok _ _ _ (fun s a h => State.chainWrite_ok _ _ _ _ _ h) h) (by simp [h])

@[simp] theorem State.deliver_ok (f : Nat) (d : Desc) (s : State) (h : s.store.ok) : (State.deliver f d s).store.ok := by
  simp only [State.deliver]; (repeat' split) <;> simp_all

@[simp] theorem State.claimExtents_store (id : Nat) (s : State) : (State.claimExtents id s).store = s.store := by
  unfold State.claimExtents; (repeat' split) <;> simp

@[simp] theorem State.memRecord_store (w t addr effect : Nat) (s : State) : (State.memRecord w t addr effect s).store = s.store := by
  simp [State.memRecord]

@[simp] theorem State.freeBytes_store (n : Nat) (s : State) : (State.freeBytes n s).2.store = s.store := by
  induction n generalizing s with
  | zero => rfl
  | succ n ih => simp only [State.freeBytes, ih]; rfl
@[simp] theorem State.dumpRequest_ok (f : Nat) (d : Desc) (s : State) (r : Nat × Nat) (h : s.store.ok) : (State.dumpRequest f d s r).store.ok := by
  simp [State.dumpRequest, h]

@[simp] theorem State.dump_ok (f : Nat) (d : Desc) (s : State) (h : s.store.ok) : (State.dump f d s).1.store.ok := by
  unfold State.dump
  dsimp only
  split
  · exact State.dumpRequest_ok _ _ _ _ h
  · split
    · exact State.hostWrite_ok _ _ _ (by simp [h])
    · simp [h]

@[simp] theorem State.fetchDesc_store (f c : Nat) (s : State) : (State.fetchDesc f c s).store = s.store := by
  simp [State.fetchDesc]

@[simp] theorem State.serve_ok (f c : Nat) (s : State) (h : s.store.ok) : (State.serve f c s).1.store.ok := by
  simp only [State.serve]; (repeat' split) <;> simp_all

@[simp] theorem State.pumpGo_ok (f : Nat) (x0 : Nat) (x1 : Nat) (s : State) (h : s.store.ok) : (State.pumpGo f x0 x1 s).store.ok := by
  induction x0 generalizing x1 s with
  | zero => exact h
  | succ n ih =>
    unfold State.pumpGo
    split
    · exact h
    · simp only []
      exact ih _ _ (by simp [State.serve_ok _ _ _ h])

@[simp] theorem State.pump_ok (f : Nat) (s : State) (h : s.store.ok) : (State.pump f s).store.ok := by
  simp [State.pump, h]

@[simp] theorem State.chanError_store (f c : Nat) (result detail : Nat) (s : State) : (State.chanError f c result detail s).store = s.store := by
  simp [State.chanError]

@[simp] theorem State.chanEnable_ok (f c : Nat) (s : State) (h : s.store.ok) : (State.chanEnable f c s).store.ok := by
  simp only [State.chanEnable]; (repeat' split) <;> simp_all

@[simp] theorem State.giveBack_store (f : Nat) (s : State) (d : Desc) : (State.giveBack f s d).store = s.store := by
  unfold State.giveBack; (repeat' split) <;> simp

@[simp] theorem State.dropStaged_store (f c : Nat) (s : State) : (State.dropStaged f c s).store = s.store := by
  simp [State.dropStaged]

@[simp] theorem State.abortDone_store (f c : Nat) (s : State) : (State.abortDone f c s).store = s.store := by
  simp [State.abortDone]

@[simp] theorem State.chanAbort_store (f c : Nat) (rest : Bool) (s : State) : (State.chanAbort f c rest s).store = s.store := by
  simp only [State.chanAbort]; (repeat' split) <;> simp

@[simp] theorem State.chanDisable_store (f c : Nat) (s : State) : (State.chanDisable f c s).store = s.store := by
  simp only [State.chanDisable]; (repeat' split) <;> simp

@[simp] theorem State.abortAll_store (s : State) : (State.abortAll s).store = s.store := by
  simp [State.abortAll]

@[simp] theorem State.disableAll_store (f : Nat) (s : State) : (State.disableAll f s).store = s.store := by
  simp [State.disableAll]

@[simp] theorem State.tailWrite_ok (f c v : Nat) (s : State) (h : s.store.ok) : (State.tailWrite f c v s).store.ok := by
  simp only [State.tailWrite]; (repeat' split) <;> simp_all

@[simp] theorem State.ringBaseWrite_store (f c v : Nat) (s : State) : (State.ringBaseWrite f c v s).store = s.store := by
  unfold State.ringBaseWrite; (repeat' split) <;> simp

@[simp] theorem State.spoilBurst_ok (f off : Nat) (d : Desc) (s : State) (h : s.store.ok) : (State.spoilBurst f off d s).store.ok := by
  simp only [State.spoilBurst]; (repeat' split) <;> (try simp [h]) <;> (try (refine foldl_ok _ _ _ ?_ ?_)) <;> (try intro s a h) <;> (repeat' split) <;> simp_all

@[simp] theorem State.admitRecord_store (f : Nat) (d : Desc) (e : AdmitFail) (s : State) : (State.admitRecord f d e s).store = s.store := by
  simp [State.admitRecord]

@[simp] theorem State.compress_store (f c i : Nat) (d : Desc) (j : Job) (s : State) : (State.compress f c i d j s).store = s.store := by
  simp only [State.compress]; (repeat' split) <;> simp

@[simp] theorem State.judgeDesc_ok (f c i : Nat) (s : State) (h : s.store.ok) : (State.judgeDesc f c i s).store.ok := by
  simp only [State.judgeDesc]; (repeat' split) <;> simp_all

@[simp] theorem State.complete_ok (f c k err : Nat) (beat : Bool) (runMin : Nat) (s : State) (h : s.store.ok) : (State.complete f c k err beat runMin s).store.ok := by
  unfold State.complete
  dsimp only
  split
  · exact h
  · refine State.pump_ok _ _ ?_
    have key : ∀ u : State, u.store.ok → (if (u.ch f c).st = .running then
        (List.range (u.ch f c).descs.length).foldl (fun s i => s.judgeDesc f c i) u else u.abortDone f c).store.ok := by
      intro u hu
      split
      · exact foldl_ok _ _ _ (fun s a h => State.judgeDesc_ok _ _ _ _ h) hu
      · rw [State.abortDone_store]; exact hu
    exact key _ (by rw [State.modCh_store]; exact h)

@[simp] theorem State.endDesc_ok (f c : Nat) (s : State) (h : s.store.ok) : (State.endDesc f c s).1.store.ok := by
  unfold State.endDesc
  dsimp only
  split
  · exact h
  · split
    · exact h
    · split
      · exact h
      · split
        · split
          · simp [h]
          · cases hj : s.job _ <;> simp [h]
        · have h1 : ∀ (a : Nat) (b : List Nat), (s.hostWrite a b).store.ok := fun a b => State.hostWrite_ok a b s h
          exact State.pump_ok _ _ (by (repeat' split) <;> simp [h1])

@[simp] theorem State.admission_store (f c : Nat) (s : State) : (State.admission f c s).store = s.store := by
  simp only [State.admission]; (repeat' split) <;> simp

@[simp] theorem State.compressResume_ok (job : Nat) (s : State) (h : s.store.ok) : (State.compressResume job s).store.ok := by
  unfold State.compressResume
  dsimp only
  split
  · refine State.pump_ok _ _ (State.pump_ok _ _ (foldl_ok _ _ _ (fun s a h => ?_) (by simp [h])))
    split <;> simp [h]
  · exact h

@[simp] theorem State.ownReads_store (f : Nat) (x0 : Nat) (x1 : Nat) (s : State) : (State.ownReads f x0 x1 s).store = s.store := by
  induction x0 generalizing x1 s with
  | zero => rfl
  | succ n ih =>
    unfold State.ownReads
    dsimp only
    split
    · rfl
    · rw [ih]; simp

@[simp] theorem State.ownChannel_store (f c n : Nat) (s : State) : (State.ownChannel f c n s).store = s.store := by
  simp [State.ownChannel]

@[simp] theorem State.ownFetch_store (n0 n1 : Nat) (s : State) : (State.ownFetch n0 n1 s).store = s.store := by
  simp [State.ownFetch]

@[simp] theorem State.ownError_store (f c : Nat) (s : State) : (State.ownError f c s).store = s.store := by
  simp [State.ownError]

@[simp] theorem State.bar2Write_ok (f off : Nat) (bytes : List Nat) (s : State) (h : s.store.ok) : (State.bar2Write f off bytes s).store.ok := by
  unfold State.bar2Write
  simp only []
  split
  · simp [h]
  · exact State.setMem_ok _ _ _ _ h (Mem.write_wf _ _ (State.mem_wf _ _ _ h))



@[simp] theorem State.sendUnit_store (l prio kind : Nat) (data : List Nat) (s : State) : (State.sendUnit l prio kind data s).store = s.store := by
  simp [State.sendUnit]

@[simp] theorem State.sendLease_store (lanes : List Nat) (op epoch tLease course : Nat) (s : State) : (State.sendLease lanes op epoch tLease course s).store = s.store := by
  simp [State.sendLease]

@[simp] theorem State.unitData_store (l : Nat) (u : TxUnit) (start : Nat) (s : State) : (State.unitData l u start s).2.store = s.store := by
  unfold State.unitData; (repeat' split) <;> simp

@[simp] theorem State.laneBegin_store (limit l : Nat) (s : State) : (State.laneBegin limit l s).store = s.store := by
  unfold State.laneBegin
  split
  · rfl
  · rw [State.send_store, State.modLane_store, State.unitData_store]
    split
    · rfl
    · rw [State.send_store]

@[simp] theorem State.lanesBegin_store (limit : Nat) (s : State) : (State.lanesBegin limit s).store = s.store := by
  unfold State.lanesBegin
  split
  · rfl
  · exact foldl_store _ _ _ (fun s l => foldl_store _ _ _ (fun s a => State.laneBegin_store _ _ _))

@[simp] theorem State.sendConfig_store (id : Nat) (s : State) : (State.sendConfig id s).store = s.store := by
  unfold State.sendConfig; (repeat' split) <;> simp

@[simp] theorem State.restOn_store (lanes : List Nat) (s : State) : (State.restOn lanes s).store = s.store := by
  simp [State.restOn]

@[simp] theorem State.sendRest_store (s : State) : (State.sendRest s).store = s.store := by
  simp [State.sendRest]

@[simp] theorem State.sendAcquire_store (id port : Nat) (s : State) : (State.sendAcquire id port s).store = s.store := by
  simp [State.sendAcquire]

@[simp] theorem State.sendAll_store (l : List Out) (s : State) : (State.sendAll l s).store = s.store := by
  simp [State.sendAll]

@[simp] theorem State.encDrain_store (s : State) : (State.encDrain s).store = s.store := by
  simp [State.encDrain]

@[simp] theorem State.encOut_store (d : Int) (s : State) : (State.encOut d s).store = s.store := by
  simp [State.encOut]

@[simp] theorem State.newWindow_store (s : State) : (State.newWindow s).store = s.store := by
  simp [State.newWindow]

@[simp] theorem State.encOutLow_store (s : State) : (State.encOutLow s).store = s.store := by
  simp [State.encOutLow]



@[simp] theorem State.setCeil_store (s : State) : (State.setCeil s).store = s.store := by
  simp [State.setCeil]

@[simp] theorem State.forceStep_store (s : State) : (State.forceStep s).store = s.store := by
  simp [State.forceStep]



@[simp] theorem State.buttRecord_store (code : Nat) (detail : Int) (data : List Int) (s : State) : (State.buttRecord code detail data s).store = s.store := by
  simp [State.buttRecord]

@[simp] theorem State.endSwap_store (s : State) : (State.endSwap s).store = s.store := by
  unfold State.endSwap; (repeat' split) <;> simp

@[simp] theorem State.setRole_store (r : PairRole) (s : State) : (State.setRole r s).store = s.store := by
  simp [State.setRole]

@[simp] theorem State.mirrorSet_store (ok : Bool) (reason : Nat) (s : State) : (State.mirrorSet ok reason s).store = s.store := by
  simp [State.mirrorSet]

@[simp] theorem State.setMirror_store (ok : Bool) (reason : Nat) (s : State) : (State.setMirror ok reason s).store = s.store := by
  simp [State.setMirror]

@[simp] theorem State.releaseAll_store (s : State) : (State.releaseAll s).store = s.store := by
  simp [State.releaseAll]

@[simp] theorem State.dwell_store (k v : Nat) (s : State) : (State.dwell k v s).2.store = s.store := by
  simp [State.dwell]

@[simp] theorem State.sendHandover_store (fDone : Nat) (oneMore : Bool) (cause : Nat) (s : State) : (State.sendHandover fDone oneMore cause s).store = s.store := by
  simp [State.sendHandover]

@[simp] theorem State.pairAtRest_store (bits : List Nat) (s : State) : (State.pairAtRest bits s).store = s.store := by
  unfold State.pairAtRest; (repeat' split) <;> simp

@[simp] theorem State.cancelActions_store (s : State) : (State.cancelActions s).store = s.store := by
  simp [State.cancelActions]

@[simp] theorem State.endPendRest_store (o : OpState) (s : State) : (State.endPendRest o s).store = s.store := by
  unfold State.endPendRest; (repeat' split) <;> simp

@[simp] theorem State.setNozzles_store  (x0 : List (Nat × Nat)) (s : State) : (State.setNozzles x0 s).1.store = s.store := by
  induction x0 generalizing s with
  | nil => rfl
  | cons e es ih =>
    obtain ⟨i, v⟩ := e
    simp only [State.setNozzles, ih]

@[simp] theorem State.applyNoz_store (c : NozChg) (s : State) : (State.applyNoz c s).store = s.store := by
  unfold State.applyNoz; simp

@[simp] theorem State.applyAllNoz_store (s : State) : (State.applyAllNoz s).store = s.store := by
  simp [State.applyAllNoz]

@[simp] theorem State.endJobs_store (s : State) : (State.endJobs s).store = s.store := by
  simp [State.endJobs]

@[simp] theorem State.lampsAtRest_store (s : State) : (State.lampsAtRest s).store = s.store := by
  simp [State.lampsAtRest]

@[simp] theorem State.calAtRest_store (s : State) : (State.calAtRest s).store = s.store := by
  simp [State.calAtRest]

@[simp] theorem State.calStop_store (bs : List Nat) (s : State) : (State.calStop bs s).store = s.store := by
  simp [State.calStop]

@[simp] theorem State.motionAtRest_store (s : State) : (State.motionAtRest s).store = s.store := by
  simp [State.motionAtRest]

@[simp] theorem State.restActions_store (o : OpState) (bits : List Nat) (s : State) : (State.restActions o bits s).store = s.store := by
  unfold State.restActions
  dsimp only
  split <;> split <;>
    simp only [State.abortAll_store, State.sendRest_store, State.pairAtRest_store, State.endPendRest_store, State.cancelActions_store, State.applyAllNoz_store, State.endJobs_store, State.forceStep_store, State.lampsAtRest_store, State.calAtRest_store, State.motionAtRest_store, State.buttSend_store]

@[simp] theorem State.enterRest_store (o : OpState) (bits : List Nat) (s : State) : (State.enterRest o bits s).store = s.store := by
  simp [State.enterRest]

@[simp] theorem State.causeRecord_store (acts : Bool) (p : Nat × Nat) (s : State) : (State.causeRecord acts p s).store = s.store := by
  simp [State.causeRecord]

@[simp] theorem State.registerCauses_store (l : List (Nat × Nat)) (s : State) : (State.registerCauses l s).store = s.store := by
  unfold State.registerCauses; (repeat' split) <;> (try simp) <;> (refine foldl_store _ _ _ ?_) <;> intro s a <;> (repeat' split) <;> simp

@[simp] theorem State.cause_store (bit reason : Nat) (s : State) : (State.cause bit reason s).store = s.store := by
  unfold State.cause; (repeat' split) <;> simp

@[simp] theorem State.recheck_store (old : List (Nat × Nat)) (s : State) : (State.recheck old s).store = s.store := by
  unfold State.recheck; (repeat' split) <;> simp

@[simp] theorem State.camLevels_store (old : Sec) (s : State) : (State.camLevels old s).store = s.store := by
  simp [State.camLevels]

@[simp] theorem State.timeRecord_store (code : Nat) (detail : Int) (data : List Int) (s : State) : (State.timeRecord code detail data s).store = s.store := by
  simp [State.timeRecord]

@[simp] theorem State.trimTo_store (goal : Option Int) (s : State) : (State.trimTo goal s).store = s.store := by
  simp [State.trimTo]

@[simp] theorem State.servoTo_store (st : Servo) (reason : Nat) (s : State) : (State.servoTo st reason s).store = s.store := by
  simp [State.servoTo]

@[simp] theorem State.refuseStep_store (mean : Int) (s : State) : (State.refuseStep mean s).store = s.store := by
  simp [State.refuseStep]

@[simp] theorem State.steer_store (s : State) : (State.steer s).store = s.store := by
  simp [State.steer]

@[simp] theorem State.askStep_store (r : Int × Option Nat × Nat × Nat × Nat) (s : State) : (State.askStep r s).store = s.store := by
  simp [State.askStep]

@[simp] theorem State.acquireSample_store (o : Int) (limit : Nat) (s : State) : (State.acquireSample o limit s).store = s.store := by
  simp [State.acquireSample]

@[simp] theorem State.lockedSample_store (o : Int) (limit : Nat) (s : State) : (State.lockedSample o limit s).store = s.store := by
  simp [State.lockedSample]

@[simp] theorem State.holdoverSample_store (o d : Int) (limit : Nat) (s : State) : (State.holdoverSample o d limit s).store = s.store := by
  simp [State.holdoverSample]

@[simp] theorem State.servoSample_store (o d : Int) (s : State) : (State.servoSample o d s).store = s.store := by
  simp only [State.servoSample]; (repeat' split) <;> simp

@[simp] theorem State.pathMeasured_store (d : Int) (s : State) : (State.pathMeasured d s).store = s.store := by
  simp [State.pathMeasured]

@[simp] theorem State.servoLost_store (s : State) : (State.servoLost s).store = s.store := by
  unfold State.servoLost; (repeat' split) <;> simp

@[simp] theorem State.servoReset_store (s : State) : (State.servoReset s).store = s.store := by
  simp [State.servoReset]

@[simp] theorem State.masterJudged_store (s : State) : (State.masterJudged s).store = s.store := by
  simp only [State.masterJudged]; (repeat' split) <;> simp

@[simp] theorem State.syncDone_store (p : Nat) (t1 t2 : Int) (s : State) : (State.syncDone p t1 t2 s).store = s.store := by
  simp only [State.syncDone]; (repeat' split) <;> simp

@[simp] theorem State.delayDone_store (p : Nat) (t3 t4 : Int) (s : State) : (State.delayDone p t3 t4 s).store = s.store := by
  unfold State.delayDone; (repeat' split) <;> simp

@[simp] theorem State.applyStep_store (d : Int) (verb : Nat) (s : State) : (State.applyStep d verb s).store = s.store := by
  simp [State.applyStep]

@[simp] theorem State.frameStart_store (s : State) : (State.frameStart s).store = s.store := by
  simp [State.frameStart]

@[simp] theorem State.nextFrame_store (s : State) : (State.nextFrame s).store = s.store := by
  simp [State.nextFrame]

@[simp] theorem State.restFrame_store (s : State) : (State.restFrame s).store = s.store := by
  simp [State.restFrame]

@[simp] theorem State.setLampStatus_store (n v : Nat) (s : State) : (State.setLampStatus n v s).store = s.store := by
  simp [State.setLampStatus]

@[simp] theorem State.lampChannel_store (w : Option Nat) (d i : Nat) (s : State) : (State.lampChannel w d i s).store = s.store := by
  simp [State.lampChannel]

@[simp] theorem State.driverRecord_store (code d : Nat) (data : List Int) (s : State) : (State.driverRecord code d data s).store = s.store := by
  simp [State.driverRecord]

@[simp] theorem State.setLimit_store (d v t : Nat) (s : State) : (State.setLimit d v t s).store = s.store := by
  simp [State.setLimit]

@[simp] theorem State.throttleAt_store (d t shown : Nat) (s : State) : (State.throttleAt d t shown s).store = s.store := by
  simp [State.throttleAt]

@[simp] theorem State.throttle_store (d : Nat) (t : Option Nat) (s : State) : (State.throttle d t s).store = s.store := by
  unfold State.throttle; (repeat' split) <;> simp

@[simp] theorem State.lampDriver_store (w : Option Nat) (d : Nat) (s : State) : (State.lampDriver w d s).store = s.store := by
  simp [State.lampDriver]

@[simp] theorem State.lampUnheard_store (s : State) (n : Nat) : (State.lampUnheard s n).store = s.store := by
  simp [State.lampUnheard]

@[simp] theorem State.chainJudge_store (k : Nat) (whole : Bool) (words : Nat) (s : State) : (State.chainJudge k whole words s).store = s.store := by
  simp [State.chainJudge]

@[simp] theorem State.failReport_store (k : Nat) (s : State) : (State.failReport k s).store = s.store := by
  simp only [State.failReport]; (repeat' split) <;> simp

@[simp] theorem State.chainReturn_store (k : Nat) (words : List (Option Nat)) (ended : Nat) (s : State) : (State.chainReturn k words ended s).store = s.store := by
  simp [State.chainReturn]

@[simp] theorem State.driverLatch_store (d : Nat) (inp : ChainIn) (s : State) : (State.driverLatch d inp s).store = s.store := by
  simp [State.driverLatch]

@[simp] theorem State.driverTimeout_store (d : Nat) (s : State) : (State.driverTimeout d s).store = s.store := by
  simp [State.driverTimeout]

@[simp] theorem State.pairTest_store (shorted : Bool) (s : State) : (State.pairTest shorted s).store = s.store := by
  simp [State.pairTest]

@[simp] theorem State.rowSlot_store (shorted : Bool) (ua : List Nat) (s : State) : (State.rowSlot shorted ua s).store = s.store := by
  simp [State.rowSlot]

@[simp] theorem State.matrixSlot_store (ohm : Nat) (ua : List Nat) (s : State) : (State.matrixSlot ohm ua s).store = s.store := by
  simp [State.matrixSlot]

@[simp] theorem State.rowOvercurrent_store (r ma : Nat) (s : State) : (State.rowOvercurrent r ma s).store = s.store := by
  simp [State.rowOvercurrent]

@[simp] theorem State.gangSay_store (fields : List Int) (s : State) : (State.gangSay fields s).store = s.store := by
  simp [State.gangSay]

@[simp] theorem State.releaseOver_store (s : State) : (State.releaseOver s).store = s.store := by
  simp [State.releaseOver]

@[simp] theorem State.endRelease_store (s : State) : (State.endRelease s).store = s.store := by
  simp [State.endRelease]

@[simp] theorem State.holdRecord_store (code reason : Nat) (s : State) : (State.holdRecord code reason s).store = s.store := by
  simp [State.holdRecord]

@[simp] theorem State.trigger_store (code : Nat) (own : Option Nat) (reason : Nat) (s : State) : (State.trigger code own reason s).store = s.store := by
  unfold State.trigger; (repeat' split) <;> simp

@[simp] theorem State.ceilCheck_store (s : State) : (State.ceilCheck s).store = s.store := by
  simp [State.ceilCheck]

@[simp] theorem State.updateCeil_store (s : State) : (State.updateCeil s).store = s.store := by
  simp [State.updateCeil]

@[simp] theorem State.starveWarn_store (h stop : Nat) (s : State) : (State.starveWarn h stop s).store = s.store := by
  simp [State.starveWarn]

@[simp] theorem State.starvation_store (s : State) : (State.starvation s).store = s.store := by
  simp only [State.starvation]; (repeat' split) <;> simp

@[simp] theorem State.retryHold_store (s : State) : (State.retryHold s).store = s.store := by
  simp [State.retryHold]

@[simp] theorem State.resumeFailed_store (s : State) : (State.resumeFailed s).store = s.store := by
  simp [State.resumeFailed]

@[simp] theorem State.copRecord_store (code : Nat) (detail : Int) (data : List Int) (s : State) : (State.copRecord code detail data s).store = s.store := by
  simp [State.copRecord]

@[simp] theorem State.sense_store (i : Nat) (r : Option Int) (s : State) : (State.sense i r s).store = s.store := by
  simp [State.sense]

@[simp] theorem State.waveReport_store (s : State) : (State.waveReport s).store = s.store := by
  simp [State.waveReport]

@[simp] theorem State.doubleFailed_store (s : State) : (State.doubleFailed s).store = s.store := by
  simp [State.doubleFailed]

@[simp] theorem State.evalBands_store (section_ : Option Sec) (s : State) : (State.evalBands section_ s).store = s.store := by
  simp [State.evalBands]

@[simp] theorem State.evalLift_store (lift : Nat) (s : State) : (State.evalLift lift s).store = s.store := by
  simp [State.evalLift]

@[simp] theorem State.bandsInForce_store (s : State) : (State.bandsInForce s).store = s.store := by
  simp [State.bandsInForce]

@[simp] theorem State.bandsAtOnce_store (s : State) : (State.bandsAtOnce s).store = s.store := by
  simp [State.bandsAtOnce]

@[simp] theorem State.setStep_store (n : Nat) (e : Int) (sensor : Nat) (s : State) : (State.setStep n e sensor s).store = s.store := by
  simp [State.setStep]

@[simp] theorem State.sensorsLost_store (s : State) : (State.sensorsLost s).store = s.store := by
  simp [State.sensorsLost]

@[simp] theorem State.excessEval_store (s : State) : (State.excessEval s).store = s.store := by
  simp [State.excessEval]

@[simp] theorem State.throttleEval_store (s : State) : (State.throttleEval s).store = s.store := by
  simp only [State.throttleEval]; (repeat' split) <;> simp

@[simp] theorem State.calStart_store (s : State) : (State.calStart s).store = s.store := by
  simp [State.calStart]

@[simp] theorem State.calQueue_store (b : Nat) (s : State) : (State.calQueue b s).store = s.store := by
  simp [State.calQueue]

@[simp] theorem State.calTriggers_store (s : State) : (State.calTriggers s).store = s.store := by
  unfold State.calTriggers; (repeat' split) <;> (try simp) <;> (refine foldl_store _ _ _ ?_) <;> intro s a <;> (repeat' split) <;> simp

@[simp] theorem State.calBoundary_store (s : State) : (State.calBoundary s).store = s.store := by
  simp [State.calBoundary]

@[simp] theorem State.calEnd_store (b : Nat) (trims : List Nat) (quality diff : Nat) (s : State) : (State.calEnd b trims quality diff s).store = s.store := by
  simp [State.calEnd]

@[simp] theorem State.calRunEnd_store (b : Nat) (trims : List Nat) (quality diff : Nat) (s : State) : (State.calRunEnd b trims quality diff s).store = s.store := by
  simp [State.calRunEnd]

@[simp] theorem State.referenceCompare_store (diff : Int) (s : State) : (State.referenceCompare diff s).store = s.store := by
  simp [State.referenceCompare]

@[simp] theorem State.sensorSample_store (temps : List (Option Int)) (pMeas : Nat) (tj0 tj1 : Option Int) (s : State) : (State.sensorSample temps pMeas tj0 tj1 s).store = s.store := by
  simp [State.sensorSample]

@[simp] theorem State.mirrorCopy_store (s : State) : (State.mirrorCopy s).store = s.store := by
  simp [State.mirrorCopy]



@[simp] theorem State.loadDensity_store (c : Sec) (at_ : Option Nat) (s : State) : (State.loadDensity c at_ s).store = s.store := by
  simp [State.loadDensity]

@[simp] theorem State.densStep_store (lift : Nat) (s : State) : (State.densStep lift s).store = s.store := by
  simp [State.densStep]

@[simp] theorem State.loadPending_store (lift : Nat) (s : State) : (State.loadPending lift s).store = s.store := by
  unfold State.loadPending; (repeat' split) <;> simp

@[simp] theorem State.densBegin_store (lift : Nat) (s : State) : (State.densBegin lift s).store = s.store := by
  simp [State.densBegin]

@[simp] theorem State.unload_store (lift : Nat) (s : State) : (State.unload lift s).store = s.store := by
  simp [State.unload]

@[simp] theorem State.settleRows_store (lift : Nat) (s : State) : (State.settleRows lift s).store = s.store := by
  simp [State.settleRows]

@[simp] theorem State.pastFrom_store (lift : Nat) (f : List SMap → List SMap) (s : State) : (State.pastFrom lift f s).store = s.store := by
  simp [State.pastFrom]

@[simp] theorem State.loadPointing_store (c : Sec) (at_ : Option Nat) (s : State) : (State.loadPointing c at_ s).store = s.store := by
  unfold State.loadPointing; (repeat' split) <;> simp

@[simp] theorem State.applyNozTo_store (lift : Nat) (s : State) : (State.applyNozTo lift s).store = s.store := by
  simp [State.applyNozTo]

@[simp] theorem State.takeChanges_store (s : State) : (State.takeChanges s).store = s.store := by
  simp [State.takeChanges]

@[simp] theorem State.linkRecord_store (side : Nat) (was x : BLink) (s : State) : (State.linkRecord side was x s).store = s.store := by
  simp [State.linkRecord]

@[simp] theorem State.laneEnables_store (s : State) : (State.laneEnables s).store = s.store := by
  simp [State.laneEnables]

@[simp] theorem State.encRecord_store (e r : Nat) (s : State) : (State.encRecord e r s).store = s.store := by
  simp [State.encRecord]

@[simp] theorem State.encFault_store (e : Nat) (reasons : List Nat) (s : State) : (State.encFault e reasons s).store = s.store := by
  simp [State.encFault]

@[simp] theorem State.unusePairs_store (e : Nat) (s : State) : (State.unusePairs e s).store = s.store := by
  simp [State.unusePairs]

@[simp] theorem State.pairsJudged_store (s : State) : (State.pairsJudged s).store = s.store := by
  simp [State.pairsJudged]

@[simp] theorem State.encoderRestart_store (pos : Int) (s : State) : (State.encoderRestart pos s).store = s.store := by
  simp [State.encoderRestart]

@[simp] theorem State.sectionEffects_store (old : List (Nat × Sec)) (touched : List Nat) (n0 : Nat) (pos : Int) (s : State) : (State.sectionEffects old touched n0 pos s).store = s.store := by
  simp [State.sectionEffects]

@[simp] theorem State.applySet_store (p : Pend) (lift : Option Nat) (s : State) : (State.applySet p lift s).store = s.store := by
  simp [State.applySet]

@[simp] theorem State.completePend_store (lift : Option Nat) (s : State) : (State.completePend lift s).store = s.store := by
  unfold State.completePend; (repeat' split) <;> simp

@[simp] theorem State.endPend_store (result detail : Nat) (s : State) : (State.endPend result detail s).store = s.store := by
  unfold State.endPend; (repeat' split) <;> simp

@[simp] theorem State.sendSeamWords_store (lift : Nat) (rows : List (Row × List (Nat × Int))) (s : State) : (State.sendSeamWords lift rows s).store = s.store := by
  unfold State.sendSeamWords
  dsimp only
  rw [State.tieSendAll_store, State.tieSendAll_store]

@[simp] theorem State.assignBands_store (lift : Nat) (s : State) : (State.assignBands lift s).store = s.store := by
  simp [State.assignBands]

@[simp] theorem State.screenLift_store (lift : Nat) (dec : Nat → List Decoded) (s : State) : (State.screenLift lift dec s).store = s.store := by
  simp [State.screenLift]

@[simp] theorem State.sendToken_store (lift : Nat) (s : State) : (State.sendToken lift s).store = s.store := by
  simp [State.sendToken]

@[simp] theorem State.liftScreened_store (w lift : Nat) (s : State) : (State.liftScreened w lift s).store = s.store := by
  simp only [State.liftScreened]; (repeat' split) <;> simp

@[simp] theorem State.auditFail_store (w a b ch col img : Nat) (s : State) : (State.auditFail w a b ch col img s).store = s.store := by
  simp [State.auditFail]

end Sys2Proof.Machine
end

