-- ==== Sys2Proof/Laws/StorePress.lean ====
section
/-! SUPPORT. What leaves the memories alone or keeps them canonical: course timing, the encoders, the lanes and Buttress. -/

namespace Sys2Proof.Machine

open Sys2Proof

-- The terms of a step are records inside records, deeper than the default allows.
set_option maxRecDepth 4000

@[simp] theorem State.fixStartsGo_store (again ready : Bool) (x0 : List Nat) (x1 : Option Nat) (s : State) : (State.fixStartsGo again ready x0 x1 s).store = s.store := by
  induction x0 generalizing x1 s with
  | nil => rfl
  | cons id ids ih =>
    unfold State.fixStartsGo
    simp only []
    split
    · exact ih _ _
    · split <;> (split <;> simp [ih])

@[simp] theorem State.fixStarts_store (s : State) : (State.fixStarts s).store = s.store := by
  simp [State.fixStarts]

@[simp] theorem State.refixStarts_store (s : State) : (State.refixStarts s).store = s.store := by
  simp [State.refixStarts]

@[simp] theorem State.stepTrims_store (f : Nat) (s : State) : (State.stepTrims f s).store = s.store := by
  simp [State.stepTrims]

@[simp] theorem State.countQuanta_store (g : Nat) (o : HeadOut) (s : State) : (State.countQuanta g o s).store = s.store := by
  simp [State.countQuanta]

@[simp] theorem State.sendFrame_store (l : Nat) (x : FrameTx) (s : State) : (State.sendFrame l x s).store = s.store := by
  simp [State.sendFrame]

@[simp] theorem State.sendPlan_store (f : Nat) (p : Nat × List FrameTx) (s : State) : (State.sendPlan f p s).store = s.store := by
  unfold State.sendPlan; (repeat' split) <;> (try simp) <;> (refine foldl_store _ _ _ ?_) <;> intro s a <;> (repeat' split) <;> simp

@[simp] theorem State.fireRecord_store (f : Nat) (tf t8 : Int) (s : State) : (State.fireRecord f tf t8 s).store = s.store := by
  simp [State.fireRecord]

@[simp] theorem State.countOthers_store (f : Nat) (s : State) : (State.countOthers f s).store = s.store := by
  unfold State.countOthers; (repeat' split) <;> (try simp) <;> (refine foldl_store _ _ _ ?_) <;> intro s a <;> (repeat' split) <;> simp

@[simp] theorem State.pairCross_store (lift : Nat) (s : State) : (State.pairCross lift s).store = s.store := by
  simp [State.pairCross]

@[simp] theorem State.sendMirror_store (lift : Nat) (s : State) : (State.sendMirror lift s).store = s.store := by
  simp [State.sendMirror]

@[simp] theorem State.sendEpoch_store (lift : Nat) (s : State) : (State.sendEpoch lift s).store = s.store := by
  unfold State.sendEpoch; (repeat' split) <;> simp

@[simp] theorem State.gangHold_store (reason : Nat) (own : Option Nat) (s : State) : (State.gangHold reason own s).store = s.store := by
  simp [State.gangHold]

@[simp] theorem State.diverge_store (reason member : Nat) (ns : Int) (s : State) : (State.diverge reason member ns s).store = s.store := by
  simp [State.diverge]

@[simp] theorem State.fireCompare_store (f own : Nat) (s : State) : (State.fireCompare f own s).store = s.store := by
  unfold State.fireCompare; (repeat' split) <;> simp

@[simp] theorem State.sendRecord_store (f : Nat) (tf : Int) (s : State) : (State.sendRecord f tf s).store = s.store := by
  simp [State.sendRecord]

@[simp] theorem State.releaseCourse_store (f : Nat) (tf t8 : Int) (plans : List (Nat × List FrameTx)) (s : State) : (State.releaseCourse f tf t8 plans s).store = s.store := by
  simp [State.releaseCourse]

@[simp] theorem State.passReport_store (s : State) : (State.passReport s).store = s.store := by
  unfold State.passReport; (repeat' split) <;> simp

@[simp] theorem State.passOver_store (f r : Nat) (tf : Int) (s : State) : (State.passOver f r tf s).store = s.store := by
  simp [State.passOver]

@[simp] theorem State.rejectSheets_store (lo hi : Nat) (s : State) : (State.rejectSheets lo hi s).store = s.store := by
  simp [State.rejectSheets]

@[simp] theorem State.resumed_store (f : Nat) (s : State) : (State.resumed f s).store = s.store := by
  simp [State.resumed]

theorem State.judge_store {s : State} {f : Nat} {j : Judged} (e : s.judge f = some j) : j.s.store = s.store := by
  unfold State.judge at e
  split at e
  · simp at e
  · simp only [Option.some.injEq] at e
    subst e
    simp

@[simp] theorem State.resumeWeb_store (f : Nat) (s : State) : (State.resumeWeb f s).store = s.store := by
  unfold State.resumeWeb
  split
  · rfl
  · have := State.judge_store ‹s.judge f = some _›
    split <;> simp [this]

@[simp] theorem State.retrySheet_store (r : Nat) (s : State) : (State.retrySheet r s).store = s.store := by
  simp [State.retrySheet]

@[simp] theorem State.gangRetry_store (s : State) : (State.gangRetry s).store = s.store := by
  unfold State.gangRetry; (repeat' split) <;> simp

@[simp] theorem State.resumeSheet_store (r : Nat) (s : State) : (State.resumeSheet r s).store = s.store := by
  unfold State.resumeSheet
  split
  · rfl
  · have := State.judge_store ‹s.judge r = some _›
    split
    · simp [this]
    · simp

@[simp] theorem State.standbyCourse_store (s : State) : (State.standbyCourse s).store = s.store := by
  simp only [State.standbyCourse]; (repeat' split) <;> simp

@[simp] theorem State.releaseNext_store (s : State) : (State.releaseNext s).store = s.store := by
  have hj : ∀ j, s.judge s.lintel.next = some j → j.s.store = s.store := fun j e => State.judge_store e
  unfold State.releaseNext
  simp only []
  (repeat' split) <;> simp_all

@[simp] theorem State.tokenDeadline_store (s : State) : (State.tokenDeadline s).store = s.store := by
  unfold State.tokenDeadline; (repeat' split) <;> simp

@[simp] theorem State.courseRelease_store (s : State) : (State.courseRelease s).store = s.store := by
  simp [State.courseRelease]

@[simp] theorem State.toReady_store (s : State) : (State.toReady s).store = s.store := by
  simp [State.toReady]

@[simp] theorem State.endFired_store (c : Nat) (s : State) : (State.endFired c s).store = s.store := by
  simp [State.endFired]

@[simp] theorem State.commitFired_store (c : Nat) (s : State) : (State.commitFired c s).store = s.store := by
  unfold State.commitFired; (repeat' split) <;> simp

@[simp] theorem State.startFired_store (c : Nat) (s : State) : (State.startFired c s).store = s.store := by
  simp only [State.startFired]; (repeat' split) <;> simp

@[simp] theorem State.courseFire_store (s : State) : (State.courseFire s).store = s.store := by
  unfold State.courseFire; (repeat' split) <;> simp

@[simp] theorem State.enqueue_store (j : Job) (boundary : Nat) (s : State) : (State.enqueue j boundary s).store = s.store := by
  simp [State.enqueue]

@[simp] theorem State.anticipate_store (s : State) : (State.anticipate s).store = s.store := by
  unfold State.anticipate; (repeat' split) <;> (try simp) <;> (refine foldl_store _ _ _ ?_) <;> intro s a <;> (repeat' split) <;> simp

@[simp] theorem State.unqueue_store (a : Act) (s : State) : (State.unqueue a s).store = s.store := by
  unfold State.unqueue; (repeat' split) <;> simp

@[simp] theorem State.runAction_store (late : Bool) (a : Act) (s : State) : (State.runAction late a s).store = s.store := by
  unfold State.runAction
  simp only [State.emit_store]
  (repeat' split) <;> simp

@[simp] theorem State.lateActions_store (s : State) : (State.lateActions s).store = s.store := by
  simp [State.lateActions]

@[simp] theorem State.liftSpeed_store (s : State) : (State.liftSpeed s).store = s.store := by
  unfold State.liftSpeed; (repeat' split) <;> simp

@[simp] theorem State.sendCopies_store (lift : Nat) (s : State) : (State.sendCopies lift s).store = s.store := by
  simp [State.sendCopies]

@[simp] theorem State.upset_store (u : SeamUpset) (s : State) : (State.upset u s).store = s.store := by
  simp [State.upset]

@[simp] theorem State.seamExchange_store (s : State) : (State.seamExchange s).store = s.store := by
  simp [State.seamExchange]

@[simp] theorem State.tieStatus_store (lift : Nat) (s : State) : (State.tieStatus lift s).store = s.store := by
  simp [State.tieStatus]

@[simp] theorem State.liftBoundary_store (upsets : List SeamUpset) (s : State) : (State.liftBoundary upsets s).store = s.store := by
  simp [State.liftBoundary]

@[simp] theorem State.overspeed_store (s : State) : (State.overspeed s).store = s.store := by
  simp [State.overspeed]

@[simp] theorem State.loopCycle_store (s : State) : (State.loopCycle s).store = s.store := by
  simp [State.loopCycle]

@[simp] theorem State.cycleTests_store (s : State) : (State.cycleTests s).store = s.store := by
  unfold State.cycleTests; (repeat' split) <;> simp

@[simp] theorem State.speedCycle_store (s : State) : (State.speedCycle s).store = s.store := by
  simp [State.speedCycle]

@[simp] theorem State.overspeedClear_store (s : State) : (State.overspeedClear s).store = s.store := by
  simp [State.overspeedClear]

@[simp] theorem State.reverse_store (s : State) : (State.reverse s).store = s.store := by
  simp [State.reverse]

@[simp] theorem State.beginReverse_store (s : State) : (State.beginReverse s).store = s.store := by
  simp [State.beginReverse]

@[simp] theorem State.atRest_store (s : State) : (State.atRest s).store = s.store := by
  simp only [State.atRest]; (repeat' split) <;> simp

@[simp] theorem State.reverseOkChanged_store (s : State) : (State.reverseOkChanged s).store = s.store := by
  unfold State.reverseOkChanged; (repeat' split) <;> simp

@[simp] theorem State.startResume_store (s : State) : (State.startResume s).store = s.store := by
  simp [State.startResume]

@[simp] theorem State.resumeBegin_store (s : State) : (State.resumeBegin s).store = s.store := by
  unfold State.resumeBegin; (repeat' split) <;> simp

@[simp] theorem State.actionAtCourse_store (id : Nat) (s : State) : (State.actionAtCourse id s).store = s.store := by
  unfold State.actionAtCourse; (repeat' split) <;> simp

@[simp] theorem State.actionAtTime_store (id : Nat) (s : State) : (State.actionAtTime id s).store = s.store := by
  simp only [State.actionAtTime]; (repeat' split) <;> simp

@[simp] theorem State.pulseEnd_store (o : Nat) (s : State) : (State.pulseEnd o s).store = s.store := by
  simp [State.pulseEnd]

@[simp] theorem State.indexError_store (e kind : Nat) (s : State) : (State.indexError e kind s).store = s.store := by
  simp [State.indexError]

@[simp] theorem State.indexBad_store (e kind : Nat) (s : State) : (State.indexBad e kind s).store = s.store := by
  simp [State.indexBad]

@[simp] theorem State.liftReached_store (old : Int) (t : Nat) (s : State) : (State.liftReached old t s).store = s.store := by
  unfold State.liftReached; (repeat' split) <;> simp

@[simp] theorem State.sourceMoved_store (old : Enc) (d : Int) (t : Nat) (s : State) : (State.sourceMoved old d t s).store = s.store := by
  simp only [State.sourceMoved]; (repeat' split) <;> simp

@[simp] theorem State.applyCount_store (e : Nat) (d : Int) (t : Nat) (s : State) : (State.applyCount e d t s).store = s.store := by
  simp only [State.applyCount]; (repeat' split) <;> simp

@[simp] theorem State.illegalStep_store (e t : Nat) (s : State) : (State.illegalStep e t s).store = s.store := by
  simp [State.illegalStep]

@[simp] theorem State.lineStep_store (e : Nat) (a b setup : Bool) (t : Nat) (s : State) : (State.lineStep e a b setup t s).store = s.store := by
  simp only [State.lineStep]; (repeat' split) <;> simp

@[simp] theorem State.radiusReport_store (e : Nat) (s : State) : (State.radiusReport e s).store = s.store := by
  simp [State.radiusReport]

@[simp] theorem State.runFault_store (e reason n limit : Nat) (s : State) : (State.runFault e reason n limit s).store = s.store := by
  simp [State.runFault]

@[simp] theorem State.adcIn_store (e : Nat) (p : Int × Int) (s : State) : (State.adcIn e p s).store = s.store := by
  simp [State.adcIn]

@[simp] theorem State.indexEdge_store (e : Nat) (high : Bool) (s : State) : (State.indexEdge e high s).store = s.store := by
  simp only [State.indexEdge]; (repeat' split) <;> simp

@[simp] theorem State.onSample_store (i : Nat) (f : State → State) (s : State) (hf : ∀ u, (f u).store = u.store) :
    (State.onSample i f s).store = s.store := by
  simp [State.onSample, hf]

@[simp] theorem State.linesIn_store (e : Nat) (p : Pins) (s : State) : (State.linesIn e p s).store = s.store := by
  simp only [State.linesIn]; (repeat' split) <;> simp

@[simp] theorem State.missingIndex_store (e : Nat) (s : State) : (State.missingIndex e s).store = s.store := by
  simp [State.missingIndex]

@[simp] theorem State.pairFault_store (e : Nat) (st : PairStatus) (s : State) : (State.pairFault e st s).store = s.store := by
  simp [State.pairFault]

@[simp] theorem State.pairStatus_store (e k : Nat) (v : PairIn) (s : State) : (State.pairStatus e k v s).store = s.store := by
  simp [State.pairStatus]

@[simp] theorem State.hallNote_store (bad rev : Bool) (s : State) : (State.hallNote bad rev s).store = s.store := by
  simp [State.hallNote]

@[simp] theorem State.hallJudge_store (c dt hc : Nat) (fwd : Bool) (s : State) : (State.hallJudge c dt hc fwd s).store = s.store := by
  simp [State.hallJudge]

@[simp] theorem State.hallDev_store (num : Int) (d : Nat) (s : State) : (State.hallDev num d s).store = s.store := by
  simp only [State.hallDev]; (repeat' split) <;> simp

@[simp] theorem State.hallSector_store (c dt : Nat) (fwd : Bool) (s : State) : (State.hallSector c dt fwd s).store = s.store := by
  simp only [State.hallSector]; (repeat' split) <;> simp

@[simp] theorem State.hallChange_store (code t : Nat) (s : State) : (State.hallChange code t s).store = s.store := by
  simp only [State.hallChange]; (repeat' split) <;> simp

@[simp] theorem State.hallIn_store (p : HallRun) (s : State) : (State.hallIn p s).store = s.store := by
  simp [State.hallIn]

@[simp] theorem State.hallReport_store (s : State) : (State.hallReport s).store = s.store := by
  simp [State.hallReport]

@[simp] theorem State.illegalReport_store (e : Nat) (s : State) : (State.illegalReport e s).store = s.store := by
  simp [State.illegalReport]

@[simp] theorem State.checkWindow_store (s : State) : (State.checkWindow s).store = s.store := by
  simp [State.checkWindow]

@[simp] theorem State.freezeBar_store (b : Nat) (on : Bool) (misses : Nat) (s : State) : (State.freezeBar b on misses s).store = s.store := by
  simp [State.freezeBar]

@[simp] theorem State.setTarget_store (b : Nat) (t : Int) (s : State) : (State.setTarget b t s).store = s.store := by
  simp [State.setTarget]

@[simp] theorem State.steerBar_store (b m : Nat) (s : State) : (State.steerBar b m s).store = s.store := by
  simp only [State.steerBar]; (repeat' split) <;> simp

@[simp] theorem State.markEdge_store (k : Nat) (p : Int) (s : State) : (State.markEdge k p s).store = s.store := by
  simp only [State.markEdge]; (repeat' split) <;> simp

@[simp] theorem State.markIn_store (r : MarkRun) (s : State) : (State.markIn r s).store = s.store := by
  simp only [State.markIn]; (repeat' split) <;> simp

@[simp] theorem State.markMiss_store (k : Nat) (s : State) : (State.markMiss k s).store = s.store := by
  unfold State.markMiss; (repeat' split) <;> simp

@[simp] theorem State.leaseRecord_store (id port epoch result : Nat) (s : State) : (State.leaseRecord id port epoch result s).store = s.store := by
  simp [State.leaseRecord]

@[simp] theorem State.laneTo_store (l : Nat) (st : LaneState) (s : State) : (State.laneTo l st s).store = s.store := by
  simp [State.laneTo]

@[simp] theorem State.bringUpFail_store (l reason : Nat) (s : State) : (State.bringUpFail l reason s).store = s.store := by
  simp [State.bringUpFail]

@[simp] theorem State.replaceBond_store (nodes : List NodeRec) (bonds : List Bond) (built : Bool) (s : State) : (State.replaceBond nodes bonds built s).store = s.store := by
  simp [State.replaceBond]

@[simp] theorem State.discover_store (command : Bool) (s : State) : (State.discover command s).1.store = s.store := by
  simp only [State.discover]; (repeat' split) <;> simp

@[simp] theorem State.discovery_store (s : State) : (State.discovery s).store = s.store := by
  unfold State.discovery; (repeat' split) <;> simp

@[simp] theorem State.rebond_store (l : Nat) (s : State) : (State.rebond l s).store = s.store := by
  simp [State.rebond]

@[simp] theorem State.requeue_store (l : Nat) (old : List FrameTx) (s : State) : (State.requeue l old s).1.store = s.store := by
  simp [State.requeue]

@[simp] theorem State.cancelFrom_store (c0 : Nat) (s : State) : (State.cancelFrom c0 s).store = s.store := by
  simp [State.cancelFrom]

@[simp] theorem State.withdraw_store (c0 : Nat) (s : State) : (State.withdraw c0 s).store = s.store := by
  simp [State.withdraw]

@[simp] theorem State.missedCourses_store (l c : Nat) (s : State) : (State.missedCourses l c s).store = s.store := by
  simp [State.missedCourses]

@[simp] theorem State.resend_store (l : Nat) (old : List FrameTx) (s : State) : (State.resend l old s).store = s.store := by
  have hf : ∀ (ks : List Nat) (g : State × Option Nat → Nat → State × Option Nat), (∀ p k, (g p k).1.store = p.1.store) →
      ∀ p, (ks.foldl g p).1.store = p.1.store := by
    intro ks g hg
    induction ks with
    | nil => intro p; rfl
    | cons k ks ih => intro p; rw [List.foldl_cons, ih, hg]
  unfold State.resend
  (try simp only [])
  split
  · rw [hf _ _ (by intro p k; (try simp only []); split <;> simp)]
  · rw [State.missedCourses_store, hf _ _ (by intro p k; (try simp only []); split <;> simp)]

@[simp] theorem State.acquireDropped_store (l : Nat) (s : State) : (State.acquireDropped l s).store = s.store := by
  simp [State.acquireDropped]

@[simp] theorem State.laneLost_store (l cond : Nat) (s : State) : (State.laneLost l cond s).store = s.store := by
  simp [State.laneLost]

@[simp] theorem State.rxAligned_store (l : Nat) (s : State) : (State.rxAligned l s).store = s.store := by
  simp [State.rxAligned]

@[simp] theorem State.rxUnaligned_store (l : Nat) (s : State) : (State.rxUnaligned l s).store = s.store := by
  simp [State.rxUnaligned]

@[simp] theorem State.laneHear_store (l : Nat) (r : LineRead) (s : State) : (State.laneHear l r s).store = s.store := by
  simp [State.laneHear]

@[simp] theorem State.laneRx_store (l kind len bits : Nat) (s : State) : (State.laneRx l kind len bits s).1.store = s.store := by
  simp only [State.laneRx]; (repeat' split) <;> simp

@[simp] theorem State.sendEcho_store (l : Nat) (s : State) : (State.sendEcho l s).store = s.store := by
  simp [State.sendEcho]

@[simp] theorem State.helloUnit_store (l len bits : Nat) (s : State) : (State.helloUnit l len bits s).store = s.store := by
  have e := State.laneRx_store l 0x12 len bits s
  unfold State.helloUnit
  generalize State.laneRx l 0x12 len bits s = p at e ⊢
  obtain ⟨s', d⟩ := p
  simp only [] at e ⊢
  (repeat' split) <;> simp_all

@[simp] theorem State.setDelay_store (l : Nat) (s : State) : (State.setDelay l s).store = s.store := by
  simp [State.setDelay]

@[simp] theorem State.firstAcquire_store (l : Nat) (s : State) : (State.firstAcquire l s).store = s.store := by
  simp [State.firstAcquire]

@[simp] theorem State.echoReply_store (l len bits rtt : Nat) (s : State) : (State.echoReply l len bits rtt s).store = s.store := by
  have e := State.laneRx_store l 0x11 len bits s
  unfold State.echoReply
  generalize State.laneRx l 0x11 len bits s = p at e ⊢
  obtain ⟨s', d⟩ := p
  simp only [] at e ⊢
  (repeat' split) <;> simp_all

@[simp] theorem State.identTimeout_store (l : Nat) (s : State) : (State.identTimeout l s).store = s.store := by
  simp [State.identTimeout]

@[simp] theorem State.delayTimeout_store (l : Nat) (s : State) : (State.delayTimeout l s).store = s.store := by
  simp [State.delayTimeout]

@[simp] theorem State.lostTimeout_store (l : Nat) (s : State) : (State.lostTimeout l s).store = s.store := by
  simp [State.lostTimeout]

@[simp] theorem State.statusTimeout_store (l : Nat) (s : State) : (State.statusTimeout l s).store = s.store := by
  simp [State.statusTimeout]

@[simp] theorem State.unalignedTimeout_store (l : Nat) (s : State) : (State.unalignedTimeout l s).store = s.store := by
  simp [State.unalignedTimeout]

@[simp] theorem State.replayJobs_store (s : State) : (State.replayJobs s).store = s.store := by
  unfold State.replayJobs; (repeat' split) <;> (try simp) <;> (refine foldl_store _ _ _ ?_) <;> intro s a <;> (repeat' split) <;> simp

@[simp] theorem State.takenOver_store (s : State) : (State.takenOver s).store = s.store := by
  simp only [State.takenOver]; (repeat' split) <;> simp

@[simp] theorem State.acquireDone_store (s : State) : (State.acquireDone s).store = s.store := by
  simp [State.acquireDone]

@[simp] theorem State.renewalSeen_store (l left : Nat) (s : State) : (State.renewalSeen l left s).store = s.store := by
  simp [State.renewalSeen]

@[simp] theorem State.leaseStatus_store (id w : Nat) (s : State) : (State.leaseStatus id w s).store = s.store := by
  simp [State.leaseStatus]

@[simp] theorem State.nodeCounts_store (id w : Nat) (s : State) : (State.nodeCounts id w s).store = s.store := by
  simp [State.nodeCounts]

@[simp] theorem State.nodeHealth_store (id w : Nat) (s : State) : (State.nodeHealth id w s).store = s.store := by
  simp [State.nodeHealth]

@[simp] theorem State.statusUnit_store (l len bits : Nat) (s : State) : (State.statusUnit l len bits s).store = s.store := by
  have e := State.laneRx_store l 0x13 len bits s
  unfold State.statusUnit
  generalize State.laneRx l 0x13 len bits s = p at e ⊢
  obtain ⟨s', d⟩ := p
  simp only [] at e ⊢
  (repeat' split) <;> simp_all

@[simp] theorem State.tempsUnit_store (l len bits : Nat) (s : State) : (State.tempsUnit l len bits s).store = s.store := by
  have e := State.laneRx_store l 0x14 len bits s
  unfold State.tempsUnit
  generalize State.laneRx l 0x14 len bits s = p at e ⊢
  obtain ⟨s', d⟩ := p
  simp only [] at e ⊢
  (repeat' split) <;> simp_all

@[simp] theorem State.timeSend_store (l : Nat) (s : State) : (State.timeSend l s).store = s.store := by
  simp [State.timeSend]

@[simp] theorem State.echoSend_store (l : Nat) (s : State) : (State.echoSend l s).store = s.store := by
  simp [State.echoSend]

@[simp] theorem State.discoverSend_store (l : Nat) (s : State) : (State.discoverSend l s).store = s.store := by
  simp [State.discoverSend]

@[simp] theorem State.renewSend_store (id : Nat) (s : State) : (State.renewSend id s).store = s.store := by
  simp [State.renewSend]

@[simp] theorem State.acquireRetry_store (id : Nat) (s : State) : (State.acquireRetry id s).store = s.store := by
  simp [State.acquireRetry]

@[simp] theorem State.restSend_store (s : State) : (State.restSend s).store = s.store := by
  simp [State.restSend]

@[simp] theorem State.linkJudge_store (side : Nat) (s : State) : (State.linkJudge side s).store = s.store := by
  simp [State.linkJudge]

@[simp] theorem State.linkUp_store (side lanes : Nat) (s : State) : (State.linkUp side lanes s).store = s.store := by
  simp [State.linkUp]

@[simp] theorem State.linkDown_store (side lanes : Nat) (s : State) : (State.linkDown side lanes s).store = s.store := by
  simp [State.linkDown]

@[simp] theorem State.beatSend_store (side : Nat) (s : State) : (State.beatSend side s).store = s.store := by
  simp [State.beatSend]

@[simp] theorem State.follow_store (op phase : Nat) (s : State) : (State.follow op phase s).store = s.store := by
  simp [State.follow]

@[simp] theorem State.swapComplete_store (s : State) : (State.swapComplete s).store = s.store := by
  simp only [State.swapComplete]; (repeat' split) <;> simp

@[simp] theorem State.beat_store (side role op phase : Nat) (r : BeatIn) (s : State) : (State.beat side role op phase r s).store = s.store := by
  simp [State.beat]

@[simp] theorem State.gridCheck_store (m : Mem) (s : State) : (State.gridCheck m s).store = s.store := by
  unfold State.gridCheck; (repeat' split) <;> simp

@[simp] theorem State.epochNozzles_store (lift : Nat) (es : List (Nat × Nat)) (s : State) : (State.epochNozzles lift es s).store = s.store := by
  simp [State.epochNozzles]

@[simp] theorem State.applyEpoch_store (lift : Nat) (s : State) : (State.applyEpoch lift s).store = s.store := by
  simp [State.applyEpoch]

@[simp] theorem State.tryEpoch_store (lift : Nat) (s : State) : (State.tryEpoch lift s).store = s.store := by
  unfold State.tryEpoch; (repeat' split) <;> simp

@[simp] theorem State.mirrorUnit_store (lift item off : Nat) (bytes : List Nat) (s : State) : (State.mirrorUnit lift item off bytes s).store = s.store := by
  simp [State.mirrorUnit]

@[simp] theorem State.epochEnd_store (lift units ecrc : Nat) (s : State) : (State.epochEnd lift units ecrc s).store = s.store := by
  simp [State.epochEnd]

@[simp] theorem State.progressUnit_store (course : Nat) (s : State) : (State.progressUnit course s).store = s.store := by
  simp [State.progressUnit]

@[simp] theorem State.adoptConfig_store (secs : List (Nat × List Nat)) (s : State) : (State.adoptConfig secs s).store = s.store := by
  simp [State.adoptConfig]

@[simp] theorem State.copyIn_store (c : CopyIn) (s : State) : (State.copyIn c s).store = s.store := by
  simp [State.copyIn]

@[simp] theorem State.resync_store (s : State) : (State.resync s).store = s.store := by
  simp [State.resync]

@[simp] theorem State.acquireAll_store (s : State) : (State.acquireAll s).store = s.store := by
  unfold State.acquireAll; (repeat' split) <;> (try simp) <;> (refine foldl_store _ _ _ ?_) <;> intro s a <;> (repeat' split) <;> simp

@[simp] theorem State.partnerTold_store (p : PInfo) (s : State) : (State.partnerTold p s).store = s.store := by
  simp [State.partnerTold]

@[simp] theorem State.formPair_store (digest fw : Nat) (offset : Int) (prefer : Bool) (s : State) : (State.formPair digest fw offset prefer s).1.store = s.store := by
  simp only [State.formPair]; (repeat' split) <;> simp

@[simp] theorem State.takeover_store (s : State) : (State.takeover s).store = s.store := by
  simp [State.takeover]

@[simp] theorem State.handoverUnit_store (fDone : Nat) (oneMore : Bool) (cause : Nat) (s : State) : (State.handoverUnit fDone oneMore cause s).store = s.store := by
  simp [State.handoverUnit]

@[simp] theorem State.acquireTimeout_store (s : State) : (State.acquireTimeout s).store = s.store := by
  simp only [State.acquireTimeout]; (repeat' split) <;> simp

@[simp] theorem State.beginSwap_store (s : State) : (State.beginSwap s).store = s.store := by
  simp [State.beginSwap]

@[simp] theorem State.swapWhenReady_store (s : State) : (State.swapWhenReady s).store = s.store := by
  unfold State.swapWhenReady; (repeat' split) <;> simp

@[simp] theorem State.autoSwap_store (s : State) : (State.autoSwap s).store = s.store := by
  simp [State.autoSwap]

@[simp] theorem State.sinceSwapTick_store (s : State) : (State.sinceSwapTick s).store = s.store := by
  simp [State.sinceSwapTick]

@[simp] theorem State.swapDone_store (s : State) : (State.swapDone s).store = s.store := by
  simp only [State.swapDone]; (repeat' split) <;> simp

@[simp] theorem State.ackDone_store (f : Fwd) (s : State) : (State.ackDone f s).store = s.store := by
  simp only [State.ackDone]; (repeat' split) <;> simp

@[simp] theorem State.ackFailed_store (f : Fwd) (s : State) : (State.ackFailed f s).store = s.store := by
  simp [State.ackFailed]

@[simp] theorem State.ackIn_store (ch slot member result detail digest : Nat) (s : State) : (State.ackIn ch slot member result detail digest s).store = s.store := by
  unfold State.ackIn; (repeat' split) <;> simp

@[simp] theorem State.ackTimeout_store (ch slot : Nat) (s : State) : (State.ackTimeout ch slot s).store = s.store := by
  unfold State.ackTimeout; (repeat' split) <;> simp

@[simp] theorem State.gangPass_store (side : Nat) (fields : List Int) (s : State) : (State.gangPass side fields s).store = s.store := by
  simp [State.gangPass]

@[simp] theorem State.stopAt_store (c : Nat) (s : State) : (State.stopAt c s).store = s.store := by
  simp [State.stopAt]

@[simp] theorem State.gsync_store (side : Nat) (m : GMsg) (s : State) : (State.gsync side m s).store = s.store := by
  simp only [State.gsync]; (repeat' split) <;> simp

@[simp] theorem State.echoOffset_store (side : Nat) (e : GEcho) (s : State) : (State.echoOffset side e s).2.store = s.store := by
  simp only [State.echoOffset]; (repeat' split) <;> simp

@[simp] theorem State.offsetKept_store (side : Nat) (own : Int) (e : GEcho) (s : State) : (State.offsetKept side own e s).store = s.store := by
  simp [State.offsetKept]

@[simp] theorem State.offsetJudged_store (offset : Int) (s : State) : (State.offsetJudged offset s).store = s.store := by
  simp [State.offsetJudged]

@[simp] theorem State.gtime_store (side : Nat) (request : Bool) (e : GEcho) (s : State) : (State.gtime side request e s).store = s.store := by
  simp [State.gtime]

@[simp] theorem State.offsetMeasure_store (s : State) : (State.offsetMeasure s).store = s.store := by
  simp [State.offsetMeasure]

@[simp] theorem State.gseam_store (side course : Nat) (levels : List Nat) (crc : Option Nat) (s : State) : (State.gseam side course levels crc s).store = s.store := by
  simp [State.gseam]

@[simp] theorem State.sendSeam_store (side lift : Nat) (s : State) : (State.sendSeam side lift s).store = s.store := by
  simp [State.sendSeam]

@[simp] theorem State.screened_store (w lift : Nat) (mismatch : Bool) (s : State) : (State.screened w lift mismatch s).store = s.store := by
  simp only [State.screened]; (repeat' split) <;> simp

@[simp] theorem State.heartbeatSend_store (s : State) : (State.heartbeatSend s).store = s.store := by
  simp [State.heartbeatSend]

@[simp] theorem State.heartbeatIn_store (member : Nat) (fields : List Nat) (s : State) : (State.heartbeatIn member fields s).store = s.store := by
  simp [State.heartbeatIn]

@[simp] theorem State.hbTimeout_store (s : State) : (State.hbTimeout s).store = s.store := by
  simp [State.hbTimeout]

end Sys2Proof.Machine
end

