-- ==== Sys2Proof/Laws/StorePower.lean ====
section
/-! SUPPORT. What leaves the memories alone or keeps them canonical: power, Plinth and the registers. -/

namespace Sys2Proof.Machine

open Sys2Proof

-- The terms of a step are records inside records, deeper than the default allows.
set_option maxRecDepth 4000

@[simp] theorem State.auxRecord_store (code : Nat) (data : List Int) (s : State) : (State.auxRecord code data s).store = s.store := by
  simp [State.auxRecord]

@[simp] theorem State.mainReset_ok (s : State) (h : s.store.ok) : (State.mainReset s).store.ok := by
  exact ⟨h.1, rfl, rfl, rfl, rfl, rfl, rfl⟩

@[simp] theorem State.reboot_ok (s : State) (h : s.store.ok) : (State.reboot s).store.ok := by
  simp [State.reboot, h]

@[simp] theorem State.mainsOff_ok (s : State) (h : s.store.ok) : (State.mainsOff s).store.ok := by
  simp [State.mainsOff, h]

@[simp] theorem State.functionReset_store (f : Nat) (s : State) : (State.functionReset f s).store = s.store := by
  simp [State.functionReset]

@[simp] theorem State.linkLost_store (f : Nat) (s : State) : (State.linkLost f s).store = s.store := by
  simp [State.linkLost]

@[simp] theorem State.toRest_store (s : State) : (State.toRest s).store = s.store := by
  simp [State.toRest]

@[simp] theorem State.auxLost_ok (s : State) (h : s.store.ok) : (State.auxLost s).store.ok := by
  unfold State.auxLost; (repeat' split) <;> simp [h]

@[simp] theorem State.auxStart_store (s : State) : (State.auxStart s).store = s.store := by
  simp [State.auxStart]

@[simp] theorem State.keepReset_store (s : State) : (State.keepReset s).store = s.store := by
  simp [State.keepReset]

@[simp] theorem State.setField_store (mv : Int) (low : Bool) (s : State) : (State.setField mv low s).store = s.store := by
  simp [State.setField]

@[simp] theorem State.mainLoss_ok (s : State) (h : s.store.ok) : (State.mainLoss s).store.ok := by
  unfold State.mainLoss; (repeat' split) <;> simp [h]

@[simp] theorem State.fwEnd_store (ok : Bool) (result : Nat) (s : State) : (State.fwEnd ok result s).store = s.store := by
  unfold State.fwEnd; (repeat' split) <;> simp

@[simp] theorem State.supplyCrossed_ok (input kind : Nat) (mv : Int) (s : State) (h : s.store.ok) : (State.supplyCrossed input kind mv s).store.ok := by
  simp only [State.supplyCrossed]; (repeat' split) <;> simp_all

@[simp] theorem State.supplyLevel_store (input : Nat) (mv : Int) (s : State) : (State.supplyLevel input mv s).store = s.store := by
  unfold State.supplyLevel; (repeat' split) <;> simp

@[simp] theorem State.supply_ok (input kind : Nat) (mv : Int) (s : State) (h : s.store.ok) : (State.supply input kind mv s).store.ok := by
  simp only [State.supply]; (repeat' split) <;> simp_all

@[simp] theorem State.startSequence_store (s : State) : (State.startSequence s).store = s.store := by
  simp [State.startSequence]

@[simp] theorem State.answer_store (bus op tag flags result detail : Nat) (payload : List Nat) (s : State) : (State.answer bus op tag flags result detail payload s).store = s.store := by
  simp [State.answer]

@[simp] theorem State.answerPowerOn_store (result detail : Nat) (s : State) : (State.answerPowerOn result detail s).store = s.store := by
  unfold State.answerPowerOn; (repeat' split) <;> simp

@[simp] theorem State.powerGood_ok (s : State) (h : s.store.ok) : (State.powerGood s).store.ok := by
  simp only [State.powerGood]; (repeat' split) <;> simp_all

@[simp] theorem State.domainOff_store (d : Nat) (s : State) : (State.domainOff d s).store = s.store := by
  simp [State.domainOff]

@[simp] theorem State.powerMissed_ok (d : Nat) (s : State) (h : s.store.ok) : (State.powerMissed d s).store.ok := by
  simp only [State.powerMissed]; (repeat' split) <;> simp_all

@[simp] theorem State.powerLost_store (d : Nat) (s : State) : (State.powerLost d s).store = s.store := by
  simp [State.powerLost]

@[simp] theorem State.bootFailed_store (reason : Nat) (s : State) : (State.bootFailed reason s).store = s.store := by
  simp [State.bootFailed]

@[simp] theorem State.loadImage_store (crcA crcB : Bool) (s : State) : (State.loadImage crcA crcB s).1.store = s.store := by
  simp only [State.loadImage]; (repeat' split) <;> simp

@[simp] theorem State.fence_store (w : Nat) (units : List Nat) (s : State) : (State.fence w units s).store = s.store := by
  simp [State.fence]

@[simp] theorem State.bootReady_store (k : Nat) (trial : Bool) (fence0 fence1 : List Nat) (s : State) : (State.bootReady k trial fence0 fence1 s).store = s.store := by
  simp [State.bootReady]

@[simp] theorem State.leaveBoot_store (s : State) : (State.leaveBoot s).store = s.store := by
  simp [State.leaveBoot]

@[simp] theorem State.bootEnd_store (crcA crcB : Bool) (test : Nat) (fence0 fence1 : List Nat) (s0 : State) : (State.bootEnd crcA crcB test fence0 fence1 s0).store = s0.store := by
  simp [State.bootEnd]; (repeat' split) <;> simp

@[simp] theorem State.bootTimeout_store (s : State) : (State.bootTimeout s).store = s.store := by
  simp [State.bootTimeout]

@[simp] theorem State.autoOn_store (s : State) : (State.autoOn s).store = s.store := by
  simp [State.autoOn]

@[simp] theorem State.thermalShutdown_ok (w : Nat) (tj : Int) (s : State) (h : s.store.ok) : (State.thermalShutdown w tj s).store.ok := by
  unfold State.thermalShutdown; (repeat' split) <;> simp [h]

@[simp] theorem State.thermalRestart_store (t0 t1 : Int) (s : State) : (State.thermalRestart t0 t1 s).store = s.store := by
  simp [State.thermalRestart]

@[simp] theorem State.reply_store (r : ZReq) (op flags result detail : Nat) (payload : List Nat) (s : State) : (State.reply r op flags result detail payload s).store = s.store := by
  simp [State.reply]

@[simp] theorem State.request_store (op : Nat) (ack : Bool) (r : ZReq) (f : State → State) (s : State)
    (hf : ∀ s, (f s).store = s.store) : (State.request op ack r f s).store = s.store := by
  unfold State.request
  split
  · rfl
  · dsimp only
    (repeat' split) <;> simp [hf]

theorem State.request_ok (op : Nat) (ack : Bool) (r : ZReq) (f : State → State) (s : State) (hf : ∀ s, s.store.ok → (f s).store.ok)
    (h : s.store.ok) : (State.request op ack r f s).store.ok := by
  unfold State.request
  split
  · exact h
  · dsimp only
    (repeat' split)
    · simp [h]
    · simp [h]
    · exact hf _ (by simp [h])
@[simp] theorem State.discardRequest_store (op : Nat) (r : ZReq) (s : State) : (State.discardRequest op r s).store = s.store := by
  simp [State.discardRequest]

@[simp] theorem State.refuse_store (r : ZReq) (op result : Nat) (s : State) : (State.refuse r op result s).store = s.store := by
  simp [State.refuse]

@[simp] theorem State.badState_store (r : ZReq) (op : Nat) (s : State) : (State.badState r op s).store = s.store := by
  simp [State.badState]

@[simp] theorem State.zIdent_store (r : ZReq) (s : State) : (State.zIdent r s).store = s.store := by
  simp [State.zIdent]

@[simp] theorem State.zStatus_store (r : ZReq) (s : State) : (State.zStatus r s).store = s.store := by
  simp [State.zStatus]

@[simp] theorem State.zTemps_store (r : ZReq) (s : State) : (State.zTemps r s).store = s.store := by
  simp [State.zTemps]

@[simp] theorem State.zPair_store (r : ZReq) (s : State) : (State.zPair r s).store = s.store := by
  simp [State.zPair]

@[simp] theorem State.zSettings_store (r : ZReq) (s : State) : (State.zSettings r s).store = s.store := by
  simp [State.zSettings]

@[simp] theorem State.alertResponse_store (s : State) : (State.alertResponse s).store = s.store := by
  simp [State.alertResponse]

@[simp] theorem State.powerUp_store (r : ZReq) (op : Nat) (s : State) : (State.powerUp r op s).store = s.store := by
  simp [State.powerUp]

@[simp] theorem State.zPowerOn_store (r : ZReq) (s : State) : (State.zPowerOn r s).store = s.store := by
  simp [State.zPowerOn]

@[simp] theorem State.force_store (s : State) : (State.force s).store = s.store := by
  simp [State.force]

@[simp] theorem State.orderlyOff_ok (op bus : Nat) (ack : Bool) (s : State) (h : s.store.ok) : (State.orderlyOff op bus ack s).store.ok := by
  simp [State.orderlyOff, h]

@[simp] theorem State.zPowerOff_ok (r : ZReq) (ack : Bool) (s : State) (h : s.store.ok) : (State.zPowerOff r ack s).store.ok := by
  exact State.request_ok _ _ _ _ _ (fun s h => by simp only []; (repeat' split) <;> simp [h]) h

@[simp] theorem State.zPowerCycle_ok (r : ZReq) (ack : Bool) (s : State) (h : s.store.ok) : (State.zPowerCycle r ack s).store.ok := by
  exact State.request_ok _ _ _ _ _ (fun s h => by simp only []; (repeat' split) <;> simp [h]) h

@[simp] theorem State.zRestReq_store (r : ZReq) (ack : Bool) (s : State) : (State.zRestReq r ack s).store = s.store := by
  simp [State.zRestReq]

@[simp] theorem State.zForce_store (r : ZReq) (s : State) : (State.zForce r s).store = s.store := by
  simp [State.zForce]

@[simp] theorem State.zLockoutClear_store (r : ZReq) (s : State) : (State.zLockoutClear r s).store = s.store := by
  simp [State.zLockoutClear]

@[simp] theorem State.logCommit_store (s : State) : (State.logCommit s).store = s.store := by
  simp [State.logCommit]

@[simp] theorem State.zLogInfo_store (r : ZReq) (s : State) : (State.zLogInfo r s).store = s.store := by
  simp [State.zLogInfo]

@[simp] theorem State.zLogRead_store (r : ZReq) (s : State) : (State.zLogRead r s).store = s.store := by
  exact State.request_store _ _ _ _ _ (fun s => by (repeat' split) <;> simp)

@[simp] theorem State.tamperOpen_store (s : State) : (State.tamperOpen s).store = s.store := by
  simp [State.tamperOpen]

@[simp] theorem State.fwOpen_store (target len : Nat) (s : State) : (State.fwOpen target len s).store = s.store := by
  simp [State.fwOpen]

@[simp] theorem State.fwChunk_store (x : Fw) (off : Nat) (bytes : List Nat) (s : State) : (State.fwChunk x off bytes s).1.store = s.store := by
  unfold State.fwChunk; (repeat' split) <;> simp

@[simp] theorem State.zFwOpen_store (r : ZReq) (s : State) : (State.zFwOpen r s).store = s.store := by
  simp [State.zFwOpen]

@[simp] theorem State.zFwData_store (r : ZReq) (s : State) : (State.zFwData r s).store = s.store := by
  exact State.request_store _ _ _ _ _ (fun s => by (repeat' split) <;> simp)

@[simp] theorem State.zFwClose_store (r : ZReq) (s : State) : (State.zFwClose r s).store = s.store := by
  exact State.request_store _ _ _ _ _ (fun s => by (repeat' split) <;> simp)

@[simp] theorem State.fwSelect_store (target k : Nat) (restart : Bool) (s : State) : (State.fwSelect target k restart s).store = s.store := by
  simp [State.fwSelect]

@[simp] theorem State.zFwSelect_store (r : ZReq) (s : State) : (State.zFwSelect r s).store = s.store := by
  simp [State.zFwSelect]

@[simp] theorem State.fwTimeout_store (s : State) : (State.fwTimeout s).store = s.store := by
  unfold State.fwTimeout; (repeat' split) <;> simp

@[simp] theorem State.flashRefresh_store (bad : List Nat) (s : State) : (State.flashRefresh bad s).store = s.store := by
  simp [State.flashRefresh]

@[simp] theorem State.zUnknown_store (op : Nat) (r : ZReq) (s : State) : (State.zUnknown op r s).store = s.store := by
  simp [State.zUnknown]

@[simp] theorem State.zRun_ok (op : Nat) (ack : Bool) (r : ZReq) (s : State) (h : s.store.ok) : (State.zRun op ack r s).store.ok := by
  unfold State.zRun; (repeat' split) <;> simp [h]

@[simp] theorem State.zNext_ok (s : State) (h : s.store.ok) : (State.zNext s).store.ok := by
  unfold State.zNext; (repeat' split) <;> simp [h]

@[simp] theorem State.responseRead_store (ch slot off n : Nat) (s : State) : (State.responseRead ch slot off n s).store = s.store := by
  simp [State.responseRead]

@[simp] theorem State.timeNowRead_store (r : TimeRead) (f : Nat) (s : State) : (State.timeNowRead r f s).store = s.store := by
  unfold State.timeNowRead; (repeat' split) <;> simp

@[simp] theorem State.droppedRead_store (f : Nat) (s : State) : (State.droppedRead f s).store = s.store := by
  simp [State.droppedRead]

@[simp] theorem State.bar2Host_store (f off n : Nat) (s : State) : (State.bar2Host f off n s).store = s.store := by
  unfold State.bar2Host; (repeat' split) <;> simp

@[simp] theorem State.maskVector_store (f v : Nat) (m : Bool) (s : State) : (State.maskVector f v m s).store = s.store := by
  simp [State.maskVector]

@[simp] theorem State.chanWrite_store (ch base off : Nat) (bytes : List Nat) (s : State) : (State.chanWrite ch base off bytes s).store = s.store := by
  simp [State.chanWrite]

@[simp] theorem State.ctrlWrite_ok (f c v : Nat) (s : State) (h : s.store.ok) : (State.ctrlWrite f c v s).store.ok := by
  unfold State.ctrlWrite; (repeat' split) <;> simp [h]

@[simp] theorem State.dmaWrite_ok (f c reg v w : Nat) (s : State) (h : s.store.ok) : (State.dmaWrite f c reg v w s).store.ok := by
  unfold State.dmaWrite; (repeat' split) <;> simp [h]

@[simp] theorem State.wordWrite_ok (f base off : Nat) (bytes : List Nat) (s : State) (h : s.store.ok) : (State.wordWrite f base off bytes s).store.ok := by
  simp only [State.wordWrite]; (repeat' split) <;> simp_all

@[simp] theorem State.registerWrite_ok (f off : Nat) (bytes : List Nat) (s : State) (h : s.store.ok) : (State.registerWrite f off bytes s).store.ok := by
  unfold State.registerWrite; (repeat' split) <;> (try simp [h]) <;> (refine foldl_ok _ _ _ ?_ ?_) <;> (try intro s a h) <;> (repeat' split) <;> simp [h]

@[simp] theorem State.intCauseClear_store (f clear again : Nat) (s : State) : (State.intCauseClear f clear again s).store = s.store := by
  simp [State.intCauseClear]

@[simp] theorem State.intEnable_store (f value : Nat) (s : State) : (State.intEnable f value s).store = s.store := by
  simp [State.intEnable]

@[simp] theorem State.overflowClear_store (s : State) : (State.overflowClear s).store = s.store := by
  simp [State.overflowClear]

@[simp] theorem State.snapshot_store (f : Nat) (s : State) : (State.snapshot f s).store = s.store := by
  simp [State.snapshot]

@[simp] theorem State.ringWrite_ok (s : State) (h : s.store.ok) : (State.ringWrite s).store.ok := by
  simp only [State.ringWrite]; (repeat' split) <;> simp_all

end Sys2Proof.Machine
end

