-- ==== Sys2Proof/Laws/StoreVerbs.lean ====
section
/-! SUPPORT. What leaves the memories alone or keeps them canonical: the mailbox verbs and the mailbox itself. -/

namespace Sys2Proof.Machine

open Sys2Proof

-- The terms of a step are records inside records, deeper than the default allows.
set_option maxRecDepth 4000

theorem verbRun_store (ok : Bool) (bad : Option Nat) (f : State → VRes) (s : State) (hf : ∀ s, (f s).1.store = s.store) :
    (verbRun ok bad f s).1.store = s.store := by
  unfold verbRun
  split
  · rfl
  · split
    · rfl
    · exact hf s

theorem verbRun_ok (ok : Bool) (bad : Option Nat) (f : State → VRes) (s : State) (hf : ∀ s, s.store.ok → (f s).1.store.ok)
    (h : s.store.ok) : (verbRun ok bad f s).1.store.ok := by
  unfold verbRun
  split
  · exact h
  · split
    · exact h
    · exact hf s h

@[simp] theorem vSysInfo_store (q : QCmd) (s : State) : (vSysInfo q s).1.store = s.store := by
  exact verbRun_store _ _ _ _ (fun s => by (repeat' split) <;> simp)

@[simp] theorem vSysPing_store (q : QCmd) (s : State) : (vSysPing q s).1.store = s.store := by
  exact verbRun_store _ _ _ _ (fun s => by (repeat' split) <;> simp)

@[simp] theorem vEventRing_store (q : QCmd) (s : State) : (vEventRing q s).1.store = s.store := by
  exact verbRun_store _ _ _ _ (fun s => by (repeat' split) <;> simp)

@[simp] theorem State.coldReset_ok (s : State) (h : s.store.ok) : (State.coldReset s).store.ok := by
  simp [State.coldReset, h]

@[simp] theorem vReset_ok (q : QCmd) (s : State) (h : s.store.ok) : (vReset q s).1.store.ok := by
  exact verbRun_ok _ _ _ _ (fun s h => by (repeat' split) <;> simp [h]) h

@[simp] theorem State.clearFirst_store (s : State) : (State.clearFirst s).store = s.store := by
  simp [State.clearFirst]

@[simp] theorem State.arm_store (s : State) : (State.arm s).store = s.store := by
  simp [State.arm]

@[simp] theorem vArm_store (q : QCmd) (s : State) : (vArm q s).1.store = s.store := by
  exact verbRun_store _ _ _ _ (fun s => by (repeat' split) <;> simp)

@[simp] theorem vDisarm_store (q : QCmd) (s : State) : (vDisarm q s).1.store = s.store := by
  exact verbRun_store _ _ _ _ (fun s => by (repeat' split) <;> simp)

@[simp] theorem vRest_store (q : QCmd) (s : State) : (vRest q s).1.store = s.store := by
  exact verbRun_store _ _ _ _ (fun s => by (repeat' split) <;> simp)

@[simp] theorem State.clearLatches_store (s : State) : (State.clearLatches s).store = s.store := by
  simp [State.clearLatches]

@[simp] theorem vClear_store (q : QCmd) (s : State) : (vClear q s).1.store = s.store := by
  exact verbRun_store _ _ _ _ (fun s => by (repeat' split) <;> simp)

@[simp] theorem State.ownFault_store (fn ch : Nat) (s : State) : (State.ownFault fn ch s).1.store = s.store := by
  simp [State.ownFault]

@[simp] theorem State.fetchFault_store (ch : Nat) (s : State) : (State.fetchFault ch s).1.store = s.store := by
  simp [State.fetchFault]

@[simp] theorem State.bulkFault_store (n : Nat × Nat) (s : State) : (State.bulkFault n s).1.store = s.store := by
  simp [State.bulkFault]

@[simp] theorem State.stage_store (id off : Nat) (bytes : List Nat) (s : State) : (State.stage id off bytes s).store = s.store := by
  simp [State.stage]

@[simp] theorem vStage_store (q : QCmd) (s : State) : (vStage q s).1.store = s.store := by
  exact verbRun_store _ _ _ _ (fun s => by (repeat' split) <;> simp)

@[simp] theorem vCheck_store (q : QCmd) (s : State) : (vCheck q s).1.store = s.store := by
  exact verbRun_store _ _ _ _ (fun s => by simp only []; (repeat' split) <;> simp)

@[simp] theorem State.commitNow_store (ch slot : Nat) (warn : Bool) (s : State) : (State.commitNow ch slot warn s).1.store = s.store := by
  simp [State.commitNow]

@[simp] theorem State.commitAt_store (ch slot lift : Nat) (late : Bool) (s : State) : (State.commitAt ch slot lift late s).store = s.store := by
  simp [State.commitAt]

@[simp] theorem vCommit_store (ch : Nat) (q : QCmd) (s : State) : (vCommit ch q s).1.store = s.store := by
  exact verbRun_store _ _ _ _ (fun s => by (repeat' split) <;> simp)

@[simp] theorem vCancel_store (q : QCmd) (s : State) : (vCancel q s).1.store = s.store := by
  exact verbRun_store _ _ _ _ (fun s => by (repeat' split) <;> simp)

@[simp] theorem vDiscard_store (q : QCmd) (s : State) : (vDiscard q s).1.store = s.store := by
  exact verbRun_store _ _ _ _ (fun s => by (repeat' split) <;> simp)

@[simp] theorem State.copyOut_ok (addr : Nat) (bytes : List Nat) (s : State) (h : s.store.ok) : (State.copyOut addr bytes s).store.ok := by
  simp [State.copyOut, h]

@[simp] theorem vCfgRead_ok (q : QCmd) (s : State) (h : s.store.ok) : (vCfgRead q s).1.store.ok := by
  exact verbRun_ok _ _ _ _ (fun s h => by (repeat' split) <;> simp [h]) h

@[simp] theorem vJobOpen_store (q : QCmd) (s : State) : (vJobOpen q s).1.store = s.store := by
  exact verbRun_store _ _ _ _ (fun s => by simp only []; (repeat' split) <;> simp)

@[simp] theorem vJobSubmit_store (q : QCmd) (s : State) : (vJobSubmit q s).1.store = s.store := by
  exact verbRun_store _ _ _ _ (fun s => by simp only []; (repeat' split) <;> simp)

@[simp] theorem State.queueJob_store (j : Job) (boundary : Nat) (s : State) : (State.queueJob j boundary s).store = s.store := by
  simp [State.queueJob]

@[simp] theorem vJobStart_store (q : QCmd) (s : State) : (vJobStart q s).1.store = s.store := by
  exact verbRun_store _ _ _ _ (fun s => by simp only []; (repeat' split) <;> simp)

@[simp] theorem vJobPause_store (q : QCmd) (s : State) : (vJobPause q s).1.store = s.store := by
  exact verbRun_store _ _ _ _ (fun s => by (repeat' split) <;> simp)

@[simp] theorem vJobContinue_store (q : QCmd) (s : State) : (vJobContinue q s).1.store = s.store := by
  exact verbRun_store _ _ _ _ (fun s => by (repeat' split) <;> simp)

@[simp] theorem State.holdWithoutJob_store (s : State) : (State.holdWithoutJob s).store = s.store := by
  simp [State.holdWithoutJob]

@[simp] theorem State.abortJob_store (j : Job) (s : State) : (State.abortJob j s).store = s.store := by
  simp [State.abortJob]

@[simp] theorem vJobAbort_store (q : QCmd) (s : State) : (vJobAbort q s).1.store = s.store := by
  exact verbRun_store _ _ _ _ (fun s => by (repeat' split) <;> simp)

@[simp] theorem vJobClose_store (q : QCmd) (s : State) : (vJobClose q s).1.store = s.store := by
  exact verbRun_store _ _ _ _ (fun s => by (repeat' split) <;> simp)

@[simp] theorem vJobStatus_store (q : QCmd) (s : State) : (vJobStatus q s).1.store = s.store := by
  exact verbRun_store _ _ _ _ (fun s => by (repeat' split) <;> simp)

@[simp] theorem State.schedule_store (a : Act) (s : State) : (State.schedule a s).store = s.store := by
  simp [State.schedule]

@[simp] theorem State.acceptAct_store (a : Act) (passed atOnce : Bool) (verb : Nat) (s : State) : (State.acceptAct a passed atOnce verb s).1.store = s.store := by
  simp only [State.acceptAct]; (repeat' split) <;> simp

@[simp] theorem vAtCourse_store (q : QCmd) (s : State) : (vAtCourse q s).1.store = s.store := by
  exact verbRun_store _ _ _ _ (fun s => by (repeat' split) <;> simp)

@[simp] theorem vAtTime_store (q : QCmd) (s : State) : (vAtTime q s).1.store = s.store := by
  unfold vAtTime
  dsimp only
  refine verbRun_store _ _ _ _ (fun s => ?_)
  simp

@[simp] theorem vEvtCancel_store (q : QCmd) (s : State) : (vEvtCancel q s).1.store = s.store := by
  exact verbRun_store _ _ _ _ (fun s => by (repeat' split) <;> simp)

@[simp] theorem vEvtList_ok (q : QCmd) (s : State) (h : s.store.ok) : (vEvtList q s).1.store.ok := by
  exact verbRun_ok _ _ _ _ (fun s h => by (repeat' split) <;> simp [h]) h

@[simp] theorem State.limitRecord_store (bar : Nat) (s : State) (n : Nat) : (State.limitRecord bar s n).store = s.store := by
  simp [State.limitRecord]

@[simp] theorem State.applyDens_store (bar : Nat) (a : DensAcc) (s : State) : (State.applyDens bar a s).store = s.store := by
  simp [State.applyDens]

@[simp] theorem State.densUpdate_store (bar rows exp first lift : Nat) (atOnce : Bool) (es : List Int) (s : State) : (State.densUpdate bar rows exp first lift atOnce es s).1.store = s.store := by
  simp only [State.densUpdate]; (repeat' split) <;> simp

@[simp] theorem vDensUpdate_store (q : QCmd) (s : State) : (vDensUpdate q s).1.store = s.store := by
  unfold vDensUpdate
  dsimp only
  refine verbRun_store _ _ _ _ (fun s => ?_)
  simp

@[simp] theorem vDensRead_ok (q : QCmd) (s : State) (h : s.store.ok) : (vDensRead q s).1.store.ok := by
  exact verbRun_ok _ _ _ _ (fun s h => by (repeat' split) <;> simp [h]) h

@[simp] theorem vDensFreeze_store (q : QCmd) (s : State) : (vDensFreeze q s).1.store = s.store := by
  exact verbRun_store _ _ _ _ (fun s => by (repeat' split) <;> simp)

@[simp] theorem State.mapNozzles_store (l : Nat) (late : Bool) (es : List (Nat × Nat)) (s : State) : (State.mapNozzles l late es s).1.store = s.store := by
  unfold State.mapNozzles; (repeat' split) <;> simp

@[simp] theorem vNozMap_store (q : QCmd) (s : State) : (vNozMap q s).1.store = s.store := by
  unfold vNozMap
  dsimp only
  refine verbRun_store _ _ _ _ (fun s => ?_)
  split
  · simp
  · split <;> simp

@[simp] theorem vNozRead_ok (q : QCmd) (s : State) (h : s.store.ok) : (vNozRead q s).1.store.ok := by
  exact verbRun_ok _ _ _ _ (fun s h => by (repeat' split) <;> simp [h]) h

@[simp] theorem vLaneBond_ok (q : QCmd) (s : State) (h : s.store.ok) : (vLaneBond q s).1.store.ok := by
  exact verbRun_ok _ _ _ _ (fun s h => by (repeat' split) <;> simp [h]) h

@[simp] theorem vPairSwap_store (ch : Nat) (q : QCmd) (s : State) : (vPairSwap ch q s).1.store = s.store := by
  exact verbRun_store _ _ _ _ (fun s => by (repeat' split) <;> simp)

@[simp] theorem State.joinActive_store (s : State) : (State.joinActive s).store = s.store := by
  simp [State.joinActive]

@[simp] theorem vPairJoin_store (q : QCmd) (s : State) : (vPairJoin q s).1.store = s.store := by
  exact verbRun_store _ _ _ _ (fun s => by simp only []; (repeat' split) <;> simp)

@[simp] theorem vPairLeave_store (q : QCmd) (s : State) : (vPairLeave q s).1.store = s.store := by
  exact verbRun_store _ _ _ _ (fun s => by (repeat' split) <;> simp)

@[simp] theorem State.abortStarted_store (s : State) : (State.abortStarted s).store = s.store := by
  simp [State.abortStarted]

@[simp] theorem vPairTake_store (q : QCmd) (s : State) : (vPairTake q s).1.store = s.store := by
  exact verbRun_store _ _ _ _ (fun s => by (repeat' split) <;> simp)

@[simp] theorem vPairInfo_store (q : QCmd) (s : State) : (vPairInfo q s).1.store = s.store := by
  exact verbRun_store _ _ _ _ (fun s => by (repeat' split) <;> simp)

@[simp] theorem vGangForm_store (q : QCmd) (s : State) : (vGangForm q s).1.store = s.store := by
  exact verbRun_store _ _ _ _ (fun s => by (repeat' split) <;> simp)

@[simp] theorem vGangDissolve_store (q : QCmd) (s : State) : (vGangDissolve q s).1.store = s.store := by
  exact verbRun_store _ _ _ _ (fun s => by (repeat' split) <;> simp)

@[simp] theorem vGangInfo_store (q : QCmd) (s : State) : (vGangInfo q s).1.store = s.store := by
  exact verbRun_store _ _ _ _ (fun s => by (repeat' split) <;> simp)

@[simp] theorem vAcceptStep_store (ch : Nat) (q : QCmd) (s : State) : (vAcceptStep ch q s).1.store = s.store := by
  exact verbRun_store _ _ _ _ (fun s => by (repeat' split) <;> simp)

@[simp] theorem vTimeSet_store (ch : Nat) (q : QCmd) (s : State) : (vTimeSet ch q s).1.store = s.store := by
  exact verbRun_store _ _ _ _ (fun s => by (repeat' split) <;> simp)

@[simp] theorem vTimeStatus_store (q : QCmd) (s : State) : (vTimeStatus q s).1.store = s.store := by
  exact verbRun_store _ _ _ _ (fun s => by (repeat' split) <;> simp)

@[simp] theorem State.stepApply_store (s : State) : (State.stepApply s).store = s.store := by
  unfold State.stepApply; (repeat' split) <;> simp

@[simp] theorem vLampSet_store (q : QCmd) (s : State) : (vLampSet q s).1.store = s.store := by
  exact verbRun_store _ _ _ _ (fun s => by (repeat' split) <;> simp)

@[simp] theorem vLampRead_ok (q : QCmd) (s : State) (h : s.store.ok) : (vLampRead q s).1.store.ok := by
  exact verbRun_ok _ _ _ _ (fun s h => by (repeat' split) <;> simp [h]) h

@[simp] theorem State.clearShort_store (s : State) (n : Nat) : (State.clearShort s n).store = s.store := by
  simp [State.clearShort]

@[simp] theorem State.clearShorts_store (s : State) : (State.clearShorts s).store = s.store := by
  simp [State.clearShorts]

@[simp] theorem State.clearPins_store (s : State) : (State.clearPins s).store = s.store := by
  simp [State.clearPins]

@[simp] theorem vLampClear_store (q : QCmd) (s : State) : (vLampClear q s).1.store = s.store := by
  exact verbRun_store _ _ _ _ (fun s => by (repeat' split) <;> simp)

@[simp] theorem vPanelSet_store (q : QCmd) (s : State) : (vPanelSet q s).1.store = s.store := by
  exact verbRun_store _ _ _ _ (fun s => by (repeat' split) <;> simp)

@[simp] theorem vCopingRead_ok (q : QCmd) (s : State) (h : s.store.ok) : (vCopingRead q s).1.store.ok := by
  exact verbRun_ok _ _ _ _ (fun s h => by (repeat' split) <;> simp [h]) h

@[simp] theorem vCopingCal_store (q : QCmd) (s : State) : (vCopingCal q s).1.store = s.store := by
  exact verbRun_store _ _ _ _ (fun s => by (repeat' split) <;> simp)

@[simp] theorem vLogRead_ok (q : QCmd) (s : State) (h : s.store.ok) : (vLogRead q s).1.store.ok := by
  exact verbRun_ok _ _ _ _ (fun s h => by (repeat' split) <;> simp [h]) h

@[simp] theorem State.plinthFail_store (result : Nat) (s : State) : (State.plinthFail result s).1.store = s.store := by
  simp [State.plinthFail]

@[simp] theorem vPlinthFw_store (q : QCmd) (s : State) : (vPlinthFw q s).1.store = s.store := by
  exact verbRun_store _ _ _ _ (fun s => by simp only []; (repeat' split) <;> simp)

@[simp] theorem vFwSelect_store (q : QCmd) (s : State) : (vFwSelect q s).1.store = s.store := by
  exact verbRun_store _ _ _ _ (fun s => by (repeat' split) <;> simp)

@[simp] theorem runLow_ok (ch : Nat) (q : QCmd) (s : State) (h : s.store.ok) : (runLow ch q s).1.store.ok := by
  unfold runLow; (repeat' split) <;> simp [h]

@[simp] theorem runHigh_ok (ch : Nat) (q : QCmd) (s : State) (h : s.store.ok) : (runHigh ch q s).1.store.ok := by
  unfold runHigh; (repeat' split) <;> simp [h]

@[simp] theorem runVerb_ok (ch : Nat) (q : QCmd) (s : State) (h : s.store.ok) : (runVerb ch q s).1.store.ok := by
  unfold runVerb; (repeat' split) <;> simp [h]

@[simp] theorem State.keystones_store (q : QCmd) (s : State) : (State.keystones q s).store = s.store := by
  simp [State.keystones]

@[simp] theorem State.keystoneDone_store (q : QCmd) (s : State) : (State.keystoneDone q s).store = s.store := by
  simp [State.keystoneDone]

@[simp] theorem bothWythes_ok (ch : Nat) (q : QCmd) (s : State) (h : s.store.ok) : (bothWythes ch q s).1.store.ok := by
  simp [bothWythes, h]

theorem State.carry_store (ch : Nat) (q : QCmd) (r : VRes) : (State.carry ch q r).1.store = r.1.store := by
  unfold State.carry
  dsimp only
  (repeat' split) <;> simp

theorem State.runCmd_ok (ch : Nat) (q : QCmd) (s : State) (h : s.store.ok) : (State.runCmd ch q s).1.store.ok := by
  have hr : (bothWythes ch q s).1.store.ok := bothWythes_ok ch q s h
  unfold State.runCmd
  split
  · exact h
  · split
    · exact h
    · dsimp only
      split
      · exact hr
      · rw [State.carry_store]; exact hr
@[simp] theorem State.runHead_ok (ch : Nat) (s : State) (h : s.store.ok) : (State.runHead ch s).store.ok := by
  unfold State.runHead
  split
  · exact h
  · have := State.runCmd_ok ch ‹QCmd› (s.modChan ch (fun x => { x with running := true })) (by simpa using h)
    dsimp only
    split
    · simpa using this
    · exact this

theorem settleGo_ok (n : Nat) (s : State) (h : s.store.ok) : (settleGo n s).store.ok := by
  induction n generalizing s with
  | zero => exact h
  | succ n ih =>
    unfold settleGo
    split
    · exact h
    · exact ih _ (State.runHead_ok _ _ h)

@[simp] theorem State.settle_ok (s : State) (h : s.store.ok) : (State.settle s).store.ok := by
  exact settleGo_ok 256 s h

@[simp] theorem State.restAtOnce_store (ch : Nat) (q : QCmd) (s : State) : (State.restAtOnce ch q s).store = s.store := by
  simp [State.restAtOnce]

@[simp] theorem State.submit_ok (verb : Nat) (m : Mbox) (s : State) (h : s.store.ok) : (State.submit verb m s).store.ok := by
  simp [State.submit, h]

@[simp] theorem State.remote_ok (side verb : Nat) (m : Mbox) (data : List Nat) (s : State) (h : s.store.ok) : (State.remote side verb m data s).store.ok := by
  simp only [State.remote]; (repeat' split) <;> simp_all

@[simp] theorem State.msg_ok (side : Nat) (b : BMsg) (s : State) (h : s.store.ok) : (State.msg side b s).store.ok := by
  unfold State.msg; (repeat' split) <;> simp [h]

end Sys2Proof.Machine
end

