-- ==== Sys2Proof/Laws/StoreOutside.lean ====
section
/-! SUPPORT. What leaves the memories alone or keeps them canonical: interlocks, memory events, PTP, the nodes and the form of every command. -/

namespace Sys2Proof.Machine

open Sys2Proof

-- The terms of a step are records inside records, deeper than the default allows.
set_option maxRecDepth 4000

@[simp] theorem State.plumbChange_store (f : Plumb → Plumb) (s : State) : (State.plumbChange f s).store = s.store := by
  simp [State.plumbChange]

@[simp] theorem State.inputLevel_store (i : Nat) (level opened : Bool) (s : State) : (State.inputLevel i level opened s).store = s.store := by
  simp [State.inputLevel]

@[simp] theorem State.fieldInput_store (i : Nat) (level : Bool) (ua : Nat) (s : State) : (State.fieldInput i level ua s).store = s.store := by
  simp [State.fieldInput]

@[simp] theorem State.estopDisc_store (s : State) : (State.estopDisc s).store = s.store := by
  simp [State.estopDisc]

@[simp] theorem State.outputFault_store (o kind : Nat) (s : State) : (State.outputFault o kind s).store = s.store := by
  simp [State.outputFault]

@[simp] theorem State.openLoad_store (o ua : Nat) (s : State) : (State.openLoad o ua s).store = s.store := by
  simp [State.openLoad]

@[simp] theorem State.fieldSupply_store (mv : Int) (s : State) : (State.fieldSupply mv s).store = s.store := by
  simp [State.fieldSupply]

@[simp] theorem State.thermChange_store (tj0 tj1 : Int) (s : State) : (State.thermChange tj0 tj1 s).store = s.store := by
  simp [State.thermChange]

@[simp] theorem State.supplyOverload_store (k : Nat) (limit : Bool) (s : State) : (State.supplyOverload k limit s).store = s.store := by
  simp [State.supplyOverload]

@[simp] theorem State.wdogDrop_store (s : State) : (State.wdogDrop s).store = s.store := by
  simp [State.wdogDrop]

@[simp] theorem State.wdogKey_store (s : State) : (State.wdogKey s).store = s.store := by
  simp [State.wdogKey]

@[simp] theorem State.watchdog_store (wrong : Bool) (s : State) : (State.watchdog wrong s).store = s.store := by
  simp [State.watchdog]

@[simp] theorem State.heartbeats_store (beats : List (Nat × Nat)) (s : State) : (State.heartbeats beats s).store = s.store := by
  simp [State.heartbeats]

@[simp] theorem State.aliveTick_store (s : State) : (State.aliveTick s).store = s.store := by
  simp [State.aliveTick]

@[simp] theorem State.courseRecord_store (course fire : Nat) (s : State) : (State.courseRecord course fire s).store = s.store := by
  simp [State.courseRecord]

@[simp] theorem State.tieCorrected_store (to_ : Nat) (s : State) : (State.tieCorrected to_ s).store = s.store := by
  simp [State.tieCorrected]

@[simp] theorem State.tieBlocks_store (to_ : Nat) (l : List BlockRead) (n : Nat) (s : State) : (State.tieBlocks to_ l n s).store = s.store := by
  induction l generalizing n s with
  | nil => rfl
  | cons e l ih =>
    cases e with
    | clean _ => rfl
    | corrected _ => simp [State.tieBlocks]
    | bad =>
      unfold State.tieBlocks
      split
      · simp
      · exact ih _ _

@[simp] theorem State.tieReplay_store (to_ back : Nat) (errors : List Nat) (s : State) : (State.tieReplay to_ back errors s).store = s.store := by
  simp [State.tieReplay]

@[simp] theorem State.seamMissed_store (s : State) : (State.seamMissed s).store = s.store := by
  simp [State.seamMissed]

@[simp] theorem State.tieLost_store (s : State) : (State.tieLost s).store = s.store := by
  simp [State.tieLost]

@[simp] theorem State.lockstep_store (w : Nat) (s : State) : (State.lockstep w s).store = s.store := by
  simp [State.lockstep]

@[simp] theorem State.liftToken_store (lift : Nat) (s : State) : (State.liftToken lift s).store = s.store := by
  simp [State.liftToken]

@[simp] theorem State.commitToken_store (s : State) : (State.commitToken s).store = s.store := by
  simp [State.commitToken]

@[simp] theorem State.loseLines_store (w job fluid line n : Nat) (s : State) : (State.loseLines w job fluid line n s).store = s.store := by
  simp [State.loseLines]

@[simp] theorem State.spoilSection_store (id : Nat) (s : State) : (State.spoilSection id s).store = s.store := by
  simp [State.spoilSection]

@[simp] theorem State.spoilBank_store (b : Nat) (s : State) : (State.spoilBank b s).store = s.store := by
  simp [State.spoilBank]

@[simp] theorem State.memoryError_ok (w target addr : Nat) (u : MemUse) (s : State) (h : s.store.ok) : (State.memoryError w target addr u s).store.ok := by
  have hb : ∀ b, ({ s with store := { s.store with badWords := b } } : State).store.ok := fun _ => h
  unfold State.memoryError
  split
  · exact h
  · simp only []
    (repeat' split) <;> simp [hb]

@[simp] theorem State.scrubRead_ok (unit addr : Nat) (u : MemUse) (b : BlockRead) (s : State) (h : s.store.ok) : (State.scrubRead unit addr u b s).store.ok := by
  unfold State.scrubRead
  cases b with
  | clean d => exact h
  | corrected d =>
    have e := State.storeWrite_ok (unit / 3) (unit % 3) (16 * addr) (leBytes 16 d) s h
    dsimp only
    generalize State.storeWrite (unit / 3) (unit % 3) (16 * addr) (leBytes 16 d) s = s1 at e ⊢
    exact e
  | bad => exact State.memoryError_ok _ _ _ _ s h

@[simp] theorem State.scrubWord_ok (unit : Nat) (s : State) (p : Nat × Nat × MemUse) (h : s.store.ok) : (State.scrubWord unit s p).store.ok := by
  unfold State.scrubWord
  exact State.scrubRead_ok _ _ _ _ s h

@[simp] theorem State.scrubEmit_ok (unit : Nat) (s : State) (h : s.store.ok) : (State.scrubEmit unit s).store.ok := by
  unfold State.scrubEmit
  dsimp only
  split
  · exact h
  · rw [State.emit_store]; exact h

@[simp] theorem State.scrubReport_ok (unit : Nat) (words : List (Nat × Nat × MemUse)) (s : State) (h : s.store.ok) : (State.scrubReport unit words s).store.ok := by
  unfold State.scrubReport
  split
  · exact State.scrubEmit_ok _ _ (foldl_ok _ _ _ (fun s a h => State.scrubWord_ok _ s a h) h)
  · exact h

@[simp] theorem State.pipelineDecode_store (w : Nat) (memErr : Bool) (pieces : List (List Nat)) (s : State) : (State.pipelineDecode w memErr pieces s).store = s.store := by
  simp [State.pipelineDecode]

@[simp] theorem State.quantaReport_store (w : Nat) (s : State) : (State.quantaReport w s).store = s.store := by
  simp [State.quantaReport]

@[simp] theorem State.saturationReport_store (w : Nat) (s : State) : (State.saturationReport w s).store = s.store := by
  simp [State.saturationReport]

@[simp] theorem State.ptpSend_store (p kind : Nat) (fields : List Int) (s : State) : (State.ptpSend p kind fields s).store = s.store := by
  simp [State.ptpSend]

@[simp] theorem State.syncMsg_store (p : Nat) (sent : Bool) (m : PtpId) (t1 : Option Nat) (s : State) : (State.syncMsg p sent m t1 s).store = s.store := by
  unfold State.syncMsg; (repeat' split) <;> simp

@[simp] theorem State.followUp_store (p : Nat) (sent : Bool) (m : PtpId) (t1 : Nat) (s : State) : (State.followUp p sent m t1 s).store = s.store := by
  unfold State.followUp; (repeat' split) <;> simp

@[simp] theorem State.delayReq_store (p : Nat) (sent : Bool) (m : PtpId) (s : State) : (State.delayReq p sent m s).store = s.store := by
  simp [State.delayReq]

@[simp] theorem State.delayResp_store (p : Nat) (m : PtpId) (t4 : Nat) (s : State) : (State.delayResp p m t4 s).store = s.store := by
  unfold State.delayResp; (repeat' split) <;> simp

@[simp] theorem State.pdelayReq_store (p : Nat) (sent : Bool) (m : PtpId) (turn : Nat) (s : State) : (State.pdelayReq p sent m turn s).store = s.store := by
  simp [State.pdelayReq]

@[simp] theorem State.peerDone_store (p : Nat) (t1 t2 t3 t4 : Int) (s : State) : (State.peerDone p t1 t2 t3 t4 s).store = s.store := by
  simp [State.peerDone]

@[simp] theorem State.pdelayResp_store (p : Nat) (m : PtpId) (t2 : Nat) (t3 : Option Nat) (s : State) : (State.pdelayResp p m t2 t3 s).store = s.store := by
  unfold State.pdelayResp; (repeat' split) <;> simp

@[simp] theorem State.pdelayFollowUp_store (p : Nat) (m : PtpId) (t3 : Nat) (s : State) : (State.pdelayFollowUp p m t3 s).store = s.store := by
  unfold State.pdelayFollowUp; (repeat' split) <;> simp

@[simp] theorem State.announceMsg_store (p : Nat) (io : AnnounceIo) (fields : List Nat) (s : State) : (State.announceMsg p io fields s).store = s.store := by
  unfold State.announceMsg; (repeat' split) <;> simp

@[simp] theorem State.forgetMaster_store (p : Nat) (s : State) : (State.forgetMaster p s).store = s.store := by
  simp [State.forgetMaster]

@[simp] theorem State.announceTimeout_store (s : State) : (State.announceTimeout s).store = s.store := by
  simp [State.announceTimeout]

@[simp] theorem State.ethernetLink_store (p : Nat) (up : Bool) (s : State) : (State.ethernetLink p up s).store = s.store := by
  simp [State.ethernetLink]

@[simp] theorem State.ipAnswer_store (p kind addr : Nat) (s : State) : (State.ipAnswer p kind addr s).store = s.store := by
  simp [State.ipAnswer]

@[simp] theorem State.rtcCopy_store (s : State) : (State.rtcCopy s).store = s.store := by
  simp [State.rtcCopy]

@[simp] theorem State.ppsIn_store (s : State) : (State.ppsIn s).store = s.store := by
  simp [State.ppsIn]

@[simp] theorem State.ppsOut_store (s : State) : (State.ppsOut s).store = s.store := by
  simp [State.ppsOut]

@[simp] theorem State.ref10_store (ok : Bool) (s : State) : (State.ref10 ok s).store = s.store := by
  simp [State.ref10]

@[simp] theorem State.camPulse_store (k course : Nat) (s : State) : (State.camPulse k course s).store = s.store := by
  simp [State.camPulse]

@[simp] theorem State.nodeExpiry_store (id : Nat) (s : State) : (State.nodeExpiry id s).store = s.store := by
  unfold State.nodeExpiry; (repeat' split) <;> simp

@[simp] theorem State.nodeTake_store (id port k kind len bits : Nat) (other : Node → Node) (f : Node → List Nat → State → State) (s : State)
    (hf : ∀ n d s, (f n d s).store = s.store) : (State.nodeTake id port k kind len bits other f s).store = s.store := by
  unfold State.nodeTake
  dsimp only
  split
  · simp
  · simp
  · split
    · simp
    · rw [hf]; simp
@[simp] theorem State.sendNode_store (id port k prio kind : Nat) (data : List Nat) (s : State) : (State.sendNode id port k prio kind data s).store = s.store := by
  unfold State.sendNode; (repeat' split) <;> simp

@[simp] theorem State.nodeBegin_store (limit id i : Nat) (s : State) : (State.nodeBegin limit id i s).store = s.store := by
  unfold State.nodeBegin; (repeat' split) <;> simp

@[simp] theorem State.nodesBegin_store (limit : Nat) (s : State) : (State.nodesBegin limit s).store = s.store := by
  unfold State.nodesBegin; (repeat' split) <;> (try simp) <;> (refine foldl_store _ _ _ ?_) <;> intro s a <;> (repeat' split) <;> simp

@[simp] theorem State.nodeFrame_store (id port k len bits : Nat) (s : State) : (State.nodeFrame id port k len bits s).store = s.store := by
  unfold State.nodeFrame
  exact State.nodeTake_store _ _ _ _ _ _ _ _ _ (fun n d s => by (try dsimp only); (repeat' split) <;> simp)

@[simp] theorem stopRows_store (hit : NRow → Bool) (t : Nat) (rs : List NRow) (s : State) :
    (stopRows hit t rs s).2.store = s.store := by
  induction rs generalizing s with
  | nil => rfl
  | cons r rs ih => simp only [stopRows, ih]; split <;> simp [State.fresh]

@[simp] theorem State.nodeStopAll_store (n : Node) (s : State) : (State.nodeStopAll n s).store = s.store := by
  simp [State.nodeStopAll]

@[simp] theorem State.nodeCancelFrom_store (c0 : Nat) (n : Node) (s : State) : (State.nodeCancelFrom c0 n s).store = s.store := by
  simp [State.nodeCancelFrom]

@[simp] theorem State.nodeLease_store (op id port k len bits : Nat) (s : State) : (State.nodeLease op id port k len bits s).store = s.store := by
  unfold State.nodeLease
  exact State.nodeTake_store _ _ _ _ _ _ _ _ _ (fun n d s => by (try dsimp only); (repeat' split) <;> simp)

@[simp] theorem State.nodeAcquire_store (id port k len bits : Nat) (s : State) : (State.nodeAcquire id port k len bits s).store = s.store := by
  unfold State.nodeAcquire
  exact State.nodeTake_store _ _ _ _ _ _ _ _ _ (fun n d s => by (try dsimp only); (repeat' split) <;> simp)

@[simp] theorem State.nodeConfig_store (id port k len bits : Nat) (s : State) : (State.nodeConfig id port k len bits s).store = s.store := by
  unfold State.nodeConfig
  exact State.nodeTake_store _ _ _ _ _ _ _ _ _ (fun n d s => by (try dsimp only); (repeat' split) <;> simp)

@[simp] theorem State.nodeTimeUnit_store (id port k len bits : Nat) (s : State) : (State.nodeTimeUnit id port k len bits s).store = s.store := by
  unfold State.nodeTimeUnit
  exact State.nodeTake_store _ _ _ _ _ _ _ _ _ (fun n d s => by (try dsimp only); (repeat' split) <;> simp)

@[simp] theorem State.nodeEcho_store (id port k len bits turn : Nat) (s : State) : (State.nodeEcho id port k len bits turn s).store = s.store := by
  unfold State.nodeEcho
  exact State.nodeTake_store _ _ _ _ _ _ _ _ _ (fun n d s => by (try dsimp only); (repeat' split) <;> simp)

@[simp] theorem State.nodeDiscover_store (id port k len bits : Nat) (s : State) : (State.nodeDiscover id port k len bits s).store = s.store := by
  unfold State.nodeDiscover
  exact State.nodeTake_store _ _ _ _ _ _ _ _ _ (fun n d s => by (try dsimp only); (repeat' split) <;> simp)

@[simp] theorem State.nodeRowFire_store (id head row : Nat) (s : State) : (State.nodeRowFire id head row s).store = s.store := by
  unfold State.nodeRowFire; (repeat' split) <;> simp

@[simp] theorem State.nodeStatusSend_store (id port k : Nat) (s : State) : (State.nodeStatusSend id port k s).store = s.store := by
  unfold State.nodeStatusSend; (repeat' split) <;> simp

@[simp] theorem State.nodeTempsSend_store (id port : Nat) (temps : List Int) (s : State) : (State.nodeTempsSend id port temps s).store = s.store := by
  unfold State.nodeTempsSend; (repeat' split) <;> simp

@[simp] theorem State.nodeReset_store (id lanesA lanesB maxK : Nat) (heads : List Nat) (s : State) : (State.nodeReset id lanesA lanesB maxK heads s).store = s.store := by
  simp [State.nodeReset]

@[simp] theorem State.nodeAlign_store (id port k : Nat) (ok : Bool) (s : State) : (State.nodeAlign id port k ok s).store = s.store := by
  unfold State.nodeAlign; (repeat' split) <;> simp

@[simp] theorem State.nodeHeadFault_store (id head : Nat) (on : Bool) (s : State) : (State.nodeHeadFault id head on s).store = s.store := by
  unfold State.nodeHeadFault; (repeat' split) <;> simp

@[simp] theorem State.nodeTimeout_store (id : Nat) (s : State) : (State.nodeTimeout id s).store = s.store := by
  unfold State.nodeTimeout; (repeat' split) <;> simp

@[simp] theorem State.linesBegin_store (limit : Nat) (s : State) : (State.linesBegin limit s).store = s.store := by
  simp [State.linesBegin]

@[simp] theorem State.passes_store (dt : Nat) (s : State) : (State.passes dt s).store = s.store := by
  simp [State.passes]

@[simp] theorem State.opens_ok (dt : Nat) (s : State) (h : s.store.ok) : (State.opens dt s).store.ok := by
  unfold State.opens; (repeat' split) <;> simp [h]

@[simp] theorem State.sends_ok (s : State) (h : s.store.ok) : (State.sends s).store.ok := by
  simp [State.sends, h]

@[simp] theorem State.closes_ok (s : State) (h : s.store.ok) : (State.closes s).store.ok := by
  simp [State.closes, h]

theorem State.whenOn_ok (f : State → State) (s : State) (hf : s.store.ok → (f s).store.ok) (h : s.store.ok) :
    (State.whenOn f s).store.ok := by
  unfold State.whenOn
  split
  · exact hf h
  · exact h

theorem State.whenPowered_ok (d : Nat) (f : State → State) (s : State) (hf : s.store.ok → (f s).store.ok) (h : s.store.ok) :
    (State.whenPowered d f s).store.ok := by
  unfold State.whenPowered
  split
  · exact hf h
  · exact h

theorem State.whenReach_ok (fn : Nat) (f : State → State) (s : State) (hf : s.store.ok → (f s).store.ok) (h : s.store.ok) :
    (State.whenReach fn f s).store.ok := by
  unfold State.whenReach
  split
  · exact hf h
  · exact h

@[simp] theorem State.linkDown1_store (fn : Nat) (down : Bool) (s : State) : (State.linkDown1 fn down s).store = s.store := by
  simp [State.linkDown1]

@[simp] theorem State.linkTrained_store (fn : Nat) (l : Link) (s : State) : (State.linkTrained fn l s).store = s.store := by
  simp [State.linkTrained]

@[simp] theorem State.rejectEdge_store (s : State) : (State.rejectEdge s).store = s.store := by
  simp [State.rejectEdge]

@[simp] theorem State.encoderIn_store (enc : Nat) (i : EncIn) (s : State) : (State.encoderIn enc i s).store = s.store := by
  unfold State.encoderIn; (repeat' split) <;> simp

end Sys2Proof.Machine
end

