-- ==== Sys2Proof/Laws/StoreRows.lean ====
section
/-! SUPPORT. What leaves the memories alone or keeps them canonical: the commands. -/

namespace Sys2Proof.Machine

open Sys2Proof

-- The terms of a step are records inside records, deeper than the default allows.
set_option maxRecDepth 4000

theorem perform_ok (ok : Bool) (dt : Nat) (f : State → State) (s t : State) (hf : ∀ s, s.store.ok → (f s).store.ok)
    (h : s.store.ok) (e : perform ok dt f s = .next t) : t.store.ok := by
  unfold perform at e
  simp only [Host.Outcome.next.injEq] at e
  subst e
  split
  · exact State.closes_ok _ (hf _ (State.opens_ok _ _ h))
  · exact h

theorem execBeat_ok (dt : Nat) (side : Nat) (role : Nat) (op : Nat) (phase : Nat) (unit : BeatIn) (s t : State) (h : s.store.ok) (e : execBeat dt side role op phase unit s = .next t) :
    t.store.ok :=
  perform_ok _ _ _ _ _ (fun s h => State.whenOn_ok _ _ (fun h => by simp [h]) h) h e

theorem execBeatSend_ok (dt : Nat) (side : Nat) (s t : State) (h : s.store.ok) (e : execBeatSend dt side s = .next t) :
    t.store.ok :=
  perform_ok _ _ _ _ _ (fun s h => State.whenOn_ok _ _ (fun h => by simp [h]) h) h e

theorem execButtressLinkDown_ok (dt : Nat) (side : Nat) (lanes : Nat) (s t : State) (h : s.store.ok) (e : execButtressLinkDown dt side lanes s = .next t) :
    t.store.ok :=
  perform_ok _ _ _ _ _ (fun s h => State.whenOn_ok _ _ (fun h => by simp [h]) h) h e

theorem execButtressLinkUp_ok (dt : Nat) (side : Nat) (lanes : Nat) (s t : State) (h : s.store.ok) (e : execButtressLinkUp dt side lanes s = .next t) :
    t.store.ok :=
  perform_ok _ _ _ _ _ (fun s h => State.whenOn_ok _ _ (fun h => by simp [h]) h) h e

theorem execMirror_ok (dt : Nat) (lift : Nat) (item : Nat) (off : Nat) (bytes : List Nat) (s t : State) (h : s.store.ok) (e : execMirror dt lift item off bytes s = .next t) :
    t.store.ok :=
  perform_ok _ _ _ _ _ (fun s h => State.whenOn_ok _ _ (fun h => by simp [h]) h) h e

theorem execEpochEnd_ok (dt : Nat) (lift : Nat) (units : Nat) (ecrc : Nat) (s t : State) (h : s.store.ok) (e : execEpochEnd dt lift units ecrc s = .next t) :
    t.store.ok :=
  perform_ok _ _ _ _ _ (fun s h => State.whenOn_ok _ _ (fun h => by simp [h]) h) h e

theorem execProgress_ok (dt : Nat) (course : Nat) (s t : State) (h : s.store.ok) (e : execProgress dt course s = .next t) :
    t.store.ok :=
  perform_ok _ _ _ _ _ (fun s h => State.whenOn_ok _ _ (fun h => by simp [h]) h) h e

theorem execHandover_ok (dt : Nat) (fDone : Nat) (oneMore : Bool) (cause : Nat) (s t : State) (h : s.store.ok) (e : execHandover dt fDone oneMore cause s = .next t) :
    t.store.ok :=
  perform_ok _ _ _ _ _ (fun s h => State.whenOn_ok _ _ (fun h => by simp [h]) h) h e

theorem execMsg_ok (dt : Nat) (side : Nat) (unit : BMsg) (s t : State) (h : s.store.ok) (e : execMsg dt side unit s = .next t) :
    t.store.ok :=
  perform_ok _ _ _ _ _ (fun s h => State.whenOn_ok _ _ (fun h => by simp [h]) h) h e

theorem execForwardAckTimeout_ok (dt : Nat) (ch : Nat) (slot : Nat) (s t : State) (h : s.store.ok) (e : execForwardAckTimeout dt ch slot s = .next t) :
    t.store.ok :=
  perform_ok _ _ _ _ _ (fun s h => State.whenOn_ok _ _ (fun h => by simp [h]) h) h e

theorem execGsync_ok (dt : Nat) (side : Nat) (unit : GMsg) (s t : State) (h : s.store.ok) (e : execGsync dt side unit s = .next t) :
    t.store.ok :=
  perform_ok _ _ _ _ _ (fun s h => State.whenOn_ok _ _ (fun h => by simp [h]) h) h e

theorem execGtime_ok (dt : Nat) (side : Nat) (request : Bool) (echo : GEcho) (s t : State) (h : s.store.ok) (e : execGtime dt side request echo s = .next t) :
    t.store.ok :=
  perform_ok _ _ _ _ _ (fun s h => State.whenOn_ok _ _ (fun h => by simp [h]) h) h e

theorem execGseam_ok (dt : Nat) (side : Nat) (course : Nat) (levels : List Nat) (crc : Option Nat) (s t : State) (h : s.store.ok) (e : execGseam dt side course levels crc s = .next t) :
    t.store.ok :=
  perform_ok _ _ _ _ _ (fun s h => State.whenOn_ok _ _ (fun h => by simp [h]) h) h e

theorem execOffsetMeasure_ok (dt : Nat) (s t : State) (h : s.store.ok) (e : execOffsetMeasure dt s = .next t) :
    t.store.ok :=
  perform_ok _ _ _ _ _ (fun s h => State.whenOn_ok _ _ (fun h => by simp [h]) h) h e

theorem execPairFormation_ok (dt : Nat) (digest : Nat) (fw : Nat) (offset : Int) (prefer : Bool) (s t : State) (h : s.store.ok) (e : execPairFormation dt digest fw offset prefer s = .next t) :
    t.store.ok :=
  perform_ok _ _ _ _ _ (fun s h => State.whenOn_ok _ _ (fun h => by simp [h]) h) h e

theorem execResync_ok (dt : Nat) (s t : State) (h : s.store.ok) (e : execResync dt s = .next t) :
    t.store.ok :=
  perform_ok _ _ _ _ _ (fun s h => State.whenOn_ok _ _ (fun h => by simp [h]) h) h e

theorem execTakeover_ok (dt : Nat) (s t : State) (h : s.store.ok) (e : execTakeover dt s = .next t) :
    t.store.ok :=
  perform_ok _ _ _ _ _ (fun s h => State.whenOn_ok _ _ (fun h => by simp [h]) h) h e

theorem execAcquireTimeout_ok (dt : Nat) (s t : State) (h : s.store.ok) (e : execAcquireTimeout dt s = .next t) :
    t.store.ok :=
  perform_ok _ _ _ _ _ (fun s h => State.whenOn_ok _ _ (fun h => by simp [h]) h) h e

theorem execSwapAtReady_ok (dt : Nat) (s t : State) (h : s.store.ok) (e : execSwapAtReady dt s = .next t) :
    t.store.ok :=
  perform_ok _ _ _ _ _ (fun s h => State.whenOn_ok _ _ (fun h => by simp [h]) h) h e

theorem execAutoSwap_ok (dt : Nat) (s t : State) (h : s.store.ok) (e : execAutoSwap dt s = .next t) :
    t.store.ok :=
  perform_ok _ _ _ _ _ (fun s h => State.whenOn_ok _ _ (fun h => by simp [h]) h) h e

theorem execSinceSwapTick_ok (dt : Nat) (s t : State) (h : s.store.ok) (e : execSinceSwapTick dt s = .next t) :
    t.store.ok :=
  perform_ok _ _ _ _ _ (fun s h => State.whenOn_ok _ _ (fun h => by simp [h]) h) h e

theorem execHeartbeatSend_ok (dt : Nat) (s t : State) (h : s.store.ok) (e : execHeartbeatSend dt s = .next t) :
    t.store.ok :=
  perform_ok _ _ _ _ _ (fun s h => by simp [h]) h e

theorem execHeartbeatDatagram_ok (dt : Nat) (member : Nat) (fields : List Nat) (s t : State) (h : s.store.ok) (e : execHeartbeatDatagram dt member fields s = .next t) :
    t.store.ok :=
  perform_ok _ _ _ _ _ (fun s h => by simp [h]) h e

theorem execHbOkTimeout_ok (dt : Nat) (s t : State) (h : s.store.ok) (e : execHbOkTimeout dt s = .next t) :
    t.store.ok :=
  perform_ok _ _ _ _ _ (fun s h => State.whenOn_ok _ _ (fun h => by simp [h]) h) h e

theorem execRingBaseWrite_ok (dt : Nat) (fn : Nat) (ch : Nat) (value : Nat) (s t : State) (h : s.store.ok) (e : execRingBaseWrite dt fn ch value s = .next t) :
    t.store.ok :=
  perform_ok _ _ _ _ _ (fun s h => by (try dsimp only); (repeat' split) <;> (first | exact State.whenReach_ok _ _ _ (fun h => by simp [h]) h | simp [h])) h e

theorem execEnable_ok (dt : Nat) (fn : Nat) (ch : Nat) (host : List (Nat × List Nat)) (s t : State) (h : s.store.ok) (e : execEnable dt fn ch host s = .next t) :
    t.store.ok :=
  perform_ok _ _ _ _ _ (fun s h => by (try dsimp only); (repeat' split) <;> (first | exact State.whenReach_ok _ _ _ (fun h => by simp [h]) h | simp [h])) h e

theorem execAbort_ok (dt : Nat) (fn : Nat) (ch : Nat) (s t : State) (h : s.store.ok) (e : execAbort dt fn ch s = .next t) :
    t.store.ok :=
  perform_ok _ _ _ _ _ (fun s h => by (try dsimp only); (repeat' split) <;> (first | exact State.whenReach_ok _ _ _ (fun h => by simp [h]) h | simp [h])) h e

theorem execDisable_ok (dt : Nat) (fn : Nat) (ch : Nat) (s t : State) (h : s.store.ok) (e : execDisable dt fn ch s = .next t) :
    t.store.ok :=
  perform_ok _ _ _ _ _ (fun s h => by (try dsimp only); (repeat' split) <;> (first | exact State.whenReach_ok _ _ _ (fun h => by simp [h]) h | simp [h])) h e

theorem execTailWrite_ok (dt : Nat) (fn : Nat) (ch : Nat) (value : Nat) (host : List (Nat × List Nat)) (s t : State) (h : s.store.ok) (e : execTailWrite dt fn ch value host s = .next t) :
    t.store.ok :=
  perform_ok _ _ _ _ _ (fun s h => by (try dsimp only); (repeat' split) <;> (first | exact State.whenReach_ok _ _ _ (fun h => by simp [h]) h | simp [h])) h e

theorem execSourceDestinationFree_ok (dt : Nat) (fn : Nat) (s t : State) (h : s.store.ok) (e : execSourceDestinationFree dt fn s = .next t) :
    t.store.ok :=
  perform_ok _ _ _ _ _ (fun s h => State.whenOn_ok _ _ (fun h => by simp [h]) h) h e

theorem execReadCompletion_ok (dt : Nat) (fn : Nat) (ch : Nat) (k : Nat) (err : Nat) (beat : Bool) (host : List (Nat × List Nat)) (runMin : Nat) (s t : State) (h : s.store.ok) (e : execReadCompletion dt fn ch k err beat host runMin s = .next t) :
    t.store.ok :=
  perform_ok _ _ _ _ _ (fun s h => State.whenOn_ok _ _ (fun h => by simp [h]) h) h e

theorem execCompletionTimeout_ok (dt : Nat) (fn : Nat) (ch : Nat) (k : Nat) (s t : State) (h : s.store.ok) (e : execCompletionTimeout dt fn ch k s = .next t) :
    t.store.ok :=
  perform_ok _ _ _ _ _ (fun s h => State.whenOn_ok _ _ (fun h => by simp [h]) h) h e

theorem execAdmissionEnd_ok (dt : Nat) (fn : Nat) (ch : Nat) (s t : State) (h : s.store.ok) (e : execAdmissionEnd dt fn ch s = .next t) :
    t.store.ok :=
  perform_ok _ _ _ _ _ (fun s h => State.whenOn_ok _ _ (fun h => by simp [h]) h) h e

theorem execDescriptorEnd_ok (dt : Nat) (fn : Nat) (ch : Nat) (s t : State) (h : s.store.ok) (e : execDescriptorEnd dt fn ch s = .next t) :
    t.store.ok :=
  perform_ok _ _ _ _ _ (fun s h => State.whenOn_ok _ _ (fun h => by simp [h]) h) h e

theorem execCompressionResume_ok (dt : Nat) (job : Nat) (s t : State) (h : s.store.ok) (e : execCompressionResume dt job s = .next t) :
    t.store.ok :=
  perform_ok _ _ _ _ _ (fun s h => State.whenOn_ok _ _ (fun h => by simp [h]) h) h e

theorem execStripPipelineDecode_ok (dt : Nat) (w : Nat) (memErr : Bool) (pieces : List (List Nat)) (s t : State) (h : s.store.ok) (e : execStripPipelineDecode dt w memErr pieces s = .next t) :
    t.store.ok :=
  perform_ok _ _ _ _ _ (fun s h => by simp [h]) h e

theorem execMemoryError_ok (dt : Nat) (w : Nat) (target : Nat) (addr : Nat) (item : MemUse) (s t : State) (h : s.store.ok) (e : execMemoryError dt w target addr item s = .next t) :
    t.store.ok :=
  perform_ok _ _ _ _ _ (fun s h => by simp [h]) h e

theorem execScrubReport_ok (dt : Nat) (unit : Nat) (words : List (Nat × Nat × MemUse)) (s t : State) (h : s.store.ok) (e : execScrubReport dt unit words s = .next t) :
    t.store.ok :=
  perform_ok _ _ _ _ _ (fun s h => by simp [h]) h e

theorem execRegisterWrite_ok (dt : Nat) (fn : Nat) (off : Nat) (bytes : List Nat) (s t : State) (h : s.store.ok) (e : execRegisterWrite dt fn off bytes s = .next t) :
    t.store.ok :=
  perform_ok _ _ _ _ _ (fun s h => by simp [h]) h e

theorem execResponseRead_ok (dt : Nat) (ch : Nat) (slot : Nat) (off : Nat) (n : Nat) (s t : State) (h : s.store.ok) (e : execResponseRead dt ch slot off n s = .next t) :
    t.store.ok :=
  perform_ok _ _ _ _ _ (fun s h => by simp [h]) h e

theorem execIntCauseClear_ok (dt : Nat) (fn : Nat) (clear : Nat) (again : Nat) (s t : State) (h : s.store.ok) (e : execIntCauseClear dt fn clear again s = .next t) :
    t.store.ok :=
  perform_ok _ _ _ _ _ (fun s h => by simp [h]) h e

theorem execIntEnableWrite_ok (dt : Nat) (fn : Nat) (value : Nat) (s t : State) (h : s.store.ok) (e : execIntEnableWrite dt fn value s = .next t) :
    t.store.ok :=
  perform_ok _ _ _ _ _ (fun s h => by simp [h]) h e

theorem execOverflowClear_ok (dt : Nat) (s t : State) (h : s.store.ok) (e : execOverflowClear dt s = .next t) :
    t.store.ok :=
  perform_ok _ _ _ _ _ (fun s h => by simp [h]) h e

theorem execEventRingWrite_ok (dt : Nat) (s t : State) (h : s.store.ok) (e : execEventRingWrite dt s = .next t) :
    t.store.ok :=
  perform_ok _ _ _ _ _ (fun s h => State.whenOn_ok _ _ (fun h => by simp [h]) h) h e

theorem execBar2Read_ok (dt : Nat) (fn : Nat) (off : Nat) (n : Nat) (s t : State) (h : s.store.ok) (e : execBar2Read dt fn off n s = .next t) :
    t.store.ok :=
  perform_ok _ _ _ _ _ (fun s h => by simp [h]) h e

theorem execBar2Write_ok (dt : Nat) (fn : Nat) (off : Nat) (bytes : List Nat) (s t : State) (h : s.store.ok) (e : execBar2Write dt fn off bytes s = .next t) :
    t.store.ok :=
  perform_ok _ _ _ _ _ (fun s h => State.whenReach_ok _ _ _ (fun h => by simp [h]) h) h e

theorem execBar2DroppedRead_ok (dt : Nat) (fn : Nat) (s t : State) (h : s.store.ok) (e : execBar2DroppedRead dt fn s = .next t) :
    t.store.ok :=
  perform_ok _ _ _ _ _ (fun s h => by simp [h]) h e

theorem execSnapReq_ok (dt : Nat) (fn : Nat) (s t : State) (h : s.store.ok) (e : execSnapReq dt fn s = .next t) :
    t.store.ok :=
  perform_ok _ _ _ _ _ (fun s h => by simp [h]) h e

theorem execTimeNowLowRead_ok (dt : Nat) (rd : TimeRead × Nat) (s t : State) (h : s.store.ok) (e : execTimeNowLowRead dt rd s = .next t) :
    t.store.ok :=
  perform_ok _ _ _ _ _ (fun s h => by simp [h]) h e

theorem execAliveTick_ok (dt : Nat) (s t : State) (h : s.store.ok) (e : execAliveTick dt s = .next t) :
    t.store.ok :=
  perform_ok _ _ _ _ _ (fun s h => by simp [h]) h e

theorem execChainFrameStart_ok (dt : Nat) (s t : State) (h : s.store.ok) (e : execChainFrameStart dt s = .next t) :
    t.store.ok :=
  perform_ok _ _ _ _ _ (fun s h => by simp [h]) h e

theorem execChainReturnEnd_ok (dt : Nat) (chain : Nat) (words : List (Option Nat)) (ended : Nat) (s t : State) (h : s.store.ok) (e : execChainReturnEnd dt chain words ended s = .next t) :
    t.store.ok :=
  perform_ok _ _ _ _ _ (fun s h => by simp [h]) h e

theorem execChainRestFrame_ok (dt : Nat) (s t : State) (h : s.store.ok) (e : execChainRestFrame dt s = .next t) :
    t.store.ok :=
  perform_ok _ _ _ _ _ (fun s h => by simp [h]) h e

theorem execDriverLatch_ok (dt : Nat) (driver : Nat) (inp : ChainIn) (s t : State) (h : s.store.ok) (e : execDriverLatch dt driver inp s = .next t) :
    t.store.ok :=
  perform_ok _ _ _ _ _ (fun s h => by simp [h]) h e

theorem execDriverShareTimeout_ok (dt : Nat) (driver : Nat) (s t : State) (h : s.store.ok) (e : execDriverShareTimeout dt driver s = .next t) :
    t.store.ok :=
  perform_ok _ _ _ _ _ (fun s h => by simp [h]) h e

theorem execMatrixRowSlot_ok (dt : Nat) (ohm : Nat) (ua : List Nat) (s t : State) (h : s.store.ok) (e : execMatrixRowSlot dt ohm ua s = .next t) :
    t.store.ok :=
  perform_ok _ _ _ _ _ (fun s h => by simp [h]) h e

theorem execRowOvercurrent_ok (dt : Nat) (sw : RowIn) (s t : State) (h : s.store.ok) (e : execRowOvercurrent dt sw s = .next t) :
    t.store.ok :=
  perform_ok _ _ _ _ _ (fun s h => by simp [h]) h e

theorem execLaneRxAligned_ok (dt : Nat) (l : Nat) (s t : State) (h : s.store.ok) (e : execLaneRxAligned dt l s = .next t) :
    t.store.ok :=
  perform_ok _ _ _ _ _ (fun s h => State.whenOn_ok _ _ (fun h => by simp [h]) h) h e

theorem execLaneRxUnaligned_ok (dt : Nat) (l : Nat) (s t : State) (h : s.store.ok) (e : execLaneRxUnaligned dt l s = .next t) :
    t.store.ok :=
  perform_ok _ _ _ _ _ (fun s h => State.whenOn_ok _ _ (fun h => by simp [h]) h) h e

theorem execHello_ok (dt : Nat) (l : Nat) (len : Nat) (bits : Nat) (s t : State) (h : s.store.ok) (e : execHello dt l len bits s = .next t) :
    t.store.ok :=
  perform_ok _ _ _ _ _ (fun s h => State.whenOn_ok _ _ (fun h => by simp [h]) h) h e

theorem execIdentTimeout_ok (dt : Nat) (l : Nat) (s t : State) (h : s.store.ok) (e : execIdentTimeout dt l s = .next t) :
    t.store.ok :=
  perform_ok _ _ _ _ _ (fun s h => State.whenOn_ok _ _ (fun h => by simp [h]) h) h e

theorem execEchoReply_ok (dt : Nat) (l : Nat) (len : Nat) (bits : Nat) (rtt : Nat) (s t : State) (h : s.store.ok) (e : execEchoReply dt l len bits rtt s = .next t) :
    t.store.ok :=
  perform_ok _ _ _ _ _ (fun s h => State.whenOn_ok _ _ (fun h => by simp [h]) h) h e

theorem execDelayTimeout_ok (dt : Nat) (l : Nat) (s t : State) (h : s.store.ok) (e : execDelayTimeout dt l s = .next t) :
    t.store.ok :=
  perform_ok _ _ _ _ _ (fun s h => State.whenOn_ok _ _ (fun h => by simp [h]) h) h e

theorem execStatusUnit_ok (dt : Nat) (l : Nat) (len : Nat) (bits : Nat) (s t : State) (h : s.store.ok) (e : execStatusUnit dt l len bits s = .next t) :
    t.store.ok :=
  perform_ok _ _ _ _ _ (fun s h => State.whenOn_ok _ _ (fun h => by simp [h]) h) h e

theorem execTempsUnit_ok (dt : Nat) (l : Nat) (len : Nat) (bits : Nat) (s t : State) (h : s.store.ok) (e : execTempsUnit dt l len bits s = .next t) :
    t.store.ok :=
  perform_ok _ _ _ _ _ (fun s h => State.whenOn_ok _ _ (fun h => by simp [h]) h) h e

theorem execStatusTimeout_ok (dt : Nat) (l : Nat) (s t : State) (h : s.store.ok) (e : execStatusTimeout dt l s = .next t) :
    t.store.ok :=
  perform_ok _ _ _ _ _ (fun s h => State.whenOn_ok _ _ (fun h => by simp [h]) h) h e

theorem execUnalignedTimeout_ok (dt : Nat) (l : Nat) (s t : State) (h : s.store.ok) (e : execUnalignedTimeout dt l s = .next t) :
    t.store.ok :=
  perform_ok _ _ _ _ _ (fun s h => State.whenOn_ok _ _ (fun h => by simp [h]) h) h e

theorem execLostTimeout_ok (dt : Nat) (l : Nat) (s t : State) (h : s.store.ok) (e : execLostTimeout dt l s = .next t) :
    t.store.ok :=
  perform_ok _ _ _ _ _ (fun s h => State.whenOn_ok _ _ (fun h => by simp [h]) h) h e

theorem execDiscovery_ok (dt : Nat) (s t : State) (h : s.store.ok) (e : execDiscovery dt s = .next t) :
    t.store.ok :=
  perform_ok _ _ _ _ _ (fun s h => State.whenOn_ok _ _ (fun h => by simp [h]) h) h e

theorem execTimeSend_ok (dt : Nat) (l : Nat) (s t : State) (h : s.store.ok) (e : execTimeSend dt l s = .next t) :
    t.store.ok :=
  perform_ok _ _ _ _ _ (fun s h => State.whenOn_ok _ _ (fun h => by simp [h]) h) h e

theorem execEchoSend_ok (dt : Nat) (l : Nat) (s t : State) (h : s.store.ok) (e : execEchoSend dt l s = .next t) :
    t.store.ok :=
  perform_ok _ _ _ _ _ (fun s h => State.whenOn_ok _ _ (fun h => by simp [h]) h) h e

theorem execDiscoverSend_ok (dt : Nat) (l : Nat) (s t : State) (h : s.store.ok) (e : execDiscoverSend dt l s = .next t) :
    t.store.ok :=
  perform_ok _ _ _ _ _ (fun s h => State.whenOn_ok _ _ (fun h => by simp [h]) h) h e

theorem execRenewSend_ok (dt : Nat) (id : Nat) (s t : State) (h : s.store.ok) (e : execRenewSend dt id s = .next t) :
    t.store.ok :=
  perform_ok _ _ _ _ _ (fun s h => State.whenOn_ok _ _ (fun h => by simp [h]) h) h e

theorem execAcquireRetry_ok (dt : Nat) (id : Nat) (s t : State) (h : s.store.ok) (e : execAcquireRetry dt id s = .next t) :
    t.store.ok :=
  perform_ok _ _ _ _ _ (fun s h => State.whenOn_ok _ _ (fun h => by simp [h]) h) h e

theorem execRestSend_ok (dt : Nat) (s t : State) (h : s.store.ok) (e : execRestSend dt s = .next t) :
    t.store.ok :=
  perform_ok _ _ _ _ _ (fun s h => State.whenOn_ok _ _ (fun h => by simp [h]) h) h e

theorem execSysInfo_ok (dt : Nat) (m : Mbox) (s t : State) (h : s.store.ok) (e : execSysInfo dt m s = .next t) :
    t.store.ok :=
  perform_ok _ _ _ _ _ (fun s h => by simp [h]) h e

theorem execSysPing_ok (dt : Nat) (m : Mbox) (s t : State) (h : s.store.ok) (e : execSysPing dt m s = .next t) :
    t.store.ok :=
  perform_ok _ _ _ _ _ (fun s h => by simp [h]) h e

theorem execSysEventRing_ok (dt : Nat) (m : Mbox) (s t : State) (h : s.store.ok) (e : execSysEventRing dt m s = .next t) :
    t.store.ok :=
  perform_ok _ _ _ _ _ (fun s h => by simp [h]) h e

theorem execSysResetWarm_ok (dt : Nat) (m : Mbox) (s t : State) (h : s.store.ok) (e : execSysResetWarm dt m s = .next t) :
    t.store.ok :=
  perform_ok _ _ _ _ _ (fun s h => by simp [h]) h e

theorem execSysResetCold_ok (dt : Nat) (m : Mbox) (s t : State) (h : s.store.ok) (e : execSysResetCold dt m s = .next t) :
    t.store.ok :=
  perform_ok _ _ _ _ _ (fun s h => by simp [h]) h e

theorem execStateArm_ok (dt : Nat) (m : Mbox) (s t : State) (h : s.store.ok) (e : execStateArm dt m s = .next t) :
    t.store.ok :=
  perform_ok _ _ _ _ _ (fun s h => by simp [h]) h e

theorem execStateDisarm_ok (dt : Nat) (m : Mbox) (s t : State) (h : s.store.ok) (e : execStateDisarm dt m s = .next t) :
    t.store.ok :=
  perform_ok _ _ _ _ _ (fun s h => by simp [h]) h e

theorem execStateRest_ok (dt : Nat) (m : Mbox) (s t : State) (h : s.store.ok) (e : execStateRest dt m s = .next t) :
    t.store.ok :=
  perform_ok _ _ _ _ _ (fun s h => by simp [h]) h e

theorem execStateClear_ok (dt : Nat) (m : Mbox) (s t : State) (h : s.store.ok) (e : execStateClear dt m s = .next t) :
    t.store.ok :=
  perform_ok _ _ _ _ _ (fun s h => by simp [h]) h e

theorem execCfgStage_ok (dt : Nat) (m : Mbox) (s t : State) (h : s.store.ok) (e : execCfgStage dt m s = .next t) :
    t.store.ok :=
  perform_ok _ _ _ _ _ (fun s h => by simp [h]) h e

theorem execCfgCheck_ok (dt : Nat) (m : Mbox) (s t : State) (h : s.store.ok) (e : execCfgCheck dt m s = .next t) :
    t.store.ok :=
  perform_ok _ _ _ _ _ (fun s h => by simp [h]) h e

theorem execCfgCommit_ok (dt : Nat) (m : Mbox) (s t : State) (h : s.store.ok) (e : execCfgCommit dt m s = .next t) :
    t.store.ok :=
  perform_ok _ _ _ _ _ (fun s h => by simp [h]) h e

theorem execCfgCancel_ok (dt : Nat) (m : Mbox) (s t : State) (h : s.store.ok) (e : execCfgCancel dt m s = .next t) :
    t.store.ok :=
  perform_ok _ _ _ _ _ (fun s h => by simp [h]) h e

theorem execCfgDiscard_ok (dt : Nat) (m : Mbox) (s t : State) (h : s.store.ok) (e : execCfgDiscard dt m s = .next t) :
    t.store.ok :=
  perform_ok _ _ _ _ _ (fun s h => by simp [h]) h e

theorem execCfgRead_ok (dt : Nat) (m : Mbox) (s t : State) (h : s.store.ok) (e : execCfgRead dt m s = .next t) :
    t.store.ok :=
  perform_ok _ _ _ _ _ (fun s h => by simp [h]) h e

theorem execJobOpen_ok (dt : Nat) (m : Mbox) (s t : State) (h : s.store.ok) (e : execJobOpen dt m s = .next t) :
    t.store.ok :=
  perform_ok _ _ _ _ _ (fun s h => by simp [h]) h e

theorem execJobSubmitAttach_ok (dt : Nat) (m : Mbox) (s t : State) (h : s.store.ok) (e : execJobSubmitAttach dt m s = .next t) :
    t.store.ok :=
  perform_ok _ _ _ _ _ (fun s h => by simp [h]) h e

theorem execJobSubmitDetach_ok (dt : Nat) (m : Mbox) (s t : State) (h : s.store.ok) (e : execJobSubmitDetach dt m s = .next t) :
    t.store.ok :=
  perform_ok _ _ _ _ _ (fun s h => by simp [h]) h e

theorem execJobSubmitEnd_ok (dt : Nat) (m : Mbox) (s t : State) (h : s.store.ok) (e : execJobSubmitEnd dt m s = .next t) :
    t.store.ok :=
  perform_ok _ _ _ _ _ (fun s h => by simp [h]) h e

theorem execJobStart_ok (dt : Nat) (m : Mbox) (s t : State) (h : s.store.ok) (e : execJobStart dt m s = .next t) :
    t.store.ok :=
  perform_ok _ _ _ _ _ (fun s h => by simp [h]) h e

theorem execJobPause_ok (dt : Nat) (m : Mbox) (s t : State) (h : s.store.ok) (e : execJobPause dt m s = .next t) :
    t.store.ok :=
  perform_ok _ _ _ _ _ (fun s h => by simp [h]) h e

theorem execJobContinue_ok (dt : Nat) (m : Mbox) (s t : State) (h : s.store.ok) (e : execJobContinue dt m s = .next t) :
    t.store.ok :=
  perform_ok _ _ _ _ _ (fun s h => by simp [h]) h e

theorem execJobAbort_ok (dt : Nat) (m : Mbox) (s t : State) (h : s.store.ok) (e : execJobAbort dt m s = .next t) :
    t.store.ok :=
  perform_ok _ _ _ _ _ (fun s h => by simp [h]) h e

theorem execJobClose_ok (dt : Nat) (m : Mbox) (s t : State) (h : s.store.ok) (e : execJobClose dt m s = .next t) :
    t.store.ok :=
  perform_ok _ _ _ _ _ (fun s h => by simp [h]) h e

theorem execJobStatus_ok (dt : Nat) (m : Mbox) (s t : State) (h : s.store.ok) (e : execJobStatus dt m s = .next t) :
    t.store.ok :=
  perform_ok _ _ _ _ _ (fun s h => by simp [h]) h e

theorem execEvtAtCourse_ok (dt : Nat) (m : Mbox) (s t : State) (h : s.store.ok) (e : execEvtAtCourse dt m s = .next t) :
    t.store.ok :=
  perform_ok _ _ _ _ _ (fun s h => by simp [h]) h e

theorem execEvtAtTime_ok (dt : Nat) (m : Mbox) (s t : State) (h : s.store.ok) (e : execEvtAtTime dt m s = .next t) :
    t.store.ok :=
  perform_ok _ _ _ _ _ (fun s h => by simp [h]) h e

theorem execEvtCancel_ok (dt : Nat) (m : Mbox) (s t : State) (h : s.store.ok) (e : execEvtCancel dt m s = .next t) :
    t.store.ok :=
  perform_ok _ _ _ _ _ (fun s h => by simp [h]) h e

theorem execEvtList_ok (dt : Nat) (m : Mbox) (s t : State) (h : s.store.ok) (e : execEvtList dt m s = .next t) :
    t.store.ok :=
  perform_ok _ _ _ _ _ (fun s h => by simp [h]) h e

theorem execDensUpdate_ok (dt : Nat) (m : Mbox) (s t : State) (h : s.store.ok) (e : execDensUpdate dt m s = .next t) :
    t.store.ok :=
  perform_ok _ _ _ _ _ (fun s h => by simp [h]) h e

theorem execDensRead_ok (dt : Nat) (m : Mbox) (s t : State) (h : s.store.ok) (e : execDensRead dt m s = .next t) :
    t.store.ok :=
  perform_ok _ _ _ _ _ (fun s h => by simp [h]) h e

theorem execDensFreeze_ok (dt : Nat) (m : Mbox) (s t : State) (h : s.store.ok) (e : execDensFreeze dt m s = .next t) :
    t.store.ok :=
  perform_ok _ _ _ _ _ (fun s h => by simp [h]) h e

theorem execNozMap_ok (dt : Nat) (m : Mbox) (s t : State) (h : s.store.ok) (e : execNozMap dt m s = .next t) :
    t.store.ok :=
  perform_ok _ _ _ _ _ (fun s h => by simp [h]) h e

theorem execNozRead_ok (dt : Nat) (m : Mbox) (s t : State) (h : s.store.ok) (e : execNozRead dt m s = .next t) :
    t.store.ok :=
  perform_ok _ _ _ _ _ (fun s h => by simp [h]) h e

theorem execDiscover_ok (dt : Nat) (m : Mbox) (s t : State) (h : s.store.ok) (e : execDiscover dt m s = .next t) :
    t.store.ok :=
  perform_ok _ _ _ _ _ (fun s h => by simp [h]) h e

theorem execReadBond_ok (dt : Nat) (m : Mbox) (s t : State) (h : s.store.ok) (e : execReadBond dt m s = .next t) :
    t.store.ok :=
  perform_ok _ _ _ _ _ (fun s h => by simp [h]) h e

theorem execReadNodes_ok (dt : Nat) (m : Mbox) (s t : State) (h : s.store.ok) (e : execReadNodes dt m s = .next t) :
    t.store.ok :=
  perform_ok _ _ _ _ _ (fun s h => by simp [h]) h e

theorem execPairSwap_ok (dt : Nat) (m : Mbox) (s t : State) (h : s.store.ok) (e : execPairSwap dt m s = .next t) :
    t.store.ok :=
  perform_ok _ _ _ _ _ (fun s h => by simp [h]) h e

theorem execPairJoin_ok (dt : Nat) (m : Mbox) (partner : PInfo) (s t : State) (h : s.store.ok) (e : execPairJoin dt m partner s = .next t) :
    t.store.ok :=
  perform_ok _ _ _ _ _ (fun s h => by simp [h]) h e

theorem execPairLeave_ok (dt : Nat) (m : Mbox) (s t : State) (h : s.store.ok) (e : execPairLeave dt m s = .next t) :
    t.store.ok :=
  perform_ok _ _ _ _ _ (fun s h => by simp [h]) h e

theorem execPairTake_ok (dt : Nat) (m : Mbox) (s t : State) (h : s.store.ok) (e : execPairTake dt m s = .next t) :
    t.store.ok :=
  perform_ok _ _ _ _ _ (fun s h => by simp [h]) h e

theorem execPairInfo_ok (dt : Nat) (m : Mbox) (s t : State) (h : s.store.ok) (e : execPairInfo dt m s = .next t) :
    t.store.ok :=
  perform_ok _ _ _ _ _ (fun s h => by simp [h]) h e

theorem execGangForm_ok (dt : Nat) (m : Mbox) (members : List GInfo) (s t : State) (h : s.store.ok) (e : execGangForm dt m members s = .next t) :
    t.store.ok :=
  perform_ok _ _ _ _ _ (fun s h => by simp [h]) h e

theorem execGangDissolve_ok (dt : Nat) (m : Mbox) (s t : State) (h : s.store.ok) (e : execGangDissolve dt m s = .next t) :
    t.store.ok :=
  perform_ok _ _ _ _ _ (fun s h => by simp [h]) h e

theorem execGangInfo_ok (dt : Nat) (m : Mbox) (s t : State) (h : s.store.ok) (e : execGangInfo dt m s = .next t) :
    t.store.ok :=
  perform_ok _ _ _ _ _ (fun s h => by simp [h]) h e

theorem execTimeAcceptStep_ok (dt : Nat) (m : Mbox) (s t : State) (h : s.store.ok) (e : execTimeAcceptStep dt m s = .next t) :
    t.store.ok :=
  perform_ok _ _ _ _ _ (fun s h => by simp [h]) h e

theorem execTimeSet_ok (dt : Nat) (m : Mbox) (s t : State) (h : s.store.ok) (e : execTimeSet dt m s = .next t) :
    t.store.ok :=
  perform_ok _ _ _ _ _ (fun s h => by simp [h]) h e

theorem execTimeStatus_ok (dt : Nat) (m : Mbox) (s t : State) (h : s.store.ok) (e : execTimeStatus dt m s = .next t) :
    t.store.ok :=
  perform_ok _ _ _ _ _ (fun s h => by simp [h]) h e

theorem execLampSet_ok (dt : Nat) (m : Mbox) (s t : State) (h : s.store.ok) (e : execLampSet dt m s = .next t) :
    t.store.ok :=
  perform_ok _ _ _ _ _ (fun s h => by simp [h]) h e

theorem execLampRead_ok (dt : Nat) (m : Mbox) (s t : State) (h : s.store.ok) (e : execLampRead dt m s = .next t) :
    t.store.ok :=
  perform_ok _ _ _ _ _ (fun s h => by simp [h]) h e

theorem execLampClearShort_ok (dt : Nat) (m : Mbox) (s t : State) (h : s.store.ok) (e : execLampClearShort dt m s = .next t) :
    t.store.ok :=
  perform_ok _ _ _ _ _ (fun s h => by simp [h]) h e

theorem execLampClearPins_ok (dt : Nat) (m : Mbox) (s t : State) (h : s.store.ok) (e : execLampClearPins dt m s = .next t) :
    t.store.ok :=
  perform_ok _ _ _ _ _ (fun s h => by simp [h]) h e

theorem execPanelSet_ok (dt : Nat) (m : Mbox) (s t : State) (h : s.store.ok) (e : execPanelSet dt m s = .next t) :
    t.store.ok :=
  perform_ok _ _ _ _ _ (fun s h => by simp [h]) h e

theorem execCopingRead_ok (dt : Nat) (m : Mbox) (s t : State) (h : s.store.ok) (e : execCopingRead dt m s = .next t) :
    t.store.ok :=
  perform_ok _ _ _ _ _ (fun s h => by simp [h]) h e

theorem execCopingCal_ok (dt : Nat) (m : Mbox) (s t : State) (h : s.store.ok) (e : execCopingCal dt m s = .next t) :
    t.store.ok :=
  perform_ok _ _ _ _ _ (fun s h => by simp [h]) h e

theorem execPlinthLogRead_ok (dt : Nat) (m : Mbox) (s t : State) (h : s.store.ok) (e : execPlinthLogRead dt m s = .next t) :
    t.store.ok :=
  perform_ok _ _ _ _ _ (fun s h => by simp [h]) h e

theorem execPlinthFw_ok (dt : Nat) (m : Mbox) (s t : State) (h : s.store.ok) (e : execPlinthFw dt m s = .next t) :
    t.store.ok :=
  perform_ok _ _ _ _ _ (fun s h => by simp [h]) h e

theorem execPlinthFwSelect_ok (dt : Nat) (m : Mbox) (s t : State) (h : s.store.ok) (e : execPlinthFwSelect dt m s = .next t) :
    t.store.ok :=
  perform_ok _ _ _ _ _ (fun s h => by simp [h]) h e

theorem execUnknownVerb_ok (dt : Nat) (verb : Nat) (m : Mbox) (s t : State) (h : s.store.ok) (e : execUnknownVerb dt verb m s = .next t) :
    t.store.ok :=
  perform_ok _ _ _ _ _ (fun s h => by simp [h]) h e

theorem execNodeFrame_ok (dt : Nat) (id : Nat) (port : Nat) (k : Nat) (len : Nat) (bits : Nat) (s t : State) (h : s.store.ok) (e : execNodeFrame dt id port k len bits s = .next t) :
    t.store.ok :=
  perform_ok _ _ _ _ _ (fun s h => by simp [h]) h e

theorem execNodeRenew_ok (dt : Nat) (id : Nat) (port : Nat) (k : Nat) (len : Nat) (bits : Nat) (s t : State) (h : s.store.ok) (e : execNodeRenew dt id port k len bits s = .next t) :
    t.store.ok :=
  perform_ok _ _ _ _ _ (fun s h => by simp [h]) h e

theorem execNodeAcquire_ok (dt : Nat) (id : Nat) (port : Nat) (k : Nat) (len : Nat) (bits : Nat) (s t : State) (h : s.store.ok) (e : execNodeAcquire dt id port k len bits s = .next t) :
    t.store.ok :=
  perform_ok _ _ _ _ _ (fun s h => by simp [h]) h e

theorem execNodeRelease_ok (dt : Nat) (id : Nat) (port : Nat) (k : Nat) (len : Nat) (bits : Nat) (s t : State) (h : s.store.ok) (e : execNodeRelease dt id port k len bits s = .next t) :
    t.store.ok :=
  perform_ok _ _ _ _ _ (fun s h => by simp [h]) h e

theorem execNodeRest_ok (dt : Nat) (id : Nat) (port : Nat) (k : Nat) (len : Nat) (bits : Nat) (s t : State) (h : s.store.ok) (e : execNodeRest dt id port k len bits s = .next t) :
    t.store.ok :=
  perform_ok _ _ _ _ _ (fun s h => by simp [h]) h e

theorem execNodeCancel_ok (dt : Nat) (id : Nat) (port : Nat) (k : Nat) (len : Nat) (bits : Nat) (s t : State) (h : s.store.ok) (e : execNodeCancel dt id port k len bits s = .next t) :
    t.store.ok :=
  perform_ok _ _ _ _ _ (fun s h => by simp [h]) h e

theorem execNodeConfig_ok (dt : Nat) (id : Nat) (port : Nat) (k : Nat) (len : Nat) (bits : Nat) (s t : State) (h : s.store.ok) (e : execNodeConfig dt id port k len bits s = .next t) :
    t.store.ok :=
  perform_ok _ _ _ _ _ (fun s h => by simp [h]) h e

theorem execNodeTime_ok (dt : Nat) (id : Nat) (port : Nat) (k : Nat) (len : Nat) (bits : Nat) (s t : State) (h : s.store.ok) (e : execNodeTime dt id port k len bits s = .next t) :
    t.store.ok :=
  perform_ok _ _ _ _ _ (fun s h => by simp [h]) h e

theorem execNodeEcho_ok (dt : Nat) (id : Nat) (port : Nat) (k : Nat) (len : Nat) (bits : Nat) (turn : Nat) (s t : State) (h : s.store.ok) (e : execNodeEcho dt id port k len bits turn s = .next t) :
    t.store.ok :=
  perform_ok _ _ _ _ _ (fun s h => by simp [h]) h e

theorem execNodeDiscover_ok (dt : Nat) (id : Nat) (port : Nat) (k : Nat) (len : Nat) (bits : Nat) (s t : State) (h : s.store.ok) (e : execNodeDiscover dt id port k len bits s = .next t) :
    t.store.ok :=
  perform_ok _ _ _ _ _ (fun s h => by simp [h]) h e

theorem execNodeLeaseExpiry_ok (dt : Nat) (id : Nat) (s t : State) (h : s.store.ok) (e : execNodeLeaseExpiry dt id s = .next t) :
    t.store.ok :=
  perform_ok _ _ _ _ _ (fun s h => by simp [h]) h e

theorem execNodeRowFire_ok (dt : Nat) (id : Nat) (head : Nat) (row : Nat) (s t : State) (h : s.store.ok) (e : execNodeRowFire dt id head row s = .next t) :
    t.store.ok :=
  perform_ok _ _ _ _ _ (fun s h => by simp [h]) h e

theorem execNodeStatusSend_ok (dt : Nat) (id : Nat) (port : Nat) (k : Nat) (s t : State) (h : s.store.ok) (e : execNodeStatusSend dt id port k s = .next t) :
    t.store.ok :=
  perform_ok _ _ _ _ _ (fun s h => by simp [h]) h e

theorem execNodeTempsSend_ok (dt : Nat) (id : Nat) (port : Nat) (temps : List Int) (s t : State) (h : s.store.ok) (e : execNodeTempsSend dt id port temps s = .next t) :
    t.store.ok :=
  perform_ok _ _ _ _ _ (fun s h => by simp [h]) h e

theorem execNodeReset_ok (dt : Nat) (id : Nat) (lanesA : Nat) (lanesB : Nat) (heads : List Nat) (maxK : Nat) (s t : State) (h : s.store.ok) (e : execNodeReset dt id lanesA lanesB heads maxK s = .next t) :
    t.store.ok :=
  perform_ok _ _ _ _ _ (fun s h => by simp [h]) h e

theorem execNodeReceiverAlignment_ok (dt : Nat) (id : Nat) (port : Nat) (k : Nat) (ok : Bool) (s t : State) (h : s.store.ok) (e : execNodeReceiverAlignment dt id port k ok s = .next t) :
    t.store.ok :=
  perform_ok _ _ _ _ _ (fun s h => by simp [h]) h e

theorem execHeadFault_ok (dt : Nat) (id : Nat) (head : Nat) (faulty : Bool) (s t : State) (h : s.store.ok) (e : execHeadFault dt id head faulty s = .next t) :
    t.store.ok :=
  perform_ok _ _ _ _ _ (fun s h => by simp [h]) h e

theorem execNodeTimeOkTimeout_ok (dt : Nat) (id : Nat) (s t : State) (h : s.store.ok) (e : execNodeTimeOkTimeout dt id s = .next t) :
    t.store.ok :=
  perform_ok _ _ _ _ _ (fun s h => by simp [h]) h e

theorem execFieldInputChange_ok (dt : Nat) (inp : Nat) (level : Bool) (ua : Nat) (s t : State) (h : s.store.ok) (e : execFieldInputChange dt inp level ua s = .next t) :
    t.store.ok :=
  perform_ok _ _ _ _ _ (fun s h => by simp [h]) h e

theorem execEstopDisc_ok (dt : Nat) (s t : State) (h : s.store.ok) (e : execEstopDisc dt s = .next t) :
    t.store.ok :=
  perform_ok _ _ _ _ _ (fun s h => by simp [h]) h e

theorem execFieldSupply_ok (dt : Nat) (mv : Int) (s t : State) (h : s.store.ok) (e : execFieldSupply dt mv s = .next t) :
    t.store.ok :=
  perform_ok _ _ _ _ _ (fun s h => by simp [h]) h e

theorem execOutputFault_ok (dt : Nat) (output : Nat) (kind : Nat) (s t : State) (h : s.store.ok) (e : execOutputFault dt output kind s = .next t) :
    t.store.ok :=
  perform_ok _ _ _ _ _ (fun s h => by simp [h]) h e

theorem execOpenLoad_ok (dt : Nat) (load : LoadIn) (s t : State) (h : s.store.ok) (e : execOpenLoad dt load s = .next t) :
    t.store.ok :=
  perform_ok _ _ _ _ _ (fun s h => by simp [h]) h e

theorem execThermOkChange_ok (dt : Nat) (tj : ThermIn) (s t : State) (h : s.store.ok) (e : execThermOkChange dt tj s = .next t) :
    t.store.ok :=
  perform_ok _ _ _ _ _ (fun s h => by simp [h]) h e

theorem execWatchdogKey_ok (dt : Nat) (s t : State) (h : s.store.ok) (e : execWatchdogKey dt s = .next t) :
    t.store.ok :=
  perform_ok _ _ _ _ _ (fun s h => by simp [h]) h e

theorem execWatchdog_ok (dt : Nat) (wrong : Bool) (s t : State) (h : s.store.ok) (e : execWatchdog dt wrong s = .next t) :
    t.store.ok :=
  perform_ok _ _ _ _ _ (fun s h => by simp [h]) h e

theorem execHeartbeatScan_ok (dt : Nat) (beats : List (Nat × Nat)) (s t : State) (h : s.store.ok) (e : execHeartbeatScan dt beats s = .next t) :
    t.store.ok :=
  perform_ok _ _ _ _ _ (fun s h => by simp [h]) h e

theorem execVAuxApplied_ok (dt : Nat) (sel : Nat) (mv : Nat) (s t : State) (h : s.store.ok) (e : execVAuxApplied dt sel mv s = .next t) :
    t.store.ok :=
  perform_ok _ _ _ _ _ (fun s h => by (try dsimp only); (repeat' split) <;> (first | exact State.whenReach_ok _ _ _ (fun h => by simp [h]) h | simp [h])) h e

theorem execKeepReset_ok (dt : Nat) (s t : State) (h : s.store.ok) (e : execKeepReset dt s = .next t) :
    t.store.ok :=
  perform_ok _ _ _ _ _ (fun s h => by simp [h]) h e

theorem execSupplyThreshold_ok (dt : Nat) (input : Nat) (kind : Nat) (mv : Int) (s t : State) (h : s.store.ok) (e : execSupplyThreshold dt input kind mv s = .next t) :
    t.store.ok :=
  perform_ok _ _ _ _ _ (fun s h => by simp [h]) h e

theorem execSuppliesLost_ok (dt : Nat) (s t : State) (h : s.store.ok) (e : execSuppliesLost dt s = .next t) :
    t.store.ok :=
  perform_ok _ _ _ _ _ (fun s h => by simp [h]) h e

theorem execAutoOn_ok (dt : Nat) (s t : State) (h : s.store.ok) (e : execAutoOn dt s = .next t) :
    t.store.ok :=
  perform_ok _ _ _ _ _ (fun s h => by simp [h]) h e

theorem execDomainPowerGood_ok (dt : Nat) (s t : State) (h : s.store.ok) (e : execDomainPowerGood dt s = .next t) :
    t.store.ok :=
  perform_ok _ _ _ _ _ (fun s h => by simp [h]) h e

theorem execPowerGoodMissed_ok (dt : Nat) (d : Nat) (s t : State) (h : s.store.ok) (e : execPowerGoodMissed dt d s = .next t) :
    t.store.ok :=
  perform_ok _ _ _ _ _ (fun s h => by simp [h]) h e

theorem execPowerGoodLost_ok (dt : Nat) (d : Nat) (s t : State) (h : s.store.ok) (e : execPowerGoodLost dt d s = .next t) :
    t.store.ok :=
  perform_ok _ _ _ _ _ (fun s h => by simp [h]) h e

theorem execBootEnd_ok (dt : Nat) (crcA : Bool) (crcB : Bool) (test : Nat) (fence0 : List Nat) (fence1 : List Nat) (s t : State) (h : s.store.ok) (e : execBootEnd dt crcA crcB test fence0 fence1 s = .next t) :
    t.store.ok :=
  perform_ok _ _ _ _ _ (fun s h => by simp [h]) h e

theorem execBootTimeout_ok (dt : Nat) (s t : State) (h : s.store.ok) (e : execBootTimeout dt s = .next t) :
    t.store.ok :=
  perform_ok _ _ _ _ _ (fun s h => by simp [h]) h e

theorem execFunctionReset_ok (dt : Nat) (fn : Nat) (down : Bool) (s t : State) (h : s.store.ok) (e : execFunctionReset dt fn down s = .next t) :
    t.store.ok :=
  perform_ok _ _ _ _ _ (fun s h => State.whenOn_ok _ _ (fun h => by simp [h]) h) h e

theorem execLinkTrained_ok (dt : Nat) (fn : Nat) (lanes : Nat) (rate : Nat) (mrrs : Nat) (mps : Nat) (extTag : Bool) (s t : State) (h : s.store.ok) (e : execLinkTrained dt fn lanes rate mrrs mps extTag s = .next t) :
    t.store.ok :=
  perform_ok _ _ _ _ _ (fun s h => State.whenPowered_ok _ _ _ (fun h => by simp [h]) h) h e

theorem execPcieLinkLost_ok (dt : Nat) (fn : Nat) (s t : State) (h : s.store.ok) (e : execPcieLinkLost dt fn s = .next t) :
    t.store.ok :=
  perform_ok _ _ _ _ _ (fun s h => State.whenOn_ok _ _ (fun h => by simp [h]) h) h e

theorem execHardwareShutdown_ok (dt : Nat) (w : Nat) (tj : Int) (s t : State) (h : s.store.ok) (e : execHardwareShutdown dt w tj s = .next t) :
    t.store.ok :=
  perform_ok _ _ _ _ _ (fun s h => by simp [h]) h e

theorem execThermalRestart_ok (dt : Nat) (t0 : Int) (t1 : Int) (s t : State) (h : s.store.ok) (e : execThermalRestart dt t0 t1 s = .next t) :
    t.store.ok :=
  perform_ok _ _ _ _ _ (fun s h => by simp [h]) h e

theorem execSensorSample_ok (dt : Nat) (temps : List (Option Int)) (pMeas : Nat) (tj0 : Option Int) (tj1 : Option Int) (s t : State) (h : s.store.ok) (e : execSensorSample dt temps pMeas tj0 tj1 s = .next t) :
    t.store.ok :=
  perform_ok _ _ _ _ _ (fun s h => by simp [h]) h e

theorem execCalRunEnd_ok (dt : Nat) (block : Nat) (trims : List Nat) (quality : Nat) (diff : Nat) (s t : State) (h : s.store.ok) (e : execCalRunEnd dt block trims quality diff s = .next t) :
    t.store.ok :=
  perform_ok _ _ _ _ _ (fun s h => by simp [h]) h e

theorem execReferenceCompare_ok (dt : Nat) (diff : Int) (s t : State) (h : s.store.ok) (e : execReferenceCompare dt diff s = .next t) :
    t.store.ok :=
  perform_ok _ _ _ _ _ (fun s h => by simp [h]) h e

theorem execSync_ok (dt : Nat) (p : Nat) (sent : Bool) (m : PtpId) (t1 : Option Nat) (s t : State) (h : s.store.ok) (e : execSync dt p sent m t1 s = .next t) :
    t.store.ok :=
  perform_ok _ _ _ _ _ (fun s h => by simp [h]) h e

theorem execFollowUp_ok (dt : Nat) (p : Nat) (sent : Bool) (m : PtpId) (t1 : Nat) (s t : State) (h : s.store.ok) (e : execFollowUp dt p sent m t1 s = .next t) :
    t.store.ok :=
  perform_ok _ _ _ _ _ (fun s h => by simp [h]) h e

theorem execDelayReq_ok (dt : Nat) (p : Nat) (sent : Bool) (m : PtpId) (s t : State) (h : s.store.ok) (e : execDelayReq dt p sent m s = .next t) :
    t.store.ok :=
  perform_ok _ _ _ _ _ (fun s h => by simp [h]) h e

theorem execDelayResp_ok (dt : Nat) (p : Nat) (m : PtpId) (t4 : Nat) (s t : State) (h : s.store.ok) (e : execDelayResp dt p m t4 s = .next t) :
    t.store.ok :=
  perform_ok _ _ _ _ _ (fun s h => by simp [h]) h e

theorem execPdelayReq_ok (dt : Nat) (p : Nat) (sent : Bool) (m : PtpId) (turn : Nat) (s t : State) (h : s.store.ok) (e : execPdelayReq dt p sent m turn s = .next t) :
    t.store.ok :=
  perform_ok _ _ _ _ _ (fun s h => by simp [h]) h e

theorem execPdelayResp_ok (dt : Nat) (p : Nat) (m : PtpId) (t2 : Nat) (t3 : Option Nat) (s t : State) (h : s.store.ok) (e : execPdelayResp dt p m t2 t3 s = .next t) :
    t.store.ok :=
  perform_ok _ _ _ _ _ (fun s h => by simp [h]) h e

theorem execPdelayRespFollowUp_ok (dt : Nat) (p : Nat) (m : PtpId) (t3 : Nat) (s t : State) (h : s.store.ok) (e : execPdelayRespFollowUp dt p m t3 s = .next t) :
    t.store.ok :=
  perform_ok _ _ _ _ _ (fun s h => by simp [h]) h e

theorem execAnnounce_ok (dt : Nat) (p : Nat) (io : AnnounceIo) (fields : List Nat) (s t : State) (h : s.store.ok) (e : execAnnounce dt p io fields s = .next t) :
    t.store.ok :=
  perform_ok _ _ _ _ _ (fun s h => by simp [h]) h e

theorem execArp_ok (dt : Nat) (p : Nat) (addr : Nat) (s t : State) (h : s.store.ok) (e : execArp dt p addr s = .next t) :
    t.store.ok :=
  perform_ok _ _ _ _ _ (fun s h => by simp [h]) h e

theorem execIcmpEcho_ok (dt : Nat) (p : Nat) (addr : Nat) (s t : State) (h : s.store.ok) (e : execIcmpEcho dt p addr s = .next t) :
    t.store.ok :=
  perform_ok _ _ _ _ _ (fun s h => by simp [h]) h e

theorem execAnnounceTimeout_ok (dt : Nat) (s t : State) (h : s.store.ok) (e : execAnnounceTimeout dt s = .next t) :
    t.store.ok :=
  perform_ok _ _ _ _ _ (fun s h => by simp [h]) h e

theorem execStepApply_ok (dt : Nat) (s t : State) (h : s.store.ok) (e : execStepApply dt s = .next t) :
    t.store.ok :=
  perform_ok _ _ _ _ _ (fun s h => State.whenOn_ok _ _ (fun h => by simp [h]) h) h e

theorem execRtcCopy_ok (dt : Nat) (s t : State) (h : s.store.ok) (e : execRtcCopy dt s = .next t) :
    t.store.ok :=
  perform_ok _ _ _ _ _ (fun s h => by simp [h]) h e

theorem execPpsInEdge_ok (dt : Nat) (s t : State) (h : s.store.ok) (e : execPpsInEdge dt s = .next t) :
    t.store.ok :=
  perform_ok _ _ _ _ _ (fun s h => by simp [h]) h e

theorem execPpsOut_ok (dt : Nat) (s t : State) (h : s.store.ok) (e : execPpsOut dt s = .next t) :
    t.store.ok :=
  perform_ok _ _ _ _ _ (fun s h => by simp [h]) h e

theorem execRef10Lost_ok (dt : Nat) (s t : State) (h : s.store.ok) (e : execRef10Lost dt s = .next t) :
    t.store.ok :=
  perform_ok _ _ _ _ _ (fun s h => by simp [h]) h e

theorem execRef10Restored_ok (dt : Nat) (s t : State) (h : s.store.ok) (e : execRef10Restored dt s = .next t) :
    t.store.ok :=
  perform_ok _ _ _ _ _ (fun s h => by simp [h]) h e

theorem execCamPulse_ok (dt : Nat) (k : Nat) (course : Nat) (s t : State) (h : s.store.ok) (e : execCamPulse dt k course s = .next t) :
    t.store.ok :=
  perform_ok _ _ _ _ _ (fun s h => by simp [h]) h e

theorem execEthernetLink_ok (dt : Nat) (p : Nat) (up : Bool) (s t : State) (h : s.store.ok) (e : execEthernetLink dt p up s = .next t) :
    t.store.ok :=
  perform_ok _ _ _ _ _ (fun s h => by simp [h]) h e

theorem execActionAtCourse_ok (dt : Nat) (id : Nat) (s t : State) (h : s.store.ok) (e : execActionAtCourse dt id s = .next t) :
    t.store.ok :=
  perform_ok _ _ _ _ _ (fun s h => State.whenOn_ok _ _ (fun h => by simp [h]) h) h e

theorem execActionAtTime_ok (dt : Nat) (id : Nat) (s t : State) (h : s.store.ok) (e : execActionAtTime dt id s = .next t) :
    t.store.ok :=
  perform_ok _ _ _ _ _ (fun s h => State.whenOn_ok _ _ (fun h => by simp [h]) h) h e

theorem execCourseRecord_ok (dt : Nat) (course : Nat) (fire : Nat) (s t : State) (h : s.store.ok) (e : execCourseRecord dt course fire s = .next t) :
    t.store.ok :=
  perform_ok _ _ _ _ _ (fun s h => by simp [h]) h e

theorem execTieReplay_ok (dt : Nat) (failed : TieIn) (s t : State) (h : s.store.ok) (e : execTieReplay dt failed s = .next t) :
    t.store.ok :=
  perform_ok _ _ _ _ _ (fun s h => by simp [h]) h e

theorem execSeamDeadlineMiss_ok (dt : Nat) (s t : State) (h : s.store.ok) (e : execSeamDeadlineMiss dt s = .next t) :
    t.store.ok :=
  perform_ok _ _ _ _ _ (fun s h => State.whenOn_ok _ _ (fun h => by simp [h]) h) h e

theorem execTieTrainingLost_ok (dt : Nat) (s t : State) (h : s.store.ok) (e : execTieTrainingLost dt s = .next t) :
    t.store.ok :=
  perform_ok _ _ _ _ _ (fun s h => State.whenOn_ok _ _ (fun h => by simp [h]) h) h e

theorem execLockstep_ok (dt : Nat) (w : Nat) (s t : State) (h : s.store.ok) (e : execLockstep dt w s = .next t) :
    t.store.ok :=
  perform_ok _ _ _ _ _ (fun s h => State.whenOn_ok _ _ (fun h => by simp [h]) h) h e

theorem execLiftToken_ok (dt : Nat) (lift : Nat) (s t : State) (h : s.store.ok) (e : execLiftToken dt lift s = .next t) :
    t.store.ok :=
  perform_ok _ _ _ _ _ (fun s h => State.whenOn_ok _ _ (fun h => by simp [h]) h) h e

theorem execCommitToken_ok (dt : Nat) (s t : State) (h : s.store.ok) (e : execCommitToken dt s = .next t) :
    t.store.ok :=
  perform_ok _ _ _ _ _ (fun s h => State.whenOn_ok _ _ (fun h => by simp [h]) h) h e

theorem execLiftScreened_ok (dt : Nat) (w : Nat) (lift : Nat) (audit : Bool) (s t : State) (h : s.store.ok) (e : execLiftScreened dt w lift audit s = .next t) :
    t.store.ok :=
  perform_ok _ _ _ _ _ (fun s h => State.whenOn_ok _ _ (fun h => by simp [h]) h) h e

theorem execCourseRelease_ok (dt : Nat) (s t : State) (h : s.store.ok) (e : execCourseRelease dt s = .next t) :
    t.store.ok :=
  perform_ok _ _ _ _ _ (fun s h => State.whenOn_ok _ _ (fun h => by simp [h]) h) h e

theorem execCourseFire_ok (dt : Nat) (s t : State) (h : s.store.ok) (e : execCourseFire dt s = .next t) :
    t.store.ok :=
  perform_ok _ _ _ _ _ (fun s h => State.whenOn_ok _ _ (fun h => by simp [h]) h) h e

theorem execLiftBoundary_ok (dt : Nat) (seam : List SeamUpset) (s t : State) (h : s.store.ok) (e : execLiftBoundary dt seam s = .next t) :
    t.store.ok :=
  perform_ok _ _ _ _ _ (fun s h => State.whenOn_ok _ _ (fun h => by simp [h]) h) h e

theorem execSpeedLoopCycle_ok (dt : Nat) (s t : State) (h : s.store.ok) (e : execSpeedLoopCycle dt s = .next t) :
    t.store.ok :=
  perform_ok _ _ _ _ _ (fun s h => State.whenOn_ok _ _ (fun h => by simp [h]) h) h e

theorem execOverspeedClear_ok (dt : Nat) (s t : State) (h : s.store.ok) (e : execOverspeedClear dt s = .next t) :
    t.store.ok :=
  perform_ok _ _ _ _ _ (fun s h => State.whenOn_ok _ _ (fun h => by simp [h]) h) h e

theorem execWebAtRest_ok (dt : Nat) (s t : State) (h : s.store.ok) (e : execWebAtRest dt s = .next t) :
    t.store.ok :=
  perform_ok _ _ _ _ _ (fun s h => State.whenOn_ok _ _ (fun h => by simp [h]) h) h e

theorem execCeiling_ok (dt : Nat) (s t : State) (h : s.store.ok) (e : execCeiling dt s = .next t) :
    t.store.ok :=
  perform_ok _ _ _ _ _ (fun s h => State.whenOn_ok _ _ (fun h => by simp [h]) h) h e

theorem execResumeBegin_ok (dt : Nat) (s t : State) (h : s.store.ok) (e : execResumeBegin dt s = .next t) :
    t.store.ok :=
  perform_ok _ _ _ _ _ (fun s h => State.whenOn_ok _ _ (fun h => by simp [h]) h) h e

theorem execRejectEdge_ok (dt : Nat) (s t : State) (h : s.store.ok) (e : execRejectEdge dt s = .next t) :
    t.store.ok :=
  perform_ok _ _ _ _ _ (fun s h => State.whenOn_ok _ _ (fun h => by simp [h]) h) h e

theorem execQuantaLostReport_ok (dt : Nat) (w : Nat) (s t : State) (h : s.store.ok) (e : execQuantaLostReport dt w s = .next t) :
    t.store.ok :=
  perform_ok _ _ _ _ _ (fun s h => State.whenOn_ok _ _ (fun h => by simp [h]) h) h e

theorem execSaturationReport_ok (dt : Nat) (w : Nat) (s t : State) (h : s.store.ok) (e : execSaturationReport dt w s = .next t) :
    t.store.ok :=
  perform_ok _ _ _ _ _ (fun s h => State.whenOn_ok _ _ (fun h => by simp [h]) h) h e

theorem execActionPulseEnd_ok (dt : Nat) (output : Nat) (s t : State) (h : s.store.ok) (e : execActionPulseEnd dt output s = .next t) :
    t.store.ok :=
  perform_ok _ _ _ _ _ (fun s h => State.whenOn_ok _ _ (fun h => by simp [h]) h) h e

theorem execMarkEdge_ok (dt : Nat) (run : MarkRun) (s t : State) (h : s.store.ok) (e : execMarkEdge dt run s = .next t) :
    t.store.ok :=
  perform_ok _ _ _ _ _ (fun s h => State.whenOn_ok _ _ (fun h => by simp [h]) h) h e

theorem execMarkMiss_ok (dt : Nat) (k : Nat) (s t : State) (h : s.store.ok) (e : execMarkMiss dt k s = .next t) :
    t.store.ok :=
  perform_ok _ _ _ _ _ (fun s h => State.whenOn_ok _ _ (fun h => by simp [h]) h) h e

theorem execPositionChange_ok (dt : Nat) (enc : Nat) (inp : EncIn) (s t : State) (h : s.store.ok) (e : execPositionChange dt enc inp s = .next t) :
    t.store.ok :=
  perform_ok _ _ _ _ _ (fun s h => State.whenOn_ok _ _ (fun h => by simp [h]) h) h e

theorem execIllegalTransition_ok (dt : Nat) (enc : Nat) (a : Bool) (b : Bool) (run : Held) (s t : State) (h : s.store.ok) (e : execIllegalTransition dt enc a b run s = .next t) :
    t.store.ok :=
  perform_ok _ _ _ _ _ (fun s h => State.whenOn_ok _ _ (fun h => by simp [h]) h) h e

theorem execRadiusFault_ok (dt : Nat) (enc : Nat) (samples : List (Int × Int)) (s t : State) (h : s.store.ok) (e : execRadiusFault dt enc samples s = .next t) :
    t.store.ok :=
  perform_ok _ _ _ _ _ (fun s h => State.whenOn_ok _ _ (fun h => by simp [h]) h) h e

theorem execIndex_ok (dt : Nat) (enc : Nat) (pins : Pins) (s t : State) (h : s.store.ok) (e : execIndex dt enc pins s = .next t) :
    t.store.ok :=
  perform_ok _ _ _ _ _ (fun s h => State.whenOn_ok _ _ (fun h => by simp [h]) h) h e

theorem execMissingIndex_ok (dt : Nat) (enc : Nat) (s t : State) (h : s.store.ok) (e : execMissingIndex dt enc s = .next t) :
    t.store.ok :=
  perform_ok _ _ _ _ _ (fun s h => State.whenOn_ok _ _ (fun h => by simp [h]) h) h e

theorem execPairStatusChange_ok (dt : Nat) (enc : Nat) (k : Nat) (v : PairIn) (s t : State) (h : s.store.ok) (e : execPairStatusChange dt enc k v s = .next t) :
    t.store.ok :=
  perform_ok _ _ _ _ _ (fun s h => State.whenOn_ok _ _ (fun h => by simp [h]) h) h e

theorem execHallChange_ok (dt : Nat) (run : HallRun) (s t : State) (h : s.store.ok) (e : execHallChange dt run s = .next t) :
    t.store.ok :=
  perform_ok _ _ _ _ _ (fun s h => by simp [h]) h e

theorem execCheckWindow_ok (dt : Nat) (s t : State) (h : s.store.ok) (e : execCheckWindow dt s = .next t) :
    t.store.ok :=
  perform_ok _ _ _ _ _ (fun s h => State.whenOn_ok _ _ (fun h => by simp [h]) h) h e

theorem execSupplyOverload_ok (dt : Nat) (supply : SupplyIn) (s t : State) (h : s.store.ok) (e : execSupplyOverload dt supply s = .next t) :
    t.store.ok :=
  perform_ok _ _ _ _ _ (fun s h => by simp [h]) h e

theorem execIllegalTransitionReport_ok (dt : Nat) (enc : Nat) (s t : State) (h : s.store.ok) (e : execIllegalTransitionReport dt enc s = .next t) :
    t.store.ok :=
  perform_ok _ _ _ _ _ (fun s h => State.whenOn_ok _ _ (fun h => by simp [h]) h) h e

theorem execHallReport_ok (dt : Nat) (s t : State) (h : s.store.ok) (e : execHallReport dt s = .next t) :
    t.store.ok :=
  perform_ok _ _ _ _ _ (fun s h => State.whenOn_ok _ _ (fun h => by simp [h]) h) h e

theorem execIdent_ok (dt : Nat) (r : ZReq) (s t : State) (h : s.store.ok) (e : execIdent dt r s = .next t) :
    t.store.ok :=
  perform_ok _ _ _ _ _ (fun s h => by simp [h]) h e

theorem execStatus_ok (dt : Nat) (r : ZReq) (s t : State) (h : s.store.ok) (e : execStatus dt r s = .next t) :
    t.store.ok :=
  perform_ok _ _ _ _ _ (fun s h => by simp [h]) h e

theorem execZarnetrumTemps_ok (dt : Nat) (r : ZReq) (s t : State) (h : s.store.ok) (e : execZarnetrumTemps dt r s = .next t) :
    t.store.ok :=
  perform_ok _ _ _ _ _ (fun s h => by simp [h]) h e

theorem execPair_ok (dt : Nat) (r : ZReq) (s t : State) (h : s.store.ok) (e : execPair dt r s = .next t) :
    t.store.ok :=
  perform_ok _ _ _ _ _ (fun s h => by simp [h]) h e

theorem execSettings_ok (dt : Nat) (r : ZReq) (s t : State) (h : s.store.ok) (e : execSettings dt r s = .next t) :
    t.store.ok :=
  perform_ok _ _ _ _ _ (fun s h => by simp [h]) h e

theorem execPowerOn_ok (dt : Nat) (r : ZReq) (s t : State) (h : s.store.ok) (e : execPowerOn dt r s = .next t) :
    t.store.ok :=
  perform_ok _ _ _ _ _ (fun s h => by simp [h]) h e

theorem execPowerOff_ok (dt : Nat) (r : ZReq) (ack : Bool) (s t : State) (h : s.store.ok) (e : execPowerOff dt r ack s = .next t) :
    t.store.ok :=
  perform_ok _ _ _ _ _ (fun s h => by simp [h]) h e

theorem execPowerCycle_ok (dt : Nat) (r : ZReq) (ack : Bool) (s t : State) (h : s.store.ok) (e : execPowerCycle dt r ack s = .next t) :
    t.store.ok :=
  perform_ok _ _ _ _ _ (fun s h => by simp [h]) h e

theorem execRestReq_ok (dt : Nat) (r : ZReq) (ack : Bool) (s t : State) (h : s.store.ok) (e : execRestReq dt r ack s = .next t) :
    t.store.ok :=
  perform_ok _ _ _ _ _ (fun s h => by simp [h]) h e

theorem execForce_ok (dt : Nat) (r : ZReq) (s t : State) (h : s.store.ok) (e : execForce dt r s = .next t) :
    t.store.ok :=
  perform_ok _ _ _ _ _ (fun s h => by simp [h]) h e

theorem execLockoutClear_ok (dt : Nat) (r : ZReq) (s t : State) (h : s.store.ok) (e : execLockoutClear dt r s = .next t) :
    t.store.ok :=
  perform_ok _ _ _ _ _ (fun s h => by simp [h]) h e

theorem execLogInfo_ok (dt : Nat) (r : ZReq) (s t : State) (h : s.store.ok) (e : execLogInfo dt r s = .next t) :
    t.store.ok :=
  perform_ok _ _ _ _ _ (fun s h => by simp [h]) h e

theorem execLogRead_ok (dt : Nat) (r : ZReq) (s t : State) (h : s.store.ok) (e : execLogRead dt r s = .next t) :
    t.store.ok :=
  perform_ok _ _ _ _ _ (fun s h => by simp [h]) h e

theorem execFwOpen_ok (dt : Nat) (r : ZReq) (s t : State) (h : s.store.ok) (e : execFwOpen dt r s = .next t) :
    t.store.ok :=
  perform_ok _ _ _ _ _ (fun s h => by simp [h]) h e

theorem execFwData_ok (dt : Nat) (r : ZReq) (s t : State) (h : s.store.ok) (e : execFwData dt r s = .next t) :
    t.store.ok :=
  perform_ok _ _ _ _ _ (fun s h => by simp [h]) h e

theorem execFwClose_ok (dt : Nat) (r : ZReq) (s t : State) (h : s.store.ok) (e : execFwClose dt r s = .next t) :
    t.store.ok :=
  perform_ok _ _ _ _ _ (fun s h => by simp [h]) h e

theorem execFwSelect_ok (dt : Nat) (r : ZReq) (s t : State) (h : s.store.ok) (e : execFwSelect dt r s = .next t) :
    t.store.ok :=
  perform_ok _ _ _ _ _ (fun s h => by simp [h]) h e

theorem execFwSessionTimeout_ok (dt : Nat) (s t : State) (h : s.store.ok) (e : execFwSessionTimeout dt s = .next t) :
    t.store.ok :=
  perform_ok _ _ _ _ _ (fun s h => by simp [h]) h e

theorem execAlertResponse_ok (dt : Nat) (s t : State) (h : s.store.ok) (e : execAlertResponse dt s = .next t) :
    t.store.ok :=
  perform_ok _ _ _ _ _ (fun s h => by simp [h]) h e

theorem execStatusMirrorCopy_ok (dt : Nat) (s t : State) (h : s.store.ok) (e : execStatusMirrorCopy dt s = .next t) :
    t.store.ok :=
  perform_ok _ _ _ _ _ (fun s h => by simp [h]) h e

theorem execLogCommit_ok (dt : Nat) (s t : State) (h : s.store.ok) (e : execLogCommit dt s = .next t) :
    t.store.ok :=
  perform_ok _ _ _ _ _ (fun s h => by simp [h]) h e

theorem execTamper_ok (dt : Nat) (s t : State) (h : s.store.ok) (e : execTamper dt s = .next t) :
    t.store.ok :=
  perform_ok _ _ _ _ _ (fun s h => by simp [h]) h e

theorem execFlashRefresh_ok (dt : Nat) (bad : List Nat) (s t : State) (h : s.store.ok) (e : execFlashRefresh dt bad s = .next t) :
    t.store.ok :=
  perform_ok _ _ _ _ _ (fun s h => by simp [h]) h e

theorem execUnknownOp_ok (dt : Nat) (r : ZReq) (op : Nat) (s t : State) (h : s.store.ok) (e : execUnknownOp dt r op s = .next t) :
    t.store.ok :=
  perform_ok _ _ _ _ _ (fun s h => by simp [h]) h e

theorem execRequestDiscarded_ok (dt : Nat) (frame : ZFrame) (s t : State) (h : s.store.ok) (e : execRequestDiscarded dt frame s = .next t) :
    t.store.ok :=
  perform_ok _ _ _ _ _ (fun s h => by simp [h]) h e

end Sys2Proof.Machine
end

