-- ==== Sys2Proof/Laws/Verbs.lean ====
section
/-! SUPPORT. Every verb is `verbRun` of the states that accept it, of the argument checks and of what it does; and the mailbox around it. -/

namespace Sys2Proof.Machine

open Sys2Proof Sys2Proof.Safety

/-- Good arguments are no fault. -/
theorem QCmd.fault_none {q : QCmd} {named : List (Nat × Nat)} {l : List (Nat × Bool)} (h : Tidy q named) (hl : ∀ p ∈ l, p.2 = false) :
    q.fault named l = none := by
  have : l.filter (fun p => p.2) = [] := List.filter_eq_nil_iff.mpr (fun p hp => by simp [hl p hp])
  simp [QCmd.fault, h.1, h.2, this]

/-- An accepted verb with good arguments runs. -/
theorem verbRun_good {ok : Bool} {bad : Option Nat} (f : State → VRes) (s : State) (h : ok = true) (hb : bad = none) :
    verbRun ok bad f s = f s := by
  subst h hb; rfl

/-- A verb sent in a state that does not accept it. -/
theorem verbRun_wrong (bad : Option Nat) (f : State → VRes) (s : State) : verbRun false bad f s = (s, some s.wrongState) := rfl

/-- An accepted verb with a bad argument. -/
theorem verbRun_bad {ok : Bool} {bad : Option Nat} {o : Nat} (f : State → VRes) (s : State) (h : ok = true) (hb : bad = some o) :
    verbRun ok bad f s = (s, some (Reply.badArg o)) := by
  subst h hb; rfl

theorem wrongState_eq (s : State) : s.wrongState =
    Reply.fail (if s.ident.opState = .rest ∨ s.ident.opState = .fault then Res.inRest else Res.badState) s.ident.opState.code := by
  unfold State.wrongState State.inRest
  cases s.ident.opState <;> simp

theorem runVerb_vSysInfo {ch : Nat} {q : QCmd} (s : State) (h : q.verb = 0x0101) : runVerb ch q s = vSysInfo q s := by
  simp only [runVerb, runLow, runHigh, h]; rfl

theorem runVerb_vSysPing {ch : Nat} {q : QCmd} (s : State) (h : q.verb = 0x0102) : runVerb ch q s = vSysPing q s := by
  simp only [runVerb, runLow, runHigh, h]; rfl

theorem runVerb_vEventRing {ch : Nat} {q : QCmd} (s : State) (h : q.verb = 0x0103) : runVerb ch q s = vEventRing q s := by
  simp only [runVerb, runLow, runHigh, h]; rfl

theorem runVerb_vReset {ch : Nat} {q : QCmd} (s : State) (h : q.verb = 0x0104) : runVerb ch q s = vReset q s := by
  simp only [runVerb, runLow, runHigh, h]; rfl

theorem runVerb_vArm {ch : Nat} {q : QCmd} (s : State) (h : q.verb = 0x0201) : runVerb ch q s = vArm q s := by
  simp only [runVerb, runLow, runHigh, h]; rfl

theorem runVerb_vDisarm {ch : Nat} {q : QCmd} (s : State) (h : q.verb = 0x0202) : runVerb ch q s = vDisarm q s := by
  simp only [runVerb, runLow, runHigh, h]; rfl

theorem runVerb_vRest {ch : Nat} {q : QCmd} (s : State) (h : q.verb = 0x0203) : runVerb ch q s = vRest q s := by
  simp only [runVerb, runLow, runHigh, h]; rfl

theorem runVerb_vClear {ch : Nat} {q : QCmd} (s : State) (h : q.verb = 0x0204) : runVerb ch q s = vClear q s := by
  simp only [runVerb, runLow, runHigh, h]; rfl

theorem runVerb_vStage {ch : Nat} {q : QCmd} (s : State) (h : q.verb = 0x0301) : runVerb ch q s = vStage q s := by
  simp only [runVerb, runLow, runHigh, h]; rfl

theorem runVerb_vCheck {ch : Nat} {q : QCmd} (s : State) (h : q.verb = 0x0302) : runVerb ch q s = vCheck q s := by
  simp only [runVerb, runLow, runHigh, h]; rfl

theorem runVerb_vCommit {ch : Nat} {q : QCmd} (s : State) (h : q.verb = 0x0303) : runVerb ch q s = vCommit ch q s := by
  simp only [runVerb, runLow, runHigh, h]; rfl

theorem runVerb_vCancel {ch : Nat} {q : QCmd} (s : State) (h : q.verb = 0x0304) : runVerb ch q s = vCancel q s := by
  simp only [runVerb, runLow, runHigh, h]; rfl

theorem runVerb_vDiscard {ch : Nat} {q : QCmd} (s : State) (h : q.verb = 0x0305) : runVerb ch q s = vDiscard q s := by
  simp only [runVerb, runLow, runHigh, h]; rfl

theorem runVerb_vCfgRead {ch : Nat} {q : QCmd} (s : State) (h : q.verb = 0x0306) : runVerb ch q s = vCfgRead q s := by
  simp only [runVerb, runLow, runHigh, h]; rfl

theorem runVerb_vJobOpen {ch : Nat} {q : QCmd} (s : State) (h : q.verb = 0x0401) : runVerb ch q s = vJobOpen q s := by
  simp only [runVerb, runLow, runHigh, h]; rfl

theorem runVerb_vJobSubmit {ch : Nat} {q : QCmd} (s : State) (h : q.verb = 0x0402) : runVerb ch q s = vJobSubmit q s := by
  simp only [runVerb, runLow, runHigh, h]; rfl

theorem runVerb_vJobStart {ch : Nat} {q : QCmd} (s : State) (h : q.verb = 0x0403) : runVerb ch q s = vJobStart q s := by
  simp only [runVerb, runLow, runHigh, h]; rfl

theorem runVerb_vJobPause {ch : Nat} {q : QCmd} (s : State) (h : q.verb = 0x0404) : runVerb ch q s = vJobPause q s := by
  simp only [runVerb, runLow, runHigh, h]; rfl

theorem runVerb_vJobContinue {ch : Nat} {q : QCmd} (s : State) (h : q.verb = 0x0405) : runVerb ch q s = vJobContinue q s := by
  simp only [runVerb, runLow, runHigh, h]; rfl

theorem runVerb_vJobAbort {ch : Nat} {q : QCmd} (s : State) (h : q.verb = 0x0406) : runVerb ch q s = vJobAbort q s := by
  simp only [runVerb, runLow, runHigh, h]; rfl

theorem runVerb_vJobClose {ch : Nat} {q : QCmd} (s : State) (h : q.verb = 0x0407) : runVerb ch q s = vJobClose q s := by
  simp only [runVerb, runLow, runHigh, h]; rfl

theorem runVerb_vJobStatus {ch : Nat} {q : QCmd} (s : State) (h : q.verb = 0x0408) : runVerb ch q s = vJobStatus q s := by
  simp only [runVerb, runLow, runHigh, h]; rfl

theorem runVerb_vAtCourse {ch : Nat} {q : QCmd} (s : State) (h : q.verb = 0x0501) : runVerb ch q s = vAtCourse q s := by
  simp only [runVerb, runLow, runHigh, h]; rfl

theorem runVerb_vAtTime {ch : Nat} {q : QCmd} (s : State) (h : q.verb = 0x0502) : runVerb ch q s = vAtTime q s := by
  simp only [runVerb, runLow, runHigh, h]; rfl

theorem runVerb_vEvtCancel {ch : Nat} {q : QCmd} (s : State) (h : q.verb = 0x0503) : runVerb ch q s = vEvtCancel q s := by
  simp only [runVerb, runLow, runHigh, h]; rfl

theorem runVerb_vEvtList {ch : Nat} {q : QCmd} (s : State) (h : q.verb = 0x0504) : runVerb ch q s = vEvtList q s := by
  simp only [runVerb, runLow, runHigh, h]; rfl

theorem runVerb_vDensUpdate {ch : Nat} {q : QCmd} (s : State) (h : q.verb = 0x0601) : runVerb ch q s = vDensUpdate q s := by
  simp only [runVerb, runLow, runHigh, h]; rfl

theorem runVerb_vDensRead {ch : Nat} {q : QCmd} (s : State) (h : q.verb = 0x0602) : runVerb ch q s = vDensRead q s := by
  simp only [runVerb, runLow, runHigh, h]; rfl

theorem runVerb_vDensFreeze {ch : Nat} {q : QCmd} (s : State) (h : q.verb = 0x0603) : runVerb ch q s = vDensFreeze q s := by
  simp only [runVerb, runLow, runHigh, h]; rfl

theorem runVerb_vNozMap {ch : Nat} {q : QCmd} (s : State) (h : q.verb = 0x0701) : runVerb ch q s = vNozMap q s := by
  simp only [runVerb, runLow, runHigh, h]; rfl

theorem runVerb_vNozRead {ch : Nat} {q : QCmd} (s : State) (h : q.verb = 0x0702) : runVerb ch q s = vNozRead q s := by
  simp only [runVerb, runLow, runHigh, h]; rfl

theorem runVerb_vLaneBond {ch : Nat} {q : QCmd} (s : State) (h : q.verb = 0x0801) : runVerb ch q s = vLaneBond q s := by
  simp only [runVerb, runLow, runHigh, h]; rfl

theorem runVerb_vPairSwap {ch : Nat} {q : QCmd} (s : State) (h : q.verb = 0x0901) : runVerb ch q s = vPairSwap ch q s := by
  simp only [runVerb, runLow, runHigh, h]; rfl

theorem runVerb_vPairJoin {ch : Nat} {q : QCmd} (s : State) (h : q.verb = 0x0902) : runVerb ch q s = vPairJoin q s := by
  simp only [runVerb, runLow, runHigh, h]; rfl

theorem runVerb_vPairLeave {ch : Nat} {q : QCmd} (s : State) (h : q.verb = 0x0903) : runVerb ch q s = vPairLeave q s := by
  simp only [runVerb, runLow, runHigh, h]; rfl

theorem runVerb_vPairTake {ch : Nat} {q : QCmd} (s : State) (h : q.verb = 0x0904) : runVerb ch q s = vPairTake q s := by
  simp only [runVerb, runLow, runHigh, h]; rfl

theorem runVerb_vPairInfo {ch : Nat} {q : QCmd} (s : State) (h : q.verb = 0x0905) : runVerb ch q s = vPairInfo q s := by
  simp only [runVerb, runLow, runHigh, h]; rfl

theorem runVerb_vGangForm {ch : Nat} {q : QCmd} (s : State) (h : q.verb = 0x0A01) : runVerb ch q s = vGangForm q s := by
  simp only [runVerb, runLow, runHigh, h]; rfl

theorem runVerb_vGangDissolve {ch : Nat} {q : QCmd} (s : State) (h : q.verb = 0x0A02) : runVerb ch q s = vGangDissolve q s := by
  simp only [runVerb, runLow, runHigh, h]; rfl

theorem runVerb_vGangInfo {ch : Nat} {q : QCmd} (s : State) (h : q.verb = 0x0A03) : runVerb ch q s = vGangInfo q s := by
  simp only [runVerb, runLow, runHigh, h]; rfl

theorem runVerb_vAcceptStep {ch : Nat} {q : QCmd} (s : State) (h : q.verb = 0x0B01) : runVerb ch q s = vAcceptStep ch q s := by
  simp only [runVerb, runLow, runHigh, h]; rfl

theorem runVerb_vTimeSet {ch : Nat} {q : QCmd} (s : State) (h : q.verb = 0x0B02) : runVerb ch q s = vTimeSet ch q s := by
  simp only [runVerb, runLow, runHigh, h]; rfl

theorem runVerb_vTimeStatus {ch : Nat} {q : QCmd} (s : State) (h : q.verb = 0x0B03) : runVerb ch q s = vTimeStatus q s := by
  simp only [runVerb, runLow, runHigh, h]; rfl

theorem runVerb_vLampSet {ch : Nat} {q : QCmd} (s : State) (h : q.verb = 0x0C01) : runVerb ch q s = vLampSet q s := by
  simp only [runVerb, runLow, runHigh, h]; rfl

theorem runVerb_vLampRead {ch : Nat} {q : QCmd} (s : State) (h : q.verb = 0x0C02) : runVerb ch q s = vLampRead q s := by
  simp only [runVerb, runLow, runHigh, h]; rfl

theorem runVerb_vLampClear {ch : Nat} {q : QCmd} (s : State) (h : q.verb = 0x0C03) : runVerb ch q s = vLampClear q s := by
  simp only [runVerb, runLow, runHigh, h]; rfl

theorem runVerb_vPanelSet {ch : Nat} {q : QCmd} (s : State) (h : q.verb = 0x0C04) : runVerb ch q s = vPanelSet q s := by
  simp only [runVerb, runLow, runHigh, h]; rfl

theorem runVerb_vCopingRead {ch : Nat} {q : QCmd} (s : State) (h : q.verb = 0x0D01) : runVerb ch q s = vCopingRead q s := by
  simp only [runVerb, runLow, runHigh, h]; rfl

theorem runVerb_vCopingCal {ch : Nat} {q : QCmd} (s : State) (h : q.verb = 0x0D02) : runVerb ch q s = vCopingCal q s := by
  simp only [runVerb, runLow, runHigh, h]; rfl

theorem runVerb_vLogRead {ch : Nat} {q : QCmd} (s : State) (h : q.verb = 0x0E01) : runVerb ch q s = vLogRead q s := by
  simp only [runVerb, runLow, runHigh, h]; rfl

theorem runVerb_vPlinthFw {ch : Nat} {q : QCmd} (s : State) (h : q.verb = 0x0E02) : runVerb ch q s = vPlinthFw q s := by
  simp only [runVerb, runLow, runHigh, h]; rfl

theorem runVerb_vFwSelect {ch : Nat} {q : QCmd} (s : State) (h : q.verb = 0x0E03) : runVerb ch q s = vFwSelect q s := by
  simp only [runVerb, runLow, runHigh, h]; rfl

theorem vSysInfo_form {q : QCmd} (ch : Nat) (s : State) (h : q.verb = 0x0101) :
    ∃ named l f, vSysInfo q s = verbRun (acceptedIn q s.ident.opState) (q.fault named l) f s := by
  have a : ∀ (b : Option Nat) (f : State → VRes) (ok : Bool), acceptedIn q s.ident.opState = ok →
      verbRun ok b f s = verbRun (acceptedIn q s.ident.opState) b f s := fun b f ok e => by rw [e]
  unfold vSysInfo
  try dsimp only
  refine ⟨_, _, _, a _ _ _ ?_⟩
  unfold acceptedIn
  rw [h]
  cases h' : s.ident.opState <;> first | rfl | (simp [State.mainOn, State.idleState, State.live, State.restReady, State.armed, State.inRest, h']; done) |
    (simp [State.idleState, State.restReady, State.inRest, h']; rfl)

theorem vSysPing_form {q : QCmd} (ch : Nat) (s : State) (h : q.verb = 0x0102) :
    ∃ named l f, vSysPing q s = verbRun (acceptedIn q s.ident.opState) (q.fault named l) f s := by
  have a : ∀ (b : Option Nat) (f : State → VRes) (ok : Bool), acceptedIn q s.ident.opState = ok →
      verbRun ok b f s = verbRun (acceptedIn q s.ident.opState) b f s := fun b f ok e => by rw [e]
  unfold vSysPing
  try dsimp only
  refine ⟨_, _, _, a _ _ _ ?_⟩
  unfold acceptedIn
  rw [h]
  cases h' : s.ident.opState <;> first | rfl | (simp [State.mainOn, State.idleState, State.live, State.restReady, State.armed, State.inRest, h']; done) |
    (simp [State.idleState, State.restReady, State.inRest, h']; rfl)

theorem vEventRing_form {q : QCmd} (ch : Nat) (s : State) (h : q.verb = 0x0103) :
    ∃ named l f, vEventRing q s = verbRun (acceptedIn q s.ident.opState) (q.fault named l) f s := by
  have a : ∀ (b : Option Nat) (f : State → VRes) (ok : Bool), acceptedIn q s.ident.opState = ok →
      verbRun ok b f s = verbRun (acceptedIn q s.ident.opState) b f s := fun b f ok e => by rw [e]
  unfold vEventRing
  try dsimp only
  refine ⟨_, _, _, a _ _ _ ?_⟩
  unfold acceptedIn
  rw [h]
  cases h' : s.ident.opState <;> first | rfl | (simp [State.mainOn, State.idleState, State.live, State.restReady, State.armed, State.inRest, h']; done) |
    (simp [State.idleState, State.restReady, State.inRest, h']; rfl)

theorem vReset_form {q : QCmd} (ch : Nat) (s : State) (h : q.verb = 0x0104) :
    ∃ named l f, vReset q s = verbRun (acceptedIn q s.ident.opState) (q.fault named l) f s := by
  have a : ∀ (b : Option Nat) (f : State → VRes) (ok : Bool), acceptedIn q s.ident.opState = ok →
      verbRun ok b f s = verbRun (acceptedIn q s.ident.opState) b f s := fun b f ok e => by rw [e]
  unfold vReset
  try dsimp only
  refine ⟨_, _, _, a _ _ _ ?_⟩
  unfold acceptedIn
  rw [h]
  cases h' : s.ident.opState <;> first | rfl | (simp [State.mainOn, State.idleState, State.live, State.restReady, State.armed, State.inRest, h']; done) |
    (simp [State.idleState, State.restReady, State.inRest, h']; rfl)

theorem vArm_form {q : QCmd} (ch : Nat) (s : State) (h : q.verb = 0x0201) :
    ∃ named l f, vArm q s = verbRun (acceptedIn q s.ident.opState) (q.fault named l) f s := by
  have a : ∀ (b : Option Nat) (f : State → VRes) (ok : Bool), acceptedIn q s.ident.opState = ok →
      verbRun ok b f s = verbRun (acceptedIn q s.ident.opState) b f s := fun b f ok e => by rw [e]
  unfold vArm
  try dsimp only
  refine ⟨_, _, _, a _ _ _ ?_⟩
  unfold acceptedIn
  rw [h]
  cases h' : s.ident.opState <;> first | rfl | (simp [State.mainOn, State.idleState, State.live, State.restReady, State.armed, State.inRest, h']; done) |
    (simp [State.idleState, State.restReady, State.inRest, h']; rfl)

theorem vDisarm_form {q : QCmd} (ch : Nat) (s : State) (h : q.verb = 0x0202) :
    ∃ named l f, vDisarm q s = verbRun (acceptedIn q s.ident.opState) (q.fault named l) f s := by
  have a : ∀ (b : Option Nat) (f : State → VRes) (ok : Bool), acceptedIn q s.ident.opState = ok →
      verbRun ok b f s = verbRun (acceptedIn q s.ident.opState) b f s := fun b f ok e => by rw [e]
  unfold vDisarm
  try dsimp only
  refine ⟨_, _, _, a _ _ _ ?_⟩
  unfold acceptedIn
  rw [h]
  cases h' : s.ident.opState <;> first | rfl | (simp [State.mainOn, State.idleState, State.live, State.restReady, State.armed, State.inRest, h']; done) |
    (simp [State.idleState, State.restReady, State.inRest, h']; rfl)

theorem vRest_form {q : QCmd} (ch : Nat) (s : State) (h : q.verb = 0x0203) :
    ∃ named l f, vRest q s = verbRun (acceptedIn q s.ident.opState) (q.fault named l) f s := by
  have a : ∀ (b : Option Nat) (f : State → VRes) (ok : Bool), acceptedIn q s.ident.opState = ok →
      verbRun ok b f s = verbRun (acceptedIn q s.ident.opState) b f s := fun b f ok e => by rw [e]
  unfold vRest
  try dsimp only
  refine ⟨_, _, _, a _ _ _ ?_⟩
  unfold acceptedIn
  rw [h]
  cases h' : s.ident.opState <;> first | rfl | (simp [State.mainOn, State.idleState, State.live, State.restReady, State.armed, State.inRest, h']; done) |
    (simp [State.idleState, State.restReady, State.inRest, h']; rfl)

theorem vClear_form {q : QCmd} (ch : Nat) (s : State) (h : q.verb = 0x0204) :
    ∃ named l f, vClear q s = verbRun (acceptedIn q s.ident.opState) (q.fault named l) f s := by
  have a : ∀ (b : Option Nat) (f : State → VRes) (ok : Bool), acceptedIn q s.ident.opState = ok →
      verbRun ok b f s = verbRun (acceptedIn q s.ident.opState) b f s := fun b f ok e => by rw [e]
  unfold vClear
  try dsimp only
  refine ⟨_, _, _, a _ _ _ ?_⟩
  unfold acceptedIn
  rw [h]
  cases h' : s.ident.opState <;> first | rfl | (simp [State.mainOn, State.idleState, State.live, State.restReady, State.armed, State.inRest, h']; done) |
    (simp [State.idleState, State.restReady, State.inRest, h']; rfl)

theorem vStage_form {q : QCmd} (ch : Nat) (s : State) (h : q.verb = 0x0301) :
    ∃ named l f, vStage q s = verbRun (acceptedIn q s.ident.opState) (q.fault named l) f s := by
  have a : ∀ (b : Option Nat) (f : State → VRes) (ok : Bool), acceptedIn q s.ident.opState = ok →
      verbRun ok b f s = verbRun (acceptedIn q s.ident.opState) b f s := fun b f ok e => by rw [e]
  unfold vStage
  try dsimp only
  refine ⟨_, _, _, a _ _ _ ?_⟩
  unfold acceptedIn
  rw [h]
  cases h' : s.ident.opState <;> first | rfl | (simp [State.mainOn, State.idleState, State.live, State.restReady, State.armed, State.inRest, h']; done) |
    (simp [State.idleState, State.restReady, State.inRest, h']; rfl)

theorem vCheck_form {q : QCmd} (ch : Nat) (s : State) (h : q.verb = 0x0302) :
    ∃ named l f, vCheck q s = verbRun (acceptedIn q s.ident.opState) (q.fault named l) f s := by
  have a : ∀ (b : Option Nat) (f : State → VRes) (ok : Bool), acceptedIn q s.ident.opState = ok →
      verbRun ok b f s = verbRun (acceptedIn q s.ident.opState) b f s := fun b f ok e => by rw [e]
  unfold vCheck
  try dsimp only
  refine ⟨_, _, _, a _ _ _ ?_⟩
  unfold acceptedIn
  rw [h]
  cases h' : s.ident.opState <;> first | rfl | (simp [State.mainOn, State.idleState, State.live, State.restReady, State.armed, State.inRest, h']; done) |
    (simp [State.idleState, State.restReady, State.inRest, h']; rfl)

theorem vCommit_form {q : QCmd} (ch : Nat) (s : State) (h : q.verb = 0x0303) :
    ∃ named l f, vCommit ch q s = verbRun (acceptedIn q s.ident.opState) (q.fault named l) f s := by
  have a : ∀ (b : Option Nat) (f : State → VRes) (ok : Bool), acceptedIn q s.ident.opState = ok →
      verbRun ok b f s = verbRun (acceptedIn q s.ident.opState) b f s := fun b f ok e => by rw [e]
  unfold vCommit
  try dsimp only
  refine ⟨_, _, _, a _ _ _ ?_⟩
  unfold acceptedIn
  rw [h]
  cases h' : s.ident.opState <;> first | rfl | (simp [State.mainOn, State.idleState, State.live, State.restReady, State.armed, State.inRest, h']; done) |
    (simp [State.idleState, State.restReady, State.inRest, h']; rfl)

theorem vCancel_form {q : QCmd} (ch : Nat) (s : State) (h : q.verb = 0x0304) :
    ∃ named l f, vCancel q s = verbRun (acceptedIn q s.ident.opState) (q.fault named l) f s := by
  have a : ∀ (b : Option Nat) (f : State → VRes) (ok : Bool), acceptedIn q s.ident.opState = ok →
      verbRun ok b f s = verbRun (acceptedIn q s.ident.opState) b f s := fun b f ok e => by rw [e]
  unfold vCancel
  try dsimp only
  refine ⟨_, _, _, a _ _ _ ?_⟩
  unfold acceptedIn
  rw [h]
  cases h' : s.ident.opState <;> first | rfl | (simp [State.mainOn, State.idleState, State.live, State.restReady, State.armed, State.inRest, h']; done) |
    (simp [State.idleState, State.restReady, State.inRest, h']; rfl)

theorem vDiscard_form {q : QCmd} (ch : Nat) (s : State) (h : q.verb = 0x0305) :
    ∃ named l f, vDiscard q s = verbRun (acceptedIn q s.ident.opState) (q.fault named l) f s := by
  have a : ∀ (b : Option Nat) (f : State → VRes) (ok : Bool), acceptedIn q s.ident.opState = ok →
      verbRun ok b f s = verbRun (acceptedIn q s.ident.opState) b f s := fun b f ok e => by rw [e]
  unfold vDiscard
  try dsimp only
  refine ⟨_, _, _, a _ _ _ ?_⟩
  unfold acceptedIn
  rw [h]
  cases h' : s.ident.opState <;> first | rfl | (simp [State.mainOn, State.idleState, State.live, State.restReady, State.armed, State.inRest, h']; done) |
    (simp [State.idleState, State.restReady, State.inRest, h']; rfl)

theorem vCfgRead_form {q : QCmd} (ch : Nat) (s : State) (h : q.verb = 0x0306) :
    ∃ named l f, vCfgRead q s = verbRun (acceptedIn q s.ident.opState) (q.fault named l) f s := by
  have a : ∀ (b : Option Nat) (f : State → VRes) (ok : Bool), acceptedIn q s.ident.opState = ok →
      verbRun ok b f s = verbRun (acceptedIn q s.ident.opState) b f s := fun b f ok e => by rw [e]
  unfold vCfgRead
  try dsimp only
  refine ⟨_, _, _, a _ _ _ ?_⟩
  unfold acceptedIn
  rw [h]
  cases h' : s.ident.opState <;> first | rfl | (simp [State.mainOn, State.idleState, State.live, State.restReady, State.armed, State.inRest, h']; done) |
    (simp [State.idleState, State.restReady, State.inRest, h']; rfl)

theorem vJobOpen_form {q : QCmd} (ch : Nat) (s : State) (h : q.verb = 0x0401) :
    ∃ named l f, vJobOpen q s = verbRun (acceptedIn q s.ident.opState) (q.fault named l) f s := by
  have a : ∀ (b : Option Nat) (f : State → VRes) (ok : Bool), acceptedIn q s.ident.opState = ok →
      verbRun ok b f s = verbRun (acceptedIn q s.ident.opState) b f s := fun b f ok e => by rw [e]
  unfold vJobOpen
  try dsimp only
  refine ⟨_, _, _, a _ _ _ ?_⟩
  unfold acceptedIn
  rw [h]
  cases h' : s.ident.opState <;> first | rfl | (simp [State.mainOn, State.idleState, State.live, State.restReady, State.armed, State.inRest, h']; done) |
    (simp [State.idleState, State.restReady, State.inRest, h']; rfl)

theorem vJobSubmit_form {q : QCmd} (ch : Nat) (s : State) (h : q.verb = 0x0402) :
    ∃ named l f, vJobSubmit q s = verbRun (acceptedIn q s.ident.opState) (q.fault named l) f s := by
  have a : ∀ (b : Option Nat) (f : State → VRes) (ok : Bool), acceptedIn q s.ident.opState = ok →
      verbRun ok b f s = verbRun (acceptedIn q s.ident.opState) b f s := fun b f ok e => by rw [e]
  unfold vJobSubmit
  try dsimp only
  refine ⟨_, _, _, a _ _ _ ?_⟩
  unfold acceptedIn
  rw [h]
  cases h' : s.ident.opState <;> first | rfl | (simp [State.mainOn, State.idleState, State.live, State.restReady, State.armed, State.inRest, h']; done) |
    (simp [State.idleState, State.restReady, State.inRest, h']; rfl)

theorem vJobStart_form {q : QCmd} (ch : Nat) (s : State) (h : q.verb = 0x0403) :
    ∃ named l f, vJobStart q s = verbRun (acceptedIn q s.ident.opState) (q.fault named l) f s := by
  have a : ∀ (b : Option Nat) (f : State → VRes) (ok : Bool), acceptedIn q s.ident.opState = ok →
      verbRun ok b f s = verbRun (acceptedIn q s.ident.opState) b f s := fun b f ok e => by rw [e]
  unfold vJobStart
  try dsimp only
  refine ⟨_, _, _, a _ _ _ ?_⟩
  unfold acceptedIn
  rw [h]
  cases h' : s.ident.opState <;> first | rfl | (simp [State.mainOn, State.idleState, State.live, State.restReady, State.armed, State.inRest, h']; done) |
    (simp [State.idleState, State.restReady, State.inRest, h']; rfl)

theorem vJobPause_form {q : QCmd} (ch : Nat) (s : State) (h : q.verb = 0x0404) :
    ∃ named l f, vJobPause q s = verbRun (acceptedIn q s.ident.opState) (q.fault named l) f s := by
  have a : ∀ (b : Option Nat) (f : State → VRes) (ok : Bool), acceptedIn q s.ident.opState = ok →
      verbRun ok b f s = verbRun (acceptedIn q s.ident.opState) b f s := fun b f ok e => by rw [e]
  unfold vJobPause
  try dsimp only
  refine ⟨_, _, _, a _ _ _ ?_⟩
  unfold acceptedIn
  rw [h]
  cases h' : s.ident.opState <;> first | rfl | (simp [State.mainOn, State.idleState, State.live, State.restReady, State.armed, State.inRest, h']; done) |
    (simp [State.idleState, State.restReady, State.inRest, h']; rfl)

theorem vJobContinue_form {q : QCmd} (ch : Nat) (s : State) (h : q.verb = 0x0405) :
    ∃ named l f, vJobContinue q s = verbRun (acceptedIn q s.ident.opState) (q.fault named l) f s := by
  have a : ∀ (b : Option Nat) (f : State → VRes) (ok : Bool), acceptedIn q s.ident.opState = ok →
      verbRun ok b f s = verbRun (acceptedIn q s.ident.opState) b f s := fun b f ok e => by rw [e]
  unfold vJobContinue
  try dsimp only
  refine ⟨_, _, _, a _ _ _ ?_⟩
  unfold acceptedIn
  rw [h]
  cases h' : s.ident.opState <;> first | rfl | (simp [State.mainOn, State.idleState, State.live, State.restReady, State.armed, State.inRest, h']; done) |
    (simp [State.idleState, State.restReady, State.inRest, h']; rfl)

theorem vJobAbort_form {q : QCmd} (ch : Nat) (s : State) (h : q.verb = 0x0406) :
    ∃ named l f, vJobAbort q s = verbRun (acceptedIn q s.ident.opState) (q.fault named l) f s := by
  have a : ∀ (b : Option Nat) (f : State → VRes) (ok : Bool), acceptedIn q s.ident.opState = ok →
      verbRun ok b f s = verbRun (acceptedIn q s.ident.opState) b f s := fun b f ok e => by rw [e]
  unfold vJobAbort
  try dsimp only
  refine ⟨_, _, _, a _ _ _ ?_⟩
  unfold acceptedIn
  rw [h]
  cases h' : s.ident.opState <;> first | rfl | (simp [State.mainOn, State.idleState, State.live, State.restReady, State.armed, State.inRest, h']; done) |
    (simp [State.idleState, State.restReady, State.inRest, h']; rfl)

theorem vJobClose_form {q : QCmd} (ch : Nat) (s : State) (h : q.verb = 0x0407) :
    ∃ named l f, vJobClose q s = verbRun (acceptedIn q s.ident.opState) (q.fault named l) f s := by
  have a : ∀ (b : Option Nat) (f : State → VRes) (ok : Bool), acceptedIn q s.ident.opState = ok →
      verbRun ok b f s = verbRun (acceptedIn q s.ident.opState) b f s := fun b f ok e => by rw [e]
  unfold vJobClose
  try dsimp only
  refine ⟨_, _, _, a _ _ _ ?_⟩
  unfold acceptedIn
  rw [h]
  cases h' : s.ident.opState <;> first | rfl | (simp [State.mainOn, State.idleState, State.live, State.restReady, State.armed, State.inRest, h']; done) |
    (simp [State.idleState, State.restReady, State.inRest, h']; rfl)

theorem vJobStatus_form {q : QCmd} (ch : Nat) (s : State) (h : q.verb = 0x0408) :
    ∃ named l f, vJobStatus q s = verbRun (acceptedIn q s.ident.opState) (q.fault named l) f s := by
  have a : ∀ (b : Option Nat) (f : State → VRes) (ok : Bool), acceptedIn q s.ident.opState = ok →
      verbRun ok b f s = verbRun (acceptedIn q s.ident.opState) b f s := fun b f ok e => by rw [e]
  unfold vJobStatus
  try dsimp only
  refine ⟨_, _, _, a _ _ _ ?_⟩
  unfold acceptedIn
  rw [h]
  cases h' : s.ident.opState <;> first | rfl | (simp [State.mainOn, State.idleState, State.live, State.restReady, State.armed, State.inRest, h']; done) |
    (simp [State.idleState, State.restReady, State.inRest, h']; rfl)

theorem vAtCourse_form {q : QCmd} (ch : Nat) (s : State) (h : q.verb = 0x0501) :
    ∃ named l f, vAtCourse q s = verbRun (acceptedIn q s.ident.opState) (q.fault named l) f s := by
  have a : ∀ (b : Option Nat) (f : State → VRes) (ok : Bool), acceptedIn q s.ident.opState = ok →
      verbRun ok b f s = verbRun (acceptedIn q s.ident.opState) b f s := fun b f ok e => by rw [e]
  unfold vAtCourse
  try dsimp only
  refine ⟨_, _, _, a _ _ _ ?_⟩
  unfold acceptedIn
  rw [h]
  cases h' : s.ident.opState <;> first | rfl | (simp [State.mainOn, State.idleState, State.live, State.restReady, State.armed, State.inRest, h']; done) |
    (simp [State.idleState, State.restReady, State.inRest, h']; rfl)

theorem vAtTime_form {q : QCmd} (ch : Nat) (s : State) (h : q.verb = 0x0502) :
    ∃ named l f, vAtTime q s = verbRun (acceptedIn q s.ident.opState) (q.fault named l) f s := by
  have a : ∀ (b : Option Nat) (f : State → VRes) (ok : Bool), acceptedIn q s.ident.opState = ok →
      verbRun ok b f s = verbRun (acceptedIn q s.ident.opState) b f s := fun b f ok e => by rw [e]
  unfold vAtTime
  try dsimp only
  refine ⟨_, _, _, a _ _ _ ?_⟩
  unfold acceptedIn
  rw [h]
  cases h' : s.ident.opState <;> first | rfl | (simp [State.mainOn, State.idleState, State.live, State.restReady, State.armed, State.inRest, h']; done) |
    (simp [State.idleState, State.restReady, State.inRest, h']; rfl)

theorem vEvtCancel_form {q : QCmd} (ch : Nat) (s : State) (h : q.verb = 0x0503) :
    ∃ named l f, vEvtCancel q s = verbRun (acceptedIn q s.ident.opState) (q.fault named l) f s := by
  have a : ∀ (b : Option Nat) (f : State → VRes) (ok : Bool), acceptedIn q s.ident.opState = ok →
      verbRun ok b f s = verbRun (acceptedIn q s.ident.opState) b f s := fun b f ok e => by rw [e]
  unfold vEvtCancel
  try dsimp only
  refine ⟨_, _, _, a _ _ _ ?_⟩
  unfold acceptedIn
  rw [h]
  cases h' : s.ident.opState <;> first | rfl | (simp [State.mainOn, State.idleState, State.live, State.restReady, State.armed, State.inRest, h']; done) |
    (simp [State.idleState, State.restReady, State.inRest, h']; rfl)

theorem vEvtList_form {q : QCmd} (ch : Nat) (s : State) (h : q.verb = 0x0504) :
    ∃ named l f, vEvtList q s = verbRun (acceptedIn q s.ident.opState) (q.fault named l) f s := by
  have a : ∀ (b : Option Nat) (f : State → VRes) (ok : Bool), acceptedIn q s.ident.opState = ok →
      verbRun ok b f s = verbRun (acceptedIn q s.ident.opState) b f s := fun b f ok e => by rw [e]
  unfold vEvtList
  try dsimp only
  refine ⟨_, _, _, a _ _ _ ?_⟩
  unfold acceptedIn
  rw [h]
  cases h' : s.ident.opState <;> first | rfl | (simp [State.mainOn, State.idleState, State.live, State.restReady, State.armed, State.inRest, h']; done) |
    (simp [State.idleState, State.restReady, State.inRest, h']; rfl)

theorem vDensUpdate_form {q : QCmd} (ch : Nat) (s : State) (h : q.verb = 0x0601) :
    ∃ named l f, vDensUpdate q s = verbRun (acceptedIn q s.ident.opState) (q.fault named l) f s := by
  have a : ∀ (b : Option Nat) (f : State → VRes) (ok : Bool), acceptedIn q s.ident.opState = ok →
      verbRun ok b f s = verbRun (acceptedIn q s.ident.opState) b f s := fun b f ok e => by rw [e]
  unfold vDensUpdate
  try dsimp only
  refine ⟨_, _, _, a _ _ _ ?_⟩
  unfold acceptedIn
  rw [h]
  cases h' : s.ident.opState <;> first | rfl | (simp [State.mainOn, State.idleState, State.live, State.restReady, State.armed, State.inRest, h']; done) |
    (simp [State.idleState, State.restReady, State.inRest, h']; rfl)

theorem vDensRead_form {q : QCmd} (ch : Nat) (s : State) (h : q.verb = 0x0602) :
    ∃ named l f, vDensRead q s = verbRun (acceptedIn q s.ident.opState) (q.fault named l) f s := by
  have a : ∀ (b : Option Nat) (f : State → VRes) (ok : Bool), acceptedIn q s.ident.opState = ok →
      verbRun ok b f s = verbRun (acceptedIn q s.ident.opState) b f s := fun b f ok e => by rw [e]
  unfold vDensRead
  try dsimp only
  refine ⟨_, _, _, a _ _ _ ?_⟩
  unfold acceptedIn
  rw [h]
  cases h' : s.ident.opState <;> first | rfl | (simp [State.mainOn, State.idleState, State.live, State.restReady, State.armed, State.inRest, h']; done) |
    (simp [State.idleState, State.restReady, State.inRest, h']; rfl)

theorem vDensFreeze_form {q : QCmd} (ch : Nat) (s : State) (h : q.verb = 0x0603) :
    ∃ named l f, vDensFreeze q s = verbRun (acceptedIn q s.ident.opState) (q.fault named l) f s := by
  have a : ∀ (b : Option Nat) (f : State → VRes) (ok : Bool), acceptedIn q s.ident.opState = ok →
      verbRun ok b f s = verbRun (acceptedIn q s.ident.opState) b f s := fun b f ok e => by rw [e]
  unfold vDensFreeze
  try dsimp only
  refine ⟨_, _, _, a _ _ _ ?_⟩
  unfold acceptedIn
  rw [h]
  cases h' : s.ident.opState <;> first | rfl | (simp [State.mainOn, State.idleState, State.live, State.restReady, State.armed, State.inRest, h']; done) |
    (simp [State.idleState, State.restReady, State.inRest, h']; rfl)

theorem vNozMap_form {q : QCmd} (ch : Nat) (s : State) (h : q.verb = 0x0701) :
    ∃ named l f, vNozMap q s = verbRun (acceptedIn q s.ident.opState) (q.fault named l) f s := by
  have a : ∀ (b : Option Nat) (f : State → VRes) (ok : Bool), acceptedIn q s.ident.opState = ok →
      verbRun ok b f s = verbRun (acceptedIn q s.ident.opState) b f s := fun b f ok e => by rw [e]
  unfold vNozMap
  try dsimp only
  refine ⟨_, _, _, a _ _ _ ?_⟩
  unfold acceptedIn
  rw [h]
  cases h' : s.ident.opState <;> first | rfl | (simp [State.mainOn, State.idleState, State.live, State.restReady, State.armed, State.inRest, h']; done) |
    (simp [State.idleState, State.restReady, State.inRest, h']; rfl)

theorem vNozRead_form {q : QCmd} (ch : Nat) (s : State) (h : q.verb = 0x0702) :
    ∃ named l f, vNozRead q s = verbRun (acceptedIn q s.ident.opState) (q.fault named l) f s := by
  have a : ∀ (b : Option Nat) (f : State → VRes) (ok : Bool), acceptedIn q s.ident.opState = ok →
      verbRun ok b f s = verbRun (acceptedIn q s.ident.opState) b f s := fun b f ok e => by rw [e]
  unfold vNozRead
  try dsimp only
  refine ⟨_, _, _, a _ _ _ ?_⟩
  unfold acceptedIn
  rw [h]
  cases h' : s.ident.opState <;> first | rfl | (simp [State.mainOn, State.idleState, State.live, State.restReady, State.armed, State.inRest, h']; done) |
    (simp [State.idleState, State.restReady, State.inRest, h']; rfl)

theorem vLaneBond_form {q : QCmd} (ch : Nat) (s : State) (h : q.verb = 0x0801) :
    ∃ named l f, vLaneBond q s = verbRun (acceptedIn q s.ident.opState) (q.fault named l) f s := by
  have a : ∀ (b : Option Nat) (f : State → VRes) (ok : Bool), acceptedIn q s.ident.opState = ok →
      verbRun ok b f s = verbRun (acceptedIn q s.ident.opState) b f s := fun b f ok e => by rw [e]
  unfold vLaneBond
  try dsimp only
  refine ⟨_, _, _, a _ _ _ ?_⟩
  unfold acceptedIn
  rw [h]
  dsimp only
  simp only [Nat.reduceEqDiff, or_self, if_false, if_true]
  split
  · cases s.ident.opState <;> rfl
  · unfold State.live State.armed State.inRest
    cases s.ident.opState <;> rfl

theorem vPairSwap_form {q : QCmd} (ch : Nat) (s : State) (h : q.verb = 0x0901) :
    ∃ named l f, vPairSwap ch q s = verbRun (acceptedIn q s.ident.opState) (q.fault named l) f s := by
  have a : ∀ (b : Option Nat) (f : State → VRes) (ok : Bool), acceptedIn q s.ident.opState = ok →
      verbRun ok b f s = verbRun (acceptedIn q s.ident.opState) b f s := fun b f ok e => by rw [e]
  unfold vPairSwap
  try dsimp only
  refine ⟨_, _, _, a _ _ _ ?_⟩
  unfold acceptedIn
  rw [h]
  dsimp only
  simp only [Nat.reduceEqDiff, or_self, if_false, if_true]
  rcases hb : q.byte 8 with _ | _ | _ | n
  all_goals
    first
      | (have h1 : n + 1 + 1 + 1 ≠ 0 := by omega
         have h2 : n + 1 + 1 + 1 ≠ 1 := by omega
         have h3 : n + 1 + 1 + 1 ≠ 2 := by omega
         simp only [h1, h2, h3, if_false]
         unfold State.live State.armed State.inRest
         cases s.ident.opState <;> rfl)
      | (unfold State.restReady; cases s.ident.opState <;> rfl)
      | (unfold State.armed; cases s.ident.opState <;> rfl)
      | (cases s.ident.opState <;> rfl)

theorem vPairJoin_form {q : QCmd} (ch : Nat) (s : State) (h : q.verb = 0x0902) :
    ∃ named l f, vPairJoin q s = verbRun (acceptedIn q s.ident.opState) (q.fault named l) f s := by
  have a : ∀ (b : Option Nat) (f : State → VRes) (ok : Bool), acceptedIn q s.ident.opState = ok →
      verbRun ok b f s = verbRun (acceptedIn q s.ident.opState) b f s := fun b f ok e => by rw [e]
  unfold vPairJoin
  try dsimp only
  refine ⟨_, _, _, a _ _ _ ?_⟩
  unfold acceptedIn
  rw [h]
  cases h' : s.ident.opState <;> first | rfl | (simp [State.mainOn, State.idleState, State.live, State.restReady, State.armed, State.inRest, h']; done) |
    (simp [State.idleState, State.restReady, State.inRest, h']; rfl)

theorem vPairLeave_form {q : QCmd} (ch : Nat) (s : State) (h : q.verb = 0x0903) :
    ∃ named l f, vPairLeave q s = verbRun (acceptedIn q s.ident.opState) (q.fault named l) f s := by
  have a : ∀ (b : Option Nat) (f : State → VRes) (ok : Bool), acceptedIn q s.ident.opState = ok →
      verbRun ok b f s = verbRun (acceptedIn q s.ident.opState) b f s := fun b f ok e => by rw [e]
  unfold vPairLeave
  try dsimp only
  refine ⟨_, _, _, a _ _ _ ?_⟩
  unfold acceptedIn
  rw [h]
  cases h' : s.ident.opState <;> first | rfl | (simp [State.mainOn, State.idleState, State.live, State.restReady, State.armed, State.inRest, h']; done) |
    (simp [State.idleState, State.restReady, State.inRest, h']; rfl)

theorem vPairTake_form {q : QCmd} (ch : Nat) (s : State) (h : q.verb = 0x0904) :
    ∃ named l f, vPairTake q s = verbRun (acceptedIn q s.ident.opState) (q.fault named l) f s := by
  have a : ∀ (b : Option Nat) (f : State → VRes) (ok : Bool), acceptedIn q s.ident.opState = ok →
      verbRun ok b f s = verbRun (acceptedIn q s.ident.opState) b f s := fun b f ok e => by rw [e]
  unfold vPairTake
  try dsimp only
  refine ⟨_, _, _, a _ _ _ ?_⟩
  unfold acceptedIn
  rw [h]
  cases h' : s.ident.opState <;> first | rfl | (simp [State.mainOn, State.idleState, State.live, State.restReady, State.armed, State.inRest, h']; done) |
    (simp [State.idleState, State.restReady, State.inRest, h']; rfl)

theorem vPairInfo_form {q : QCmd} (ch : Nat) (s : State) (h : q.verb = 0x0905) :
    ∃ named l f, vPairInfo q s = verbRun (acceptedIn q s.ident.opState) (q.fault named l) f s := by
  have a : ∀ (b : Option Nat) (f : State → VRes) (ok : Bool), acceptedIn q s.ident.opState = ok →
      verbRun ok b f s = verbRun (acceptedIn q s.ident.opState) b f s := fun b f ok e => by rw [e]
  unfold vPairInfo
  try dsimp only
  refine ⟨_, _, _, a _ _ _ ?_⟩
  unfold acceptedIn
  rw [h]
  cases h' : s.ident.opState <;> first | rfl | (simp [State.mainOn, State.idleState, State.live, State.restReady, State.armed, State.inRest, h']; done) |
    (simp [State.idleState, State.restReady, State.inRest, h']; rfl)

theorem vGangForm_form {q : QCmd} (ch : Nat) (s : State) (h : q.verb = 0x0A01) :
    ∃ named l f, vGangForm q s = verbRun (acceptedIn q s.ident.opState) (q.fault named l) f s := by
  have a : ∀ (b : Option Nat) (f : State → VRes) (ok : Bool), acceptedIn q s.ident.opState = ok →
      verbRun ok b f s = verbRun (acceptedIn q s.ident.opState) b f s := fun b f ok e => by rw [e]
  unfold vGangForm
  try dsimp only
  refine ⟨_, _, _, a _ _ _ ?_⟩
  unfold acceptedIn
  rw [h]
  cases h' : s.ident.opState <;> first | rfl | (simp [State.mainOn, State.idleState, State.live, State.restReady, State.armed, State.inRest, h']; done) |
    (simp [State.idleState, State.restReady, State.inRest, h']; rfl)

theorem vGangDissolve_form {q : QCmd} (ch : Nat) (s : State) (h : q.verb = 0x0A02) :
    ∃ named l f, vGangDissolve q s = verbRun (acceptedIn q s.ident.opState) (q.fault named l) f s := by
  have a : ∀ (b : Option Nat) (f : State → VRes) (ok : Bool), acceptedIn q s.ident.opState = ok →
      verbRun ok b f s = verbRun (acceptedIn q s.ident.opState) b f s := fun b f ok e => by rw [e]
  unfold vGangDissolve
  try dsimp only
  refine ⟨_, _, _, a _ _ _ ?_⟩
  unfold acceptedIn
  rw [h]
  cases h' : s.ident.opState <;> first | rfl | (simp [State.mainOn, State.idleState, State.live, State.restReady, State.armed, State.inRest, h']; done) |
    (simp [State.idleState, State.restReady, State.inRest, h']; rfl)

theorem vGangInfo_form {q : QCmd} (ch : Nat) (s : State) (h : q.verb = 0x0A03) :
    ∃ named l f, vGangInfo q s = verbRun (acceptedIn q s.ident.opState) (q.fault named l) f s := by
  have a : ∀ (b : Option Nat) (f : State → VRes) (ok : Bool), acceptedIn q s.ident.opState = ok →
      verbRun ok b f s = verbRun (acceptedIn q s.ident.opState) b f s := fun b f ok e => by rw [e]
  unfold vGangInfo
  try dsimp only
  refine ⟨_, _, _, a _ _ _ ?_⟩
  unfold acceptedIn
  rw [h]
  cases h' : s.ident.opState <;> first | rfl | (simp [State.mainOn, State.idleState, State.live, State.restReady, State.armed, State.inRest, h']; done) |
    (simp [State.idleState, State.restReady, State.inRest, h']; rfl)

theorem vAcceptStep_form {q : QCmd} (ch : Nat) (s : State) (h : q.verb = 0x0B01) :
    ∃ named l f, vAcceptStep ch q s = verbRun (acceptedIn q s.ident.opState) (q.fault named l) f s := by
  have a : ∀ (b : Option Nat) (f : State → VRes) (ok : Bool), acceptedIn q s.ident.opState = ok →
      verbRun ok b f s = verbRun (acceptedIn q s.ident.opState) b f s := fun b f ok e => by rw [e]
  unfold vAcceptStep
  try dsimp only
  refine ⟨_, _, _, a _ _ _ ?_⟩
  unfold acceptedIn
  rw [h]
  cases h' : s.ident.opState <;> first | rfl | (simp [State.mainOn, State.idleState, State.live, State.restReady, State.armed, State.inRest, h']; done) |
    (simp [State.idleState, State.restReady, State.inRest, h']; rfl)

theorem vTimeSet_form {q : QCmd} (ch : Nat) (s : State) (h : q.verb = 0x0B02) :
    ∃ named l f, vTimeSet ch q s = verbRun (acceptedIn q s.ident.opState) (q.fault named l) f s := by
  have a : ∀ (b : Option Nat) (f : State → VRes) (ok : Bool), acceptedIn q s.ident.opState = ok →
      verbRun ok b f s = verbRun (acceptedIn q s.ident.opState) b f s := fun b f ok e => by rw [e]
  unfold vTimeSet
  try dsimp only
  refine ⟨_, _, _, a _ _ _ ?_⟩
  unfold acceptedIn
  rw [h]
  cases h' : s.ident.opState <;> first | rfl | (simp [State.mainOn, State.idleState, State.live, State.restReady, State.armed, State.inRest, h']; done) |
    (simp [State.idleState, State.restReady, State.inRest, h']; rfl)

theorem vTimeStatus_form {q : QCmd} (ch : Nat) (s : State) (h : q.verb = 0x0B03) :
    ∃ named l f, vTimeStatus q s = verbRun (acceptedIn q s.ident.opState) (q.fault named l) f s := by
  have a : ∀ (b : Option Nat) (f : State → VRes) (ok : Bool), acceptedIn q s.ident.opState = ok →
      verbRun ok b f s = verbRun (acceptedIn q s.ident.opState) b f s := fun b f ok e => by rw [e]
  unfold vTimeStatus
  try dsimp only
  refine ⟨_, _, _, a _ _ _ ?_⟩
  unfold acceptedIn
  rw [h]
  cases h' : s.ident.opState <;> first | rfl | (simp [State.mainOn, State.idleState, State.live, State.restReady, State.armed, State.inRest, h']; done) |
    (simp [State.idleState, State.restReady, State.inRest, h']; rfl)

theorem vLampSet_form {q : QCmd} (ch : Nat) (s : State) (h : q.verb = 0x0C01) :
    ∃ named l f, vLampSet q s = verbRun (acceptedIn q s.ident.opState) (q.fault named l) f s := by
  have a : ∀ (b : Option Nat) (f : State → VRes) (ok : Bool), acceptedIn q s.ident.opState = ok →
      verbRun ok b f s = verbRun (acceptedIn q s.ident.opState) b f s := fun b f ok e => by rw [e]
  unfold vLampSet
  try dsimp only
  refine ⟨_, _, _, a _ _ _ ?_⟩
  unfold acceptedIn
  rw [h]
  cases h' : s.ident.opState <;> first | rfl | (simp [State.mainOn, State.idleState, State.live, State.restReady, State.armed, State.inRest, h']; done) |
    (simp [State.idleState, State.restReady, State.inRest, h']; rfl)

theorem vLampRead_form {q : QCmd} (ch : Nat) (s : State) (h : q.verb = 0x0C02) :
    ∃ named l f, vLampRead q s = verbRun (acceptedIn q s.ident.opState) (q.fault named l) f s := by
  have a : ∀ (b : Option Nat) (f : State → VRes) (ok : Bool), acceptedIn q s.ident.opState = ok →
      verbRun ok b f s = verbRun (acceptedIn q s.ident.opState) b f s := fun b f ok e => by rw [e]
  unfold vLampRead
  try dsimp only
  refine ⟨_, _, _, a _ _ _ ?_⟩
  unfold acceptedIn
  rw [h]
  cases h' : s.ident.opState <;> first | rfl | (simp [State.mainOn, State.idleState, State.live, State.restReady, State.armed, State.inRest, h']; done) |
    (simp [State.idleState, State.restReady, State.inRest, h']; rfl)

theorem vLampClear_form {q : QCmd} (ch : Nat) (s : State) (h : q.verb = 0x0C03) :
    ∃ named l f, vLampClear q s = verbRun (acceptedIn q s.ident.opState) (q.fault named l) f s := by
  have a : ∀ (b : Option Nat) (f : State → VRes) (ok : Bool), acceptedIn q s.ident.opState = ok →
      verbRun ok b f s = verbRun (acceptedIn q s.ident.opState) b f s := fun b f ok e => by rw [e]
  unfold vLampClear
  try dsimp only
  refine ⟨_, _, _, a _ _ _ ?_⟩
  unfold acceptedIn
  rw [h]
  cases h' : s.ident.opState <;> first | rfl | (simp [State.mainOn, State.idleState, State.live, State.restReady, State.armed, State.inRest, h']; done) |
    (simp [State.idleState, State.restReady, State.inRest, h']; rfl)

theorem vPanelSet_form {q : QCmd} (ch : Nat) (s : State) (h : q.verb = 0x0C04) :
    ∃ named l f, vPanelSet q s = verbRun (acceptedIn q s.ident.opState) (q.fault named l) f s := by
  have a : ∀ (b : Option Nat) (f : State → VRes) (ok : Bool), acceptedIn q s.ident.opState = ok →
      verbRun ok b f s = verbRun (acceptedIn q s.ident.opState) b f s := fun b f ok e => by rw [e]
  unfold vPanelSet
  try dsimp only
  refine ⟨_, _, _, a _ _ _ ?_⟩
  unfold acceptedIn
  rw [h]
  cases h' : s.ident.opState <;> first | rfl | (simp [State.mainOn, State.idleState, State.live, State.restReady, State.armed, State.inRest, h']; done) |
    (simp [State.idleState, State.restReady, State.inRest, h']; rfl)

theorem vCopingRead_form {q : QCmd} (ch : Nat) (s : State) (h : q.verb = 0x0D01) :
    ∃ named l f, vCopingRead q s = verbRun (acceptedIn q s.ident.opState) (q.fault named l) f s := by
  have a : ∀ (b : Option Nat) (f : State → VRes) (ok : Bool), acceptedIn q s.ident.opState = ok →
      verbRun ok b f s = verbRun (acceptedIn q s.ident.opState) b f s := fun b f ok e => by rw [e]
  unfold vCopingRead
  try dsimp only
  refine ⟨_, _, _, a _ _ _ ?_⟩
  unfold acceptedIn
  rw [h]
  cases h' : s.ident.opState <;> first | rfl | (simp [State.mainOn, State.idleState, State.live, State.restReady, State.armed, State.inRest, h']; done) |
    (simp [State.idleState, State.restReady, State.inRest, h']; rfl)

theorem vCopingCal_form {q : QCmd} (ch : Nat) (s : State) (h : q.verb = 0x0D02) :
    ∃ named l f, vCopingCal q s = verbRun (acceptedIn q s.ident.opState) (q.fault named l) f s := by
  have a : ∀ (b : Option Nat) (f : State → VRes) (ok : Bool), acceptedIn q s.ident.opState = ok →
      verbRun ok b f s = verbRun (acceptedIn q s.ident.opState) b f s := fun b f ok e => by rw [e]
  unfold vCopingCal
  try dsimp only
  refine ⟨_, _, _, a _ _ _ ?_⟩
  unfold acceptedIn
  rw [h]
  cases h' : s.ident.opState <;> first | rfl | (simp [State.mainOn, State.idleState, State.live, State.restReady, State.armed, State.inRest, h']; done) |
    (simp [State.idleState, State.restReady, State.inRest, h']; rfl)

theorem vLogRead_form {q : QCmd} (ch : Nat) (s : State) (h : q.verb = 0x0E01) :
    ∃ named l f, vLogRead q s = verbRun (acceptedIn q s.ident.opState) (q.fault named l) f s := by
  have a : ∀ (b : Option Nat) (f : State → VRes) (ok : Bool), acceptedIn q s.ident.opState = ok →
      verbRun ok b f s = verbRun (acceptedIn q s.ident.opState) b f s := fun b f ok e => by rw [e]
  unfold vLogRead
  try dsimp only
  refine ⟨_, _, _, a _ _ _ ?_⟩
  unfold acceptedIn
  rw [h]
  cases h' : s.ident.opState <;> first | rfl | (simp [State.mainOn, State.idleState, State.live, State.restReady, State.armed, State.inRest, h']; done) |
    (simp [State.idleState, State.restReady, State.inRest, h']; rfl)

theorem vPlinthFw_form {q : QCmd} (ch : Nat) (s : State) (h : q.verb = 0x0E02) :
    ∃ named l f, vPlinthFw q s = verbRun (acceptedIn q s.ident.opState) (q.fault named l) f s := by
  have a : ∀ (b : Option Nat) (f : State → VRes) (ok : Bool), acceptedIn q s.ident.opState = ok →
      verbRun ok b f s = verbRun (acceptedIn q s.ident.opState) b f s := fun b f ok e => by rw [e]
  unfold vPlinthFw
  try dsimp only
  refine ⟨_, _, _, a _ _ _ ?_⟩
  unfold acceptedIn
  rw [h]
  cases h' : s.ident.opState <;> first | rfl | (simp [State.mainOn, State.idleState, State.live, State.restReady, State.armed, State.inRest, h']; done) |
    (simp [State.idleState, State.restReady, State.inRest, h']; rfl)

theorem vFwSelect_form {q : QCmd} (ch : Nat) (s : State) (h : q.verb = 0x0E03) :
    ∃ named l f, vFwSelect q s = verbRun (acceptedIn q s.ident.opState) (q.fault named l) f s := by
  have a : ∀ (b : Option Nat) (f : State → VRes) (ok : Bool), acceptedIn q s.ident.opState = ok →
      verbRun ok b f s = verbRun (acceptedIn q s.ident.opState) b f s := fun b f ok e => by rw [e]
  unfold vFwSelect
  try dsimp only
  refine ⟨_, _, _, a _ _ _ ?_⟩
  unfold acceptedIn
  rw [h]
  cases h' : s.ident.opState <;> first | rfl | (simp [State.mainOn, State.idleState, State.live, State.restReady, State.armed, State.inRest, h']; done) |
    (simp [State.idleState, State.restReady, State.inRest, h']; rfl)

/-- Every listed verb is `verbRun` of the states that accept it. -/
theorem runVerb_form {q : QCmd} (ch : Nat) (s : State) (hv : q.verb ∈ verbTable) :
    ∃ named l f, runVerb ch q s = verbRun (acceptedIn q s.ident.opState) (q.fault named l) f s := by
  simp only [verbTable, List.mem_cons, List.not_mem_nil, or_false] at hv
  rcases hv with h | h | h | h | h | h | h | h | h | h | h | h | h | h | h | h | h | h | h | h | h | h | h | h | h | h | h | h | h | h | h | h | h | h | h | h | h | h | h | h | h | h | h | h | h | h | h | h | h | h | h | h
  · rw [runVerb_vSysInfo s h]; exact vSysInfo_form ch s h
  · rw [runVerb_vSysPing s h]; exact vSysPing_form ch s h
  · rw [runVerb_vEventRing s h]; exact vEventRing_form ch s h
  · rw [runVerb_vReset s h]; exact vReset_form ch s h
  · rw [runVerb_vArm s h]; exact vArm_form ch s h
  · rw [runVerb_vDisarm s h]; exact vDisarm_form ch s h
  · rw [runVerb_vRest s h]; exact vRest_form ch s h
  · rw [runVerb_vClear s h]; exact vClear_form ch s h
  · rw [runVerb_vStage s h]; exact vStage_form ch s h
  · rw [runVerb_vCheck s h]; exact vCheck_form ch s h
  · rw [runVerb_vCommit s h]; exact vCommit_form ch s h
  · rw [runVerb_vCancel s h]; exact vCancel_form ch s h
  · rw [runVerb_vDiscard s h]; exact vDiscard_form ch s h
  · rw [runVerb_vCfgRead s h]; exact vCfgRead_form ch s h
  · rw [runVerb_vJobOpen s h]; exact vJobOpen_form ch s h
  · rw [runVerb_vJobSubmit s h]; exact vJobSubmit_form ch s h
  · rw [runVerb_vJobStart s h]; exact vJobStart_form ch s h
  · rw [runVerb_vJobPause s h]; exact vJobPause_form ch s h
  · rw [runVerb_vJobContinue s h]; exact vJobContinue_form ch s h
  · rw [runVerb_vJobAbort s h]; exact vJobAbort_form ch s h
  · rw [runVerb_vJobClose s h]; exact vJobClose_form ch s h
  · rw [runVerb_vJobStatus s h]; exact vJobStatus_form ch s h
  · rw [runVerb_vAtCourse s h]; exact vAtCourse_form ch s h
  · rw [runVerb_vAtTime s h]; exact vAtTime_form ch s h
  · rw [runVerb_vEvtCancel s h]; exact vEvtCancel_form ch s h
  · rw [runVerb_vEvtList s h]; exact vEvtList_form ch s h
  · rw [runVerb_vDensUpdate s h]; exact vDensUpdate_form ch s h
  · rw [runVerb_vDensRead s h]; exact vDensRead_form ch s h
  · rw [runVerb_vDensFreeze s h]; exact vDensFreeze_form ch s h
  · rw [runVerb_vNozMap s h]; exact vNozMap_form ch s h
  · rw [runVerb_vNozRead s h]; exact vNozRead_form ch s h
  · rw [runVerb_vLaneBond s h]; exact vLaneBond_form ch s h
  · rw [runVerb_vPairSwap s h]; exact vPairSwap_form ch s h
  · rw [runVerb_vPairJoin s h]; exact vPairJoin_form ch s h
  · rw [runVerb_vPairLeave s h]; exact vPairLeave_form ch s h
  · rw [runVerb_vPairTake s h]; exact vPairTake_form ch s h
  · rw [runVerb_vPairInfo s h]; exact vPairInfo_form ch s h
  · rw [runVerb_vGangForm s h]; exact vGangForm_form ch s h
  · rw [runVerb_vGangDissolve s h]; exact vGangDissolve_form ch s h
  · rw [runVerb_vGangInfo s h]; exact vGangInfo_form ch s h
  · rw [runVerb_vAcceptStep s h]; exact vAcceptStep_form ch s h
  · rw [runVerb_vTimeSet s h]; exact vTimeSet_form ch s h
  · rw [runVerb_vTimeStatus s h]; exact vTimeStatus_form ch s h
  · rw [runVerb_vLampSet s h]; exact vLampSet_form ch s h
  · rw [runVerb_vLampRead s h]; exact vLampRead_form ch s h
  · rw [runVerb_vLampClear s h]; exact vLampClear_form ch s h
  · rw [runVerb_vPanelSet s h]; exact vPanelSet_form ch s h
  · rw [runVerb_vCopingRead s h]; exact vCopingRead_form ch s h
  · rw [runVerb_vCopingCal s h]; exact vCopingCal_form ch s h
  · rw [runVerb_vLogRead s h]; exact vLogRead_form ch s h
  · rw [runVerb_vPlinthFw s h]; exact vPlinthFw_form ch s h
  · rw [runVerb_vFwSelect s h]; exact vFwSelect_form ch s h

end Sys2Proof.Machine
end

