-- ==== Sys2Proof/Tests/Slice0.lean ====
section
/-! SUPPORT. Our own tests: for every statement with hypotheses a state and operands that meet them together (`test_meets_<Statement>`),
for every check of well-formedness a term that it refuses, values that the spec works out, and single steps of some commands. -/

namespace Sys2Proof.Tests

open Sys2Proof Sys2Proof.Machine Sys2Proof.Safety

section

-- Each test asks for the kernel's evaluation: one after the other needs far fewer threads than all at once.
set_option Elab.async false

/-! ## Small states, and witnesses of the statements on mailbox commands -/

/-- The machine in a state, nothing configured. -/
def st (o : OpState) : State :=
  { State.reset with ident := { State.reset.ident with opState := o }, power := { State.reset.power with booting := false } }
/-- A submission with its argument bytes. -/
def msg (a : List Nat) : Mbox := { ch := 3, slot := 63, tag := 65535, phase := true, args := a }
/-- A BAR_GEOMETRY section with head 0 of bar 0 installed. -/
def geo : Sec := { len := 128, mem := [(8, 1), (16, 1)] }
/-- Nothing forbids. -/
def calm : Plumb := { State.reset.plumb with level := 0x7FF9FFF, fieldLow := false, thermOk := true }
def armable : State := { st .rest with cfg := { gen := 1 }, point := { passed := true, discTable := some {} }, plumb := calm }
/-- An isolated module in READY with head 0 installed, whose node another holds. -/
def elsewhere : State := { st .ready with
  cfg := { force := [(SecId.barGeometry, geo)] }, point := { bonds := [{ head := 0 }], nodes := [{ id := 9 }] }
  ndeig := { (State.reset).ndeig with leases := [{ nodeId := 9 }] }, butt := { role := .isolated } }
def paired : Butt := { State.reset.butt with role := .active, partnerRole := .standby, mirrorOk := true, east := { up := true }, west := { up := true } }

/-- What meets the hypotheses of a statement about a mailbox command: a submission, the command it makes, the state the command runs in,
and the state in which it arrives. -/
def meets (verb : Nat) (m : Mbox) (s : State) (p : Mbox → QCmd → State → State → Prop) : Prop :=
  Usable verb m (s.opens 0) ∧ p m (cmdOf verb m) (running verb m (s.opens 0)) (s.opens 0)

theorem test_meets_SystemCommands_0 :
    meets 0x0101 (msg []) (st .boot) fun _ q _ _ => Tidy q [] := by
  unfold meets Usable ChannelsFree Tidy; decide +kernel

theorem test_meets_SystemCommands_1 :
    meets 0x0102 (msg ([7] ++ List.replicate 46 0 ++ [9])) (st .rest) fun _ q _ _ => Tidy q [(8, 48)] := by
  unfold meets Usable ChannelsFree Tidy; decide +kernel

theorem test_meets_SystemCommands_2 :
    meets 0x0103 (msg []) (st .ready) fun _ q _ a => a.idleState = true ∧ Tidy q [(8, 9)] ∧ q.byte 16 = 0 := by
  unfold meets Usable ChannelsFree Tidy; decide +kernel

theorem test_meets_SystemCommands_3 :
    meets 0x0103 (msg ([0, 0, 0, 1] ++ List.replicate 4 0 ++ [24])) (st .fault) fun _ q _ a => a.idleState = true ∧ Tidy q [(8, 9)] ∧
        16 ≤ q.byte 16 ∧ q.byte 16 ≤ 24 ∧ q.num 8 8 % 2 ^ q.byte 16 = 0 := by
  unfold meets Usable ChannelsFree Tidy; decide +kernel

theorem test_meets_SystemCommands_4 :
    meets 0x0104 (msg []) (st .rest) fun _ q u a => a.inRest = true ∧ Tidy q [(8, 2)] ∧ q.byte 8 = 0 ∧ (q.byte 9 = 0 ∨ (q.byte 9 ≤ 2 ∧
        (u.plinth.img (q.byte 9 - 1)).valid = true)) := by
  unfold meets Usable ChannelsFree Tidy; decide +kernel

theorem test_meets_SystemCommands_5 :
    meets 0x0104 (msg ([1])) (st .fault) fun _ q u a => a.inRest = true ∧ Tidy q [(8, 2)] ∧ q.byte 8 = 1 ∧ (q.byte 9 = 0 ∨ (q.byte 9 ≤ 2 ∧
        (u.plinth.img (q.byte 9 - 1)).valid = true)) := by
  unfold meets Usable ChannelsFree Tidy; decide +kernel

theorem test_meets_StateCommands_0 :
    meets 0x0201 (msg []) armable fun _ q u a => a.ident.opState = .rest ∧ Tidy q [] ∧ u.armRefusal = none := by
  unfold meets Usable ChannelsFree Tidy; decide +kernel

theorem test_meets_StateCommands_1 :
    meets 0x0202 (msg []) (st .ready) fun _ q _ a => a.ident.opState = .ready ∧ Tidy q [] := by
  unfold meets Usable ChannelsFree Tidy; decide +kernel

theorem test_meets_StateCommands_2 :
    meets 0x0203 (msg []) (st .holding) fun _ q _ a => a.armed = true ∧ Tidy q [] := by
  unfold meets Usable ChannelsFree Tidy; decide +kernel

theorem test_meets_StateCommands_3 :
    meets 0x0203 (msg []) (st .fault) fun _ q _ a => a.inRest = true ∧ Tidy q [] := by
  unfold meets Usable ChannelsFree Tidy; decide +kernel

theorem test_meets_StateCommands_4 :
    meets 0x0204 (msg []) (st .fault) fun _ q u a => a.ident.opState = .fault ∧ Tidy q [] ∧ u.firstUnremoved = none := by
  unfold meets Usable ChannelsFree Tidy; decide +kernel

theorem test_meets_StateCommands_5 :
    meets 0x0204 (msg []) { st .fault with plumb := { (st .fault).plumb with latched := 1 } } fun _ q u a => a.ident.opState = .fault ∧ Tidy q [] ∧
        u.firstUnremoved = some (0 : Nat) := by
  unfold meets Usable ChannelsFree Tidy; decide +kernel

theorem test_meets_ConfigurationCommands_0 :
    meets 0x0301 (msg ([1, 0, 0, 0, 7] ++ List.replicate 11 0 ++ [5] ++ List.replicate 31 0 ++ [1])) (st .rest) fun _ q u a => a.live = true ∧
        Tidy q [(8, 1), (12, 4), (16, 8), (24, 32), (56, 4)] ∧ secLen (q.byte 8) ≠ 0 ∧ q.num 12 4 < secLen (q.byte 8) ∧ q.num 56 4 ≠ 0 ∧
        q.num 12 4 + q.num 56 4 ≤ secLen (q.byte 8) ∧ q.num 16 8 = 0 ∧ q.num 56 4 ≤ 32 ∧ u.checkRuns = false ∧ u.commitPending = false := by
  unfold meets Usable ChannelsFree Tidy; decide +kernel

theorem test_meets_ConfigurationCommands_1 :
    meets 0x0301 (msg ([8] ++ List.replicate 7 0 ++ [64] ++ List.replicate 39 0 ++ [128, 0, 90])) (st .fault) fun m q u a => a.live = true ∧
        Tidy q [(8, 1), (12, 4), (16, 8), (24, 32), (56, 4)] ∧ secLen (q.byte 8) ≠ 0 ∧ q.num 12 4 < secLen (q.byte 8) ∧ q.num 56 4 ≠ 0 ∧
        q.num 12 4 + q.num 56 4 ≤ secLen (q.byte 8) ∧ q.num 16 8 ≠ 0 ∧ q.num 16 8 % 64 = 0 ∧ m.fetchFail = false ∧ u.checkRuns = false ∧
        u.commitPending = false := by
  unfold meets Usable ChannelsFree Tidy; decide +kernel

theorem test_meets_ConfigurationCommands_2 :
    meets 0x0301 (msg ([9] ++ List.replicate 4 0 ++ [2])) (st .printing) fun _ q u a => a.live = true ∧
        Tidy q [(8, 1), (12, 4), (16, 8), (24, 32), (56, 4)] ∧ q.byte 8 = SecId.mortar ∧ q.num 56 4 = 0 ∧ q.num 16 8 = 0 ∧ mortarMin ≤ q.num 12 4 ∧
        q.num 12 4 ≤ (u.shadow SecId.mortar).len ∧ u.checkRuns = false ∧ u.commitPending = false := by
  unfold meets Usable ChannelsFree Tidy; decide +kernel

theorem test_meets_ConfigurationCommands_3 :
    meets 0x0302 (msg []) (st .ready) fun _ q _ a => a.live = true ∧ Tidy q [] := by
  unfold meets Usable ChannelsFree Tidy; decide +kernel

theorem test_meets_ConfigurationCommands_4 :
    meets 0x0304 (msg []) (st .holding) fun _ q u a => a.live = true ∧ Tidy q [] ∧ u.cfg.pend = none ∧ u.commitRuns = false := by
  unfold meets Usable ChannelsFree Tidy; decide +kernel

theorem test_meets_ConfigurationCommands_5 :
    meets 0x0304 (msg []) { st .ready with butt := { fwd := [{ ch := 3, slot := 63, at_ := 0, verb := 0x0303 }] } } fun _ q u a => a.live = true ∧
        Tidy q [] ∧ u.cfg.pend = none ∧ u.commitRuns = true := by
  unfold meets Usable ChannelsFree Tidy; decide +kernel

theorem test_meets_ConfigurationCommands_6 :
    meets 0x0304 (msg []) { st .ready with cfg := { pend := some { lift := 2, gen := 1 } } } fun _ q u a => a.live = true ∧ Tidy q [] ∧
        u.cfg.pend = some ({ lift := 2, gen := 1 } : Pend) ∧ u.liftOpen ({ lift := 2, gen := 1 } : Pend).lift = true := by
  unfold meets Usable ChannelsFree Tidy; decide +kernel

theorem test_meets_ConfigurationCommands_7 :
    meets 0x0301 (msg ([8, 0, 0, 0, 96, 0, 90] ++ List.replicate 41 0 ++ [32]))
        { st .ready with butt := { fwd := [{ ch := 3, slot := 63, at_ := 0, verb := 0x0302 }] } } fun _ q u a => a.live = true ∧
        Tidy q [(8, 1), (12, 4), (16, 8), (24, 32), (56, 4)] ∧ secLen (q.byte 8) ≠ 0 ∧ q.num 12 4 < secLen (q.byte 8) ∧ q.num 56 4 ≠ 0 ∧
        q.num 12 4 + q.num 56 4 ≤ secLen (q.byte 8) ∧ q.num 16 8 = 0 ∧ q.num 56 4 ≤ 32 ∧ ((u.checkRuns = true ∨ u.commitPending = true)) := by
  unfold meets Usable ChannelsFree Tidy; decide +kernel

theorem test_meets_ConfigurationCommands_8 :
    meets 0x0305 (msg []) { st .printing with cfg := { pend := some { lift := 2, gen := 1 } } } fun _ q u a => a.live = true ∧ Tidy q [] ∧
        ((u.checkRuns = true ∨ u.commitPending = true)) := by
  unfold meets Usable ChannelsFree Tidy; decide +kernel

theorem test_meets_ConfigurationCommands_9 :
    meets 0x0305 (msg []) (st .rest) fun _ q u a => a.live = true ∧ Tidy q [] ∧ u.checkRuns = false ∧ u.commitPending = false := by
  unfold meets Usable ChannelsFree Tidy; decide +kernel

theorem test_meets_ConfigurationCommands_10 :
    meets 0x0306 (msg ([1, 0, 0, 0, 7, 0, 0, 0, 128] ++ List.replicate 7 0 ++ [1]))
        { st .rest with cfg := { shadow := [(1, { len := 8, mem := [] })] } } fun m q _ a => a.live = true ∧
        Tidy q [(8, 2), (12, 4), (16, 8), (24, 4)] ∧ secLen (q.byte 8) ≠ 0 ∧ q.byte 9 = 0 ∧
        assoc (q.byte 8) a.cfg.shadow = some ({ len := 8, mem := [] } : Sec) ∧ q.num 12 4 < ({ len := 8, mem := [] } : Sec).len ∧
        q.num 16 8 % 64 = 0 ∧ q.num 24 4 ≠ 0 ∧ q.num 12 4 + q.num 24 4 ≤ ({ len := 8, mem := [] } : Sec).len ∧ m.fetchFail = false := by
  unfold meets Usable ChannelsFree Tidy; decide +kernel

theorem test_meets_ConfigurationCommands_11 :
    meets 0x0306 (msg ([1, 1] ++ List.replicate 14 0 ++ [8])) { st .fault with cfg := { force := [(1, { len := 8, mem := [] })] } } fun m q _ a =>
        a.live = true ∧ Tidy q [(8, 2), (12, 4), (16, 8), (24, 4)] ∧ secLen (q.byte 8) ≠ 0 ∧ q.byte 9 = 1 ∧
        assoc (q.byte 8) a.cfg.force = some ({ len := 8, mem := [] } : Sec) ∧ q.num 12 4 < ({ len := 8, mem := [] } : Sec).len ∧
        q.num 16 8 % 64 = 0 ∧ q.num 24 4 ≠ 0 ∧ q.num 12 4 + q.num 24 4 ≤ ({ len := 8, mem := [] } : Sec).len ∧ m.fetchFail = false := by
  unfold meets Usable ChannelsFree Tidy; decide +kernel

theorem test_meets_ConfigurationCommands_12 :
    meets 0x0304 (msg []) { st .printing with cfg := { pend := some { lift := 2, gen := 1 } }, lintel := { next := 194 } } fun _ q u a =>
        a.live = true ∧ Tidy q [] ∧ u.cfg.pend = some ({ lift := 2, gen := 1 } : Pend) ∧
        u.liftOpen ({ lift := 2, gen := 1 } : Pend).lift = false := by
  unfold meets Usable ChannelsFree Tidy; decide +kernel

theorem test_meets_CommitAccepted_0 :
    meets 0x0303 (msg ([3])) { st .ready with cfg := { shadowGen := 3, checked := some 3 } } fun _ q u a => a.live = true ∧
        Tidy q [(8, 8), (16, 1), (24, 8)] ∧ q.byte 16 = 0 ∧ q.num 24 8 = 0 ∧ a.printHold = false ∧ q.num 8 8 = u.cfg.shadowGen.toNat ∧
        u.cfg.checked = some u.cfg.shadowGen.toNat ∧ u.checkRuns = false ∧ u.commitPending = false := by
  unfold meets Usable ChannelsFree Tidy; decide +kernel

theorem test_meets_CommitAccepted_1 :
    meets 0x0303 (msg ([3] ++ List.replicate 7 0 ++ [2] ++ List.replicate 9 0 ++ [16]))
        { st .rest with cfg := { shadowGen := 3, checked := some 3 }, lintel := { next := 0 } } fun _ q u a => a.live = true ∧
        Tidy q [(8, 8), (16, 1), (24, 8)] ∧ ((q.byte 16 = 1 ∧ (4096 : Nat) = q.num 24 8) ∨ (q.byte 16 = 2 ∧
        (4096 : Nat) = ceilDiv (q.num 24 8) 256)) ∧ a.inRest = true ∧ (4096 : Nat) ≤ u.presentLift + 4096 ∧ q.num 8 8 = u.cfg.shadowGen.toNat ∧
        u.cfg.checked = some u.cfg.shadowGen.toNat ∧ u.checkRuns = false ∧ u.commitPending = false := by
  unfold meets Usable ChannelsFree Tidy; decide +kernel

theorem test_meets_CommitAccepted_2 :
    meets 0x0303 (msg ([3] ++ List.replicate 7 0 ++ [1] ++ List.replicate 7 0 ++ [2]))
        { st .printing with cfg := { shadowGen := 3, checked := some 3 }, lintel := { next := 193 } } fun _ q u a => a.armed = true ∧
        Tidy q [(8, 8), (16, 1), (24, 8)] ∧ ((q.byte 16 = 1 ∧ (2 : Nat) = q.num 24 8) ∨ (q.byte 16 = 2 ∧ (2 : Nat) = ceilDiv (q.num 24 8) 256)) ∧
        ((u.idleChange = false ∨ a.printHold = false)) ∧ (2 : Nat) ≤ u.presentLift + 4096 ∧ u.liftOpen (2 : Nat) = true ∧
        q.num 8 8 = u.cfg.shadowGen.toNat ∧ u.cfg.checked = some u.cfg.shadowGen.toNat ∧ u.checkRuns = false ∧ u.commitPending = false := by
  unfold meets Usable ChannelsFree Tidy; decide +kernel

theorem test_meets_CommitAccepted_3 :
    meets 0x0303 { msg ([3] ++ List.replicate 7 0 ++ [2] ++ List.replicate 8 0 ++ [2]) with atOnce := true }
        { st .printing with cfg := { shadowGen := 3, checked := some 3 }, lintel := { next := 194 } } fun m q u a => a.armed = true ∧
        Tidy q [(8, 8), (16, 1), (24, 8)] ∧ ((q.byte 16 = 1 ∧ (2 : Nat) = q.num 24 8) ∨ (q.byte 16 = 2 ∧ (2 : Nat) = ceilDiv (q.num 24 8) 256)) ∧
        ((u.idleChange = false ∨ a.printHold = false)) ∧ (2 : Nat) ≤ u.presentLift + 4096 ∧ u.liftOpen (2 : Nat) = false ∧ m.atOnce = true ∧
        q.num 8 8 = u.cfg.shadowGen.toNat ∧ u.cfg.checked = some u.cfg.shadowGen.toNat ∧ u.checkRuns = false ∧ u.commitPending = false := by
  unfold meets Usable ChannelsFree Tidy; decide +kernel

theorem test_meets_JobCommands_0 :
    meets 0x0402 (msg ([255, 1, 255, 63, 255, 63])) { st .ready with jobs := { opened := [{ id := 255 }] }, lintel := { next := 0 } } fun _ q u a
        => a.armed = true ∧ Tidy q [(8, 6), (16, 8)] ∧ u.job (q.byte 8) = some ({ id := 255 } : Job) ∧ q.byte 9 = 1 ∧ q.num 10 2 < 16384 ∧
        q.num 12 2 < 16384 ∧ ((∀ o ∈ u.jobs.opened, o.id ≠ ({ id := 255 } : Job).id → o.chan0 &&& BitVec.ofNat 14 (q.num 10 2) = 0 ∧
        o.chan1 &&& BitVec.ofNat 14 (q.num 12 2) = 0)) := by
  unfold meets Usable ChannelsFree Tidy; decide +kernel

theorem test_meets_JobCommands_1 :
    meets 0x0402 (msg ([255, 2, 1])) { st .printing with jobs := { opened := [{ id := 255, state := 2 }] }, lintel := { next := 0 } } fun _ q u a
        => a.armed = true ∧ Tidy q [(8, 6), (16, 8)] ∧ u.job (q.byte 8) = some ({ id := 255, state := 2 } : Job) ∧ q.byte 9 = 2 ∧
        q.num 10 2 < 16384 ∧ q.num 12 2 < 16384 ∧
        ((∀ c, c < 14 → (BitVec.ofNat 14 (q.num 10 2)).getLsbD c = true → ({ id := 255, state := 2 } : Job).bound 0 c = true → (u.ch 0 c).descs.any
        (fun d => d.op == 1 && d.job == ({ id := 255, state := 2 } : Job).id) = false)) ∧
        ((∀ c, c < 14 → (BitVec.ofNat 14 (q.num 12 2)).getLsbD c = true → ({ id := 255, state := 2 } : Job).bound 1 c = true → (u.ch 1 c).descs.any
        (fun d => d.op == 1 && d.job == ({ id := 255, state := 2 } : Job).id) = false)) := by
  unfold meets Usable ChannelsFree Tidy; decide +kernel

theorem test_meets_JobCommands_2 :
    meets 0x0402 (msg ([255, 3] ++ List.replicate 6 0 ++ [1]))
        { st .holding with jobs := { opened := [{ id := 255, state := 1 }] }, lintel := { next := 0 } } fun _ q u a => a.armed = true ∧
        Tidy q [(8, 6), (16, 8)] ∧ u.job (q.byte 8) = some ({ id := 255, state := 1 } : Job) ∧ q.byte 9 = 3 ∧ q.num 10 2 < 16384 ∧
        q.num 12 2 < 16384 ∧ q.num 16 8 ≠ 0 ∧ ((({ id := 255, state := 1 } : Job).length = 0 ∧
        ({ id := 255, state := 1 } : Job).repeats = false ∨ ({ id := 255, state := 1 } : Job).linesOf ({ id := 255, state := 1 } : Job).length =
        q.num 16 8)) := by
  unfold meets Usable ChannelsFree Tidy; decide +kernel

theorem test_meets_JobCommands_3 :
    meets 0x0403 (msg ([255])) { st .ready with jobs := { opened := [{ id := 255 }] }, lintel := { next := 0 } } fun _ q u a => a.armed = true ∧
        Tidy q [(8, 2), (16, 8)] ∧ u.job (q.byte 8) = some ({ id := 255 } : Job) ∧ ({ id := 255 } : Job).state = 0 ∧ q.byte 9 = 0 ∧
        q.num 16 8 = 0 ∧ ((u.butt.gang = false ∨ u.butt.offset.natAbs ≤ 50)) := by
  unfold meets Usable ChannelsFree Tidy; decide +kernel

theorem test_meets_JobCommands_4 :
    meets 0x0403 (msg ([255, 1] ++ List.replicate 6 0 ++ [1, 1]))
        { st .ready with jobs := { opened := [{ id := 255 }] }, lintel := { next := 193 } } fun _ q u a => a.armed = true ∧
        Tidy q [(8, 2), (16, 8)] ∧ u.job (q.byte 8) = some ({ id := 255 } : Job) ∧ ({ id := 255 } : Job).state = 0 ∧ q.byte 9 = 1 ∧
        ceilDiv (q.num 16 8) 256 ≤ u.presentLift + 4096 ∧ ((u.butt.gang = false ∨ u.butt.offset.natAbs ≤ 50)) ∧
        u.earliestLift ≤ ceilDiv (q.num 16 8) 256 := by
  unfold meets Usable ChannelsFree Tidy; decide +kernel

theorem test_meets_JobCommands_5 :
    meets 0x0403 (msg ([255, 1] ++ List.replicate 6 0 ++ [200]))
        { st .ready with jobs := { opened := [{ id := 255 }] }, lintel := { next := 193, restRun := 160 } } fun _ q u a =>
        a.ident.opState = .ready ∧ Tidy q [(8, 2), (16, 8)] ∧ u.job (q.byte 8) = some ({ id := 255 } : Job) ∧ ({ id := 255 } : Job).state = 0 ∧
        q.byte 9 = 1 ∧ ceilDiv (q.num 16 8) 256 ≤ u.presentLift + 4096 ∧ ((u.butt.gang = false ∨ u.butt.offset.natAbs ≤ 50)) ∧ u.webAtRest = true ∧
        u.nextRelease < q.num 16 8 := by
  unfold meets Usable ChannelsFree Tidy; decide +kernel

theorem test_meets_JobCommands_6 :
    meets 0x0403 { msg ([255, 1] ++ List.replicate 7 0 ++ [1]) with atOnce := true }
        { st .printing with jobs := { opened := [{ id := 255 }] }, lintel := { next := 194 } } fun m q u a => a.printHold = true ∧
        Tidy q [(8, 2), (16, 8)] ∧ u.job (q.byte 8) = some ({ id := 255 } : Job) ∧ ({ id := 255 } : Job).state = 0 ∧ q.byte 9 = 1 ∧
        ceilDiv (q.num 16 8) 256 ≤ u.presentLift + 4096 ∧ ((u.butt.gang = false ∨ u.butt.offset.natAbs ≤ 50)) ∧
        ceilDiv (q.num 16 8) 256 < u.earliestLift ∧ m.atOnce = true := by
  unfold meets Usable ChannelsFree Tidy; decide +kernel

theorem test_meets_JobCommands_7 :
    meets 0x0404 (msg []) (st .printing) fun _ q _ a => a.ident.opState = .printing ∧ Tidy q [] := by
  unfold meets Usable ChannelsFree Tidy; decide +kernel

theorem test_meets_JobCommands_8 :
    meets 0x0405 (msg []) (st .holding) fun _ q _ a => a.ident.opState = .holding ∧ Tidy q [] := by
  unfold meets Usable ChannelsFree Tidy; decide +kernel

theorem test_meets_JobCommands_9 :
    meets 0x0406 (msg ([255])) { st .ready with jobs := { opened := [{ id := 255, state := 1 }] }, lintel := { next := 0 } } fun _ q u a =>
        a.armed = true ∧ Tidy q [(8, 1)] ∧ u.job (q.byte 8) = some ({ id := 255, state := 1 } : Job) ∧
        ((({ id := 255, state := 1 } : Job).state = 1 ∨ ({ id := 255, state := 1 } : Job).state = 2)) := by
  unfold meets Usable ChannelsFree Tidy; decide +kernel

theorem test_meets_JobCommands_10 :
    meets 0x0407 (msg ([255])) { st .rest with jobs := { opened := [{ id := 255, state := 4 }] }, lintel := { next := 0 } } fun _ q u a =>
        a.live = true ∧ Tidy q [(8, 1)] ∧ u.job (q.byte 8) = some ({ id := 255, state := 4 } : Job) ∧ ({ id := 255, state := 4 } : Job).state ≠ 1 ∧
        ({ id := 255, state := 4 } : Job).state ≠ 2 := by
  unfold meets Usable ChannelsFree Tidy; decide +kernel

theorem test_meets_JobCommands_11 :
    meets 0x0408 (msg ([255])) { st .fault with jobs := { opened := [{ id := 255 }] }, lintel := { next := 0 } } fun _ q u a => a.live = true ∧
        Tidy q [(8, 1)] ∧ u.job (q.byte 8) = some ({ id := 255 } : Job) := by
  unfold meets Usable ChannelsFree Tidy; decide +kernel

theorem test_meets_JobCommands_12 :
    meets 0x0403 (msg ([255, 1] ++ List.replicate 8 0 ++ [16]))
        { st .printing with jobs := { opened := [{ id := 255 }] }, lintel := { next := 0 }, butt := { gang := true, offset := -51 } } fun _ q u a
        => a.armed = true ∧ Tidy q [(8, 2), (16, 8)] ∧ u.job (q.byte 8) = some ({ id := 255 } : Job) ∧ ({ id := 255 } : Job).state = 0 ∧
        ((q.byte 9 = 0 ∧ q.num 16 8 = 0 ∨ q.byte 9 = 1 ∧ ceilDiv (q.num 16 8) 256 ≤ u.presentLift + 4096)) ∧ u.butt.gang = true ∧
        50 < u.butt.offset.natAbs := by
  unfold meets Usable ChannelsFree Tidy; decide +kernel

theorem test_meets_JobCommands_13 :
    meets 0x0407 (msg ([255])) { st .rest with jobs := { opened := [{ id := 255, state := 2 }] }, lintel := { next := 0 } } fun _ q u a =>
        a.live = true ∧ Tidy q [(8, 1)] ∧ u.job (q.byte 8) = some ({ id := 255, state := 2 } : Job) ∧
        ((({ id := 255, state := 2 } : Job).state = 1 ∨ ({ id := 255, state := 2 } : Job).state = 2)) := by
  unfold meets Usable ChannelsFree Tidy; decide +kernel

theorem test_meets_EventCommands_0 :
    meets 0x0501 (msg ([1] ++ List.replicate 7 0 ++ [255, 7])) { st .printing with lintel := { origin := 4294967296 } } fun _ q u a =>
        a.armed = true ∧ Tidy q [(8, 10), (20, 4)] ∧ actionOk (q.byte 17) = true ∧ u.outputBad (q.byte 17) (q.num 20 4) = false ∧
        u.acts.pend.length < 1024 ∧ u.coursePassed (q.num 8 8) (q.byte 16) = false := by
  unfold meets Usable ChannelsFree Tidy; decide +kernel

theorem test_meets_EventCommands_1 :
    meets 0x0501 { msg (List.replicate 9 0 ++ [1]) with atOnce := true } (st .printing) fun m q u a => a.printHold = true ∧
        Tidy q [(8, 10), (20, 4)] ∧ actionOk (q.byte 17) = true ∧ u.outputBad (q.byte 17) (q.num 20 4) = false ∧ u.acts.pend.length < 1024 ∧
        u.coursePassed (q.num 8 8) (q.byte 16) = true ∧ m.atOnce = true := by
  unfold meets Usable ChannelsFree Tidy; decide +kernel

theorem test_meets_EventCommands_2 :
    meets 0x0501 { msg (List.replicate 9 0 ++ [1]) with atOnce := true } (st .ready) fun m q u a => a.ident.opState = .ready ∧
        Tidy q [(8, 10), (20, 4)] ∧ actionOk (q.byte 17) = true ∧ u.outputBad (q.byte 17) (q.num 20 4) = false ∧ u.acts.pend.length < 1024 ∧
        u.coursePassed (q.num 8 8) (q.byte 16) = true ∧ m.atOnce = true := by
  unfold meets Usable ChannelsFree Tidy; decide +kernel

theorem test_meets_EventCommands_3 :
    meets 0x0502 (msg ([16, 39] ++ List.replicate 7 0 ++ [1])) (st .holding) fun _ q u a => a.armed = true ∧ Tidy q [(8, 8), (17, 1), (20, 4)] ∧
        bitAt (q.num 8 8) 0 = false ∧ actionOk (q.byte 17) = true ∧ u.outputBad (q.byte 17) (q.num 20 4) = false ∧ u.acts.pend.length < 1024 ∧
        u.now + 10000 ≤ q.num 8 8 := by
  unfold meets Usable ChannelsFree Tidy; decide +kernel

theorem test_meets_EventCommands_4 :
    meets 0x0503 (msg ([5])) { st .rest with acts := { pend := [{ id := 5 }] } } fun _ q u a => a.live = true ∧ Tidy q [(8, 4)] ∧
        u.acts.pend.any (·.id == q.num 8 4) = true := by
  unfold meets Usable ChannelsFree Tidy; decide +kernel

theorem test_meets_EventCommands_5 :
    meets 0x0503 (msg ([5])) { st .fault with acts := { done := [(5, 77)] } } fun _ q u a => a.live = true ∧ Tidy q [(8, 4)] ∧
        u.acts.pend.any (·.id == q.num 8 4) = false ∧ assoc (q.num 8 4) u.acts.done = some (77 : Nat) := by
  unfold meets Usable ChannelsFree Tidy; decide +kernel

theorem test_meets_EventCommands_6 :
    meets 0x0504 (msg ([0, 4] ++ List.replicate 6 0 ++ [64])) (st .rest) fun m q _ a => a.live = true ∧ Tidy q [(8, 4), (16, 8)] ∧ q.num 8 4 ≠ 0 ∧
        q.num 8 4 ≤ 1024 ∧ q.num 16 8 % 64 = 0 ∧ m.fetchFail = false := by
  unfold meets Usable ChannelsFree Tidy; decide +kernel

theorem test_meets_EventCommands_7 :
    meets 0x0502 { msg ([14, 39] ++ List.replicate 7 0 ++ [1]) with atOnce := true } (st .holding) fun m q u a => a.printHold = true ∧
        Tidy q [(8, 8), (17, 1), (20, 4)] ∧ bitAt (q.num 8 8) 0 = false ∧ actionOk (q.byte 17) = true ∧
        u.outputBad (q.byte 17) (q.num 20 4) = false ∧ u.acts.pend.length < 1024 ∧ q.num 8 8 < u.now + 10000 ∧ m.atOnce = true := by
  unfold meets Usable ChannelsFree Tidy; decide +kernel

theorem test_meets_EventCommands_8 :
    meets 0x0502 { msg (List.replicate 9 0 ++ [7]) with atOnce := true } (st .ready) fun m q u a => a.ident.opState = .ready ∧
        Tidy q [(8, 8), (17, 1), (20, 4)] ∧ bitAt (q.num 8 8) 0 = false ∧ actionOk (q.byte 17) = true ∧
        u.outputBad (q.byte 17) (q.num 20 4) = false ∧ u.acts.pend.length < 1024 ∧ q.num 8 8 < u.now + 10000 ∧ m.atOnce = true := by
  unfold meets Usable ChannelsFree Tidy; decide +kernel

theorem test_meets_DensityCommands_0 :
    meets 0x0601 (msg ([7, 31, 8] ++ List.replicate 5 0 ++ [145, 216, 1])) (st .printing) fun _ q _ a => a.armed = true ∧
        Tidy q [(8, 6), (16, 4), (24, 32)] ∧ q.byte 8 ≤ 7 ∧ q.byte 9 % 16 ≠ 0 ∧ q.byte 9 / 16 ≤ 12 ∧ q.num 10 4 ≠ 0 ∧ q.num 10 4 ≤ 8 ∧
        q.num 16 4 ≤ 120991 ∧ q.num 16 4 + (q.num 10 4 - 1) * 2 ^ (q.byte 9 / 16) ≤ 120991 ∧ q.num 32 8 = 0 := by
  unfold meets Usable ChannelsFree Tidy; decide +kernel

theorem test_meets_DensityCommands_1 :
    meets 0x0601 (msg ([0, 1, 160, 216, 1] ++ List.replicate 19 0 ++ [64])) (st .ready) fun m q _ a => a.armed = true ∧
        Tidy q [(8, 6), (16, 4), (24, 32)] ∧ q.byte 8 ≤ 7 ∧ q.byte 9 % 16 ≠ 0 ∧ q.byte 9 / 16 ≤ 12 ∧ q.num 10 4 ≠ 0 ∧ q.num 10 4 ≤ 120992 ∧
        q.num 16 4 ≤ 120991 ∧ q.num 16 4 + (q.num 10 4 - 1) * 2 ^ (q.byte 9 / 16) ≤ 120991 ∧ q.num 32 8 ≠ 0 ∧ q.num 32 8 % 64 = 0 ∧
        m.fetchFail = false := by
  unfold meets Usable ChannelsFree Tidy; decide +kernel

theorem test_meets_DensityCommands_2 :
    meets 0x0603 (msg ([255, 15, 255, 15])) (st .holding) fun _ q _ a => a.armed = true ∧ Tidy q [(8, 4)] ∧ q.num 8 2 < 4096 ∧ q.num 10 2 < 4096 := by
  unfold meets Usable ChannelsFree Tidy; decide +kernel

theorem test_meets_DensityCommands_3 :
    meets 0x0602 (msg ([11, 1])) (st .rest) fun m q _ a => a.live = true ∧ Tidy q [(8, 2), (16, 8)] ∧ q.byte 8 ≤ 11 ∧ q.byte 9 = 1 ∧
        q.num 16 8 % 64 = 0 ∧ m.fetchFail = false := by
  unfold meets Usable ChannelsFree Tidy; decide +kernel

theorem test_meets_DensityCommands_4 :
    meets 0x0602 (msg ([11] ++ List.replicate 7 0 ++ [64])) (st .fault) fun m q _ a => a.live = true ∧ Tidy q [(8, 2), (16, 8)] ∧ q.byte 8 ≤ 11 ∧
        q.byte 9 = 0 ∧ q.num 16 8 % 64 = 0 ∧ m.fetchFail = false := by
  unfold meets Usable ChannelsFree Tidy; decide +kernel

theorem test_meets_DensityCommands_5 :
    meets 0x0602 (msg ([0, 2])) (st .ready) fun m q _ a => a.live = true ∧ Tidy q [(8, 2), (16, 8)] ∧ q.byte 8 ≤ 11 ∧ q.byte 9 = 2 ∧
        q.num 16 8 % 64 = 0 ∧ m.fetchFail = false := by
  unfold meets Usable ChannelsFree Tidy; decide +kernel

theorem test_meets_NozzleAndBondCommands_0 :
    meets 0x0701 (msg (List.replicate 8 0 ++ [1] ++ List.replicate 15 0 ++ [255, 7]))
        { st .ready with cfg := { force := [(SecId.barGeometry, geo)] }, lintel := { next := 0 } } fun m q u a => a.ident.opState = .ready ∧
        Tidy q [(8, 12), (24, 32)] ∧ q.num 16 4 ≠ 0 ∧ q.num 16 4 ≤ 6 ∧ q.num 24 8 = 0 ∧ ((∀ w ∈ (entries32 ((List.range 24).map (fun i =>
        m.arg (32 + i))) (q.num 16 4)), u.nozEntryOk w = true)) := by
  unfold meets Usable ChannelsFree Tidy; decide +kernel

theorem test_meets_NozzleAndBondCommands_1 :
    meets 0x0701 (msg ([2] ++ List.replicate 7 0 ++ [6]))
        { st .printing with cfg := { force := [(SecId.barGeometry, geo)] }, lintel := { next := 193 } } fun m q u a => a.printHold = true ∧
        Tidy q [(8, 12), (24, 32)] ∧ q.num 16 4 ≠ 0 ∧ q.num 16 4 ≤ 6 ∧ q.num 24 8 = 0 ∧ ((∀ w ∈ (entries32 ((List.range 24).map (fun i =>
        m.arg (32 + i))) (q.num 16 4)), u.nozEntryOk w = true)) ∧ u.point.pend.length < 64 ∧ q.num 8 8 ≠ 2 ^ 64 - 1 ∧
        q.num 8 8 ≤ u.presentLift + 4096 ∧ u.liftOpen (q.num 8 8) = true := by
  unfold meets Usable ChannelsFree Tidy; decide +kernel

theorem test_meets_NozzleAndBondCommands_2 :
    meets 0x0701 (msg (List.replicate 8 255 ++ [1])) { st .holding with cfg := { force := [(SecId.barGeometry, geo)] }, lintel := { next := 0 } }
        fun m q u a => a.printHold = true ∧ Tidy q [(8, 12), (24, 32)] ∧ q.num 16 4 ≠ 0 ∧ q.num 16 4 ≤ 6 ∧ q.num 24 8 = 0 ∧
        ((∀ w ∈ (entries32 ((List.range 24).map (fun i => m.arg (32 + i))) (q.num 16 4)), u.nozEntryOk w = true)) ∧ u.point.pend.length < 64 ∧
        ((q.num 8 8 = 2 ^ 64 - 1 ∧ (false : Bool) = false) ∨ (q.num 8 8 ≤ u.presentLift + 4096 ∧ q.num 8 8 ≠ 2 ^ 64 - 1 ∧
        u.liftOpen (q.num 8 8) = false ∧ m.atOnce = true ∧ (false : Bool) = true)) := by
  unfold meets Usable ChannelsFree Tidy; decide +kernel

theorem test_meets_NozzleAndBondCommands_3 :
    meets 0x0701 (msg (List.replicate 8 0 ++ [1] ++ List.replicate 7 0 ++ [64]))
        { st .ready with cfg := { force := [(SecId.barGeometry, geo)] }, lintel := { next := 0 } } fun m q u a => a.ident.opState = .ready ∧
        Tidy q [(8, 12), (24, 32)] ∧ q.num 16 4 ≠ 0 ∧ q.num 16 4 ≤ 65536 ∧ q.num 24 8 ≠ 0 ∧ q.num 24 8 % 64 = 0 ∧ m.fetchFail = false ∧
        ((∀ w ∈ (entries32 (u.store.host.read (q.num 24 8) (4 * q.num 16 4)) (q.num 16 4)), (u.ownFetch (4 * q.num 16 4) (4 * q.num 16
        4)).nozEntryOk w = true)) := by
  unfold meets Usable ChannelsFree Tidy; decide +kernel

theorem test_meets_NozzleAndBondCommands_4 :
    meets 0x0702 (msg ([11, 1])) (st .rest) fun m q _ a => a.live = true ∧ Tidy q [(8, 2), (16, 8)] ∧ q.byte 8 ≤ 11 ∧ q.byte 9 ≤ 1 ∧
        q.num 16 8 % 64 = 0 ∧ m.fetchFail = false := by
  unfold meets Usable ChannelsFree Tidy; decide +kernel

theorem test_meets_NozzleAndBondCommands_5 :
    meets 0x0801 (msg []) (st .rest) fun _ q u a => a.restReady = true ∧ Tidy q [(8, 1), (16, 8)] ∧ q.byte 8 = 0 ∧ q.num 16 8 % 64 = 0 ∧
        (((u.discover true).2 = none ∨ a.ident.opState = .rest)) := by
  unfold meets Usable ChannelsFree Tidy; decide +kernel

theorem test_meets_NozzleAndBondCommands_6 :
    meets 0x0801 (msg ([1])) (st .holding) fun m q _ a => a.live = true ∧ Tidy q [(8, 1), (16, 8)] ∧ q.byte 8 = 1 ∧ q.num 16 8 % 64 = 0 ∧
        m.fetchFail = false := by
  unfold meets Usable ChannelsFree Tidy; decide +kernel

theorem test_meets_NozzleAndBondCommands_7 :
    meets 0x0801 (msg ([2] ++ List.replicate 14 0 ++ [128])) (st .fault) fun m q _ a => a.live = true ∧ Tidy q [(8, 1), (16, 8)] ∧ q.byte 8 = 2 ∧
        q.num 16 8 % 64 = 0 ∧ m.fetchFail = false := by
  unfold meets Usable ChannelsFree Tidy; decide +kernel

theorem test_meets_NozzleAndBondCommands_8 :
    meets 0x0701 { msg ([2] ++ List.replicate 7 0 ++ [1] ++ List.replicate 7 0 ++ [64]) with atOnce := true }
        { st .printing with cfg := { force := [(SecId.barGeometry, geo)] }, lintel := { next := 194 } } fun m q u a => a.printHold = true ∧
        Tidy q [(8, 12), (24, 32)] ∧ q.num 16 4 ≠ 0 ∧ q.num 16 4 ≤ 65536 ∧ q.num 24 8 ≠ 0 ∧ q.num 24 8 % 64 = 0 ∧ m.fetchFail = false ∧
        ((∀ w ∈ (entries32 (u.store.host.read (q.num 24 8) (4 * q.num 16 4)) (q.num 16 4)), (u.ownFetch (4 * q.num 16 4) (4 * q.num 16
        4)).nozEntryOk w = true)) ∧ (u.ownFetch (4 * q.num 16 4) (4 * q.num 16 4)).point.pend.length < 64 ∧ ((q.num 8 8 = 2 ^ 64 - 1 ∧
        (3 : Nat) = (u.ownFetch (4 * q.num 16 4) (4 * q.num 16 4)).earliestLift ∧ (true : Bool) = false) ∨ (q.num 8 8 ≤ u.presentLift + 4096 ∧
        q.num 8 8 ≠ 2 ^ 64 - 1 ∧ ((u.ownFetch (4 * q.num 16 4) (4 * q.num 16 4)).liftOpen (q.num 8 8) = true ∧ (3 : Nat) = q.num 8 8 ∧
        (true : Bool) = false ∨ (u.ownFetch (4 * q.num 16 4) (4 * q.num 16 4)).liftOpen (q.num 8 8) = false ∧ m.atOnce = true ∧
        (3 : Nat) = (u.ownFetch (4 * q.num 16 4) (4 * q.num 16 4)).earliestLift ∧ (true : Bool) = true))) := by
  unfold meets Usable ChannelsFree Tidy; decide +kernel

theorem test_meets_NozzleAndBondCommands_9 :
    meets 0x0801 (msg []) { st .ready with cfg := { force := [(SecId.barGeometry, geo)] }, lintel := { next := 0 } } fun _ q u a =>
        a.ident.opState = .ready ∧ Tidy q [(8, 1), (16, 8)] ∧ q.byte 8 = 0 ∧ q.num 16 8 % 64 = 0 ∧ ((u.discover true).2.isSome = true) := by
  unfold meets Usable ChannelsFree Tidy; decide +kernel

theorem test_meets_PairCommands_0 :
    meets 0x0901 (msg ([1])) { st .holding with butt := paired } fun _ q u a => ((q.byte 8 = 0 ∧ a.restReady = true) ∨ (q.byte 8 = 1 ∧
        a.armed = true)) ∧ Tidy q [(8, 1)] ∧ u.butt.role = .active ∧ u.butt.swapPend = none ∧ u.butt.swapOff = none ∧ u.butt.swapAt = none ∧
        u.partnerReady = true := by
  unfold meets Usable ChannelsFree Tidy; decide +kernel

theorem test_meets_PairCommands_1 :
    meets 0x0901 (msg ([2])) { st .printing with butt := paired } fun _ q u a => q.byte 8 = 2 ∧ a.ident.opState = .printing ∧ Tidy q [(8, 1)] ∧
        u.butt.role = .active ∧ u.butt.swapPend = none ∧ u.butt.swapOff = none ∧ u.butt.swapAt = none ∧ u.partnerReady = true := by
  unfold meets Usable ChannelsFree Tidy; decide +kernel

theorem test_meets_PairCommands_2 :
    meets 0x0903 (msg []) { st .rest with butt := { role := .active } } fun _ q u a => a.restReady = true ∧ Tidy q [] ∧ u.butt.role = .active := by
  unfold meets Usable ChannelsFree Tidy; decide +kernel

theorem test_meets_PairCommands_3 :
    meets 0x0903 (msg []) { st .ready with butt := { role := .isolated } } fun _ q u a => a.restReady = true ∧ Tidy q [] ∧
        ((u.butt.role = .standby ∨ u.butt.role = .isolated)) := by
  unfold meets Usable ChannelsFree Tidy; decide +kernel

theorem test_meets_PairCommands_4 :
    meets 0x0904 (msg []) { st .rest with butt := { role := .isolated } } fun _ q u a => a.restReady = true ∧ Tidy q [] ∧
        ((u.butt.role = .standby ∨ u.butt.role = .isolated)) ∧ u.foreignHead = none := by
  unfold meets Usable ChannelsFree Tidy; decide +kernel

theorem test_meets_PairCommands_5 :
    meets 0x0904 (msg []) { st .holding with butt := { role := .isolated } } fun _ q u a => a.ident.opState = .holding ∧ Tidy q [] ∧
        ((u.butt.role = .standby ∨ u.butt.role = .isolated)) ∧ u.foreignHead = none := by
  unfold meets Usable ChannelsFree Tidy; decide +kernel

theorem test_meets_PairCommands_6 :
    meets 0x0904 (msg []) elsewhere fun _ q u a => ((a.restReady = true ∨ a.ident.opState = .holding)) ∧ Tidy q [] ∧
        ((u.butt.role = .standby ∨ u.butt.role = .isolated)) ∧ u.foreignHead = some (0 : Nat) := by
  unfold meets Usable ChannelsFree Tidy; decide +kernel

theorem test_meets_PairCommands_7 :
    meets 0x0905 (msg []) (st .fault) fun _ q _ a => a.live = true ∧ Tidy q [] := by
  unfold meets Usable ChannelsFree Tidy; decide +kernel

theorem test_meets_GangCommands_0 :
    meets 0x0A02 (msg []) { st .rest with cfg := { force := [(SecId.gang, { len := 16, mem := [] })] } } fun _ q u a => a.restReady = true ∧
        Tidy q [] ∧ u.memberZero = true := by
  unfold meets Usable ChannelsFree Tidy; decide +kernel

theorem test_meets_GangCommands_1 :
    meets 0x0A03 (msg []) (st .holding) fun _ q _ a => a.live = true ∧ Tidy q [] := by
  unfold meets Usable ChannelsFree Tidy; decide +kernel

theorem test_meets_TimeCommands_0 :
    meets 0x0B01 (msg ([3])) { st .ready with time := { stepPending := true, stepSeq := 3 } } fun _ q u a => a.idleState = true ∧ Tidy q [(8, 2)] ∧
        u.acts.pend.any (·.byTime) = false ∧ u.time.stepReq = none ∧ u.time.stepPending = true ∧ q.num 8 2 = u.time.stepSeq.toNat := by
  unfold meets Usable ChannelsFree Tidy; decide +kernel

theorem test_meets_TimeCommands_1 :
    meets 0x0B01 (msg ([4])) { st .fault with time := { stepPending := true, stepSeq := 3 } } fun _ q u a => a.idleState = true ∧ Tidy q [(8, 2)] ∧
        u.acts.pend.any (·.byTime) = false ∧ u.time.stepReq = none ∧ ((u.time.stepPending = false ∨ q.num 8 2 ≠ u.time.stepSeq.toNat)) := by
  unfold meets Usable ChannelsFree Tidy; decide +kernel

theorem test_meets_TimeCommands_2 :
    meets 0x0B01 (msg []) { st .rest with acts := { pend := [{ byTime := true }] } } fun _ q u a => a.idleState = true ∧ Tidy q [(8, 2)] ∧
        u.acts.pend.any (·.byTime) = true := by
  unfold meets Usable ChannelsFree Tidy; decide +kernel

theorem test_meets_TimeCommands_3 :
    meets 0x0B01 (msg []) { st .fault with time := { stepReq := some (5, none, 0x0B02, 0, 0) } } fun _ q u a => a.idleState = true ∧
        Tidy q [(8, 2)] ∧ u.acts.pend.any (·.byTime) = false ∧
        u.time.stepReq = some ((5, none, 0x0B02, 0, 0) : Int × Option Nat × Nat × Nat × Nat) := by
  unfold meets Usable ChannelsFree Tidy; decide +kernel

theorem test_meets_TimeCommands_4 :
    meets 0x0B03 (msg []) (st .printing) fun _ q _ a => a.live = true ∧ Tidy q [] := by
  unfold meets Usable ChannelsFree Tidy; decide +kernel

theorem test_meets_LampAndPanelCommands_0 :
    meets 0x0C01 (msg ([1, 0, 160, 15])) (st .ready) fun _ q _ a => a.armed = true ∧ Tidy q [(8, 4)] ∧ q.num 8 2 ≠ 0 ∧ q.num 10 2 ≤ 4000 := by
  unfold meets Usable ChannelsFree Tidy; decide +kernel

theorem test_meets_LampAndPanelCommands_1 :
    meets 0x0C02 (msg ([3, 1])) (st .rest) fun m q _ a => a.live = true ∧ Tidy q [(8, 2), (16, 8)] ∧ q.byte 8 ≤ 3 ∧ q.byte 9 ≤ 1 ∧
        q.num 16 8 % 64 = 0 ∧ m.fetchFail = false := by
  unfold meets Usable ChannelsFree Tidy; decide +kernel

theorem test_meets_LampAndPanelCommands_2 :
    meets 0x0C03 (msg []) (st .fault) fun _ q _ a => a.live = true ∧ Tidy q [(8, 1)] ∧ q.byte 8 = 0 := by
  unfold meets Usable ChannelsFree Tidy; decide +kernel

theorem test_meets_LampAndPanelCommands_3 :
    meets 0x0C03 (msg ([1])) (st .holding) fun _ q _ a => a.live = true ∧ Tidy q [(8, 1)] ∧ q.byte 8 = 1 := by
  unfold meets Usable ChannelsFree Tidy; decide +kernel

theorem test_meets_CopingAndPlinthCommands_0 :
    meets 0x0D01 (msg (List.replicate 8 0 ++ [64])) (st .rest) fun m q _ a => a.live = true ∧ Tidy q [(16, 8)] ∧ q.num 16 8 % 64 = 0 ∧
        m.fetchFail = false := by
  unfold meets Usable ChannelsFree Tidy; decide +kernel

theorem test_meets_CopingAndPlinthCommands_1 :
    meets 0x0D02 (msg ([107, 107])) (st .printing) fun _ q _ a => a.live = true ∧ Tidy q [(8, 2)] ∧ q.byte 8 ≤ q.byte 9 ∧ q.byte 9 ≤ 107 := by
  unfold meets Usable ChannelsFree Tidy; decide +kernel

theorem test_meets_CopingAndPlinthCommands_2 :
    meets 0x0E01 (msg (List.replicate 5 0 ++ [8])) (st .fault) fun m q _ a => a.live = true ∧ Tidy q [(8, 16)] ∧ q.num 12 4 ≠ 0 ∧
        q.num 12 4 ≤ 2048 ∧ q.num 16 8 % 64 = 0 ∧ m.fetchFail = false := by
  unfold meets Usable ChannelsFree Tidy; decide +kernel

theorem test_meets_CopingAndPlinthCommands_3 :
    meets 0x0E03 (msg ([0, 1])) { st .rest with plinth := { (State.reset).plinth with imgB := { valid := true } } } fun _ q u a =>
        a.idleState = true ∧ Tidy q [(8, 2)] ∧ q.byte 8 ≤ 1 ∧ q.byte 9 ≤ 1 ∧ (u.plinth.image (q.byte 8) (q.byte 9)).valid = true := by
  unfold meets Usable ChannelsFree Tidy; decide +kernel

theorem test_meets_TimeSet_0 :
    meets 0x0B02 (msg ([254] ++ List.replicate 7 255)) (st .rest) fun _ q u a => a.idleState = true ∧ Tidy q [(8, 8)] ∧
        bitAt (q.num 8 8) 0 = false ∧ u.acts.pend.any (·.byTime) = false ∧ u.time.stepReq = none ∧ tmPhaseSrc u.tsec = 0 := by
  unfold meets Usable ChannelsFree Tidy; decide +kernel

theorem test_meets_TimeSet_1 :
    meets 0x0B02 (msg ([2])) { st .ready with cfg := { force := [(SecId.time, { len := 96, mem := [(0, 1)] })] } } fun _ q u a =>
        a.idleState = true ∧ Tidy q [(8, 8)] ∧ bitAt (q.num 8 8) 0 = false ∧ u.acts.pend.any (·.byTime) = false ∧ u.time.stepReq = none ∧
        tmPhaseSrc u.tsec ≠ 0 := by
  unfold meets Usable ChannelsFree Tidy; decide +kernel

theorem test_meets_TimeSet_2 :
    meets 0x0B02 (msg ([1])) (st .fault) fun _ q _ a => a.idleState = true ∧ Tidy q [(8, 8)] ∧ bitAt (q.num 8 8) 0 = true := by
  unfold meets Usable ChannelsFree Tidy; decide +kernel

theorem test_meets_LateRefusals_0 :
    meets 0x0403 (msg ([255, 1] ++ List.replicate 7 0 ++ [1]))
        { st .holding with jobs := { opened := [{ id := 255 }] }, lintel := { next := 194 } } fun m q u a => a.printHold = true ∧
        Tidy q [(8, 2), (16, 8)] ∧ u.job (q.byte 8) = some ({ id := 255 } : Job) ∧ ({ id := 255 } : Job).state = 0 ∧ q.byte 9 = 1 ∧
        ceilDiv (q.num 16 8) 256 ≤ u.presentLift + 4096 ∧ ((u.butt.gang = false ∨ u.butt.offset.natAbs ≤ 50)) ∧
        ceilDiv (q.num 16 8) 256 < u.earliestLift ∧ m.atOnce = false := by
  unfold meets Usable ChannelsFree Tidy; decide +kernel

theorem test_meets_LateRefusals_1 :
    meets 0x0501 (msg (List.replicate 9 0 ++ [1])) (st .printing) fun m q u a => a.armed = true ∧ Tidy q [(8, 10), (20, 4)] ∧
        actionOk (q.byte 17) = true ∧ u.outputBad (q.byte 17) (q.num 20 4) = false ∧ u.acts.pend.length < 1024 ∧
        u.coursePassed (q.num 8 8) (q.byte 16) = true ∧ m.atOnce = false := by
  unfold meets Usable ChannelsFree Tidy; decide +kernel

theorem test_meets_LateRefusals_2 :
    meets 0x0502 (msg ([14, 39] ++ List.replicate 7 0 ++ [1])) (st .holding) fun m q u a => a.armed = true ∧ Tidy q [(8, 8), (17, 1), (20, 4)] ∧
        bitAt (q.num 8 8) 0 = false ∧ actionOk (q.byte 17) = true ∧ u.outputBad (q.byte 17) (q.num 20 4) = false ∧ u.acts.pend.length < 1024 ∧
        q.num 8 8 < u.now + 10000 ∧ m.atOnce = false := by
  unfold meets Usable ChannelsFree Tidy; decide +kernel

theorem test_meets_LateRefusals_3 :
    meets 0x0303 (msg ([3] ++ List.replicate 7 0 ++ [2] ++ List.replicate 8 0 ++ [2]))
        { st .ready with cfg := { shadowGen := 3, checked := some 3 }, lintel := { next := 194 } } fun m q u a => a.armed = true ∧
        Tidy q [(8, 8), (16, 1), (24, 8)] ∧ ((q.byte 16 = 1 ∧ (2 : Nat) = q.num 24 8) ∨ (q.byte 16 = 2 ∧ (2 : Nat) = ceilDiv (q.num 24 8) 256)) ∧
        ((u.idleChange = false ∨ a.printHold = false)) ∧ (2 : Nat) ≤ u.presentLift + 4096 ∧ u.liftOpen (2 : Nat) = false ∧ m.atOnce = false ∧
        q.num 8 8 = u.cfg.shadowGen.toNat ∧ u.cfg.checked = some u.cfg.shadowGen.toNat ∧ u.checkRuns = false ∧ u.commitPending = false := by
  unfold meets Usable ChannelsFree Tidy; decide +kernel

theorem test_meets_LateRefusals_4 :
    meets 0x0701 (msg ([2] ++ List.replicate 7 0 ++ [1]))
        { st .printing with cfg := { force := [(SecId.barGeometry, geo)] }, lintel := { next := 194 } } fun m q u a => a.printHold = true ∧
        Tidy q [(8, 12), (24, 32)] ∧ q.num 16 4 ≠ 0 ∧ q.num 16 4 ≤ 6 ∧ q.num 24 8 = 0 ∧ ((∀ w ∈ (entries32 ((List.range 24).map (fun i =>
        m.arg (32 + i))) (q.num 16 4)), u.nozEntryOk w = true)) ∧ u.point.pend.length < 64 ∧ q.num 8 8 ≠ 2 ^ 64 - 1 ∧
        q.num 8 8 ≤ u.presentLift + 4096 ∧ u.liftOpen (q.num 8 8) = false ∧ m.atOnce = false := by
  unfold meets Usable ChannelsFree Tidy; decide +kernel

/-! ## Witnesses of the other statements: the queue, the memories and the operating states -/

/-- A state with two commands waiting. -/
def waiting : State := { State.reset with pending := [.aliveTick 7, .sysPing 0 (msg [1])] }

/-- A memory in canonical form. -/
def someMem : Mem := [(63, 1), (64, 255)]

/-- Whether a command answers a next state of which `p` holds. -/
def leaves (c : Instr) (s : State) (p : State → Bool) : Bool :=
  match exec c s with
  | .next t => p t
  | _ => false

theorem test_meets_StepRunsTheFrontCommand : waiting.pending = .aliveTick 7 :: [.sysPing 0 (msg [1])] := rfl

theorem test_meets_StepIdlesOnAnEmptyQueue : State.reset.pending = [] := rfl

theorem test_meets_QueueDrains : waiting.pending = .aliveTick 7 :: [.sysPing 0 (msg [1])] := rfl

theorem test_meets_WellFormedCommandsComplete : (Instr.sysPing 0 { msg [] with ch := 4 }).wf = false := by decide +kernel

theorem test_meets_StepKeepsMemoriesCanonical :
    ∃ t, ({ waiting with store := { host := someMem } } : State).store.ok ∧ step { waiting with store := { host := someMem } } = .next t :=
  ⟨_, by unfold Store.ok; decide +kernel, rfl⟩

theorem test_meets_MemoryReadAfterWrite : Mem.wf someMem = true := by decide +kernel

theorem test_meets_PrintingIsEnteredOnlyFromReadyOrHolding :
    leaves (.aliveTick 0) (st .printing) (fun t => t.ident.opState == .printing) = true := by decide +kernel

/-! ## Witnesses: the mailbox -/

/-- A machine in READY with a command of slot 63 running on channel 3. -/
def busy : State := (st .ready).modChan 3 (fun x => { x with queue := [{ slot := 63, verb := 0x0501 }], order := [1], running := true })

theorem test_meets_MailboxCommandRuns :
    meets 0x0E03 (msg [1, 1]) (st .fault) fun _ q _ _ => q.verb ∈ verbTable := by
  unfold meets Usable ChannelsFree; decide +kernel

theorem test_meets_BusySlotIgnoresDoorbell :
    busy.reachable 0 = true ∧ ((busy.hostLoad (msg []).host).chan (msg []).ch).busySlot (msg []).slot = true := by decide +kernel

theorem test_meets_DoorbellTakesTheCommand :
    busy.reachable 0 = true ∧ ((busy.hostLoad []).chan 3).busySlot 62 = false ∧ 1 ∈ (busy.chan 3).order := by decide +kernel

theorem test_meets_DoorbellTakesTheCommand_rest :
    let t := busy.modChan 3 (fun x => { x with queue := x.queue ++ [cmdOf 0x0203 { msg [] with ch := 3, slot := 62 }] })
    2 ≤ (t.chan 3).queue.length ∧ t.live = true ∧ t.ident.romOnly = false ∧
      (cmdOf 0x0203 { msg [] with ch := 3, slot := 62 }).fault [] [] = none := by decide +kernel

theorem test_meets_WrongStateAnswers_inRest :
    0x0404 ∈ verbTable ∧ acceptedIn { verb := 0x0404 } (st .fault).ident.opState = false := by decide +kernel

theorem test_meets_WrongStateAnswers_badState :
    0x0202 ∈ verbTable ∧ acceptedIn { verb := 0x0202 } State.reset.ident.opState = false := by decide +kernel

theorem test_meets_UntidyCommandsAreBadArg :
    0x0102 ∈ verbTable ∧ acceptedIn { verb := 0x0102 } (st .boot).ident.opState = true ∧
      QCmd.headerFault { verb := 0x0102, rsvd5 := 1 } = some 4 ∧ QCmd.headerFault { verb := 0x0102, argLen := 57 } = some 5 ∧
      QCmd.headerFault { verb := 0x0102, rsvd16 := 65535 } = some 6 ∧ QCmd.headerFault { verb := 0x0102, argLen := 56 } = none := by
  decide +kernel

theorem test_meets_UnlistedVerbIsUnsupported :
    meets 0x0205 (msg []) (st .printing) fun m _ _ _ => (Instr.unknownVerb 0 0x0205 m).wf = true := by
  unfold meets Usable ChannelsFree; decide +kernel

/-- A module in READY with a pair role. -/
def withRole (r : PairRole) : State := { st .ready with butt := { (State.reset).butt with role := r } }

theorem test_meets_PairRolesRefuse_standby :
    0x0202 ∈ verbTable ∧ (withRole .standby).ident.romOnly = false ∧ activeOnly { verb := 0x0202 } = true ∧
      (withRole .standby).aloneInRest { verb := 0x0202 } = false ∧ (withRole .standby).butt.role = .standby := by decide +kernel

theorem test_meets_PairRolesRefuse_isolated :
    0x0801 ∈ verbTable ∧ (withRole .isolated).ident.romOnly = false ∧ activeOnly { verb := 0x0801 } = true ∧
      (withRole .isolated).aloneInRest { verb := 0x0801 } = false ∧ (withRole .isolated).butt.role = .isolated := by decide +kernel

theorem test_meets_CarryOfACompletedCommand_alone :
    (withRole .standby).butt.role ≠ .active ∧ (withRole .standby).butt.gang = false := by decide +kernel

theorem test_meets_CarryOfACompletedCommand_linkUp :
    ({ st .ready with butt := paired } : State).butt.role = .active ∧ forwarded { verb := 0x0301 } = true ∧ ({} : Reply).result = 0 ∧
      ({ st .ready with butt := paired } : State).pairUp = true := by decide +kernel

theorem test_meets_CarryOfACompletedCommand_linkDown :
    (withRole .active).butt.role = .active ∧ forwarded { verb := 0x0601 } = true ∧ ({} : Reply).result = 0 ∧
      (withRole .active).pairUp = false := by decide +kernel

/-! ## Witnesses: STATE.ARM's refusals, JOB.OPEN, the pair and the gang -/

/-- A module in REST with a configuration in force that lacks nothing but a discovery. -/
def undiscovered : State := { armable with point := {} }

/-- Every head of every bar installed, at the highest row rate, with one Mortar unit in service on each wythe. -/
def tooWide : State := { undiscovered with
  cfg := { gen := 1, force := [(SecId.barGeometry, { len := 128, mem := [(8, 255), (9, 15)] ++ (List.range 96).map (fun i => (16 + i, if i % 8 = 7 then 15 else 255)) }),
                               (SecId.profile, { len := 8, mem := [(1, 255), (2, 255), (3, 255)] })] },
  mortar := { State.reset.mortar with fenced0 := 0x7FFFFFF, fenced1 := 0xFFFFFFE } }

/-- A discovery passed, but no lease is held of head 0. -/
def unheld : State := { armable with cfg := { gen := 1, force := [(SecId.barGeometry, geo)] } }

theorem test_meets_ArmRefusals_unconfigured :
    (st .rest).ident.opState = .rest ∧ Tidy { verb := 0x0201 } [] ∧ (st .rest).cfg.gen = 0 := by unfold Tidy; decide +kernel

theorem test_meets_ArmRefusals_cause :
    let s : State := { armable with plumb := { calm with thermOk := false } }
    s.ident.opState = .rest ∧ s.cfg.gen ≠ 0 ∧ (lowestBit 32 s.present.toNat).isSome = true := by decide +kernel

theorem test_meets_ArmRefusals_capacity :
    tooWide.ident.opState = .rest ∧ tooWide.cfg.gen ≠ 0 ∧ tooWide.present = 0 ∧
      (tooWide.capacityFault (tooWide.sec SecId.barGeometry) (tooWide.sec SecId.profile)).isSome = true := by decide +kernel

theorem test_meets_ArmRefusals_undiscovered :
    undiscovered.cfg.gen ≠ 0 ∧ undiscovered.present = 0 ∧ undiscovered.bondFound = false ∧
      undiscovered.capacityFault (undiscovered.sec SecId.barGeometry) (undiscovered.sec SecId.profile) = none := by decide +kernel

theorem test_meets_ArmRefusals_unheld :
    unheld.ident.opState = .rest ∧ unheld.cfg.gen ≠ 0 ∧ unheld.present = 0 ∧ unheld.bondFound = true ∧ unheld.unheldHead = some 0 ∧
      unheld.capacityFault (unheld.sec SecId.barGeometry) (unheld.sec SecId.profile) = none ∧ unheld.butt.role ≠ .standby := by
  decide +kernel

/-- The job that JOB.OPEN tries to place. -/
def asked (q : QCmd) (u : State) : Job :=
  let rh := field (q.num 32 4) 8 8
  { id := u.freeJobId, repeats := q.byte 8 == 0, ashlar := q.byte 9 == 1, mask := BitVec.ofNat 12 (q.num 10 2), xHalf := q.byte 12 == 1,
    yHalf := q.byte 13 == 1, length := q.num 16 8, tile := q.num 24 8, noComp := bitAt (q.num 32 4) 0,
    ratio16 := if rh = 0 then 32 else rh, key := u.freeCtr, first := q.first, width := q.width, east := u.neighbour 0, west := u.neighbour 1 }

/-- What JOB.OPEN asks of its arguments and of the machine. -/
def openArgs (q : QCmd) (u a : State) : Prop :=
  a.armed = true ∧ Tidy q [(8, 6), (16, 20)] ∧ q.byte 8 ≤ 1 ∧ q.byte 9 ≤ 1 ∧ q.num 10 2 ≠ 0 ∧ q.num 10 2 < 4096 ∧ q.byte 12 ≤ 1 ∧
    q.byte 13 ≤ 1 ∧ (q.byte 8 = 0 → q.num 16 8 ≠ 0 ∧ q.num 24 8 ≠ 0) ∧ (q.byte 8 = 1 → q.num 24 8 = 0) ∧
    field (q.num 32 4) 16 4 = 0 ∧ field (q.num 32 4) 8 8 = 0 ∧ field (q.num 32 4) 1 7 = 0 ∧ field (q.num 32 4) 20 12 = 0 ∧
    u.jobs.opened.length < 16

/-- READY with bar 0 installed, and another job that streams on Wythe 1 through a ring of an exponent. -/
def roomy (held : Nat) : State := { st .ready with
  cfg := { force := [(SecId.barGeometry, geo)] }, jobs := { opened := [{ id := 0, mask := 1, place1 := 3, ring1 := held }] } }

theorem test_meets_JobOpenPlaces_both :
    meets 0x0401 (msg ([0, 1, 255, 15, 1, 1, 0, 0, 1] ++ List.replicate 7 0 ++ [1])) (roomy 0) fun _ q u a => openArgs q u a ∧
      (u.placeJob (asked q u) 6 0).isSome = true ∧ (u.placeJob (asked q u) 6 1).isSome = true := by
  unfold meets openArgs Usable ChannelsFree Tidy; decide +kernel

theorem test_meets_JobOpenPlaces_noneOn0 :
    meets 0x0401 (msg ([0, 0, 1, 0, 0, 0, 0, 0] ++ List.replicate 8 255 ++ List.replicate 8 255 ++ [1])) (roomy 0) fun _ q u a =>
      openArgs q u a ∧ u.placeJob (asked q u) 6 0 = none := by
  unfold meets openArgs Usable ChannelsFree Tidy; decide +kernel

theorem test_meets_JobOpenPlaces_noneOn1 :
    meets 0x0401 (msg [1, 0, 1]) (roomy 12) fun _ q u a => openArgs q u a ∧
      (u.placeJob (asked q u) 6 0).isSome = true ∧ u.placeJob (asked q u) 6 1 = none := by
  unfold meets openArgs Usable ChannelsFree Tidy; decide +kernel

/-- A module in REST beside an active partner, the link up. -/
def beside : State := { st .rest with butt := { paired with role := .isolated, partnerRole := .active } }

theorem test_meets_PairCommands_join :
    meets 0x0902 (msg []) (beside.modButt (fun b =>
        { b with partnerInfo := { digest := beside.pairDigest, fw := beside.ident.fwVersion, offset := -50 } }))
      fun _ q u a => a.restReady = true ∧ Tidy q [] ∧ u.butt.role = .isolated ∧ u.pairUp = true ∧ u.butt.partnerRole = .active ∧
        u.pairMismatch beside.pairDigest beside.ident.fwVersion (-50) = none := by
  unfold meets Usable ChannelsFree Tidy; decide +kernel

theorem test_meets_PairCommands_mismatch :
    meets 0x0902 (msg []) (beside.modButt (fun b => { b with partnerInfo := { digest := beside.pairDigest + 1 } }))
      fun _ q u a => a.restReady = true ∧ Tidy q [] ∧ u.butt.role = .isolated ∧ u.pairUp = true ∧ u.butt.partnerRole = .active ∧
        (u.pairMismatch (beside.pairDigest + 1) 0 0).isSome = true := by
  unfold meets Usable ChannelsFree Tidy; decide +kernel

/-- An isolated module in REST beside an isolated one in READY, with a PAIR section. -/
def apart : State := { beside with
  cfg := { force := [(SecId.pair, { len := 16, mem := [] })] }
  butt := { beside.butt with partnerRole := .isolated, partnerState := .ready } }

theorem test_meets_PairCommands_forms :
    meets 0x0902 (msg []) (apart.modButt (fun b =>
        { b with partnerInfo := { digest := apart.pairDigest, fw := apart.ident.fwVersion, offset := 50, prefer := true } }))
      fun _ q u a => a.restReady = true ∧ Tidy q [] ∧ u.butt.role = .isolated ∧ u.pairUp = true ∧ u.butt.partnerRole ≠ .active ∧
        (u.formPair apart.pairDigest apart.ident.fwVersion 50 true).2 = none ∧
        (u.formPair apart.pairDigest apart.ident.fwVersion 50 true).1.butt.role ≠ .isolated := by
  unfold meets Usable ChannelsFree Tidy; decide +kernel

/-- A GANG section of member 0 of 2. -/
def gangOf2 : Sec := { len := 16, mem := [(0, 8)] }

/-- Member 0 in REST, the chain link up. -/
def first : State := { st .rest with cfg := { force := [(SecId.gang, gangOf2)] }, butt := { State.reset.butt with west := { up := true } } }

/-- The second member, in step with the first. -/
def second : GInfo := { first.gangInfo with member := 1, column := first.gangInfo.column + 120960 }

theorem test_meets_GangCommands_form :
    meets 0x0A01 (msg []) (first.modButt (fun b => { b with info := [second] })) fun _ q u a =>
      a.restReady = true ∧ Tidy q [] ∧ u.memberZero = true ∧ u.gangMismatch = none := by
  unfold meets Usable ChannelsFree Tidy; decide +kernel

theorem test_meets_GangCommands_mismatch :
    meets 0x0A01 (msg []) (first.modButt (fun b => { b with info := [{ second with offset := 51 }] })) fun _ q u a =>
      a.restReady = true ∧ Tidy q [] ∧ u.memberZero = true ∧ u.gangMismatch = some 3 := by
  unfold meets Usable ChannelsFree Tidy; decide +kernel

theorem test_meets_PanelSet_applied :
    meets 0x0C04 (msg ([23, 0] ++ (List.range 46).map (fun i => if i % 2 = 0 then 255 else 128))) (st .printing) fun _ q _ a => a.live = true ∧
      Tidy q [(8, 1), (10, 46)] ∧ 1 ≤ q.byte 8 ∧ q.byte 8 ≤ 23 ∧ ∀ i, i < q.byte 8 → field (q.num (10 + 2 * i) 2) 14 2 ≠ 3 := by
  unfold meets Usable ChannelsFree Tidy; decide +kernel

theorem test_meets_PanelSet_count :
    meets 0x0C04 (msg [24]) (st .rest) fun _ q _ a => a.live = true ∧ Tidy q [(8, 1), (10, 46)] ∧ 23 < q.byte 8 := by
  unfold meets Usable ChannelsFree Tidy; decide +kernel

theorem test_meets_PanelSet_blink :
    meets 0x0C04 (msg ([23, 0] ++ List.replicate 45 0 ++ [192])) (st .fault) fun _ q _ a => a.live = true ∧
      Tidy q [(8, 1), (10, 46)] ∧ 1 ≤ q.byte 8 ∧ q.byte 8 ≤ 23 ∧ field (q.num (10 + 2 * 22) 2) 14 2 = 3 ∧
      ∀ i, i < 22 → field (q.num (10 + 2 * i) 2) 14 2 ≠ 3 := by
  unfold meets Usable ChannelsFree Tidy; decide +kernel

/-- A Plinth image of one byte, 0, with its CRC-32C. -/
theorem test_meets_CopingAndPlinthCommands_fw :
    meets 0x0E02 (msg ([1] ++ List.replicate 15 0 ++ [1, 0, 0, 0, 0x51, 0x53, 0x7D, 0x52])) (st .rest) fun m q u a =>
      let v := (u.ownFetch (q.num 24 4) 0).fwOpen (q.byte 8) (q.num 24 4)
      let x : Fw := { target := 1, slot := 1, len := 1, last := u.clock.rtc }
      let w := (v.fwChunk x 0 (v.store.host.read (q.num 16 8) (q.num 24 4))).1
      a.idleState = true ∧ Tidy q [(8, 1), (16, 16)] ∧ q.byte 8 ≤ 1 ∧ q.num 24 4 ≤ fwLimit (q.byte 8) ∧ u.plinth.fw = none ∧
        m.fetchFail = false ∧ v.plinth.fw = some x ∧ w.fwGood { x with endOff := q.num 24 4 } (q.num 28 4) = true := by
  unfold meets Usable ChannelsFree Tidy; decide +kernel

theorem test_meets_TimeSet_applied :
    let s : State := { State.reset with clock := { State.reset.clock with press := 125000 }, time := { stepReq := some (0, some (2 ^ 64 - 2), 0x0B02, 3, 63) } }
    s.time.stepReq = some (0, some (2 ^ 64 - 2), 0x0B02, 3, 63) ∧ s.now % 125000 = 0 ∧ s.printHold = false ∧ 2 ^ 64 - 2 < 2 ^ 64 := by decide +kernel

/-! ## Witnesses: interrupts, responses and rings -/

/-- Function 1 with vector 63 in some condition. -/
def vec63 (cause enable masked : Bool) : State :=
  State.reset.setFn 1 { State.reset.fn1 with int := { State.reset.fn1.int with
    cause := setBit 0 63 cause, enable := setBit 0 63 enable, masked := setBit 0 63 masked } }

theorem test_meets_InterruptMessages_raise :
    (let x := (vec63 true true false).fn 1
     x.int.cause.getLsbD 63 = true ∨ x.int.enable.getLsbD 63 = false) ∧
    (let x := (vec63 false true false).fn 1
     x.int.cause.getLsbD 63 = false ∧ x.int.enable.getLsbD 63 = true ∧ x.int.masked.getLsbD 63 = false) ∧
    (let x := (vec63 false true true).fn 1
     x.int.cause.getLsbD 63 = false ∧ x.int.enable.getLsbD 63 = true ∧ x.int.masked.getLsbD 63 = true) := by decide +kernel

theorem test_meets_InterruptMessages_clear :
    (vec63 true true false).reachable 1 = true ∧ ((vec63 true true false).fn 1).int.enable.getLsbD 63 = true ∧
      ((vec63 true true false).fn 1).int.masked.getLsbD 63 = false := by decide +kernel

theorem test_meets_InterruptMessages_enable :
    (vec63 true false false).reachable 1 = true ∧ ((vec63 true false false).fn 1).int.enable.getLsbD 63 = false ∧
      ((vec63 true false false).fn 1).int.cause.getLsbD 63 = true ∧ ((vec63 true false false).fn 1).int.masked.getLsbD 63 = false := by
  decide +kernel

/-- A response of slot 63 of channel 3 is ready. -/
def answeredOnce : State := (st .ready).modChan 3 (fun x => { x with rsp := [(63, { verb := 0x0102, result := Res.ok })] })

theorem test_meets_ResponseReads_ready :
    answeredOnce.reachable 0 = true ∧ 3 < answeredOnce.mbox.length ∧ ((answeredOnce.chan 3).response 63).ready = true := by decide +kernel

theorem test_meets_ResponseReads_written :
    3 < busy.mbox.length ∧ (busy.chan 3).queue = [{ slot := 63, verb := 0x0501 }] ∧ (busy.chan 3).mute = false := by decide +kernel

/-- A channel with the smallest ring, of 64 descriptors, in a state. -/
def ring13 (x : ChState) : State := State.reset.modCh 1 13 (fun d => { d with ringExp := 12, st := x })

theorem test_meets_TailWrites_tooFar :
    (Instr.tailWrite 0 1 13 65 []).wf = true ∧ (ring13 .running).reachable 1 = true ∧
      (let x := ((ring13 .running).hostLoad []).ch 1 13
       x.expOk = true ∧ x.slots < (BitVec.ofNat 32 65 - x.done).toNat ∧ x.st ≠ .draining ∧ x.st ≠ .aborting) := by decide +kernel

theorem test_meets_TailWrites_taken :
    (Instr.tailWrite 0 1 13 64 []).wf = true ∧ (ring13 .idle).reachable 1 = true ∧
      (let x := ((ring13 .idle).hostLoad []).ch 1 13
       x.expOk = true ∧ (BitVec.ofNat 32 64 - x.done).toNat ≤ x.slots) := by decide +kernel

theorem test_meets_TailWrites_stopped : 15 < (State.reset.fn 1).ch.length := by decide +kernel

/-! ## Witnesses: arithmetic, encoders, nodes and the field gate -/

theorem test_meets_ResidualsRebuild :
    ((1 : Int) = (0 : Nat) - (255 : Nat) + 1 * 2 ^ 8 ∧ -(2 ^ 7) ≤ (1 : Int)) ∧ ((-128 : Int) = (0 : Nat) - (128 : Nat) + 0 * 2 ^ 8) ∧
      ((127 : Int) = (127 : Nat) - (0 : Nat) + 0 * 2 ^ 8 ∧ (127 : Int) ≤ 2 ^ 7 - 1) := by decide

theorem test_meets_InkAndDensityArithmetic : 65534 ≤ 65535 ∧ limit 65534 65535 65535 ≤ 65535 ∧ limit 0 0 65535 = 0 := by decide

/-- Encoder 0 is the position source, in quadrature mode. -/
def quad0 : State := { st .ready with cfg := { force := [(SecId.encoder, { len := 96, mem := [(16, 1)] })] } }

theorem test_meets_QuadratureCounts :
    quad0.counting 0 = true ∧ encMode quad0.esec 0 = 1 ∧
      (let x := quad0.enc 0
       quadStep (2 * bit x.a + bit x.b) (2 * bit (!x.a) + bit x.b) = .counts 1 ∧
       quadStep (2 * bit x.a + bit x.b) (2 * bit (!x.a) + bit (!x.b)) = .illegal ∧ x.illStamps.length < 16) := by decide +kernel

/-- A filter of 200 samples, 150 of them met: the 50th sample of the run is the one that is accepted, and 49 are too few. -/
theorem test_meets_QuadratureCounts_filter : 150 < 200 ∧ 200 ≤ 150 + 50 ∧ 150 + 49 < 200 ∧
    lineTake 200 50 false true 150 = (some 50, 0) ∧ lineTake 200 49 false true 150 = (none, 199) := by decide +kernel

/-- A node with its lane 3 of port 1 aligned. -/
def node9 (held : Bool) (holder : Nat) : Node := { id := 9, lanesB := 4, held := held, holder := holder, epoch := 60, expiry := 1000000, alignB := 8 }

/-- A module with that node. -/
def withNode (n : Node) : State := { st .ready with nodes := [(9, n)] }

/-- An ACQUIRE on port 1 for an epoch and a T_LEASE, as the line carries it. -/
def acquire1 (epoch tLease : Nat) : List Bool :=
  stuff (unitBits 0x03 1 [leaseBody 1 1 epoch tLease 0]) false 0

/-- What the node makes of a unit that has come in, as the hypotheses of NodeAcquires read it. -/
def acquires (n : Node) (epoch tLease : Nat) (p : Node → LeaseMsg → Nat → Bool) : Bool :=
  let l := acquire1 epoch tLease
  match ((withNode n).nodeExpiry 9).nodeRx 9 1 3 0x03 l.length (ofBits l) with
  | some (n', some b) => n'.id == 9 && (match b.data with
    | some d => (leaseRead (d.getD 0 0)).op == 1 && (leaseRead (d.getD 0 0)).port == 1 &&
        p n' (leaseRead (d.getD 0 0)) (((leaseRead (d.getD 0 0)).epoch + 64 - n'.epoch) % 64)
    | none => false)
  | _ => false

theorem test_meets_NodeAcquires_range :
    acquires (node9 false 0) 61 1999 (fun _ m _ => !(2000 ≤ m.tLease && m.tLease ≤ 50000)) = true ∧
      acquires (node9 false 0) 61 50001 (fun _ m _ => !(2000 ≤ m.tLease && m.tLease ≤ 50000)) = true := by decide +kernel

theorem test_meets_NodeAcquires_other :
    acquires (node9 true 0) 61 2000 (fun n m _ => 2000 ≤ m.tLease && m.tLease ≤ 50000 && n.held && n.holder != 1) = true := by
  decide +kernel

theorem test_meets_NodeAcquires_late :
    acquires (node9 false 1) 60 50000 (fun n m a => m.tLease ≤ 50000 && !n.held && !(1 ≤ a && a ≤ 31)) = true ∧
      acquires (node9 false 1) 28 50000 (fun n m a => m.tLease ≤ 50000 && !n.held && !(1 ≤ a && a ≤ 31)) = true := by decide +kernel

theorem test_meets_NodeAcquires_granted :
    acquires (node9 false 0) 27 2000 (fun n m a => 2000 ≤ m.tLease && !n.held && n.holder != 1 && 1 ≤ a && a ≤ 31) = true ∧
      acquires (node9 true 1) 61 50000 (fun n m a => m.tLease ≤ 50000 && n.held && n.holder == 1 && 1 ≤ a && a ≤ 31) = true := by
  decide +kernel

theorem test_meets_FieldOutputGate :
    (st .rest).armed = false ∧ ({ st .rest with power := { State.reset.power with domains := 0xFFF } } : State).power.domains.getLsbD 10 = true := by
  decide +kernel

/-- A module whose SYS.RESET is due 100 µs after its response. -/
def resetting (cold : Bool) : State := { st .ready with power := { (st .ready).power with resetDue := some (100000, cold) } }

theorem test_meets_MainDomainReset :
    (resetting true).power.resetDue = some (100000, true) ∧ (resetting false).clock.up + 99999 < 100000 ∧
      100000 ≤ (resetting false).clock.up + 100000 ∧ (st .ready).power.resetDue = none := by decide +kernel

theorem test_meets_TamperOpening :
    (let s : State := { st .off with power := { State.reset.power with batOk := false } }
     s.ident.opState = .off ∧ s.power.batOk = false) ∧
    (st .rest).ident.opState ≠ .off ∧ { st .off with power := { State.reset.power with batOk := true } }.power.batOk = true ∧
      (st .rest).plinth.queue.length < 256 ∧
      ({ st .rest with clock := { press := 20000002, rtc := 0, up := 0 } } : State).lateRecord { stamp := 0 } = true ∧
      ({ st .rest with clock := { press := 20000000, rtc := 0, up := 0 } } : State).lateRecord { stamp := 0 } = false := by decide +kernel

theorem test_meets_LineCodingRoundTrips : 30 < 31 ∧ 35 < 36 ∧ 1 ≤ 1 ∧ 15 < 16 := by decide

/-! ## Witnesses of the completion statements, and terms that each check refuses -/

/-- The premises about the machine that those statements add: the main domains are on and both functions can be reached. -/
theorem test_meets_reachable : State.reset.mainOn = true ∧ State.reset.reachable 0 = true ∧ State.reset.reachable 1 = true := by decide +kernel

/-- Well-formed power, reset, boot and PCIe link commands, their operands at a bound where they have one. -/
theorem test_meets_PowerCommandsComplete : List.all (
    [.vAuxApplied 0 3 14500, .keepReset 0, .supplyThreshold 0 0 4 40000, .suppliesLost 0, .autoOn 0, .domainPowerGood 0, .powerGoodMissed 0 11,
     .powerGoodLost 0 11, .bootEnd 0 true true 5 [27] [0], .bootTimeout 0, .functionReset 0 1 true, .linkTrained 0 1 16 320 4096 4096 true,
     .pcieLinkLost 0 1, .hardwareShutdown 0 1 0, .thermalRestart 0 0 0] : List Instr) Instr.wf = true := by decide +kernel

/-- Well-formed side-band, log and firmware commands, their operands at a bound where they have one. -/
theorem test_meets_ZarnetrumCommandsComplete : List.all (
    [.ident 0 {}, .status 0 {}, .zarnetrumTemps 0 {}, .pair 0 {}, .settings 0 {}, .powerOn 0 {}, .powerOff 0 {} true, .powerCycle 0 {} true,
     .restReq 0 {} true, .force 0 {}, .lockoutClear 0 {}, .logInfo 0 {}, .logRead 0 {}, .fwOpen 0 {}, .fwData 0 {}, .fwClose 0 {}, .fwSelect 0 {},
     .unknownOp 0 {} 0, .requestDiscarded 0 { op := 255 }, .fwSessionTimeout 0, .alertResponse 0, .logCommit 0, .tamper 0, .flashRefresh 0 [3],
     .statusMirrorCopy 0] : List Instr) Instr.wf = true := by decide +kernel

/-- Well-formed host register, interrupt, BAR2 and event ring commands, their operands at a bound where they have one. -/
theorem test_meets_HostAccessesComplete : List.all (
    [.registerWrite 0 1 1048575 [255], .responseRead 0 3 63 63 1, .intCauseClear 0 1 (2 ^ 64 - 1) (2 ^ 28 - 1), .intEnableWrite 0 1 (2 ^ 64 - 1),
     .overflowClear 0, .snapReq 0 1, .timeNowLowRead 0 (.both, 1), .bar2Read 0 1 (2 ^ 28 - 4096) 4096, .bar2Write 0 1 (2 ^ 28 - 1) [255],
     .bar2DroppedRead 0 1, .eventRingWrite 0, .aliveTick 0] : List Instr) Instr.wf = true := by decide +kernel

/-- Well-formed mailbox commands, their operands at a bound where they have one. -/
theorem test_well_formed_mailbox_0 : List.all (
    [.sysInfo 0 {}, .sysPing 0 {}, .sysEventRing 0 {}, .stateArm 0 {}, .stateDisarm 0 {}, .stateRest 0 {}, .stateClear 0 {}, .cfgStage 0 {},
     .cfgCheck 0 {}, .cfgCommit 0 {}, .cfgCancel 0 {}, .cfgDiscard 0 {}, .cfgRead 0 {}, .jobOpen 0 {}, .jobStart 0 {}, .jobPause 0 {},
     .jobContinue 0 {}, .jobAbort 0 {}, .jobClose 0 {}, .jobStatus 0 {}, .evtAtCourse 0 {}, .evtAtTime 0 {}, .evtCancel 0 {}, .evtList 0 {},
     .densUpdate 0 {}, .densRead 0 {}, .densFreeze 0 {}, .nozMap 0 {}, .nozRead 0 {}, .pairSwap 0 {}] : List Instr) Instr.wf = true := by
         decide +kernel

/-- Well-formed mailbox commands, their operands at a bound where they have one. -/
theorem test_well_formed_mailbox_1 : List.all (
    [.pairLeave 0 {}, .pairTake 0 {}, .pairInfo 0 {}, .gangDissolve 0 {}, .gangInfo 0 {}, .timeAcceptStep 0 {}, .timeSet 0 {}, .timeStatus 0 {},
     .lampSet 0 {}, .lampRead 0 {}, .panelSet 0 {}, .copingRead 0 {}, .copingCal 0 {}, .plinthLogRead 0 {}, .plinthFw 0 {}, .plinthFwSelect 0 {},
     .sysResetWarm 0 {}, .sysResetCold 0 { args := [1] }, .jobSubmitAttach 0 {}, .jobSubmitDetach 0 { args := [0, 2] },
     .jobSubmitEnd 0 { args := [0, 3] }, .discover 0 {}, .readBond 0 { args := [1] }, .readNodes 0 { args := [2] }, .lampClearShort 0 {},
     .lampClearPins 0 { args := [1] }, .pairJoin 0 {} {}, .gangForm 0 {} [{}, {}, {}], .unknownVerb 0 0 {}] : List Instr) Instr.wf = true := by
         decide +kernel

/-- Well-formed transfer and memory commands, their operands at a bound where they have one. -/
theorem test_meets_TransferCommandsComplete : List.all (
    [.ringBaseWrite 0 1 15 (2 ^ 64 - 1), .enable 0 1 15 [(2 ^ 64 - 1, [255])], .abort 0 1 15, .disable 0 1 15,
     .tailWrite 0 1 15 (2 ^ 32 - 1) [(2 ^ 64 - 1, [255])], .sourceDestinationFree 0 1, .readCompletion 0 1 15 0 2 true [(2 ^ 64 - 1, [255])] 0,
     .completionTimeout 0 1 15 0, .admissionEnd 0 1 15, .descriptorEnd 0 1 15, .compressionResume 0 255, .stripPipelineDecode 0 1 true [[255], []],
     .memoryError 0 1 2 0 (.sect 15), .scrubReport 0 5 [(12582911, 2 ^ 144 - 1, .nothing)]] : List Instr) Instr.wf = true := by decide +kernel

/-- Well-formed course, lift, Tie and action commands, their operands at a bound where they have one. -/
theorem test_meets_CourseCommandsComplete : List.all (
    [.courseRecord 0 (2 ^ 64 - 1) (2 ^ 64 - 1), .tieReplay 0 { dest := 1, back := 31, errors := [2 ^ 144 - 1] }, .seamDeadlineMiss 0,
     .tieTrainingLost 0, .lockstep 0 1, .liftToken 0 0, .commitToken 0, .liftScreened 0 1 0 true, .courseRelease 0, .courseFire 0,
     .liftBoundary 0 [{ w := 1, bar := 11, idx := 491519, value := 255 }, { states := true, value := 3 }], .speedLoopCycle 0, .overspeedClear 0,
     .webAtRest 0, .ceiling 0, .resumeBegin 0, .rejectEdge 0, .actionAtCourse 0 0, .actionAtTime 0 0, .actionPulseEnd 0 19, .quantaLostReport 0 1,
     .saturationReport 0 1] : List Instr) Instr.wf = true := by decide +kernel

/-- Well-formed web sensing commands, their operands at a bound where they have one. -/
theorem test_meets_WebCommandsComplete : List.all (
    [.markEdge 0 { k := 12, n := 200, level := true }, .markMiss 0 12, .positionChange 0 1 (.adc 8191 (-8192)),
     .illegalTransition 0 1 true true { n := 1, z := true }, .radiusFault 0 1 [(8191, -8192)],
     .index 0 1 { n := 1, a := true, b := false, z := true }, .missingIndex 0 1, .pairStatusChange 0 1 2 { vd := 200, cm := -7000 },
     .hallChange 0 { n := 200, code := 7 }, .checkWindow 0, .supplyOverload 0 { k := 3, limit := true }, .illegalTransitionReport 0 1, .hallReport
         0] : List Instr) Instr.wf = true := by decide +kernel

/-- Well-formed field input, output and watchdog commands, their operands at a bound where they have one. -/
theorem test_meets_PlumbCommandsComplete : List.all (
    [.fieldInputChange 0 23 true 0, .estopDisc 0, .fieldSupply 0 0, .outputFault 0 15 2, .openLoad 0 { output := 11, ua := 100 },
     .thermOkChange 0 { tj0 := 1792, tj1 := -640 }, .watchdogKey 0, .watchdog 0 true, .heartbeatScan 0 [(15, 1)]] : List Instr) Instr.wf = true :=
         by decide +kernel

/-- Well-formed lane, lease and discovery commands, their operands at a bound where they have one. -/
theorem test_meets_LaneCommandsComplete : List.all (
    [.laneRxAligned 0 79, .laneRxUnaligned 0 79, .identTimeout 0 79, .delayTimeout 0 79, .statusTimeout 0 79, .unalignedTimeout 0 79,
     .lostTimeout 0 79, .timeSend 0 79, .echoSend 0 79, .discoverSend 0 79, .hello 0 79 1 1, .statusUnit 0 79 65536 (2 ^ 65536 - 1),
     .tempsUnit 0 79 65536 (2 ^ 65536 - 1), .echoReply 0 79 65536 (2 ^ 65536 - 1) 0, .discovery 0, .renewSend 0 (2 ^ 32 - 1),
     .acquireRetry 0 (2 ^ 32 - 1), .restSend 0] : List Instr) Instr.wf = true := by decide +kernel

/-- Well-formed node commands, their operands at a bound where they have one. -/
theorem test_meets_NodeCommandsComplete : List.all (
    [.nodeFrame 0 0 1 3 65536 (2 ^ 65536 - 1), .nodeRenew 0 0 1 3 65536 (2 ^ 65536 - 1), .nodeRelease 0 0 1 3 65536 (2 ^ 65536 - 1),
     .nodeRest 0 0 1 3 65536 (2 ^ 65536 - 1), .nodeCancel 0 0 1 3 65536 (2 ^ 65536 - 1), .nodeAcquire 0 0 1 3 65536 (2 ^ 65536 - 1),
     .nodeConfig 0 0 1 3 65536 (2 ^ 65536 - 1), .nodeTime 0 0 1 3 65536 (2 ^ 65536 - 1), .nodeDiscover 0 0 1 3 65536 (2 ^ 65536 - 1),
     .nodeEcho 0 0 1 3 65536 (2 ^ 65536 - 1) 150000, .nodeLeaseExpiry 0 0, .nodeRowFire 0 0 0 3, .nodeStatusSend 0 0 1 3, .nodeTempsSend 0 0 1 [],
     .nodeReset 0 (2 ^ 32 - 1) 4 1 (List.range 48) 2047, .nodeReceiverAlignment 0 0 1 3 true, .headFault 0 0 719 true, .nodeTimeOkTimeout 0 0] :
         List Instr) Instr.wf = true := by decide +kernel

/-- Well-formed pair and gang link commands, their operands at a bound where they have one. -/
theorem test_meets_ButtressCommandsComplete : List.all (
    [.beat 0 1 3 7 7 { lane := 3, seq := 2 ^ 32 - 1 }, .beatSend 0 1, .buttressLinkDown 0 1 15, .buttressLinkUp 0 1 15, .mirror 0 0 0 0 [255],
     .epochEnd 0 0 65535 (2 ^ 32 - 1), .progress 0 0, .handover 0 0 true 31, .msg 0 1 (.ack 0 0 0 0 0 0), .forwardAckTimeout 0 3 63,
     .gsync 0 1 .form, .gtime 0 1 true { stamp := 5, rtt := 700 }, .gseam 0 1 0 [] none, .offsetMeasure 0,
     .pairFormation 0 (2 ^ 64 - 1) (2 ^ 32 - 1) 0 true, .resync 0, .takeover 0, .acquireTimeout 0, .swapAtReady 0, .autoSwap 0, .sinceSwapTick 0,
     .heartbeatSend 0, .heartbeatDatagram 0 3 [], .hbOkTimeout 0] : List Instr) Instr.wf = true := by decide +kernel

/-- Well-formed press time and Ethernet commands, their operands at a bound where they have one. -/
theorem test_meets_TimeEventsComplete : List.all (
    [.sync 0 1 true { domain := 255, seq := 65535 } none, .followUp 0 1 true { domain := 255, seq := 65535 } 0,
     .delayReq 0 1 true { domain := 255, seq := 65535 }, .delayResp 0 1 { domain := 255, seq := 65535 } 0,
     .pdelayReq 0 1 true { domain := 255, seq := 65535 } 0, .pdelayResp 0 1 { domain := 255, seq := 65535 } 0 none,
     .pdelayRespFollowUp 0 1 { domain := 255, seq := 65535 } 0, .announce 0 1 (.heard 255) (List.replicate 10 0), .arp 0 1 (2 ^ 32 - 1),
     .icmpEcho 0 1 (2 ^ 32 - 1), .announceTimeout 0, .stepApply 0, .rtcCopy 0, .ppsInEdge 0, .ppsOut 0, .ref10Lost 0, .ref10Restored 0,
     .camPulse 0 3 0, .ethernetLink 0 1 true] : List Instr) Instr.wf = true := by decide +kernel

/-- Well-formed lamp chain and indicator matrix commands, their operands at a bound where they have one. -/
theorem test_meets_LampEventsComplete : List.all (
    [.chainFrameStart 0, .chainReturnEnd 0 3 (List.replicate 64 none) 0, .chainRestFrame 0,
     .driverLatch 0 255 { highs := [400, 800], low := 50000, temp := 255 }, .driverShareTimeout 0 255, .matrixRowSlot 0 0 (List.replicate 16 0),
     .rowOvercurrent 0 { row := 15, ma := 3000 }] : List Instr) Instr.wf = true := by decide +kernel

/-- Well-formed thermal and calibration commands, their operands at a bound where they have one. -/
theorem test_meets_ThermalEventsComplete : List.all (
    [.sensorSample 0 (List.replicate 32 none) 0 none none, .calRunEnd 0 107 [65535] 65535 0, .referenceCompare 0 0] : List Instr) Instr.wf = true
        := by decide +kernel

/-- Ill-formed power, reset, boot and PCIe link commands, one for each check. -/
theorem test_refuses_power : List.all (
    [.vAuxApplied 0 4 14500, .vAuxApplied 0 3 9999, .vAuxApplied 0 3 14501, .supplyThreshold 0 4 4 40000, .supplyThreshold 0 0 3 40000,
     .supplyThreshold 0 0 5 40000, .powerGoodMissed 0 1, .powerGoodMissed 0 12, .powerGoodLost 0 1, .powerGoodLost 0 12,
     .bootEnd 0 true true 1 [27] [0], .bootEnd 0 true true 2 [27] [0], .bootEnd 0 true true 6 [27] [0], .bootEnd 0 true true 5 [28] [0],
     .bootEnd 0 true true 5 [27] [28], .functionReset 0 2 true, .linkTrained 0 2 16 320 4096 4096 true, .linkTrained 0 1 3 320 4096 4096 true,
     .linkTrained 0 1 16 100 4096 4096 true, .linkTrained 0 1 16 320 64 4096 true, .linkTrained 0 1 16 320 4096 8192 true, .pcieLinkLost 0 2,
     .hardwareShutdown 0 2 0] : List Instr) (fun c => !c.wf) = true := by decide +kernel

/-- Ill-formed side-band, log and firmware commands, one for each check. -/
theorem test_refuses_zarnetrum : List.all (
    [.ident 0 { bus := 2 }, .status 0 { bus := 2 }, .zarnetrumTemps 0 { bus := 2 }, .pair 0 { bus := 2 }, .settings 0 { bus := 2 },
     .powerOn 0 { bus := 2 }, .powerOff 0 { bus := 2 } true, .powerCycle 0 { bus := 2 } true, .restReq 0 { bus := 2 } true, .force 0 { bus := 2 },
     .lockoutClear 0 { bus := 2 }, .logInfo 0 { bus := 2 }, .logRead 0 { bus := 2 }, .fwOpen 0 { bus := 2 }, .fwData 0 { bus := 2 },
     .fwClose 0 { bus := 2 }, .fwSelect 0 { bus := 2 }, .unknownOp 0 { bus := 2 } 0, .unknownOp 0 {} 256, .unknownOp 0 {} 1,
     .requestDiscarded 0 { op := 256 }, .requestDiscarded 0 { req := { bus := 2 } }, .flashRefresh 0 [4]] : List Instr) (fun c =>
         !c.wf) = true := by decide +kernel

/-- Ill-formed host register, interrupt, BAR2 and event ring commands, one for each check. -/
theorem test_refuses_host : List.all (
    [.registerWrite 0 2 1048575 [255], .registerWrite 0 1 1048576 [255], .registerWrite 0 1 1048575 [256], .registerWrite 0 1 1048575 [0, 0],
     .responseRead 0 4 63 63 1, .responseRead 0 3 64 63 1, .responseRead 0 3 63 63 2, .intCauseClear 0 2 (2 ^ 64 - 1) (2 ^ 28 - 1),
     .intCauseClear 0 1 (2 ^ 64) (2 ^ 28 - 1), .intCauseClear 0 1 (2 ^ 64 - 1) (2 ^ 28), .intEnableWrite 0 2 (2 ^ 64 - 1),
     .intEnableWrite 0 1 (2 ^ 64), .snapReq 0 2, .timeNowLowRead 0 (.low, 2), .bar2Read 0 2 (2 ^ 28 - 4096) 4096, .bar2Read 0 1 (2 ^ 28 - 4095) 4096,
     .bar2Read 0 1 (2 ^ 28 - 4096) 4097, .bar2Write 0 2 (2 ^ 28 - 1) [255], .bar2Write 0 1 (2 ^ 28) [255], .bar2Write 0 1 (2 ^ 28 - 1) [256],
     .bar2DroppedRead 0 2] : List Instr) (fun c => !c.wf) = true := by decide +kernel

/-- Ill-formed mailbox commands, one for each check. -/
theorem test_refuses_mailbox_0 : List.all (
    [.sysInfo 0 { ch := 4 }, .sysPing 0 { ch := 4 }, .sysEventRing 0 { ch := 4 }, .stateArm 0 { ch := 4 }, .stateDisarm 0 { ch := 4 },
     .stateRest 0 { ch := 4 }, .stateClear 0 { ch := 4 }, .cfgStage 0 { ch := 4 }, .cfgCheck 0 { ch := 4 }, .cfgCommit 0 { ch := 4 },
     .cfgCancel 0 { ch := 4 }, .cfgDiscard 0 { ch := 4 }, .cfgRead 0 { ch := 4 }, .jobOpen 0 { ch := 4 }, .jobStart 0 { ch := 4 },
     .jobPause 0 { ch := 4 }, .jobContinue 0 { ch := 4 }, .jobAbort 0 { ch := 4 }, .jobClose 0 { ch := 4 }, .jobStatus 0 { ch := 4 },
     .evtAtCourse 0 { ch := 4 }, .evtAtTime 0 { ch := 4 }, .evtCancel 0 { ch := 4 }, .evtList 0 { ch := 4 }, .densUpdate 0 { ch := 4 },
     .densRead 0 { ch := 4 }, .densFreeze 0 { ch := 4 }, .nozMap 0 { ch := 4 }, .nozRead 0 { ch := 4 }, .pairSwap 0 { ch := 4 }] : List Instr) (fun
         c => !c.wf) = true := by decide +kernel

/-- Ill-formed mailbox commands, one for each check. -/
theorem test_refuses_mailbox_1 : List.all (
    [.pairLeave 0 { ch := 4 }, .pairTake 0 { ch := 4 }, .pairInfo 0 { ch := 4 }, .gangDissolve 0 { ch := 4 }, .gangInfo 0 { ch := 4 },
     .timeAcceptStep 0 { ch := 4 }, .timeSet 0 { ch := 4 }, .timeStatus 0 { ch := 4 }, .lampSet 0 { ch := 4 }, .lampRead 0 { ch := 4 },
     .panelSet 0 { ch := 4 }, .copingRead 0 { ch := 4 }, .copingCal 0 { ch := 4 }, .plinthLogRead 0 { ch := 4 }, .plinthFw 0 { ch := 4 },
     .plinthFwSelect 0 { ch := 4 }, .sysResetWarm 0 { args := [1] }, .sysResetWarm 0 { ch := 4 }, .sysResetCold 0 {}, .sysResetCold 0 { ch := 4 },
     .jobSubmitAttach 0 { args := [0, 2] }, .jobSubmitAttach 0 { args := [0, 3] }, .jobSubmitAttach 0 { ch := 4 }, .jobSubmitDetach 0 {},
     .jobSubmitDetach 0 { ch := 4 }, .jobSubmitEnd 0 {}, .jobSubmitEnd 0 { ch := 4 }, .discover 0 { args := [1] }, .discover 0 { args := [2] },
     .discover 0 { ch := 4 }] : List Instr) (fun c => !c.wf) = true := by decide +kernel

/-- Ill-formed mailbox commands, one for each check. -/
theorem test_refuses_mailbox_2 : List.all (
    [.readBond 0 {}, .readBond 0 { ch := 4 }, .readNodes 0 {}, .readNodes 0 { ch := 4 }, .lampClearShort 0 { args := [1] },
     .lampClearShort 0 { ch := 4 }, .lampClearPins 0 {}, .lampClearPins 0 { ch := 4 }, .pairJoin 0 { ch := 4 } {},
     .gangForm 0 { ch := 4 } [{}, {}, {}], .gangForm 0 {} [{}, {}, {}, {}], .unknownVerb 0 65536 {}, .unknownVerb 0 0x0101 {},
     .unknownVerb 0 0 { ch := 4 }] : List Instr) (fun c => !c.wf) = true := by decide +kernel

/-- Ill-formed transfer and memory commands, one for each check. -/
theorem test_refuses_dma_0 : List.all (
    [.ringBaseWrite 0 2 15 (2 ^ 64 - 1), .ringBaseWrite 0 1 16 (2 ^ 64 - 1), .ringBaseWrite 0 1 15 (2 ^ 64), .enable 0 2 15 [(2 ^ 64 - 1, [255])],
     .enable 0 1 16 [(2 ^ 64 - 1, [255])], .enable 0 1 15 [(2 ^ 64, [])], .enable 0 1 15 [(0, [256])], .abort 0 2 15, .abort 0 1 16, .disable 0 2 15,
     .disable 0 1 16, .tailWrite 0 2 15 (2 ^ 32 - 1) [(2 ^ 64 - 1, [255])], .tailWrite 0 1 16 (2 ^ 32 - 1) [(2 ^ 64 - 1, [255])],
     .tailWrite 0 1 15 (2 ^ 32) [(2 ^ 64 - 1, [255])], .tailWrite 0 1 15 (2 ^ 32 - 1) [(2 ^ 64, [])], .tailWrite 0 1 15 (2 ^ 32 - 1) [(0, [256])],
     .sourceDestinationFree 0 2, .readCompletion 0 2 15 0 2 true [(2 ^ 64 - 1, [255])] 0, .readCompletion 0 1 16 0 2 true [(2 ^ 64 - 1, [255])] 0,
     .readCompletion 0 1 15 0 3 true [(2 ^ 64 - 1, [255])] 0, .readCompletion 0 1 15 0 2 true [(2 ^ 64, [])] 0,
     .readCompletion 0 1 15 0 2 true [(0, [256])] 0, .completionTimeout 0 2 15 0, .completionTimeout 0 1 16 0, .admissionEnd 0 2 15,
     .admissionEnd 0 1 16, .descriptorEnd 0 2 15, .descriptorEnd 0 1 16, .compressionResume 0 256, .stripPipelineDecode 0 2 true [[255], []]] :
         List Instr) (fun c => !c.wf) = true := by decide +kernel

/-- Ill-formed transfer and memory commands, one for each check. -/
theorem test_refuses_dma_1 : List.all (
    [.stripPipelineDecode 0 1 true [[1], [256]], .memoryError 0 2 2 0 (.sect 15), .memoryError 0 1 3 0 (.sect 15),
     .scrubReport 0 6 [(12582911, 2 ^ 144 - 1, .nothing)], .scrubReport 0 5 [(12582912, 0, .nothing)], .scrubReport 0 5 [(0, 2 ^ 144, .nothing)]] :
         List Instr) (fun c => !c.wf) = true := by decide +kernel

/-- Ill-formed course, lift, Tie and action commands, one for each check. -/
theorem test_refuses_timing : List.all (
    [.courseRecord 0 (2 ^ 64) (2 ^ 64 - 1), .courseRecord 0 (2 ^ 64 - 1) (2 ^ 64), .tieReplay 0 { dest := 2 }, .tieReplay 0 { back := 32 },
     .tieReplay 0 { errors := [2 ^ 144] }, .lockstep 0 2, .liftScreened 0 2 0 true, .liftBoundary 0 [{ w := 2 }], .liftBoundary 0 [{ bar := 12 }],
     .liftBoundary 0 [{ idx := 491520 }], .liftBoundary 0 [{ value := 256 }], .liftBoundary 0 [{ states := true, value := 4 }], .actionPulseEnd 0 20,
     .quantaLostReport 0 2, .saturationReport 0 2] : List Instr) (fun c => !c.wf) = true := by decide +kernel

/-- Ill-formed web sensing commands, one for each check. -/
theorem test_refuses_web : List.all (
    [.markEdge 0 { k := 13, n := 1, level := true }, .markMiss 0 13, .positionChange 0 2 (.adc 8191 (-8192)), .positionChange 0 1 (.adc 8192 0),
     .positionChange 0 1 (.adc 0 (-8193)), .illegalTransition 0 2 true true { n := 1, z := true }, .radiusFault 0 2 [(8191, -8192)],
     .radiusFault 0 1 [(8192, 0)], .radiusFault 0 1 [(0, -8193)], .index 0 2 { n := 1, a := true, b := false, z := true }, .missingIndex 0 2,
     .pairStatusChange 0 2 2 { vd := 200, cm := -7000 }, .pairStatusChange 0 1 3 { vd := 200, cm := -7000 }, .hallChange 0 { n := 1, code := 8 },
     .supplyOverload 0 { k := 4 }, .illegalTransitionReport 0 2] : List Instr) (fun c => !c.wf) = true := by decide +kernel

/-- Ill-formed field input, output and watchdog commands, one for each check. -/
theorem test_refuses_plumb : List.all (
    [.fieldInputChange 0 24 true 0, .outputFault 0 16 2, .outputFault 0 15 3, .openLoad 0 { output := 12 }, .heartbeatScan 0 [(16, 1)]] : List
        Instr) (fun c => !c.wf) = true := by decide +kernel

/-- Ill-formed lane, lease and discovery commands, one for each check. -/
theorem test_refuses_lanes : List.all (
    [.laneRxAligned 0 80, .laneRxUnaligned 0 80, .identTimeout 0 80, .delayTimeout 0 80, .statusTimeout 0 80, .unalignedTimeout 0 80,
     .lostTimeout 0 80, .timeSend 0 80, .echoSend 0 80, .discoverSend 0 80, .hello 0 80 1 1, .hello 0 79 65537 1, .hello 0 79 1 2,
     .statusUnit 0 80 65536 (2 ^ 65536 - 1), .statusUnit 0 79 65537 (2 ^ 65536 - 1), .statusUnit 0 79 65536 (2 ^ 65536),
     .tempsUnit 0 80 65536 (2 ^ 65536 - 1), .tempsUnit 0 79 65537 (2 ^ 65536 - 1), .tempsUnit 0 79 65536 (2 ^ 65536),
     .echoReply 0 80 65536 (2 ^ 65536 - 1) 0, .echoReply 0 79 65537 (2 ^ 65536 - 1) 0, .echoReply 0 79 65536 (2 ^ 65536) 0, .renewSend 0 (2 ^ 32),
     .acquireRetry 0 (2 ^ 32)] : List Instr) (fun c => !c.wf) = true := by decide +kernel

/-- Ill-formed node commands, one for each check. -/
theorem test_refuses_nodes_0 : List.all (
    [.nodeFrame 0 0 2 3 65536 (2 ^ 65536 - 1), .nodeFrame 0 0 1 4 65536 (2 ^ 65536 - 1), .nodeFrame 0 0 1 3 65537 (2 ^ 65536 - 1),
     .nodeFrame 0 0 1 3 65536 (2 ^ 65536), .nodeRenew 0 0 2 3 65536 (2 ^ 65536 - 1), .nodeRenew 0 0 1 4 65536 (2 ^ 65536 - 1),
     .nodeRenew 0 0 1 3 65537 (2 ^ 65536 - 1), .nodeRenew 0 0 1 3 65536 (2 ^ 65536), .nodeRelease 0 0 2 3 65536 (2 ^ 65536 - 1),
     .nodeRelease 0 0 1 4 65536 (2 ^ 65536 - 1), .nodeRelease 0 0 1 3 65537 (2 ^ 65536 - 1), .nodeRelease 0 0 1 3 65536 (2 ^ 65536),
     .nodeRest 0 0 2 3 65536 (2 ^ 65536 - 1), .nodeRest 0 0 1 4 65536 (2 ^ 65536 - 1), .nodeRest 0 0 1 3 65537 (2 ^ 65536 - 1),
     .nodeRest 0 0 1 3 65536 (2 ^ 65536), .nodeCancel 0 0 2 3 65536 (2 ^ 65536 - 1), .nodeCancel 0 0 1 4 65536 (2 ^ 65536 - 1),
     .nodeCancel 0 0 1 3 65537 (2 ^ 65536 - 1), .nodeCancel 0 0 1 3 65536 (2 ^ 65536), .nodeAcquire 0 0 2 3 65536 (2 ^ 65536 - 1),
     .nodeAcquire 0 0 1 4 65536 (2 ^ 65536 - 1), .nodeAcquire 0 0 1 3 65537 (2 ^ 65536 - 1), .nodeAcquire 0 0 1 3 65536 (2 ^ 65536),
     .nodeConfig 0 0 2 3 65536 (2 ^ 65536 - 1), .nodeConfig 0 0 1 4 65536 (2 ^ 65536 - 1), .nodeConfig 0 0 1 3 65537 (2 ^ 65536 - 1),
     .nodeConfig 0 0 1 3 65536 (2 ^ 65536), .nodeTime 0 0 2 3 65536 (2 ^ 65536 - 1), .nodeTime 0 0 1 4 65536 (2 ^ 65536 - 1)] : List Instr) (fun c
         => !c.wf) = true := by decide +kernel

/-- Ill-formed node commands, one for each check. -/
theorem test_refuses_nodes_1 : List.all (
    [.nodeTime 0 0 1 3 65537 (2 ^ 65536 - 1), .nodeTime 0 0 1 3 65536 (2 ^ 65536), .nodeDiscover 0 0 2 3 65536 (2 ^ 65536 - 1),
     .nodeDiscover 0 0 1 4 65536 (2 ^ 65536 - 1), .nodeDiscover 0 0 1 3 65537 (2 ^ 65536 - 1), .nodeDiscover 0 0 1 3 65536 (2 ^ 65536),
     .nodeEcho 0 0 2 3 65536 (2 ^ 65536 - 1) 150000, .nodeEcho 0 0 1 4 65536 (2 ^ 65536 - 1) 150000, .nodeEcho 0 0 1 3 65537 (2 ^ 65536 - 1) 150000,
     .nodeEcho 0 0 1 3 65536 (2 ^ 65536) 150000, .nodeEcho 0 0 1 3 65536 (2 ^ 65536 - 1) 150001, .nodeRowFire 0 0 0 4, .nodeStatusSend 0 0 2 3,
     .nodeStatusSend 0 0 1 4, .nodeTempsSend 0 0 2 [], .nodeReset 0 (2 ^ 32) 4 1 (List.range 48) 2047,
     .nodeReset 0 (2 ^ 32 - 1) 0 1 (List.range 48) 2047, .nodeReset 0 (2 ^ 32 - 1) 5 1 (List.range 48) 2047,
     .nodeReset 0 (2 ^ 32 - 1) 4 0 (List.range 48) 2047, .nodeReset 0 (2 ^ 32 - 1) 4 5 (List.range 48) 2047,
     .nodeReset 0 (2 ^ 32 - 1) 4 1 (List.range 49) 2047, .nodeReset 0 (2 ^ 32 - 1) 4 1 [7, 7] 2047, .nodeReset 0 (2 ^ 32 - 1) 4 1 [720] 2047,
     .nodeReset 0 (2 ^ 32 - 1) 4 1 (List.range 48) 2048, .nodeReceiverAlignment 0 0 2 3 true, .nodeReceiverAlignment 0 0 1 4 true,
     .headFault 0 0 720 true] : List Instr) (fun c => !c.wf) = true := by decide +kernel

/-- Ill-formed pair and gang link commands, one for each check. -/
theorem test_refuses_buttress : List.all (
    [.beat 0 2 3 7 7 { lane := 3, seq := 2 ^ 32 - 1 }, .beat 0 1 4 7 7 { lane := 3, seq := 2 ^ 32 - 1 },
     .beat 0 1 3 8 7 { lane := 3, seq := 2 ^ 32 - 1 }, .beat 0 1 3 7 8 { lane := 3, seq := 2 ^ 32 - 1 }, .beat 0 1 3 7 7 { lane := 4 },
     .beatSend 0 2, .buttressLinkDown 0 2 15, .buttressLinkDown 0 1 16, .buttressLinkUp 0 2 15, .buttressLinkUp 0 1 16, .mirror 0 0 0 0 [256],
     .epochEnd 0 0 65536 (2 ^ 32 - 1), .epochEnd 0 0 65535 (2 ^ 32), .handover 0 0 true 32, .msg 0 2 (.ack 0 0 0 0 0 0), .forwardAckTimeout 0 4 63,
     .forwardAckTimeout 0 3 64, .gsync 0 2 .form, .gtime 0 2 true { stamp := 5, rtt := 700 }, .gseam 0 2 0 [] none,
     .pairFormation 0 (2 ^ 64) (2 ^ 32 - 1) 0 true, .pairFormation 0 (2 ^ 64 - 1) (2 ^ 32) 0 true, .heartbeatDatagram 0 4 []] : List Instr) (fun c
         => !c.wf) = true := by decide +kernel

/-- Ill-formed press time and Ethernet commands, one for each check. -/
theorem test_refuses_time : List.all (
    [.sync 0 2 true { domain := 255, seq := 65535 } none, .sync 0 1 true { domain := 256 } none, .sync 0 1 true { seq := 65536 } none,
     .followUp 0 2 true { domain := 255, seq := 65535 } 0, .followUp 0 1 true { domain := 256 } 0, .followUp 0 1 true { seq := 65536 } 0,
     .delayReq 0 2 true { domain := 255, seq := 65535 }, .delayReq 0 1 true { domain := 256 }, .delayReq 0 1 true { seq := 65536 },
     .delayResp 0 2 { domain := 255, seq := 65535 } 0, .delayResp 0 1 { domain := 256 } 0, .delayResp 0 1 { seq := 65536 } 0,
     .pdelayReq 0 2 true { domain := 255, seq := 65535 } 0, .pdelayReq 0 1 true { domain := 256 } 0, .pdelayReq 0 1 true { seq := 65536 } 0,
     .pdelayResp 0 2 { domain := 255, seq := 65535 } 0 none, .pdelayResp 0 1 { domain := 256 } 0 none, .pdelayResp 0 1 { seq := 65536 } 0 none,
     .pdelayRespFollowUp 0 2 { domain := 255, seq := 65535 } 0, .pdelayRespFollowUp 0 1 { domain := 256 } 0,
     .pdelayRespFollowUp 0 1 { seq := 65536 } 0, .announce 0 2 (.heard 255) (List.replicate 10 0), .announce 0 1 (.heard 255) (List.replicate 9 0),
     .arp 0 2 (2 ^ 32 - 1), .arp 0 1 (2 ^ 32), .icmpEcho 0 2 (2 ^ 32 - 1), .icmpEcho 0 1 (2 ^ 32), .camPulse 0 4 0, .ethernetLink 0 2 true] : List
         Instr) (fun c => !c.wf) = true := by decide +kernel

/-- Ill-formed lamp chain and indicator matrix commands, one for each check. -/
theorem test_refuses_lamps : List.all (
    [.chainReturnEnd 0 4 (List.replicate 64 none) 0, .chainReturnEnd 0 3 (List.replicate 65 none) 0,
     .driverLatch 0 256 { highs := [400, 800], low := 50000, temp := 255 }, .driverLatch 0 255 { highs := List.replicate 32769 1 },
     .driverLatch 0 255 { st := List.replicate 15 0 }, .driverLatch 0 255 { st := List.replicate 16 3 }, .driverLatch 0 255 { temp := 256 },
     .driverShareTimeout 0 256, .matrixRowSlot 0 0 (List.replicate 15 0), .rowOvercurrent 0 { row := 16 }] : List Instr) (fun c =>
         !c.wf) = true := by decide +kernel

/-- Ill-formed thermal and calibration commands, one for each check. -/
theorem test_refuses_thermal : List.all (
    [.sensorSample 0 (List.replicate 33 none) 0 none none, .calRunEnd 0 108 [65535] 65535 0, .calRunEnd 0 107 [65536] 65535 0,
     .calRunEnd 0 107 [65535] 65536 0] : List Instr) (fun c => !c.wf) = true := by decide +kernel

/-- One ill-formed submission for each check of a submission, and one at every bound that is well formed. -/
theorem test_refuses_mbox : List.all ([{ ch := 4 }, { slot := 64 }, { tag := 65536 }, { rsvd5 := 32 }, { argLen := 256 }, { rsvd16 := 65536 },
    { args := List.replicate 57 0 }, { args := [256] }, { host := [(2 ^ 64, [])] }, { host := [(0, [256])] }, { width := 0 }, { first := 1 }] :
        List Mbox) (fun m => !m.wf) = true ∧
    Mbox.wf { ch := 3, slot := 63, tag := 65535, rsvd5 := 31, argLen := 255, rsvd16 := 65535, args := List.replicate 56 255,
              host := [(2 ^ 64 - 1, [255])] } = true := by decide +kernel

/-- One ill-formed side-band request for each check of a request, and one at every bound that is well formed. -/
theorem test_refuses_zreq : List.all ([{ bus := 2 }, { tag := 256 }, { flags := 256 }, { payload := List.replicate 256 0 }, { payload := [256] },
    { check := some 256 }] :
    List ZReq) (fun r => !r.wf) = true ∧
    ZReq.wf { bus := 1, tag := 255, flags := 255, payload := List.replicate 255 255, check := some 255 } = true := by decide +kernel

/-! ## The block's words, and values that the spec works out -/

/-- No word spells a command. -/
theorem test_no_word_spells_a_command : decodeTableWord 16 0 = none ∧ decodeTableWord 512 1 = none := by decide

/-- A block whose only set data bit is bit 0 has the check bits 0x6023, and data symbol 29 the column (1, 0, 2, 6)
(10_ndeig_link.md, Block code). -/
theorem test_block_code : codeCheck 1 = 0x6023 ∧ codeColumn 29 = [1, 0, 2, 6] := by decide +kernel

/-- A block with one wrong symbol is corrected (R282). -/
theorem test_block_corrected : decodeBlock (encodeBlock 1 ^^^ (0xF * 2 ^ 116)) = .corrected 1 ∧ decodeBlock (encodeBlock 1) = .clean 1 := by
  decide +kernel

/-- The MORTAR descriptor of the four-column test strip in channel C1 (06_mortar_screening.md, Worked example). -/
def strip : Sec := { len := 512, mem := [(0, 1), (16, 112), (18, 48), (19, 80), (20, 16), (22, 96), (23, 16), (24, 48), (25, 80), (26, 16)] }

/-- Course 0 of the strip: levels 3, 2, 3, 2 and the row −69, 39, 22, 125 for course 1. -/
theorem test_strip_course_0 :
    (diffCourse strip 0 100 100 0 (List.replicate 4 28000) (List.replicate 4 0)).levels = [3, 2, 3, 2] ∧
      (diffCourse strip 0 100 100 0 (List.replicate 4 28000) (List.replicate 4 0)).next = [-69, 39, 22, 125] := by decide +kernel

/-- Course 1 of the strip: levels 2, 3, 3, 3. -/
theorem test_strip_course_1 :
    (diffCourse strip 0 100 100 1 (List.replicate 4 28000) [-69, 39, 22, 125]).levels = [2, 3, 3, 3] := by decide +kernel

/-- The first two corrections of the viscose line, and E = 16 at target 127, which rounds to no change (05, Worked example). -/
theorem test_viscose_corrections :
    (densTarget 128 16 128 8).1 = 127 ∧ (densTarget 128 17 127 8).1 = 126 ∧ (densTarget 128 16 127 8).1 = 127 := by decide

/-- Column 24,892 of the dead-nozzle course: pass 1 places 2 quanta with 3 left over, pass 2 leaves 2 (07, Worked example). -/
theorem test_dead_nozzle :
    (let x := pass1 0 3 5 (3, 2); (x.n1, x.n2, x.o)) = (0, 2, 3) ∧
      (let x := (pass2 (pass1 0 3 5 (3, 2))).1; (x.n1, x.n2, x.o)) = (0, 3, 2) := by decide

/-- The stopping distance of the starved stream, 257,438 courses, and its back-up distance, 279,521 (09, Worked example). -/
theorem test_starved_stream :
    let d : Sec := { len := 64, mem := [(4, 0x46), (5, 0x5C), (8, 0x46), (9, 0x5C), (20, 200), (36, 0xD0), (37, 7)] }
    stopDist d { n := 110236 } = 257438 ∧ backupDist d 110236 = 279521 := by decide +kernel

/-- Row C of course 1,000,000 fires 4,704 ns after the carrier's FIRE_TIME at PERIOD 9,407 (10, Worked example). -/
theorem test_row_time : rowTime 34814 9407 128 = 39518 ∧ 75258 / 8 = 9407 := by decide

/-! ## One step of some commands -/

/-- SYS.PING answers its bytes in slot 63 of channel 3 (R503). -/
theorem test_ping : leaves (.sysPing 0 (msg [7, 8])) (st .boot) (fun t =>
    ((t.chan 3).response 63).result == 0 && ((t.chan 3).response 63).data.take 2 == [7, 8] && (t.chan 3).complete.getLsbD 63) = true := by
  decide +kernel

/-- STATE.ARM arms a module that nothing holds back (R60). -/
theorem test_arm : leaves (.stateArm 0 (msg [])) armable (fun t => t.ident.opState == .ready && t.ident.prevState == .rest) = true := by
  decide +kernel

/-- V_AUX in OFF: the Plinth starts and the module is in STANDBY (R447). -/
theorem test_aux : leaves (.vAuxApplied 0 3 12000) { State.reset with
    power := { State.reset.power with mainOk := false, auxOk := false, domains := 0 }, ident := { State.reset.ident with opState := .off } }
    (fun t => t.ident.opState == .standby) = true := by decide +kernel

/-- A command that cannot exist has no effect. -/
theorem test_ill_formed : exec (.markEdge 0 { k := 13, n := 1, level := true }) State.reset = .next State.reset := rfl

/-- Enabling a vector whose cause is set sends its message (R45). -/
theorem test_enable_sends : leaves (.intEnableWrite 0 1 (2 ^ 63)) (vec63 true false false) (fun t => t.out == [.msix 1 63 0 0]) = true := by
  decide +kernel

/-- W1C clears exactly the bits written 1 (R45). -/
theorem test_cause_clear : leaves (.intCauseClear 0 1 (2 ^ 62) 0) (vec63 true true false) (fun t => t.fn1.int.cause == setBit 0 63 true) = true := by
  decide +kernel

/-- A quadrature count from 0 to 2 adds one (R214). -/
theorem test_quad_count : leaves (.positionChange 0 0 (.lines { n := 200, a := true, b := false, z := false })) quad0 (fun t =>
    t.web.enc0.pos == 1 && t.web.enc0.hwm == 1) = true := by
  decide +kernel

/-- A free node grants an ACQUIRE that is 31 epochs ahead (R295). -/
theorem test_node_grants : leaves (.nodeAcquire 0 9 1 3 (acquire1 27 2000).length (ofBits (acquire1 27 2000))) (withNode (node9 false 0)) (fun t =>
    (t.node 9).any (fun n => n.held && n.holder == 1 && n.epoch == 27 && n.acqResult == 1)) = true := by decide +kernel

/-- TAMPER counts an opening (R440). -/
theorem test_tamper : leaves (.tamper 0) State.reset (fun t => t.plinth.tamper == 1 && t.plinth.queue.length == 1) = true := by decide +kernel

/-- TAIL 65 on a ring of 64 stops the channel with NO_SPACE, and TAIL 64 does not (R84). -/
theorem test_tail : leaves (.tailWrite 0 1 13 65 []) (ring13 .running) (fun t =>
    (t.ch 1 13).st == .stopped && (t.ch 1 13).result == Res.noSpace) = true ∧
    leaves (.tailWrite 0 1 13 64 []) (ring13 .idle) (fun t => (t.ch 1 13).st == .idle && (t.ch 1 13).tail == 64) = true := by decide +kernel

/-- UNKNOWN_VERB answers UNSUPPORTED (R56). -/
theorem test_unknown_verb : leaves (.unknownVerb 0 0x0205 (msg [])) (st .rest) (fun t =>
    ((t.chan 3).response 63).result == Res.unsupported) = true := by
  decide +kernel

/-- A read of bytes 0 to 7 of a ready response sets READ_AGAIN and clears COMPLETE (R53). -/
theorem test_response_read : leaves (.responseRead 0 3 63 7 1) answeredOnce (fun t => ((t.chan 3).response 63).readAgain) = true ∧
    leaves (.responseRead 0 3 63 8 56) answeredOnce (fun t => !((t.chan 3).response 63).readAgain) = true := by decide +kernel

/-- In the overlap with the West neighbour the 32 shares climb from 1/64 to 63/64, as between two heads of one module, and the neighbour's
H00 owns what H59 does not; without a neighbour H59 owns every column (R189, R355). -/
theorem test_gang_owner :
    (let b : BuildIn := { bar := 0, sec := {}, states := ⟨0, []⟩, inst := fun _ => true, f := 0, y := 0, xOff := 0, level := fun _ => 6, cols := (0, 120992), west := some ⟨3, []⟩ }
     (b.owner 120960 0, b.owner 120960 1, b.owner 120991 62, b.owner 120991 63) = (60, 59, 60, 59) ∧ b.cap 60 1 120960 = 0) ∧
    (let b : BuildIn := { bar := 0, sec := {}, states := ⟨0, []⟩, inst := fun _ => true, f := 0, y := 0, xOff := 0, level := fun _ => 6, cols := (0, 120992) }
     b.owner 120991 0 = 59) := by decide +kernel

/-- A span extends 32 columns beyond an edge that faces another member (R352): 16 pixels at 600 dpi. -/
theorem test_gang_span : jobSpan { east := true, xHalf := true } 0 = (0, 30280) ∧ jobSpan { east := true } 1 = (60496, 60528) ∧
    jobSpan { west := true } 1 = (60464, 60560) ∧ jobSpan {} 0 = (0, 60528) := by decide

/-- The span of a job of 100 columns from column 60,450 on: 78 for Wythe 0 and 86 for Wythe 1, each span with 32 columns of the
other wythe's, counted from the job's first
column (R93, R134). -/
theorem test_narrow_span : jobSpan { first := 60450, width := 100 } 0 = (0, 78) ∧ jobSpan { first := 60450, width := 100 } 1 = (14, 86) := by decide

/-- Where V_MAIN stands (R448): under below 33 V, over above 63 V, reversed below 0 V. -/
theorem test_supply_kinds : [-1, 32999, 33000, 63000, 63001].map (supplyKind 0) = [3, 1, 4, 4, 2] := by decide

/-- The four-sample strip that the compressor writes reads back as it was, and its CHECK is its samples' (R121). -/
theorem test_compressed_strip :
    (match compressStrip 8 15872 0 { fluid := 3, line0 := 7, px0 := 0, serial := 0 } [[5, 6], [65535, 0]] with
     | .ok l => decodeStrip (l.map (·.2)) == some [[5, 6], [65535, 0]]
     | .error _ => false) = true := by decide +kernel

/-- The length of an IDLE on the line is that of its stuffed bits (R276 to R279). -/
theorem test_idle_length : [0, 127, 128, 255].all (fun q => (stuff (unitBits 0x02 q []) false 0).length == idleLen q) = true := by decide +kernel

end

end Sys2Proof.Tests
end

section
/-! SUPPORT. The operating states as STATE shows them (R41, R42), verbs sent in a state that does not accept them (R57), and
interrupt messages (R43 to R45). -/

namespace Sys2Proof.Machine

open Sys2Proof Sys2Proof.Safety

/-! ## Operating states (R41, R42) -/

/-- The codes from 8 on are not used (R42). -/
theorem OpState.code_lt (o : OpState) : o.code < 8 := by
  cases o <;> decide

/-- STATE is the same word on both functions (R41). -/
theorem State.regWord_state (s : State) (f : Nat) : s.regWord f 0x10 = s.stateWord := rfl

/-- Bits 3:0 of STATE (R41). -/
theorem State.stateWord_opState (s : State) : s.stateWord % 16 = s.ident.opState.code := by
  have := s.ident.opState.code_lt
  unfold State.stateWord
  omega

/-- Bits 7:4 of STATE (R41). -/
theorem State.stateWord_prevState (s : State) : s.stateWord / 16 % 16 = s.ident.prevState.code := by
  have := s.ident.opState.code_lt
  have := s.ident.prevState.code_lt
  unfold State.stateWord
  omega

/-- Settles O47: every code is below 8, so the two states do not meet in the STATE word. -/
theorem operatingStateCodes : Obligations.OperatingStateCodes :=
  ⟨⟨rfl, rfl, rfl, rfl, rfl, rfl, rfl, rfl⟩, OpState.code_lt,
    fun s f => by
      rw [s.regWord_state f]
      exact ⟨s.stateWord_opState, s.stateWord_prevState⟩⟩

/-! ## Verbs in a state that does not accept them (R57) -/

/-- Settles O13: every listed verb judges its states before anything else (`runVerb_form`), and by the acceptance table. -/
theorem wrongStateAnswers : Obligations.WrongStateAnswers := by
  intro ch q s hverb hstate
  obtain ⟨named, l, f, hform⟩ := runVerb_form ch s hverb
  rw [hform, hstate, verbRun_wrong, wrongState_eq]

/-! ## Bits of a vector -/

/-- The bits of a vector after one is set. -/
theorem getLsbD_setBit_true {w : Nat} (x : BitVec w) (i j : Nat) :
    (setBit x i true).getLsbD j = (x.getLsbD j || (decide (j < w) && decide (i = j))) := by
  rw [setBit, if_pos rfl, BitVec.getLsbD_or, BitVec.getLsbD_ofNat, Nat.testBit_two_pow]

/-- A bit that is set is set. -/
theorem getLsbD_setBit_self {w : Nat} (x : BitVec w) {i : Nat} (h : i < w) : (setBit x i true).getLsbD i = true := by
  simp [getLsbD_setBit_true, h]

/-- `bitAt` reads the bit that `Nat.testBit` reads. -/
theorem bitAt_eq_testBit (n i : Nat) : bitAt n i = n.testBit i := by
  rw [bitAt, Nat.testBit_eq_decide_div_mod_eq, Bool.beq_eq_decide_eq]

/-- A number below `n` stands once among those below `n`. -/
theorem filter_range_beq {n v : Nat} (hv : v < n) : (List.range n).filter (fun w => w == v) = [v] := by
  induction n with
  | zero => exact absurd hv (Nat.not_lt_zero v)
  | succ n ih =>
    rw [List.range_succ, List.filter_append]
    by_cases hvn : v = n
    · have hbelow : (List.range n).filter (fun w => w == v) = [] := by
        refine List.filter_eq_nil_iff.mpr fun w hw => ?_
        have := List.mem_range.mp hw
        rw [beq_iff_eq]
        omega
      rw [hbelow, List.filter_cons_of_pos (p := fun w => w == v) (beq_iff_eq.mpr hvn.symm), hvn]
      rfl
    · have hlast : ¬(n == v) = true := fun h => hvn (beq_iff_eq.mp h).symm
      rw [ih (by omega), List.filter_cons_of_neg (p := fun w => w == v) hlast]
      rfl

/-- A pass over the vectors in which vector `v` alone acts is the action of `v`. -/
theorem foldl_range_single {α : Type} {p : Nat → Bool} (g : α → Nat → α) {n v : Nat} (hv : v < n)
    (hp : ∀ w, w < n → p w = (w == v)) (a : α) :
    (List.range n).foldl (fun a w => if p w then g a w else a) a = g a v := by
  rw [← List.foldl_filter, List.filter_congr (fun w hw => hp w (List.mem_range.mp hw)), filter_range_beq hv,
    List.foldl_cons, List.foldl_nil]

/-- A pass over the vectors in which none acts changes nothing. -/
theorem foldl_range_none {α : Type} {p : Nat → Bool} (g : α → Nat → α) {n : Nat} (hp : ∀ w, w < n → p w = false) (a : α) :
    (List.range n).foldl (fun a w => if p w then g a w else a) a = a := by
  have hfilter : (List.range n).filter p = [] :=
    List.filter_eq_nil_iff.mpr fun w hw => by rw [hp w (List.mem_range.mp hw)]; exact Bool.false_ne_true
  rw [← List.foldl_filter, hfilter, List.foldl_nil]

/-! ## Messages that are due (R43, R45) -/

@[simp] theorem State.fn_setFn (f : Nat) (x : Fn) (s : State) : (s.setFn f x).fn f = x := by
  unfold State.fn State.setFn
  split <;> rfl

@[simp] theorem State.fn_send (f : Nat) (o : Out) (s : State) : (s.send o).fn f = s.fn f := rfl

/-- A vector's message is a matter of its table entry alone (R43). -/
theorem msixOut_congr (f v : Nat) {a b : IntBlk} (h : a.table = b.table) : msixOut f v a = msixOut f v b := by
  unfold msixOut
  rw [h]

/-- A due message of a masked vector waits in the pending-bit array. -/
theorem State.message_masked {f v : Nat} {s : State} (h : (s.fn f).int.masked.getLsbD v = true) :
    s.message f v = s.setFn f { s.fn f with int := { (s.fn f).int with pba := setBit (s.fn f).int.pba v true } } := by
  unfold State.message
  exact if_pos h

/-- A due message of a vector that is not masked goes out. -/
theorem State.message_unmasked {f v : Nat} {s : State} (h : (s.fn f).int.masked.getLsbD v = false) :
    (s.message f v).out = msixOut f v (s.fn f).int :: s.out := by
  simp [State.message, h]

@[simp] theorem State.message_cause (f v : Nat) (s : State) : ((s.message f v).fn f).int.cause = (s.fn f).int.cause := by
  unfold State.message
  dsimp only
  split <;> simp

@[simp] theorem State.message_enable (f v : Nat) (s : State) : ((s.message f v).fn f).int.enable = (s.fn f).int.enable := by
  unfold State.message
  dsimp only
  split <;> simp

/-! ## A source fires (R45) -/

/-- The state once INT_CAUSE bit `v` of a function is set. -/
def State.causeSet (f v : Nat) (s : State) : State :=
  s.setFn f { s.fn f with int := { (s.fn f).int with cause := setBit (s.fn f).int.cause v true } }

@[simp] theorem State.causeSet_int (f v : Nat) (s : State) :
    ((s.causeSet f v).fn f).int = { (s.fn f).int with cause := setBit (s.fn f).int.cause v true } := by
  simp [State.causeSet]

@[simp] theorem State.causeSet_out (f v : Nat) (s : State) : (s.causeSet f v).out = s.out := by
  simp [State.causeSet]

/-- A source whose bit is already 1, or whose vector is not enabled, sets the bit and no more. -/
theorem State.raise_quiet {f v : Nat} {s : State}
    (h : (s.fn f).int.cause.getLsbD v = true ∨ (s.fn f).int.enable.getLsbD v = false) : s.raise f v = s.causeSet f v := by
  unfold State.raise
  exact if_neg (by rcases h with h | h <;> simp [h])

/-- A source whose bit goes from 0 to 1 while its vector is enabled makes a message due. -/
theorem State.raise_due {f v : Nat} {s : State} (hcause : (s.fn f).int.cause.getLsbD v = false)
    (henable : (s.fn f).int.enable.getLsbD v = true) : s.raise f v = (s.causeSet f v).message f v := by
  unfold State.raise
  exact if_pos (by simp [hcause, henable])

/-- Whatever else it does, a source that fires sets its bit. -/
theorem State.raise_cause (f v : Nat) (s : State) :
    ((s.raise f v).fn f).int.cause = setBit (s.fn f).int.cause v true := by
  unfold State.raise
  dsimp only
  split <;> simp

/-- The message of a source whose bit goes from 0 to 1 while its vector is enabled and not masked. -/
theorem State.raise_sends {f v : Nat} {s : State} (hcause : (s.fn f).int.cause.getLsbD v = false)
    (henable : (s.fn f).int.enable.getLsbD v = true) (hmask : (s.fn f).int.masked.getLsbD v = false) :
    (s.raise f v).out = msixOut f v (s.fn f).int :: s.out := by
  rw [State.raise_due hcause henable, State.message_unmasked (by simpa using hmask), State.causeSet_out]
  rw [msixOut_congr f v (b := (s.fn f).int) (by simp)]

/-- The pending bit of a source whose bit goes from 0 to 1 while its vector is enabled and masked. -/
theorem State.raise_pends {f v : Nat} {s : State} (hcause : (s.fn f).int.cause.getLsbD v = false)
    (henable : (s.fn f).int.enable.getLsbD v = true) (hmask : (s.fn f).int.masked.getLsbD v = true) :
    (s.raise f v).out = s.out ∧ ((s.raise f v).fn f).int.pba = setBit (s.fn f).int.pba v true := by
  rw [State.raise_due hcause henable, State.message_masked (by simpa using hmask)]
  simp

/-! ## Writes to INT_CAUSE (R45) -/

/-- The state once a W1C write has cleared INT_CAUSE bits of a function, and their pending bits with them (R43). -/
def State.causesCleared (f c : Nat) (s : State) : State :=
  s.setFn f { s.fn f with int := { (s.fn f).int with
    cause := (s.fn f).int.cause &&& ~~~(BitVec.ofNat 64 c), pba := (s.fn f).int.pba &&& ~~~(BitVec.ofNat 64 c) } }

@[simp] theorem State.causesCleared_int (f c : Nat) (s : State) :
    ((s.causesCleared f c).fn f).int = { (s.fn f).int with
      cause := (s.fn f).int.cause &&& ~~~(BitVec.ofNat 64 c), pba := (s.fn f).int.pba &&& ~~~(BitVec.ofNat 64 c) } := by
  simp [State.causesCleared]

@[simp] theorem State.causesCleared_out (f c : Nat) (s : State) : (s.causesCleared f c).out = s.out := by
  simp [State.causesCleared]

/-- Clearing vector `v` leaves its bit 0. -/
theorem State.causesCleared_getLsbD {v : Nat} (f : Nat) (s : State) (hv : v < 64) :
    ((s.causesCleared f (2 ^ v)).fn f).int.cause.getLsbD v = false := by
  rw [State.causesCleared_int]
  dsimp only
  rw [BitVec.getLsbD_and, BitVec.getLsbD_not, BitVec.getLsbD_ofNat, Nat.testBit_two_pow_self]
  simp [hv]

/-- A W1C write while no source fires clears its bits and no more. -/
theorem State.intCauseClear_alone {f : Nat} {s : State} (c : Nat) (hr : s.reachable f = true) :
    s.intCauseClear f c 0 = s.causesCleared f c := by
  unfold State.intCauseClear
  rw [if_neg (by simp [hr])]
  refine foldl_range_none (fun s w => State.raise f w s) (fun w _ => ?_) (s.causesCleared f c)
  rw [bitAt_eq_testBit, Nat.zero_testBit]

/-- A W1C write while the source of vector `v` alone fires clears its bits first, and the source then fires. -/
theorem State.intCauseClear_again {f v : Nat} {s : State} (c : Nat) (hv : v < 64) (hr : s.reachable f = true) :
    s.intCauseClear f c (2 ^ v) = (s.causesCleared f c).raise f v := by
  unfold State.intCauseClear
  rw [if_neg (by simp [hr])]
  refine foldl_range_single (fun s w => State.raise f w s) hv (fun w _ => ?_) (s.causesCleared f c)
  rw [bitAt_eq_testBit, Nat.testBit_two_pow, Bool.eq_iff_iff, decide_eq_true_iff, beq_iff_eq]
  exact eq_comm

/-! ## Writes to INT_ENABLE (R45) -/

/-- The state once INT_ENABLE of a function holds a value. -/
def State.enablesSet (f : Nat) (e : BitVec 64) (s : State) : State :=
  s.setFn f { s.fn f with int := { (s.fn f).int with enable := e } }

@[simp] theorem State.enablesSet_int (f : Nat) (e : BitVec 64) (s : State) :
    ((s.enablesSet f e).fn f).int = { (s.fn f).int with enable := e } := by
  simp [State.enablesSet]

@[simp] theorem State.enablesSet_out (f : Nat) (e : BitVec 64) (s : State) : (s.enablesSet f e).out = s.out := by
  simp [State.enablesSet]

/-- A write to INT_ENABLE that enables vector `v` alone, whose cause bit is 1, makes its message due. -/
theorem State.intEnable_due {f v : Nat} {s : State} (hv : v < 64) (hr : s.reachable f = true)
    (henable : (s.fn f).int.enable.getLsbD v = false) (hcause : (s.fn f).int.cause.getLsbD v = true) :
    s.intEnable f (setBit (s.fn f).int.enable v true).toNat =
      (s.enablesSet f (setBit (s.fn f).int.enable v true)).message f v := by
  unfold State.intEnable
  rw [if_neg (by simp [hr])]
  dsimp only
  rw [BitVec.ofNat_toNat, BitVec.setWidth_eq]
  refine foldl_range_single (fun s w => State.message f w s) hv (fun w hw => ?_) (s.enablesSet f _)
  rw [getLsbD_setBit_true]
  by_cases hwv : w = v
  · subst hwv
    rw [henable, hcause]
    simp [hw]
  · simp [hwv, Ne.symm hwv]

/-! ## Interrupt messages (R45) -/

/-- Settles O48: a source that fires, a W1C write and a write to INT_ENABLE are each a change of the interrupt block, which the
message of one vector then follows or not. -/
theorem interruptMessages : Obligations.InterruptMessages := by
  refine ⟨fun f v s _ => ?raise, fun f c s hr => ?clear, fun f v s hv hr => ?again, fun f v s hv hr => ?enable⟩
  case raise =>
    refine ⟨s.raise_cause f v, fun h => ?_, fun hcause henable =>
      ⟨State.raise_sends hcause henable, State.raise_pends hcause henable⟩⟩
    rw [State.raise_quiet h]
    simp
  case clear =>
    rw [State.intCauseClear_alone c hr]
    simp
  case again =>
    dsimp only
    rw [State.intCauseClear_again _ hv hr]
    refine ⟨?_, fun henable hmask => ?_⟩
    · rw [State.raise_cause]
      exact getLsbD_setBit_self _ hv
    · rw [State.raise_sends (s.causesCleared_getLsbD f hv) (by simpa using henable) (by simpa using hmask),
        State.causesCleared_out, msixOut_congr f v (b := (s.fn f).int) (by simp)]
  case enable =>
    intro x t henable hcause hmask
    have ht : t = (s.enablesSet f (setBit x.int.enable v true)).message f v := State.intEnable_due hv hr henable hcause
    rw [ht]
    refine ⟨by simp, ?_⟩
    rw [State.message_unmasked (by simpa using hmask), State.enablesSet_out, msixOut_congr f v (b := x.int) (by simp [x])]

end Sys2Proof.Machine
end

section
/-! SUPPORT. The residual of a sample against its prediction, its code, and what the decoder makes of the code (R110). The decoder
rebuilds (P + e) mod 2^W from the code of every integer e; the range of e bounds the code and makes that value the sample. -/

namespace Sys2Proof.Machine

open Sys2Proof Sys2Proof.Safety

/-! ## The code of a residual (R110) -/

/-- The code m of a residual e (R110). -/
def residualCode (e : Int) : Int := if 0 ≤ e then 2 * e else -2 * e - 1

@[simp] theorem residualCode_natCast (n : Nat) : residualCode n = 2 * n := if_pos (Int.natCast_nonneg n)

@[simp] theorem residualCode_negSucc (n : Nat) : residualCode (Int.negSucc n) = (2 * n + 1 : Nat) := by
  unfold residualCode
  rw [if_neg (Int.negSucc_not_nonneg n).mp]
  omega

theorem residualCode_nonneg (e : Int) : 0 ≤ residualCode e := by
  cases e with
  | ofNat n => rw [Int.ofNat_eq_natCast, residualCode_natCast]; omega
  | negSucc n => rw [residualCode_negSucc]; exact Int.natCast_nonneg _

/-- A residual of the range −h to h − 1 has its code below 2h. -/
theorem residualCode_lt {e h : Int} (hlo : -h ≤ e) (hhi : e ≤ h - 1) : residualCode e < 2 * h := by
  unfold residualCode
  split <;> omega

/-! ## The decoder (R110) -/

theorem rebuild_even (w p n : Nat) : rebuild w p (2 * n) = (p + n) % 2 ^ w := by
  unfold rebuild
  rw [if_pos (by omega), Nat.mul_div_cancel_left n Nat.two_pos]

theorem rebuild_odd (w p n : Nat) : rebuild w p (2 * n + 1) = (p + 2 ^ w - (n + 1) % 2 ^ w) % 2 ^ w := by
  unfold rebuild
  rw [if_neg (by omega), show (2 * n + 1 + 1) / 2 = n + 1 by omega]

/-- The decoder adds the residual to the prediction, modulo 2^W. -/
theorem rebuild_residualCode (w p : Nat) (e : Int) : (rebuild w p (residualCode e).toNat : Int) = (p + e) % 2 ^ w := by
  cases e with
  | ofNat n =>
    have hm : (residualCode (Int.ofNat n)).toNat = 2 * n := by rw [Int.ofNat_eq_natCast, residualCode_natCast]; omega
    rw [hm, rebuild_even, Int.natCast_emod, Int.natCast_add, Int.natCast_pow]
    rfl
  | negSucc n =>
    have hle : (n + 1) % 2 ^ w ≤ p + 2 ^ w := Nat.le_trans (Nat.le_of_lt (Nat.mod_lt _ (Nat.two_pow_pos w))) (Nat.le_add_left _ _)
    rw [residualCode_negSucc, Int.toNat_natCast, rebuild_odd, Int.natCast_emod, Int.ofNat_sub hle, Int.negSucc_eq]
    simp only [Int.natCast_add, Int.natCast_emod, Int.natCast_pow, Int.cast_ofNat_Int]
    have hwrap : (p + 2 ^ w - (n + 1) : Int) = p + -(n + 1) + 2 ^ w := by omega
    rw [Int.sub_emod_emod, hwrap, Int.add_emod_right]

/-- A sample of W bits is its prediction plus its residual, modulo 2^W. -/
theorem sample_eq_emod {w p x : Nat} {e k : Int} (hx : x < 2 ^ w) (he : e = x - p + k * 2 ^ w) :
    (x : Int) = (p + e) % 2 ^ w := by
  have hsum : (p + e : Int) = x + k * 2 ^ w := by omega
  rw [hsum, Int.add_mul_emod_self_right, Int.emod_eq_of_lt (Int.natCast_nonneg x) (by exact_mod_cast hx)]

/-- Settles O51: the residual's range is that of a code below 2 · 2^(W−1), and the decoder adds the residual to the prediction. -/
theorem residualsRebuild : Obligations.ResidualsRebuild := by
  intro w p x e k hw _ hx he hlo hhi
  have hsample := sample_eq_emod hx he
  refine ⟨residualCode_nonneg e, ?_, ?_, hsample⟩
  · calc residualCode e < 2 * 2 ^ (w - 1) := residualCode_lt hlo hhi
      _ = 2 ^ w := by rw [Int.mul_comm, ← Int.pow_succ, Nat.succ_eq_add_one, Nat.sub_add_cancel hw]
  · exact_mod_cast (rebuild_residualCode w p e).trans hsample.symm

end Sys2Proof.Machine
end

section
/-! SUPPORT. TIME.SET (R371, R374): how a command on an empty mailbox reaches its verb, what the verb answers, and what its step does to
press time. A step writes records and sends TIME units, which leave the clock and the time block alone. -/

namespace Sys2Proof.Machine

open Sys2Proof Sys2Proof.Safety

/-! ## A usable command reaches its verb (R50, R56) -/

/-- A listed verb that neither the image, the pair role nor the gang refuses runs on both wythes and is carried on. -/
theorem runCmd_carried {ch : Nat} {q : QCmd} {s : State} (hv : q.verb ∈ verbTable)
    (hrom : s.ident.romOnly = true → q.verb = 0x0101 ∨ q.verb = 0x0104) (hrole : s.roleRefusal q = none)
    (halone : s.aloneInRest q = false) : s.runCmd ch q = State.carry ch q (bothWythes ch q s) := by
  have hlisted : q.verb ∈ verbCodes := hv
  have htaken : ¬((!(verbCodes.contains q.verb)) = true ∨ (s.ident.romOnly = true ∧ q.verb ≠ 0x0101 ∧ q.verb ≠ 0x0104)) := by
    rintro (hunlisted | ⟨hromOnly, hinfo, hreset⟩)
    · exact absurd hlisted (by simpa using hunlisted)
    · exact (hrom hromOnly).elim hinfo hreset
  unfold State.runCmd
  rw [if_neg htaken, hrole]
  dsimp only
  rw [if_neg (by simp [halone])]

/-- A usable command of a listed verb meets no refusal once its channel runs it. -/
theorem runCmd_usable {verb : Nat} {m : Mbox} {a : State} (hu : Usable verb m a) (hv : verb ∈ verbTable) :
    ((a.submit verb m).modChan m.ch (fun x => { x with running := true })).runCmd m.ch (cmdOf verb m) =
      State.carry m.ch (cmdOf verb m)
        (bothWythes m.ch (cmdOf verb m) ((a.submit verb m).modChan m.ch (fun x => { x with running := true }))) := by
  obtain ⟨st, n, hsubmit⟩ := submit_usable hu
  obtain ⟨-, -, -, -, hrom, hrole, halone⟩ := hu
  rw [hsubmit]
  exact runCmd_carried hv hrom hrole halone

/-- A listed verb on an empty mailbox leaves its answer. -/
theorem after_submit_answered {verb : Nat} {m : Mbox} {s : State} (dt : Nat) (hu : Usable verb m (s.opens dt)) (hv : verb ∈ verbTable) :
    after dt (fun s => s.submit verb m) s =
      answered m.ch (cmdOf verb m) (runVerb m.ch (cmdOf verb m) (running verb m (s.opens dt))).1
        (runVerb m.ch (cmdOf verb m) (running verb m (s.opens dt))).2 s := by
  rw [after_submit dt hu]
  dsimp only
  rw [runCmd_usable hu hv]
  rfl

/-- TIME.SET on an empty mailbox leaves the answer of its verb. -/
theorem exec_timeSet_answered {dt : Nat} {m : Mbox} {s t : State} {rep : Option Reply} (hu : Usable 0x0B02 m (s.opens dt))
    (hr : vTimeSet m.ch (cmdOf 0x0B02 m) (running 0x0B02 m (s.opens dt)) = (t, rep)) :
    exec (.timeSet dt m) s = .next (answered m.ch (cmdOf 0x0B02 m) t rep s) := by
  have hwf : Instr.wf (.timeSet dt m) = true := hu.1
  have hafter := after_submit_answered dt hu (by decide)
  rw [runVerb_vTimeSet _ rfl, hr] at hafter
  rw [exec_timeSet, hwf, perform_next]
  exact congrArg Host.Outcome.next hafter

/-- The operating state is as it was when the command arrived. -/
theorem running_idleState {verb : Nat} {m : Mbox} {a : State} (hu : Usable verb m a) :
    (running verb m a).idleState = a.idleState := by
  obtain ⟨st, mb, ti, hrunning⟩ := running_fields hu
  rw [hrunning]
  rfl

/-! ## What TIME.SET answers (R374) -/

/-- With no action by time pending and no other step waiting nothing holds a step up (R372). -/
theorem State.stepBusy_none {s : State} (hacts : s.acts.pend.any (·.byTime) = false) (hreq : s.time.stepReq = none) :
    s.stepBusy = none := by
  unfold State.stepBusy
  rw [if_neg (by simp [hacts]), hreq]

/-- An odd press time is BAD_ARG at byte 8. -/
theorem vTimeSet_odd {ch : Nat} {q : QCmd} {s : State} (hidle : s.idleState = true) (htidy : Tidy q [(8, 8)])
    (hbit : bitAt (q.num 8 8) 0 = true) : vTimeSet ch q s = (s, some (Reply.badArg 8)) := by
  have hfault : q.fault [(8, 8)] [(8, bitAt (q.num 8 8) 0)] = some 8 := by
    rw [hbit]
    simp [QCmd.fault, htidy.1, htidy.2]
  unfold vTimeSet
  exact verbRun_bad _ s hidle hfault

section
variable {ch : Nat} {q : QCmd} {s : State} (hidle : s.idleState = true) (htidy : Tidy q [(8, 8)]) (hbit : bitAt (q.num 8 8) 0 = false)
  (hacts : s.acts.pend.any (·.byTime) = false) (hreq : s.time.stepReq = none)
include hidle htidy hbit hacts hreq

/-- TIME.SET with a good argument, while nothing holds a step up, turns on PHASE_SRC alone. -/
theorem vTimeSet_even : vTimeSet ch q s =
    if tmPhaseSrc s.tsec ≠ 0 then (s, some (Reply.fail Res.mismatch 0x0B02))
    else (s.askStep (0, some (q.num 8 8), 0x0B02, ch, q.slot), none) := by
  have hfault : q.fault [(8, 8)] [(8, bitAt (q.num 8 8) 0)] = none := QCmd.fault_none htidy (by simpa using hbit)
  unfold vTimeSet
  dsimp only
  rw [verbRun_good _ s hidle hfault, State.stepBusy_none hacts hreq]

/-- A module that follows a phase source does not take a press time. -/
theorem vTimeSet_phaseSrc (hsrc : tmPhaseSrc s.tsec ≠ 0) :
    vTimeSet ch q s = (s, some (Reply.fail Res.mismatch 0x0B02)) := by
  rw [vTimeSet_even hidle htidy hbit hacts hreq, if_pos hsrc]

/-- Otherwise TIME.SET asks for its step and stays pending. -/
theorem vTimeSet_asks (hsrc : tmPhaseSrc s.tsec = 0) :
    vTimeSet ch q s = (s.askStep (0, some (q.num 8 8), 0x0B02, ch, q.slot), none) := by
  rw [vTimeSet_even hidle htidy hbit hacts hreq, if_neg (not_not_intro hsrc)]

end

/-! ## What leaves the clock and the time block alone -/

/-- The clock and the time block. -/
def State.timing (s : State) : Clock × Time := (s.clock, s.time)

/-- A fold whose step leaves the clock and the time block alone leaves them alone. -/
theorem foldl_timing {α : Type} (g : State → α → State) (l : List α) (s : State) (h : ∀ s a, (g s a).timing = s.timing) :
    (l.foldl g s).timing = s.timing := by
  induction l generalizing s with
  | nil => rfl
  | cons a l ih => rw [List.foldl_cons, ih, h]

@[simp] theorem State.setFn_timing (f : Nat) (x : Fn) (s : State) : (s.setFn f x).timing = s.timing := by
  simp [State.timing]

@[simp] theorem State.message_timing (f v : Nat) (s : State) : (s.message f v).timing = s.timing := by
  unfold State.message
  dsimp only
  split <;> exact State.setFn_timing ..

@[simp] theorem State.raise_timing (f v : Nat) (s : State) : (s.raise f v).timing = s.timing := by
  unfold State.raise
  dsimp only
  split <;> simp

@[simp] theorem State.queueRecord_timing (e : Ev) (s : State) : (s.queueRecord e).timing = s.timing := by
  unfold State.queueRecord
  repeat' split
  all_goals rfl

@[simp] theorem State.putRecord_timing (e : Ev) (s : State) : (s.putRecord e).timing = s.timing := by
  unfold State.putRecord
  dsimp only
  split <;> exact State.queueRecord_timing ..

@[simp] theorem State.emit_timing (source code : Nat) (detail : Int) (data : List Int) (s : State) :
    (s.emit source code detail data).timing = s.timing := State.putRecord_timing ..

@[simp] theorem State.timeRecord_timing (code : Nat) (detail : Int) (data : List Int) (s : State) :
    (s.timeRecord code detail data).timing = s.timing := by
  simp [State.timeRecord]

@[simp] theorem State.sendUnit_timing (l prio kind : Nat) (data : List Nat) (s : State) :
    (s.sendUnit l prio kind data).timing = s.timing := by
  unfold State.sendUnit
  split <;> rfl

theorem State.modTime_timing (f : Time → Time) (s : State) : (s.modTime f).timing = (s.timing.1, f s.timing.2) := rfl

@[simp] theorem State.modChan_timing (c : Nat) (f : Chan → Chan) (s : State) : (s.modChan c f).timing = s.timing := by
  simp [State.timing]

@[simp] theorem State.respond_timing (c : Nat) (r : Reply) (s : State) : (s.respond c r).timing = s.timing := by
  unfold State.respond
  dsimp only
  repeat' split
  all_goals simp

/-! ## The step takes effect (R371, R374) -/

/-- A step moves press time, counts itself, and no step waits any more. -/
theorem State.applyStep_timing (d : Int) (verb : Nat) (s : State) : (s.applyStep d verb).timing =
    ({ s.clock with press := (((s.clock.press : Int) + d) % (2 ^ 64 : Nat)).toNat },
      { s.time with steps := satInc 65535 s.time.steps, stepReq := none }) := by
  unfold State.applyStep
  rw [State.timeRecord_timing, State.modTime_timing, foldl_timing _ _ _ (fun s l => State.sendUnit_timing l 3 0x04 [0] s)]
  rfl

/-- The step from a press time to another ends there. -/
theorem press_step_to {v : Nat} (p : Nat) (hv : v < 2 ^ 64) : (((p : Int) + ((v : Int) - p)) % (2 ^ 64 : Nat)).toNat = v := by
  omega

/-- The step of a TIME.SET takes effect at its boundary, and its command completes. -/
theorem State.stepApply_timeSet {s : State} {d : Int} {v ch slot : Nat} (hreq : s.time.stepReq = some (d, some v, 0x0B02, ch, slot))
    (hboundary : s.now % 125000 = 0) (hprint : s.printHold = false) : s.stepApply =
      ((s.applyStep ((v : Int) - s.clock.press) 0x0B02).modTime (fun t => { t with valid := true })).respond ch {} := by
  unfold State.stepApply
  rw [hreq]
  dsimp only
  rw [if_neg (by simp [hboundary, hprint])]
  rfl

/-- What a TIME.SET leaves of the clock and the time block as its step takes effect. -/
theorem State.stepApply_timeSet_timing {s : State} {d : Int} {v ch slot : Nat}
    (hreq : s.time.stepReq = some (d, some v, 0x0B02, ch, slot)) (hboundary : s.now % 125000 = 0) (hprint : s.printHold = false)
    (hv : v < 2 ^ 64) : s.stepApply.timing =
      ({ s.clock with press := v }, { s.time with steps := satInc 65535 s.time.steps, stepReq := none, valid := true }) := by
  have happly := s.applyStep_timing ((v : Int) - s.clock.press) 0x0B02
  rw [press_step_to s.clock.press hv] at happly
  rw [State.stepApply_timeSet hreq hboundary hprint, State.respond_timing, State.modTime_timing, happly]

/-- Settles O56: the verb judges its argument, then PHASE_SRC, and asks for a step (`vTimeSet_even`); the step that it asks for moves
press time by the difference to the value carried. -/
theorem timeSet : Obligations.TimeSet := by
  refine ⟨fun dt m s => ?asks, fun dt m s => ?mismatch, fun dt m s => ?badArg, fun s d v ch slot hreq hboundary hprint hv => ?applied⟩
  case asks =>
    intro a q u hu hidle htidy hbit hacts hreq hsrc
    exact exec_timeSet_answered hu (vTimeSet_asks ((running_idleState hu).trans hidle) htidy hbit hacts hreq hsrc)
  case mismatch =>
    intro a q u hu hidle htidy hbit hacts hreq hsrc
    exact exec_timeSet_answered hu (vTimeSet_phaseSrc ((running_idleState hu).trans hidle) htidy hbit hacts hreq hsrc)
  case badArg =>
    intro a q u hu hidle htidy hbit
    exact exec_timeSet_answered hu (vTimeSet_odd ((running_idleState hu).trans hidle) htidy hbit)
  case applied =>
    obtain ⟨hclock, htime⟩ := Prod.mk.inj (State.stepApply_timeSet_timing hreq hboundary hprint hv)
    rw [hclock, htime]
    exact ⟨rfl, rfl, rfl⟩

end Sys2Proof.Machine
end

section
/-! SUPPORT. PANEL.SET (R402): the offset that BAD_ARG reports of a command with several fields out of range, the fields that PANEL.SET
judges, and what a cell of a large table reads after a write. -/

namespace Sys2Proof.Machine

open Sys2Proof Sys2Proof.Safety

/-! ## A large table reads back what was set -/

theorem find?_insertCell_self (i v : Nat) (l : List (Nat × Nat)) : (insertCell i v l).find? (·.1 == i) = some (i, v) := by
  induction l with
  | nil => simp [insertCell]
  | cons c l ih =>
    unfold insertCell
    split
    · simp
    · split
      · simp
      · next hne => simpa [Ne.symm hne] using ih

@[simp] theorem SMap.get_set_self (c : SMap) (i v : Nat) : (c.set i v).get i = v := by
  unfold SMap.set
  split
  · next hdflt =>
    have hnone : (c.cells.filter (·.1 != i)).find? (·.1 == i) = none := List.find?_eq_none.mpr fun p hp => by
      simpa using (List.mem_filter.mp hp).2
    simp only [SMap.get, hnone, hdflt]
  · simp [SMap.get, find?_insertCell_self]

/-! ## The first bad argument (R14, R504) -/

/-- The lowest field out of range is what BAD_ARG reports of a tidy command. -/
theorem QCmd.fault_lowest {q : QCmd} {named : List (Nat × Nat)} {l : List (Nat × Bool)} {o : Nat} (h : Tidy q named)
    (hbad : (o, true) ∈ l) (hlowest : ∀ x, (x, true) ∈ l → o ≤ x) : q.fault named l = some o := by
  have hmin : ((l.filter (fun p => p.2)).map Prod.fst).min? = some o := by
    rw [List.min?_eq_some_iff]
    refine ⟨by simpa using hbad, fun x hx => hlowest x (by simpa using hx)⟩
  simpa [QCmd.fault, h.1, h.2] using hmin

/-! ## A usable command leaves what its verb answers (R50, R56) -/

/-- A listed verb submitted on an empty mailbox leaves the answer of its verb. -/
theorem perform_submit_answered {dt verb : Nat} {m : Mbox} {s t : State} {rep : Option Reply} (hu : Usable verb m (s.opens dt))
    (hv : verb ∈ verbTable) (hr : runVerb m.ch (cmdOf verb m) (running verb m (s.opens dt)) = (t, rep)) :
    perform m.wf dt (fun s => s.submit verb m) s = .next (answered m.ch (cmdOf verb m) t rep s) := by
  have hafter := after_submit_answered dt hu hv
  rw [hr] at hafter
  rw [hu.1, perform_next]
  exact congrArg Host.Outcome.next hafter

theorem exec_panelSet_answered {dt : Nat} {m : Mbox} {s t : State} {rep : Option Reply} (hu : Usable 0x0C04 m (s.opens dt))
    (hr : vPanelSet (cmdOf 0x0C04 m) (running 0x0C04 m (s.opens dt)) = (t, rep)) :
    exec (.panelSet dt m) s = .next (answered m.ch (cmdOf 0x0C04 m) t rep s) :=
  (exec_panelSet dt m s).trans (perform_submit_answered hu (by decide) ((runVerb_vPanelSet _ rfl).trans hr))

/-- A command finds the module live as it was on its arrival. -/
theorem running_live {verb : Nat} {m : Mbox} {a : State} (hu : Usable verb m a) : (running verb m a).live = a.live := by
  obtain ⟨st, mb, ti, hrunning⟩ := running_fields hu
  rw [hrunning]
  rfl

/-! ## What PANEL.SET judges and does (R402) -/

/-- Entry `i` of PANEL.SET. -/
def QCmd.panelEntry (q : QCmd) (i : Nat) : Nat := q.num (10 + 2 * i) 2

/-- The fields that PANEL.SET judges, each with its offset: COUNT, and BLINK of every entry that COUNT may name. -/
def QCmd.panelChecks (q : QCmd) : List (Nat × Bool) :=
  (8, q.byte 8 == 0 || 23 < q.byte 8) ::
    (List.range (min (q.byte 8) 23)).map (fun i => (10 + 2 * i, field (q.panelEntry i) 14 2 == 3))

/-- The codes of the indicators once the entries of PANEL.SET have applied in order. -/
def QCmd.panelCodes (q : QCmd) (c : SMap) : SMap :=
  (List.range (q.byte 8)).foldl (fun (c : SMap) i =>
    c.set (16 * field (q.panelEntry i) 0 4 + field (q.panelEntry i) 4 4) (field (q.panelEntry i) 8 8)) c

theorem vPanelSet_eq (q : QCmd) (s : State) : vPanelSet q s =
    verbRun s.live (q.fault [(8, 1), (10, 46)] q.panelChecks)
      (fun s => ({ s with panel := { s.panel with codes := q.panelCodes s.panel.codes } }, some {})) s := rfl

/-- What PANEL.SET finds out of range: COUNT at 8, and a BLINK of 3 at its entry. -/
theorem QCmd.mem_panelChecks {q : QCmd} {o : Nat} : (o, true) ∈ q.panelChecks ↔
    (o = 8 ∧ (q.byte 8 = 0 ∨ 23 < q.byte 8)) ∨
      ∃ i, i < q.byte 8 ∧ i < 23 ∧ field (q.panelEntry i) 14 2 = 3 ∧ o = 10 + 2 * i := by
  simp only [QCmd.panelChecks, List.mem_cons, List.mem_map, List.mem_range, Prod.mk.injEq, Nat.lt_min]
  refine or_congr (by simp) (exists_congr fun i => ?_)
  rw [beq_iff_eq, and_assoc, and_comm (a := 10 + 2 * i = o), eq_comm (a := o)]

section
variable {q : QCmd} {s : State} (hlive : s.live = true) (htidy : Tidy q [(8, 1), (10, 46)])
include hlive htidy

/-- PANEL.SET with a good COUNT and no BLINK of 3 applies its entries. -/
theorem vPanelSet_applies (hlo : 1 ≤ q.byte 8) (hhi : q.byte 8 ≤ 23)
    (hblink : ∀ i, i < q.byte 8 → field (q.panelEntry i) 14 2 ≠ 3) :
    vPanelSet q s = ({ s with panel := { s.panel with codes := q.panelCodes s.panel.codes } }, some {}) := by
  have hgood : ∀ o, (o, true) ∉ q.panelChecks := by
    intro o ho
    obtain ⟨-, hcount⟩ | ⟨i, hi, -, hi3, -⟩ := QCmd.mem_panelChecks.mp ho
    · omega
    · exact hblink i hi hi3
  have hfault : q.fault [(8, 1), (10, 46)] q.panelChecks = none :=
    QCmd.fault_none htidy fun p hp => Bool.eq_false_iff.mpr fun htrue => hgood p.1 (htrue ▸ hp)
  rw [vPanelSet_eq, verbRun_good _ s hlive hfault]

/-- PANEL.SET answers BAD_ARG at the lowest field that it finds out of range, and changes nothing. -/
theorem vPanelSet_badArg {o : Nat} (hbad : (o, true) ∈ q.panelChecks) (hlowest : ∀ x, (x, true) ∈ q.panelChecks → o ≤ x) :
    vPanelSet q s = (s, some (Reply.badArg o)) := by
  rw [vPanelSet_eq]
  exact verbRun_bad _ s hlive (QCmd.fault_lowest htidy hbad hlowest)

/-- A COUNT out of range is judged before any entry: its byte is the lowest. -/
theorem vPanelSet_badCount (hcount : q.byte 8 = 0 ∨ 23 < q.byte 8) : vPanelSet q s = (s, some (Reply.badArg 8)) := by
  refine vPanelSet_badArg hlive htidy (QCmd.mem_panelChecks.mpr (.inl ⟨rfl, hcount⟩)) fun x hx => ?_
  obtain ⟨rfl, -⟩ | ⟨i, -, -, -, rfl⟩ := QCmd.mem_panelChecks.mp hx <;> omega

/-- With a good COUNT the first entry with a BLINK of 3 is the lowest field out of range. -/
theorem vPanelSet_badBlink {k : Nat} (hlo : 1 ≤ q.byte 8) (hhi : q.byte 8 ≤ 23) (hk : k < q.byte 8)
    (hblink : field (q.panelEntry k) 14 2 = 3) (hfirst : ∀ i, i < k → field (q.panelEntry i) 14 2 ≠ 3) :
    vPanelSet q s = (s, some (Reply.badArg (10 + 2 * k))) := by
  refine vPanelSet_badArg hlive htidy (QCmd.mem_panelChecks.mpr (.inr ⟨k, hk, by omega, hblink, rfl⟩)) fun x hx => ?_
  obtain ⟨-, hcount⟩ | ⟨i, -, -, hi3, rfl⟩ := QCmd.mem_panelChecks.mp hx
  · omega
  · have hki : k ≤ i := Nat.le_of_not_lt fun hik => hfirst i hik hi3
    omega

end

/-- Settles O32: PANEL.SET answers by the lowest field that it finds out of range (`QCmd.mem_panelChecks`): COUNT before the entries,
an earlier entry before a later one; where none is, it applies its entries. -/
theorem panelSet : Obligations.PanelSet := by
  refine ⟨fun dt m s => ?_, SMap.get_set_self⟩
  intro a q u n e hu hlive htidy
  have hrun : u.live = true := (running_live hu).trans hlive
  exact ⟨fun hlo hhi hblink => exec_panelSet_answered hu (vPanelSet_applies hrun htidy hlo hhi hblink),
    fun hcount => exec_panelSet_answered hu (vPanelSet_badCount hrun htidy hcount),
    fun k hlo hhi hk hblink hfirst => exec_panelSet_answered hu (vPanelSet_badBlink hrun htidy hlo hhi hk hblink hfirst)⟩

end Sys2Proof.Machine
end

section
/-! SUPPORT. Every command as one step: it completes, keeps its queue and the canonical form of the memories, and reaches PRINTING
only from READY, PRINTING or HOLDING. -/

namespace Sys2Proof.Machine

open Sys2Proof Sys2Proof.Safety

/-! ## A step and the queue (log entry 14) -/

/-- Settles O1: the front command is what `step` takes. -/
theorem stepRunsTheFrontCommand : Obligations.StepRunsTheFrontCommand := by
  intro c rest s hfront
  unfold step
  rw [hfront]

/-- Settles O2: a step takes nothing from an empty queue. -/
theorem stepIdlesOnAnEmptyQueue : Obligations.StepIdlesOnAnEmptyQueue := by
  intro s hempty
  unfold step
  rw [hempty]

/-- A command answers a next state, whatever it does, and its queue is the caller's. -/
theorem perform_pending (ok : Bool) (dt : Nat) (f : State → State) (s : State) :
    ∃ t, perform ok dt f s = .next t ∧ t.pending = s.pending := by
  cases ok
  · exact ⟨s, perform_none dt f s, rfl⟩
  · exact ⟨_, perform_next dt f s, rfl⟩

/-- Every command completes and keeps the queue (`exec_perform`). -/
theorem exec_pending (c : Instr) (s : State) : ∃ t, exec c s = .next t ∧ t.pending = s.pending := by
  obtain ⟨dt, f, hexec⟩ := exec_perform s c
  rw [hexec]
  exact perform_pending c.wf dt f s

/-- Settles O3: every command is `perform` of its well-formedness, which completes, and which does nothing where that is false. -/
theorem wellFormedCommandsComplete : Obligations.WellFormedCommandsComplete := by
  refine fun c s => ⟨exec_pending c s, fun hwf => ?_⟩
  obtain ⟨dt, f, hexec⟩ := exec_perform s c
  rw [hexec, hwf, perform_none]

/-- A step with a command waiting takes that one off the queue. -/
theorem step_pending {c : Instr} {rest : List Instr} {s : State} (hfront : s.pending = c :: rest) :
    ∃ t, step s = .next t ∧ t.pending = rest := by
  rw [stepRunsTheFrontCommand c rest s hfront]
  exact exec_pending c { s with pending := rest }

/-- A run of `k + 1` steps is a run of `k` from where the first one leads. -/
theorem run_succ {s u : State} (k : Nat) (hstep : step s = .next u) : core.run (k + 1) s = core.run k u := by
  have hcore : core.step s = .next u := hstep
  simp only [Host.Core.run, hcore]

/-- As many steps as a queue is long empty it. -/
theorem run_drains (l : List Instr) : ∀ s : State, s.pending = l → ∃ t, core.run l.length s = .next t ∧ t.pending = [] := by
  induction l with
  | nil => exact fun s hs => ⟨s, rfl, hs⟩
  | cons c rest ih =>
    intro s hs
    obtain ⟨u, hstep, hu⟩ := step_pending hs
    obtain ⟨t, hrun, ht⟩ := ih u hu
    exact ⟨t, (run_succ rest.length hstep).trans hrun, ht⟩

/-- Settles O4: each step takes one command off the queue, by induction on the queue. -/
theorem queueDrains : Obligations.QueueDrains :=
  ⟨fun s => run_drains s.pending s rfl, fun _ _ _ hfront => step_pending hfront⟩

/-! ## The memories over a step -/

/-- Every command keeps the memories canonical. -/
theorem exec_ok (c : Instr) (s t : State) (h : s.store.ok) (e : exec c s = .next t) : t.store.ok :=
  match c with
  | .vAuxApplied dt sel mv => execVAuxApplied_ok dt sel mv s t h e
  | .keepReset dt => execKeepReset_ok dt s t h e
  | .supplyThreshold dt input kind mv => execSupplyThreshold_ok dt input kind mv s t h e
  | .suppliesLost dt => execSuppliesLost_ok dt s t h e
  | .autoOn dt => execAutoOn_ok dt s t h e
  | .domainPowerGood dt => execDomainPowerGood_ok dt s t h e
  | .powerGoodMissed dt d => execPowerGoodMissed_ok dt d s t h e
  | .powerGoodLost dt d => execPowerGoodLost_ok dt d s t h e
  | .bootEnd dt crcA crcB test fence0 fence1 => execBootEnd_ok dt crcA crcB test fence0 fence1 s t h e
  | .bootTimeout dt => execBootTimeout_ok dt s t h e
  | .functionReset dt fn down => execFunctionReset_ok dt fn down s t h e
  | .linkTrained dt fn lanes rate mrrs mps extTag => execLinkTrained_ok dt fn lanes rate mrrs mps extTag s t h e
  | .pcieLinkLost dt fn => execPcieLinkLost_ok dt fn s t h e
  | .registerWrite dt fn off bytes => execRegisterWrite_ok dt fn off bytes s t h e
  | .responseRead dt ch slot off n => execResponseRead_ok dt ch slot off n s t h e
  | .intCauseClear dt fn clear again => execIntCauseClear_ok dt fn clear again s t h e
  | .intEnableWrite dt fn value => execIntEnableWrite_ok dt fn value s t h e
  | .overflowClear dt => execOverflowClear_ok dt s t h e
  | .sysInfo dt m => execSysInfo_ok dt m s t h e
  | .sysPing dt m => execSysPing_ok dt m s t h e
  | .sysEventRing dt m => execSysEventRing_ok dt m s t h e
  | .sysResetWarm dt m => execSysResetWarm_ok dt m s t h e
  | .sysResetCold dt m => execSysResetCold_ok dt m s t h e
  | .stateArm dt m => execStateArm_ok dt m s t h e
  | .stateDisarm dt m => execStateDisarm_ok dt m s t h e
  | .stateRest dt m => execStateRest_ok dt m s t h e
  | .stateClear dt m => execStateClear_ok dt m s t h e
  | .cfgStage dt m => execCfgStage_ok dt m s t h e
  | .cfgCheck dt m => execCfgCheck_ok dt m s t h e
  | .cfgCommit dt m => execCfgCommit_ok dt m s t h e
  | .cfgCancel dt m => execCfgCancel_ok dt m s t h e
  | .cfgDiscard dt m => execCfgDiscard_ok dt m s t h e
  | .cfgRead dt m => execCfgRead_ok dt m s t h e
  | .jobOpen dt m => execJobOpen_ok dt m s t h e
  | .jobSubmitAttach dt m => execJobSubmitAttach_ok dt m s t h e
  | .jobSubmitDetach dt m => execJobSubmitDetach_ok dt m s t h e
  | .jobSubmitEnd dt m => execJobSubmitEnd_ok dt m s t h e
  | .jobStart dt m => execJobStart_ok dt m s t h e
  | .jobPause dt m => execJobPause_ok dt m s t h e
  | .jobContinue dt m => execJobContinue_ok dt m s t h e
  | .jobAbort dt m => execJobAbort_ok dt m s t h e
  | .jobClose dt m => execJobClose_ok dt m s t h e
  | .jobStatus dt m => execJobStatus_ok dt m s t h e
  | .evtAtCourse dt m => execEvtAtCourse_ok dt m s t h e
  | .evtAtTime dt m => execEvtAtTime_ok dt m s t h e
  | .evtCancel dt m => execEvtCancel_ok dt m s t h e
  | .evtList dt m => execEvtList_ok dt m s t h e
  | .actionAtCourse dt id => execActionAtCourse_ok dt id s t h e
  | .actionAtTime dt id => execActionAtTime_ok dt id s t h e
  | .densUpdate dt m => execDensUpdate_ok dt m s t h e
  | .densRead dt m => execDensRead_ok dt m s t h e
  | .densFreeze dt m => execDensFreeze_ok dt m s t h e
  | .nozMap dt m => execNozMap_ok dt m s t h e
  | .nozRead dt m => execNozRead_ok dt m s t h e
  | .discover dt m => execDiscover_ok dt m s t h e
  | .readBond dt m => execReadBond_ok dt m s t h e
  | .readNodes dt m => execReadNodes_ok dt m s t h e
  | .pairSwap dt m => execPairSwap_ok dt m s t h e
  | .pairJoin dt m partner => execPairJoin_ok dt m partner s t h e
  | .pairLeave dt m => execPairLeave_ok dt m s t h e
  | .pairTake dt m => execPairTake_ok dt m s t h e
  | .pairInfo dt m => execPairInfo_ok dt m s t h e
  | .gangForm dt m members => execGangForm_ok dt m members s t h e
  | .gangDissolve dt m => execGangDissolve_ok dt m s t h e
  | .gangInfo dt m => execGangInfo_ok dt m s t h e
  | .timeAcceptStep dt m => execTimeAcceptStep_ok dt m s t h e
  | .timeSet dt m => execTimeSet_ok dt m s t h e
  | .timeStatus dt m => execTimeStatus_ok dt m s t h e
  | .lampSet dt m => execLampSet_ok dt m s t h e
  | .lampRead dt m => execLampRead_ok dt m s t h e
  | .lampClearShort dt m => execLampClearShort_ok dt m s t h e
  | .lampClearPins dt m => execLampClearPins_ok dt m s t h e
  | .panelSet dt m => execPanelSet_ok dt m s t h e
  | .copingRead dt m => execCopingRead_ok dt m s t h e
  | .copingCal dt m => execCopingCal_ok dt m s t h e
  | .plinthLogRead dt m => execPlinthLogRead_ok dt m s t h e
  | .plinthFw dt m => execPlinthFw_ok dt m s t h e
  | .plinthFwSelect dt m => execPlinthFwSelect_ok dt m s t h e
  | .ident dt r => execIdent_ok dt r s t h e
  | .status dt r => execStatus_ok dt r s t h e
  | .zarnetrumTemps dt r => execZarnetrumTemps_ok dt r s t h e
  | .pair dt r => execPair_ok dt r s t h e
  | .settings dt r => execSettings_ok dt r s t h e
  | .powerOn dt r => execPowerOn_ok dt r s t h e
  | .powerOff dt r ack => execPowerOff_ok dt r ack s t h e
  | .powerCycle dt r ack => execPowerCycle_ok dt r ack s t h e
  | .restReq dt r ack => execRestReq_ok dt r ack s t h e
  | .force dt r => execForce_ok dt r s t h e
  | .lockoutClear dt r => execLockoutClear_ok dt r s t h e
  | .logInfo dt r => execLogInfo_ok dt r s t h e
  | .logRead dt r => execLogRead_ok dt r s t h e
  | .fwOpen dt r => execFwOpen_ok dt r s t h e
  | .fwData dt r => execFwData_ok dt r s t h e
  | .fwClose dt r => execFwClose_ok dt r s t h e
  | .fwSelect dt r => execFwSelect_ok dt r s t h e
  | .fwSessionTimeout dt => execFwSessionTimeout_ok dt s t h e
  | .alertResponse dt => execAlertResponse_ok dt s t h e
  | .ringBaseWrite dt fn ch value => execRingBaseWrite_ok dt fn ch value s t h e
  | .enable dt fn ch host => execEnable_ok dt fn ch host s t h e
  | .abort dt fn ch => execAbort_ok dt fn ch s t h e
  | .disable dt fn ch => execDisable_ok dt fn ch s t h e
  | .tailWrite dt fn ch value host => execTailWrite_ok dt fn ch value host s t h e
  | .sourceDestinationFree dt fn => execSourceDestinationFree_ok dt fn s t h e
  | .readCompletion dt fn ch k err beat host runMin => execReadCompletion_ok dt fn ch k err beat host runMin s t h e
  | .completionTimeout dt fn ch k => execCompletionTimeout_ok dt fn ch k s t h e
  | .admissionEnd dt fn ch => execAdmissionEnd_ok dt fn ch s t h e
  | .descriptorEnd dt fn ch => execDescriptorEnd_ok dt fn ch s t h e
  | .compressionResume dt job => execCompressionResume_ok dt job s t h e
  | .eventRingWrite dt => execEventRingWrite_ok dt s t h e
  | .bar2Read dt fn off n => execBar2Read_ok dt fn off n s t h e
  | .bar2Write dt fn off bytes => execBar2Write_ok dt fn off bytes s t h e
  | .bar2DroppedRead dt fn => execBar2DroppedRead_ok dt fn s t h e
  | .snapReq dt fn => execSnapReq_ok dt fn s t h e
  | .timeNowLowRead dt rd => execTimeNowLowRead_ok dt rd s t h e
  | .stripPipelineDecode dt w memErr pieces => execStripPipelineDecode_ok dt w memErr pieces s t h e
  | .memoryError dt w target addr item => execMemoryError_ok dt w target addr item s t h e
  | .scrubReport dt unit words => execScrubReport_ok dt unit words s t h e
  | .courseRecord dt course fire => execCourseRecord_ok dt course fire s t h e
  | .tieReplay dt failed => execTieReplay_ok dt failed s t h e
  | .seamDeadlineMiss dt => execSeamDeadlineMiss_ok dt s t h e
  | .tieTrainingLost dt => execTieTrainingLost_ok dt s t h e
  | .lockstep dt w => execLockstep_ok dt w s t h e
  | .liftToken dt lift => execLiftToken_ok dt lift s t h e
  | .commitToken dt => execCommitToken_ok dt s t h e
  | .liftScreened dt w lift audit => execLiftScreened_ok dt w lift audit s t h e
  | .courseRelease dt => execCourseRelease_ok dt s t h e
  | .courseFire dt => execCourseFire_ok dt s t h e
  | .liftBoundary dt seam => execLiftBoundary_ok dt seam s t h e
  | .speedLoopCycle dt => execSpeedLoopCycle_ok dt s t h e
  | .overspeedClear dt => execOverspeedClear_ok dt s t h e
  | .webAtRest dt => execWebAtRest_ok dt s t h e
  | .ceiling dt => execCeiling_ok dt s t h e
  | .resumeBegin dt => execResumeBegin_ok dt s t h e
  | .rejectEdge dt => execRejectEdge_ok dt s t h e
  | .markEdge dt run => execMarkEdge_ok dt run s t h e
  | .markMiss dt k => execMarkMiss_ok dt k s t h e
  | .positionChange dt enc inp => execPositionChange_ok dt enc inp s t h e
  | .illegalTransition dt enc a b run => execIllegalTransition_ok dt enc a b run s t h e
  | .radiusFault dt enc samples => execRadiusFault_ok dt enc samples s t h e
  | .index dt enc pins => execIndex_ok dt enc pins s t h e
  | .missingIndex dt enc => execMissingIndex_ok dt enc s t h e
  | .pairStatusChange dt enc k v => execPairStatusChange_ok dt enc k v s t h e
  | .hallChange dt run => execHallChange_ok dt run s t h e
  | .checkWindow dt => execCheckWindow_ok dt s t h e
  | .supplyOverload dt supply => execSupplyOverload_ok dt supply s t h e
  | .fieldInputChange dt inp level ua => execFieldInputChange_ok dt inp level ua s t h e
  | .estopDisc dt => execEstopDisc_ok dt s t h e
  | .fieldSupply dt mv => execFieldSupply_ok dt mv s t h e
  | .outputFault dt output kind => execOutputFault_ok dt output kind s t h e
  | .openLoad dt load => execOpenLoad_ok dt load s t h e
  | .thermOkChange dt tj => execThermOkChange_ok dt tj s t h e
  | .watchdogKey dt => execWatchdogKey_ok dt s t h e
  | .watchdog dt wrong => execWatchdog_ok dt wrong s t h e
  | .heartbeatScan dt beats => execHeartbeatScan_ok dt beats s t h e
  | .aliveTick dt => execAliveTick_ok dt s t h e
  | .laneRxAligned dt l => execLaneRxAligned_ok dt l s t h e
  | .laneRxUnaligned dt l => execLaneRxUnaligned_ok dt l s t h e
  | .hello dt l len bits => execHello_ok dt l len bits s t h e
  | .identTimeout dt l => execIdentTimeout_ok dt l s t h e
  | .echoReply dt l len bits rtt => execEchoReply_ok dt l len bits rtt s t h e
  | .delayTimeout dt l => execDelayTimeout_ok dt l s t h e
  | .statusUnit dt l len bits => execStatusUnit_ok dt l len bits s t h e
  | .tempsUnit dt l len bits => execTempsUnit_ok dt l len bits s t h e
  | .statusTimeout dt l => execStatusTimeout_ok dt l s t h e
  | .unalignedTimeout dt l => execUnalignedTimeout_ok dt l s t h e
  | .lostTimeout dt l => execLostTimeout_ok dt l s t h e
  | .discovery dt => execDiscovery_ok dt s t h e
  | .timeSend dt l => execTimeSend_ok dt l s t h e
  | .echoSend dt l => execEchoSend_ok dt l s t h e
  | .discoverSend dt l => execDiscoverSend_ok dt l s t h e
  | .renewSend dt id => execRenewSend_ok dt id s t h e
  | .acquireRetry dt id => execAcquireRetry_ok dt id s t h e
  | .restSend dt => execRestSend_ok dt s t h e
  | .nodeFrame dt id port k len bits => execNodeFrame_ok dt id port k len bits s t h e
  | .nodeRenew dt id port k len bits => execNodeRenew_ok dt id port k len bits s t h e
  | .nodeAcquire dt id port k len bits => execNodeAcquire_ok dt id port k len bits s t h e
  | .nodeRelease dt id port k len bits => execNodeRelease_ok dt id port k len bits s t h e
  | .nodeRest dt id port k len bits => execNodeRest_ok dt id port k len bits s t h e
  | .nodeCancel dt id port k len bits => execNodeCancel_ok dt id port k len bits s t h e
  | .nodeConfig dt id port k len bits => execNodeConfig_ok dt id port k len bits s t h e
  | .nodeTime dt id port k len bits => execNodeTime_ok dt id port k len bits s t h e
  | .nodeEcho dt id port k len bits turn => execNodeEcho_ok dt id port k len bits turn s t h e
  | .nodeDiscover dt id port k len bits => execNodeDiscover_ok dt id port k len bits s t h e
  | .nodeLeaseExpiry dt id => execNodeLeaseExpiry_ok dt id s t h e
  | .nodeRowFire dt id head row => execNodeRowFire_ok dt id head row s t h e
  | .nodeStatusSend dt id port k => execNodeStatusSend_ok dt id port k s t h e
  | .nodeTempsSend dt id port temps => execNodeTempsSend_ok dt id port temps s t h e
  | .nodeReset dt id lanesA lanesB heads maxK => execNodeReset_ok dt id lanesA lanesB heads maxK s t h e
  | .beat dt side role op phase unit => execBeat_ok dt side role op phase unit s t h e
  | .beatSend dt side => execBeatSend_ok dt side s t h e
  | .buttressLinkDown dt side lanes => execButtressLinkDown_ok dt side lanes s t h e
  | .buttressLinkUp dt side lanes => execButtressLinkUp_ok dt side lanes s t h e
  | .mirror dt lift item off bytes => execMirror_ok dt lift item off bytes s t h e
  | .epochEnd dt lift units ecrc => execEpochEnd_ok dt lift units ecrc s t h e
  | .progress dt course => execProgress_ok dt course s t h e
  | .handover dt fDone oneMore cause => execHandover_ok dt fDone oneMore cause s t h e
  | .msg dt side unit => execMsg_ok dt side unit s t h e
  | .forwardAckTimeout dt ch slot => execForwardAckTimeout_ok dt ch slot s t h e
  | .gsync dt side unit => execGsync_ok dt side unit s t h e
  | .gtime dt side request echo => execGtime_ok dt side request echo s t h e
  | .gseam dt side course levels crc => execGseam_ok dt side course levels crc s t h e
  | .offsetMeasure dt => execOffsetMeasure_ok dt s t h e
  | .pairFormation dt digest fw offset prefer => execPairFormation_ok dt digest fw offset prefer s t h e
  | .resync dt => execResync_ok dt s t h e
  | .takeover dt => execTakeover_ok dt s t h e
  | .acquireTimeout dt => execAcquireTimeout_ok dt s t h e
  | .swapAtReady dt => execSwapAtReady_ok dt s t h e
  | .autoSwap dt => execAutoSwap_ok dt s t h e
  | .sinceSwapTick dt => execSinceSwapTick_ok dt s t h e
  | .heartbeatSend dt => execHeartbeatSend_ok dt s t h e
  | .heartbeatDatagram dt member fields => execHeartbeatDatagram_ok dt member fields s t h e
  | .hbOkTimeout dt => execHbOkTimeout_ok dt s t h e
  | .sync dt p sent m t1 => execSync_ok dt p sent m t1 s t h e
  | .followUp dt p sent m t1 => execFollowUp_ok dt p sent m t1 s t h e
  | .delayReq dt p sent m => execDelayReq_ok dt p sent m s t h e
  | .delayResp dt p m t4 => execDelayResp_ok dt p m t4 s t h e
  | .pdelayReq dt p sent m turn => execPdelayReq_ok dt p sent m turn s t h e
  | .pdelayResp dt p m t2 t3 => execPdelayResp_ok dt p m t2 t3 s t h e
  | .pdelayRespFollowUp dt p m t3 => execPdelayRespFollowUp_ok dt p m t3 s t h e
  | .announce dt p io fields => execAnnounce_ok dt p io fields s t h e
  | .arp dt p addr => execArp_ok dt p addr s t h e
  | .icmpEcho dt p addr => execIcmpEcho_ok dt p addr s t h e
  | .announceTimeout dt => execAnnounceTimeout_ok dt s t h e
  | .stepApply dt => execStepApply_ok dt s t h e
  | .rtcCopy dt => execRtcCopy_ok dt s t h e
  | .ppsInEdge dt => execPpsInEdge_ok dt s t h e
  | .ppsOut dt => execPpsOut_ok dt s t h e
  | .ref10Lost dt => execRef10Lost_ok dt s t h e
  | .ref10Restored dt => execRef10Restored_ok dt s t h e
  | .camPulse dt k course => execCamPulse_ok dt k course s t h e
  | .chainFrameStart dt => execChainFrameStart_ok dt s t h e
  | .chainReturnEnd dt chain words ended => execChainReturnEnd_ok dt chain words ended s t h e
  | .chainRestFrame dt => execChainRestFrame_ok dt s t h e
  | .driverLatch dt driver inp => execDriverLatch_ok dt driver inp s t h e
  | .driverShareTimeout dt driver => execDriverShareTimeout_ok dt driver s t h e
  | .matrixRowSlot dt ohm ua => execMatrixRowSlot_ok dt ohm ua s t h e
  | .rowOvercurrent dt sw => execRowOvercurrent_ok dt sw s t h e
  | .sensorSample dt temps pMeas tj0 tj1 => execSensorSample_ok dt temps pMeas tj0 tj1 s t h e
  | .calRunEnd dt block trims quality diff => execCalRunEnd_ok dt block trims quality diff s t h e
  | .referenceCompare dt diff => execReferenceCompare_ok dt diff s t h e
  | .hardwareShutdown dt w tj => execHardwareShutdown_ok dt w tj s t h e
  | .thermalRestart dt t0 t1 => execThermalRestart_ok dt t0 t1 s t h e
  | .statusMirrorCopy dt => execStatusMirrorCopy_ok dt s t h e
  | .logCommit dt => execLogCommit_ok dt s t h e
  | .tamper dt => execTamper_ok dt s t h e
  | .flashRefresh dt bad => execFlashRefresh_ok dt bad s t h e
  | .quantaLostReport dt w => execQuantaLostReport_ok dt w s t h e
  | .saturationReport dt w => execSaturationReport_ok dt w s t h e
  | .ethernetLink dt p up => execEthernetLink_ok dt p up s t h e
  | .nodeReceiverAlignment dt id port k ok => execNodeReceiverAlignment_ok dt id port k ok s t h e
  | .headFault dt id head faulty => execHeadFault_ok dt id head faulty s t h e
  | .nodeTimeOkTimeout dt id => execNodeTimeOkTimeout_ok dt id s t h e
  | .unknownVerb dt verb m => execUnknownVerb_ok dt verb m s t h e
  | .unknownOp dt r op => execUnknownOp_ok dt r op s t h e
  | .requestDiscarded dt frame => execRequestDiscarded_ok dt frame s t h e
  | .illegalTransitionReport dt enc => execIllegalTransitionReport_ok dt enc s t h e
  | .hallReport dt => execHallReport_ok dt s t h e
  | .actionPulseEnd dt output => execActionPulseEnd_ok dt output s t h e

/-- Settles O5: a step is the front command on a state with the same memories, or nothing. -/
theorem stepKeepsMemoriesCanonical : Obligations.StepKeepsMemoriesCanonical := by
  intro s t hok hstep
  cases hqueue : s.pending with
  | nil =>
    rw [stepIdlesOnAnEmptyQueue s hqueue] at hstep
    cases hstep
    exact hok
  | cons c rest =>
    rw [stepRunsTheFrontCommand c rest s hqueue] at hstep
    exact exec_ok c { s with pending := rest } t hok hstep

/-! ## The operating state over a command (R80) -/

/-- No command takes an unarmed module to PRINTING. -/
theorem exec_np (c : Instr) (s t : State) (h : Unarmed s.ident.opState) (e : exec c s = .next t) : t.ident.opState ≠ .printing :=
  match c with
  | .vAuxApplied dt sel mv => execVAuxApplied_np dt sel mv s t h e
  | .keepReset dt => execKeepReset_np dt s t h e
  | .supplyThreshold dt input kind mv => execSupplyThreshold_np dt input kind mv s t h e
  | .suppliesLost dt => execSuppliesLost_np dt s t h e
  | .autoOn dt => execAutoOn_np dt s t h e
  | .domainPowerGood dt => execDomainPowerGood_np dt s t h e
  | .powerGoodMissed dt d => execPowerGoodMissed_np dt d s t h e
  | .powerGoodLost dt d => execPowerGoodLost_np dt d s t h e
  | .bootEnd dt crcA crcB test fence0 fence1 => execBootEnd_np dt crcA crcB test fence0 fence1 s t h e
  | .bootTimeout dt => execBootTimeout_np dt s t h e
  | .functionReset dt fn down => execFunctionReset_np dt fn down s t h e
  | .linkTrained dt fn lanes rate mrrs mps extTag => execLinkTrained_np dt fn lanes rate mrrs mps extTag s t h e
  | .pcieLinkLost dt fn => execPcieLinkLost_np dt fn s t h e
  | .registerWrite dt fn off bytes => execRegisterWrite_np dt fn off bytes s t h e
  | .responseRead dt ch slot off n => execResponseRead_np dt ch slot off n s t h e
  | .intCauseClear dt fn clear again => execIntCauseClear_np dt fn clear again s t h e
  | .intEnableWrite dt fn value => execIntEnableWrite_np dt fn value s t h e
  | .overflowClear dt => execOverflowClear_np dt s t h e
  | .sysInfo dt m => execSysInfo_np dt m s t h e
  | .sysPing dt m => execSysPing_np dt m s t h e
  | .sysEventRing dt m => execSysEventRing_np dt m s t h e
  | .sysResetWarm dt m => execSysResetWarm_np dt m s t h e
  | .sysResetCold dt m => execSysResetCold_np dt m s t h e
  | .stateArm dt m => execStateArm_np dt m s t h e
  | .stateDisarm dt m => execStateDisarm_np dt m s t h e
  | .stateRest dt m => execStateRest_np dt m s t h e
  | .stateClear dt m => execStateClear_np dt m s t h e
  | .cfgStage dt m => execCfgStage_np dt m s t h e
  | .cfgCheck dt m => execCfgCheck_np dt m s t h e
  | .cfgCommit dt m => execCfgCommit_np dt m s t h e
  | .cfgCancel dt m => execCfgCancel_np dt m s t h e
  | .cfgDiscard dt m => execCfgDiscard_np dt m s t h e
  | .cfgRead dt m => execCfgRead_np dt m s t h e
  | .jobOpen dt m => execJobOpen_np dt m s t h e
  | .jobSubmitAttach dt m => execJobSubmitAttach_np dt m s t h e
  | .jobSubmitDetach dt m => execJobSubmitDetach_np dt m s t h e
  | .jobSubmitEnd dt m => execJobSubmitEnd_np dt m s t h e
  | .jobStart dt m => execJobStart_np dt m s t h e
  | .jobPause dt m => execJobPause_np dt m s t h e
  | .jobContinue dt m => execJobContinue_np dt m s t h e
  | .jobAbort dt m => execJobAbort_np dt m s t h e
  | .jobClose dt m => execJobClose_np dt m s t h e
  | .jobStatus dt m => execJobStatus_np dt m s t h e
  | .evtAtCourse dt m => execEvtAtCourse_np dt m s t h e
  | .evtAtTime dt m => execEvtAtTime_np dt m s t h e
  | .evtCancel dt m => execEvtCancel_np dt m s t h e
  | .evtList dt m => execEvtList_np dt m s t h e
  | .actionAtCourse dt id => execActionAtCourse_np dt id s t h e
  | .actionAtTime dt id => execActionAtTime_np dt id s t h e
  | .densUpdate dt m => execDensUpdate_np dt m s t h e
  | .densRead dt m => execDensRead_np dt m s t h e
  | .densFreeze dt m => execDensFreeze_np dt m s t h e
  | .nozMap dt m => execNozMap_np dt m s t h e
  | .nozRead dt m => execNozRead_np dt m s t h e
  | .discover dt m => execDiscover_np dt m s t h e
  | .readBond dt m => execReadBond_np dt m s t h e
  | .readNodes dt m => execReadNodes_np dt m s t h e
  | .pairSwap dt m => execPairSwap_np dt m s t h e
  | .pairJoin dt m partner => execPairJoin_np dt m partner s t h e
  | .pairLeave dt m => execPairLeave_np dt m s t h e
  | .pairTake dt m => execPairTake_np dt m s t h e
  | .pairInfo dt m => execPairInfo_np dt m s t h e
  | .gangForm dt m members => execGangForm_np dt m members s t h e
  | .gangDissolve dt m => execGangDissolve_np dt m s t h e
  | .gangInfo dt m => execGangInfo_np dt m s t h e
  | .timeAcceptStep dt m => execTimeAcceptStep_np dt m s t h e
  | .timeSet dt m => execTimeSet_np dt m s t h e
  | .timeStatus dt m => execTimeStatus_np dt m s t h e
  | .lampSet dt m => execLampSet_np dt m s t h e
  | .lampRead dt m => execLampRead_np dt m s t h e
  | .lampClearShort dt m => execLampClearShort_np dt m s t h e
  | .lampClearPins dt m => execLampClearPins_np dt m s t h e
  | .panelSet dt m => execPanelSet_np dt m s t h e
  | .copingRead dt m => execCopingRead_np dt m s t h e
  | .copingCal dt m => execCopingCal_np dt m s t h e
  | .plinthLogRead dt m => execPlinthLogRead_np dt m s t h e
  | .plinthFw dt m => execPlinthFw_np dt m s t h e
  | .plinthFwSelect dt m => execPlinthFwSelect_np dt m s t h e
  | .ident dt r => execIdent_np dt r s t h e
  | .status dt r => execStatus_np dt r s t h e
  | .zarnetrumTemps dt r => execZarnetrumTemps_np dt r s t h e
  | .pair dt r => execPair_np dt r s t h e
  | .settings dt r => execSettings_np dt r s t h e
  | .powerOn dt r => execPowerOn_np dt r s t h e
  | .powerOff dt r ack => execPowerOff_np dt r ack s t h e
  | .powerCycle dt r ack => execPowerCycle_np dt r ack s t h e
  | .restReq dt r ack => execRestReq_np dt r ack s t h e
  | .force dt r => execForce_np dt r s t h e
  | .lockoutClear dt r => execLockoutClear_np dt r s t h e
  | .logInfo dt r => execLogInfo_np dt r s t h e
  | .logRead dt r => execLogRead_np dt r s t h e
  | .fwOpen dt r => execFwOpen_np dt r s t h e
  | .fwData dt r => execFwData_np dt r s t h e
  | .fwClose dt r => execFwClose_np dt r s t h e
  | .fwSelect dt r => execFwSelect_np dt r s t h e
  | .fwSessionTimeout dt => execFwSessionTimeout_np dt s t h e
  | .alertResponse dt => execAlertResponse_np dt s t h e
  | .ringBaseWrite dt fn ch value => execRingBaseWrite_np dt fn ch value s t h e
  | .enable dt fn ch host => execEnable_np dt fn ch host s t h e
  | .abort dt fn ch => execAbort_np dt fn ch s t h e
  | .disable dt fn ch => execDisable_np dt fn ch s t h e
  | .tailWrite dt fn ch value host => execTailWrite_np dt fn ch value host s t h e
  | .sourceDestinationFree dt fn => execSourceDestinationFree_np dt fn s t h e
  | .readCompletion dt fn ch k err beat host runMin => execReadCompletion_np dt fn ch k err beat host runMin s t h e
  | .completionTimeout dt fn ch k => execCompletionTimeout_np dt fn ch k s t h e
  | .admissionEnd dt fn ch => execAdmissionEnd_np dt fn ch s t h e
  | .descriptorEnd dt fn ch => execDescriptorEnd_np dt fn ch s t h e
  | .compressionResume dt job => execCompressionResume_np dt job s t h e
  | .eventRingWrite dt => execEventRingWrite_np dt s t h e
  | .bar2Read dt fn off n => execBar2Read_np dt fn off n s t h e
  | .bar2Write dt fn off bytes => execBar2Write_np dt fn off bytes s t h e
  | .bar2DroppedRead dt fn => execBar2DroppedRead_np dt fn s t h e
  | .snapReq dt fn => execSnapReq_np dt fn s t h e
  | .timeNowLowRead dt rd => execTimeNowLowRead_np dt rd s t h e
  | .stripPipelineDecode dt w memErr pieces => execStripPipelineDecode_np dt w memErr pieces s t h e
  | .memoryError dt w target addr item => execMemoryError_np dt w target addr item s t h e
  | .scrubReport dt unit words => execScrubReport_np dt unit words s t h e
  | .courseRecord dt course fire => execCourseRecord_np dt course fire s t h e
  | .tieReplay dt failed => execTieReplay_np dt failed s t h e
  | .seamDeadlineMiss dt => execSeamDeadlineMiss_np dt s t h e
  | .tieTrainingLost dt => execTieTrainingLost_np dt s t h e
  | .lockstep dt w => execLockstep_np dt w s t h e
  | .liftToken dt lift => execLiftToken_np dt lift s t h e
  | .commitToken dt => execCommitToken_np dt s t h e
  | .liftScreened dt w lift audit => execLiftScreened_np dt w lift audit s t h e
  | .courseRelease dt => execCourseRelease_np dt s t h e
  | .courseFire dt => execCourseFire_np dt s t h e
  | .liftBoundary dt seam => execLiftBoundary_np dt seam s t h e
  | .speedLoopCycle dt => execSpeedLoopCycle_np dt s t h e
  | .overspeedClear dt => execOverspeedClear_np dt s t h e
  | .webAtRest dt => execWebAtRest_np dt s t h e
  | .ceiling dt => execCeiling_np dt s t h e
  | .resumeBegin dt => execResumeBegin_np dt s t h e
  | .rejectEdge dt => execRejectEdge_np dt s t h e
  | .markEdge dt run => execMarkEdge_np dt run s t h e
  | .markMiss dt k => execMarkMiss_np dt k s t h e
  | .positionChange dt enc inp => execPositionChange_np dt enc inp s t h e
  | .illegalTransition dt enc a b run => execIllegalTransition_np dt enc a b run s t h e
  | .radiusFault dt enc samples => execRadiusFault_np dt enc samples s t h e
  | .index dt enc pins => execIndex_np dt enc pins s t h e
  | .missingIndex dt enc => execMissingIndex_np dt enc s t h e
  | .pairStatusChange dt enc k v => execPairStatusChange_np dt enc k v s t h e
  | .hallChange dt run => execHallChange_np dt run s t h e
  | .checkWindow dt => execCheckWindow_np dt s t h e
  | .supplyOverload dt supply => execSupplyOverload_np dt supply s t h e
  | .fieldInputChange dt inp level ua => execFieldInputChange_np dt inp level ua s t h e
  | .estopDisc dt => execEstopDisc_np dt s t h e
  | .fieldSupply dt mv => execFieldSupply_np dt mv s t h e
  | .outputFault dt output kind => execOutputFault_np dt output kind s t h e
  | .openLoad dt load => execOpenLoad_np dt load s t h e
  | .thermOkChange dt tj => execThermOkChange_np dt tj s t h e
  | .watchdogKey dt => execWatchdogKey_np dt s t h e
  | .watchdog dt wrong => execWatchdog_np dt wrong s t h e
  | .heartbeatScan dt beats => execHeartbeatScan_np dt beats s t h e
  | .aliveTick dt => execAliveTick_np dt s t h e
  | .laneRxAligned dt l => execLaneRxAligned_np dt l s t h e
  | .laneRxUnaligned dt l => execLaneRxUnaligned_np dt l s t h e
  | .hello dt l len bits => execHello_np dt l len bits s t h e
  | .identTimeout dt l => execIdentTimeout_np dt l s t h e
  | .echoReply dt l len bits rtt => execEchoReply_np dt l len bits rtt s t h e
  | .delayTimeout dt l => execDelayTimeout_np dt l s t h e
  | .statusUnit dt l len bits => execStatusUnit_np dt l len bits s t h e
  | .tempsUnit dt l len bits => execTempsUnit_np dt l len bits s t h e
  | .statusTimeout dt l => execStatusTimeout_np dt l s t h e
  | .unalignedTimeout dt l => execUnalignedTimeout_np dt l s t h e
  | .lostTimeout dt l => execLostTimeout_np dt l s t h e
  | .discovery dt => execDiscovery_np dt s t h e
  | .timeSend dt l => execTimeSend_np dt l s t h e
  | .echoSend dt l => execEchoSend_np dt l s t h e
  | .discoverSend dt l => execDiscoverSend_np dt l s t h e
  | .renewSend dt id => execRenewSend_np dt id s t h e
  | .acquireRetry dt id => execAcquireRetry_np dt id s t h e
  | .restSend dt => execRestSend_np dt s t h e
  | .nodeFrame dt id port k len bits => execNodeFrame_np dt id port k len bits s t h e
  | .nodeRenew dt id port k len bits => execNodeRenew_np dt id port k len bits s t h e
  | .nodeAcquire dt id port k len bits => execNodeAcquire_np dt id port k len bits s t h e
  | .nodeRelease dt id port k len bits => execNodeRelease_np dt id port k len bits s t h e
  | .nodeRest dt id port k len bits => execNodeRest_np dt id port k len bits s t h e
  | .nodeCancel dt id port k len bits => execNodeCancel_np dt id port k len bits s t h e
  | .nodeConfig dt id port k len bits => execNodeConfig_np dt id port k len bits s t h e
  | .nodeTime dt id port k len bits => execNodeTime_np dt id port k len bits s t h e
  | .nodeEcho dt id port k len bits turn => execNodeEcho_np dt id port k len bits turn s t h e
  | .nodeDiscover dt id port k len bits => execNodeDiscover_np dt id port k len bits s t h e
  | .nodeLeaseExpiry dt id => execNodeLeaseExpiry_np dt id s t h e
  | .nodeRowFire dt id head row => execNodeRowFire_np dt id head row s t h e
  | .nodeStatusSend dt id port k => execNodeStatusSend_np dt id port k s t h e
  | .nodeTempsSend dt id port temps => execNodeTempsSend_np dt id port temps s t h e
  | .nodeReset dt id lanesA lanesB heads maxK => execNodeReset_np dt id lanesA lanesB heads maxK s t h e
  | .beat dt side role op phase unit => execBeat_np dt side role op phase unit s t h e
  | .beatSend dt side => execBeatSend_np dt side s t h e
  | .buttressLinkDown dt side lanes => execButtressLinkDown_np dt side lanes s t h e
  | .buttressLinkUp dt side lanes => execButtressLinkUp_np dt side lanes s t h e
  | .mirror dt lift item off bytes => execMirror_np dt lift item off bytes s t h e
  | .epochEnd dt lift units ecrc => execEpochEnd_np dt lift units ecrc s t h e
  | .progress dt course => execProgress_np dt course s t h e
  | .handover dt fDone oneMore cause => execHandover_np dt fDone oneMore cause s t h e
  | .msg dt side unit => execMsg_np dt side unit s t h e
  | .forwardAckTimeout dt ch slot => execForwardAckTimeout_np dt ch slot s t h e
  | .gsync dt side unit => execGsync_np dt side unit s t h e
  | .gtime dt side request echo => execGtime_np dt side request echo s t h e
  | .gseam dt side course levels crc => execGseam_np dt side course levels crc s t h e
  | .offsetMeasure dt => execOffsetMeasure_np dt s t h e
  | .pairFormation dt digest fw offset prefer => execPairFormation_np dt digest fw offset prefer s t h e
  | .resync dt => execResync_np dt s t h e
  | .takeover dt => execTakeover_np dt s t h e
  | .acquireTimeout dt => execAcquireTimeout_np dt s t h e
  | .swapAtReady dt => execSwapAtReady_np dt s t h e
  | .autoSwap dt => execAutoSwap_np dt s t h e
  | .sinceSwapTick dt => execSinceSwapTick_np dt s t h e
  | .heartbeatSend dt => execHeartbeatSend_np dt s t h e
  | .heartbeatDatagram dt member fields => execHeartbeatDatagram_np dt member fields s t h e
  | .hbOkTimeout dt => execHbOkTimeout_np dt s t h e
  | .sync dt p sent m t1 => execSync_np dt p sent m t1 s t h e
  | .followUp dt p sent m t1 => execFollowUp_np dt p sent m t1 s t h e
  | .delayReq dt p sent m => execDelayReq_np dt p sent m s t h e
  | .delayResp dt p m t4 => execDelayResp_np dt p m t4 s t h e
  | .pdelayReq dt p sent m turn => execPdelayReq_np dt p sent m turn s t h e
  | .pdelayResp dt p m t2 t3 => execPdelayResp_np dt p m t2 t3 s t h e
  | .pdelayRespFollowUp dt p m t3 => execPdelayRespFollowUp_np dt p m t3 s t h e
  | .announce dt p io fields => execAnnounce_np dt p io fields s t h e
  | .arp dt p addr => execArp_np dt p addr s t h e
  | .icmpEcho dt p addr => execIcmpEcho_np dt p addr s t h e
  | .announceTimeout dt => execAnnounceTimeout_np dt s t h e
  | .stepApply dt => execStepApply_np dt s t h e
  | .rtcCopy dt => execRtcCopy_np dt s t h e
  | .ppsInEdge dt => execPpsInEdge_np dt s t h e
  | .ppsOut dt => execPpsOut_np dt s t h e
  | .ref10Lost dt => execRef10Lost_np dt s t h e
  | .ref10Restored dt => execRef10Restored_np dt s t h e
  | .camPulse dt k course => execCamPulse_np dt k course s t h e
  | .chainFrameStart dt => execChainFrameStart_np dt s t h e
  | .chainReturnEnd dt chain words ended => execChainReturnEnd_np dt chain words ended s t h e
  | .chainRestFrame dt => execChainRestFrame_np dt s t h e
  | .driverLatch dt driver inp => execDriverLatch_np dt driver inp s t h e
  | .driverShareTimeout dt driver => execDriverShareTimeout_np dt driver s t h e
  | .matrixRowSlot dt ohm ua => execMatrixRowSlot_np dt ohm ua s t h e
  | .rowOvercurrent dt sw => execRowOvercurrent_np dt sw s t h e
  | .sensorSample dt temps pMeas tj0 tj1 => execSensorSample_np dt temps pMeas tj0 tj1 s t h e
  | .calRunEnd dt block trims quality diff => execCalRunEnd_np dt block trims quality diff s t h e
  | .referenceCompare dt diff => execReferenceCompare_np dt diff s t h e
  | .hardwareShutdown dt w tj => execHardwareShutdown_np dt w tj s t h e
  | .thermalRestart dt t0 t1 => execThermalRestart_np dt t0 t1 s t h e
  | .statusMirrorCopy dt => execStatusMirrorCopy_np dt s t h e
  | .logCommit dt => execLogCommit_np dt s t h e
  | .tamper dt => execTamper_np dt s t h e
  | .flashRefresh dt bad => execFlashRefresh_np dt bad s t h e
  | .quantaLostReport dt w => execQuantaLostReport_np dt w s t h e
  | .saturationReport dt w => execSaturationReport_np dt w s t h e
  | .ethernetLink dt p up => execEthernetLink_np dt p up s t h e
  | .nodeReceiverAlignment dt id port k ok => execNodeReceiverAlignment_np dt id port k ok s t h e
  | .headFault dt id head faulty => execHeadFault_np dt id head faulty s t h e
  | .nodeTimeOkTimeout dt id => execNodeTimeOkTimeout_np dt id s t h e
  | .unknownVerb dt verb m => execUnknownVerb_np dt verb m s t h e
  | .unknownOp dt r op => execUnknownOp_np dt r op s t h e
  | .requestDiscarded dt frame => execRequestDiscarded_np dt frame s t h e
  | .illegalTransitionReport dt enc => execIllegalTransitionReport_np dt enc s t h e
  | .hallReport dt => execHallReport_np dt s t h e
  | .actionPulseEnd dt output => execActionPulseEnd_np dt output s t h e

/-- Settles O8: a state that is none of READY, PRINTING and HOLDING is unarmed, and no command takes it to PRINTING. -/
theorem printingIsEnteredOnlyFromReadyOrHolding : Obligations.PrintingIsEnteredOnlyFromReadyOrHolding := by
  intro c s t hexec hprinting
  refine Classical.byContradiction fun hnone => ?_
  obtain ⟨hready, hprint, hholding⟩ : s.ident.opState ≠ .ready ∧ s.ident.opState ≠ .printing ∧ s.ident.opState ≠ .holding := by
    simpa only [not_or] using hnone
  exact exec_np c s t ⟨hready, hprint, hholding⟩ hexec hprinting

end Sys2Proof.Machine
end

section
/-! SUPPORT. The coding of a line (R278, R279, R282): stuffed bits are recognised by the run before them, the scrambler's stream does not
depend on what it scrambles, and the syndrome of a block is linear, zero on a coded block, and names a single wrong symbol. -/

namespace Sys2Proof.Machine

open Sys2Proof Sys2Proof.Safety

/-! ## Stuffing (R279) -/

/-- After a stuffed bit no run goes on, so the bit before it does not matter. -/
theorem stuff_zero (bits : List Bool) (last last' : Bool) : stuff bits last 0 = stuff bits last' 0 := by
  cases bits <;> simp [stuff]

/-- The run of equal bits that ends with `b`, after a run of `run` bits `last`. -/
def nextRun (b last : Bool) (run : Nat) : Nat := if run ≠ 0 ∧ b = last then run + 1 else 1

theorem nextRun_le (b last : Bool) (run : Nat) : nextRun b last run ≤ run + 1 := by
  unfold nextRun
  split <;> omega

/-- A bit that completes a run of 31 is followed by its opposite. -/
theorem stuff_cons_full {b last : Bool} {run : Nat} (bs : List Bool) (h : nextRun b last run = 31) :
    stuff (b :: bs) last run = b :: (!b) :: stuff bs b 0 := if_pos h

/-- Any other bit is followed by the next one. -/
theorem stuff_cons {b last : Bool} {run : Nat} (bs : List Bool) (h : nextRun b last run ≠ 31) :
    stuff (b :: bs) last run = b :: stuff bs b (nextRun b last run) := if_neg h

/-- A bit that follows a run shorter than 31 is data. -/
theorem unstuff_cons {run : Nat} (b last : Bool) (bs : List Bool) (h : run < 31) :
    unstuff (b :: bs) last run = (unstuff bs b (nextRun b last run)).map (b :: ·) := if_neg (Nat.ne_of_lt h)

/-- The opposite bit after a run of 31 is dropped. -/
theorem unstuff_stuffed (b : Bool) (bs : List Bool) : unstuff ((!b) :: bs) b 31 = unstuff bs (!b) 0 := by
  cases b <;> rfl

/-- Removing the stuffed bits of a stuffed stream gives the stream back. -/
theorem unstuff_stuff (bits : List Bool) : ∀ (last : Bool) (run : Nat), run < 31 → unstuff (stuff bits last run) last run = some bits := by
  induction bits with
  | nil => exact fun _ _ _ => rfl
  | cons b bs ih =>
    intro last run hrun
    have hle := nextRun_le b last run
    by_cases hfull : nextRun b last run = 31
    · rw [stuff_cons_full bs hfull, unstuff_cons b last _ hrun, hfull, unstuff_stuffed, stuff_zero bs b (!b), ih _ 0 (by omega)]
      rfl
    · rw [stuff_cons bs hfull, unstuff_cons b last _ hrun, ih b _ (by omega)]
      rfl

/-- Stuffing adds at most one bit for every 31. -/
theorem stuff_length_le (bits : List Bool) :
    ∀ (last : Bool) (run : Nat), run < 31 → (stuff bits last run).length ≤ bits.length + (bits.length + run) / 31 := by
  induction bits with
  | nil => exact fun _ _ _ => Nat.zero_le _
  | cons b bs ih =>
    intro last run hrun
    have hle := nextRun_le b last run
    by_cases hfull : nextRun b last run = 31
    · have := ih b 0 (by omega)
      rw [stuff_cons_full bs hfull]
      simp only [List.length_cons]
      omega
    · have := ih b (nextRun b last run) (by omega)
      rw [stuff_cons bs hfull]
      simp only [List.length_cons]
      omega

/-! ## Scrambling (R278) -/

/-- The scrambler's stream is the same whatever it scrambles, so it undoes itself. -/
theorem scrambleGo_scrambleGo (bits : List Bool) : ∀ s : Nat, scrambleGo (scrambleGo bits s) s = bits := by
  induction bits with
  | nil => exact fun _ => rfl
  | cons d ds ih =>
    intro s
    simp [scrambleGo, ih]

/-! ## Arithmetic in GF(16) (R282) -/

theorem xor_lt_sixteen {a b : Nat} (ha : a < 16) (hb : b < 16) : a ^^^ b < 16 := Nat.xor_lt_two_pow (n := 4) ha hb

theorem gfTimesA_lt (a : Nat) : gfTimesA a < 16 := by
  unfold gfTimesA
  split
  · exact xor_lt_sixteen (Nat.mod_lt _ (by decide)) (by decide)
  · exact Nat.mod_lt _ (by decide)

theorem gfMul_lt (a b : Nat) : gfMul a b < 16 := by
  have hgate : ∀ (c : Prop) [Decidable c] {x : Nat}, x < 16 → (if c then x else 0) < 16 := fun c _ x hx => by split <;> omega
  unfold gfMul
  exact xor_lt_sixteen (xor_lt_sixteen (xor_lt_sixteen (hgate _ (Nat.mod_lt _ (by decide))) (hgate _ (gfTimesA_lt _)))
    (hgate _ (gfTimesA_lt _))) (hgate _ (gfTimesA_lt _))

/-- Multiplication distributes over addition. -/
theorem gfMul_xor : ∀ e < 16, ∀ f < 16, ∀ x < 16, gfMul (e ^^^ f) x = gfMul e x ^^^ gfMul f x := by decide

/-- A factor other than 0 cancels. -/
theorem gfMul_cancel : ∀ e < 16, e ≠ 0 → ∀ x < 16, ∀ y < 16, gfMul e x = gfMul e y → x = y := by decide

theorem gfMul_comm : ∀ e < 16, ∀ x < 16, gfMul e x = gfMul x e := by decide

theorem gfMul_one : ∀ e < 16, gfMul e 1 = e := by decide

theorem gfMul_zero : ∀ e < 16, gfMul e 0 = 0 := by decide

theorem zero_gfMul : ∀ x < 16, gfMul 0 x = 0 := by decide

/-! ## Symbols of a block -/

/-- Symbol `n` of a word of 4-bit symbols. -/
def symbol (w n : Nat) : Nat := field w (4 * n) 4

theorem symbol_lt (w n : Nat) : symbol w n < 16 := Nat.mod_lt _ (by decide)

theorem symbol_xor (v w n : Nat) : symbol (v ^^^ w) n = symbol v n ^^^ symbol w n := by
  unfold symbol field
  rw [Nat.xor_div_two_pow, Nat.xor_mod_two_pow]

/-- A power of two that a word is multiplied by, in three parts. -/
theorem mul_two_pow_sum (a i j l : Nat) : a * 2 ^ (i + j + l) = 2 ^ i * (a * 2 ^ j) * 2 ^ l := by
  rw [Nat.pow_add, Nat.pow_add]
  ac_rfl

/-- A word whose one symbol `j` is `e`. -/
theorem symbol_single {e : Nat} (he : e < 16) (j n : Nat) : symbol (e * 2 ^ (4 * j)) n = if n = j then e else 0 := by
  unfold symbol field
  rcases Nat.lt_trichotomy n j with hn | rfl | hn
  · obtain ⟨k, rfl⟩ : ∃ k, j = n + 1 + k := ⟨j - (n + 1), by omega⟩
    rw [if_neg (by omega), show 4 * (n + 1 + k) = 4 + 4 * k + 4 * n by omega, mul_two_pow_sum,
      Nat.mul_div_cancel _ (Nat.two_pow_pos _), Nat.mul_mod_right]
  · rw [if_pos rfl, Nat.mul_div_cancel _ (Nat.two_pow_pos _)]
    exact Nat.mod_eq_of_lt he
  · have hlt : e * 2 ^ (4 * j) < 2 ^ (4 * n) := by
      calc e * 2 ^ (4 * j) < 2 ^ 4 * 2 ^ (4 * j) := Nat.mul_lt_mul_of_pos_right he (Nat.two_pow_pos _)
        _ = 2 ^ (4 + 4 * j) := (Nat.pow_add 2 4 (4 * j)).symm
        _ ≤ 2 ^ (4 * n) := Nat.pow_le_pow_right (by decide) (by omega)
    rw [if_neg (by omega), Nat.div_eq_of_lt hlt, Nat.zero_mod]

/-! ## The sum over the columns is linear -/

/-- Addition of sums, component by component. -/
def sumXor (s t : Nat × Nat × Nat × Nat) : Nat × Nat × Nat × Nat :=
  (s.1 ^^^ t.1, s.2.1 ^^^ t.2.1, s.2.2.1 ^^^ t.2.2.1, s.2.2.2 ^^^ t.2.2.2)

/-- What symbol `j`, of value `e`, brings to the sum. -/
def symbolSum (e j : Nat) : Nat × Nat × Nat × Nat :=
  (gfMul e ((codeColumn j).getD 0 0), gfMul e ((codeColumn j).getD 1 0), gfMul e ((codeColumn j).getD 2 0), gfMul e ((codeColumn j).getD 3 0))

theorem codeSum_zero (w : Nat) : codeSum w 0 = (0, 0, 0, 0) := rfl

theorem codeSum_succ (w n : Nat) : codeSum w (n + 1) = sumXor (codeSum w n) (symbolSum (symbol w n) n) := rfl

theorem codeColumn_lt : ∀ j < 36, ∀ i < 4, (codeColumn j).getD i 0 < 16 := by decide

theorem sumXor_zero (s : Nat × Nat × Nat × Nat) : sumXor s (0, 0, 0, 0) = s := by
  simp [sumXor]

theorem zero_sumXor (s : Nat × Nat × Nat × Nat) : sumXor (0, 0, 0, 0) s = s := by
  simp [sumXor]

/-- Sums may be taken in any order. -/
theorem sumXor_sumXor_comm (a b c d : Nat × Nat × Nat × Nat) :
    sumXor (sumXor a b) (sumXor c d) = sumXor (sumXor a c) (sumXor b d) := by
  have hswap : ∀ p q r t : Nat, p ^^^ q ^^^ (r ^^^ t) = p ^^^ r ^^^ (q ^^^ t) := fun p q r t => by ac_rfl
  simp only [sumXor, hswap]

theorem symbolSum_xor {e f j : Nat} (he : e < 16) (hf : f < 16) (hj : j < 36) :
    symbolSum (e ^^^ f) j = sumXor (symbolSum e j) (symbolSum f j) := by
  have hmul : ∀ i < 4, gfMul (e ^^^ f) ((codeColumn j).getD i 0) = gfMul e ((codeColumn j).getD i 0) ^^^ gfMul f ((codeColumn j).getD i 0) :=
    fun i hi => gfMul_xor e he f hf _ (codeColumn_lt j hj i hi)
  simp only [symbolSum, sumXor, hmul 0 (by decide), hmul 1 (by decide), hmul 2 (by decide), hmul 3 (by decide)]

theorem symbolSum_zero {j : Nat} (hj : j < 36) : symbolSum 0 j = (0, 0, 0, 0) := by
  have hmul : ∀ i < 4, gfMul 0 ((codeColumn j).getD i 0) = 0 := fun i hi => zero_gfMul _ (codeColumn_lt j hj i hi)
  simp only [symbolSum, hmul 0 (by decide), hmul 1 (by decide), hmul 2 (by decide), hmul 3 (by decide)]

/-- The sum of a sum of words. -/
theorem codeSum_xor (v w : Nat) {n : Nat} (hn : n ≤ 36) : codeSum (v ^^^ w) n = sumXor (codeSum v n) (codeSum w n) := by
  induction n with
  | zero => rw [codeSum_zero, codeSum_zero, codeSum_zero, sumXor_zero]
  | succ n ih =>
    rw [codeSum_succ, codeSum_succ, codeSum_succ, ih (by omega), symbol_xor,
      symbolSum_xor (symbol_lt v n) (symbol_lt w n) (by omega), sumXor_sumXor_comm]

/-- The sum of a word whose one symbol `j` is `e`. -/
theorem codeSum_single {e : Nat} (he : e < 16) (j : Nat) {n : Nat} (hn : n ≤ 36) :
    codeSum (e * 2 ^ (4 * j)) n = if j < n then symbolSum e j else (0, 0, 0, 0) := by
  induction n with
  | zero => rfl
  | succ n ih =>
    rw [codeSum_succ, ih (by omega), symbol_single he]
    by_cases hnj : n = j
    · subst hnj
      rw [if_neg (Nat.lt_irrefl n), if_pos rfl, if_pos (Nat.lt_succ_self n), zero_sumXor]
    · rw [if_neg hnj, symbolSum_zero (by omega), sumXor_zero]
      by_cases hlt : j < n
      · rw [if_pos hlt, if_pos (by omega)]
      · rw [if_neg hlt, if_neg (by omega)]

/-- The sum depends on the symbols alone. -/
theorem codeSum_congr {v w n : Nat} (h : ∀ k < n, symbol v k = symbol w k) : codeSum v n = codeSum w n := by
  induction n with
  | zero => rfl
  | succ n ih =>
    rw [codeSum_succ, codeSum_succ, ih fun k hk => h k (by omega), h n (Nat.lt_succ_self n)]

/-! ## A coded block has sum 0 -/

theorem codeSum_lt (w : Nat) (n : Nat) :
    (codeSum w n).1 < 16 ∧ (codeSum w n).2.1 < 16 ∧ (codeSum w n).2.2.1 < 16 ∧ (codeSum w n).2.2.2 < 16 := by
  induction n with
  | zero => simp [codeSum_zero]
  | succ n ih =>
    obtain ⟨h0, h1, h2, h3⟩ := ih
    exact ⟨xor_lt_sixteen h0 (gfMul_lt ..), xor_lt_sixteen h1 (gfMul_lt ..), xor_lt_sixteen h2 (gfMul_lt ..),
      xor_lt_sixteen h3 (gfMul_lt ..)⟩

/-- A number of four symbols, taken apart. -/
theorem symbol_four {c0 c1 c2 c3 : Nat} (h0 : c0 < 16) (h1 : c1 < 16) (h2 : c2 < 16) (h3 : c3 < 16) :
    let c := c0 + 16 * c1 + 256 * c2 + 4096 * c3
    symbol c 0 = c0 ∧ symbol c 1 = c1 ∧ symbol c 2 = c2 ∧ symbol c 3 = c3 := by
  simp only [symbol, field]
  omega

/-- The symbols of a block are those of its data and then those of its check bits. -/
theorem symbol_block {d : Nat} (hd : d < 2 ^ 128) (c n : Nat) :
    symbol (d + c * 2 ^ 128) n = if n < 32 then symbol d n else symbol c (n - 32) := by
  unfold symbol field
  split
  · next hn =>
    obtain ⟨k, hk⟩ : ∃ k, 128 = 4 + k + 4 * n := ⟨128 - (4 * n + 4), by omega⟩
    have hc : c * 2 ^ 128 = 2 ^ 4 * (c * 2 ^ k) * 2 ^ (4 * n) := by rw [hk, mul_two_pow_sum]
    rw [hc, Nat.add_mul_div_right _ _ (Nat.two_pow_pos _), Nat.add_mul_mod_self_left]
  · next hn =>
    obtain ⟨k, rfl⟩ : ∃ k, n = 32 + k := ⟨n - 32, by omega⟩
    rw [show 4 * (32 + k) = 128 + 4 * k by omega, Nat.pow_add, ← Nat.div_div_eq_div_mul,
      Nat.add_mul_div_right _ _ (Nat.two_pow_pos _), Nat.div_eq_of_lt hd, Nat.zero_add, Nat.add_sub_cancel_left]

section
variable {e : Nat} (he : e < 16)
include he

theorem symbolSum_32 : symbolSum e 32 = (e, 0, 0, 0) := by
  change (gfMul e 1, gfMul e 0, gfMul e 0, gfMul e 0) = _
  rw [gfMul_one e he, gfMul_zero e he]

theorem symbolSum_33 : symbolSum e 33 = (e, e, 0, e) := by
  change (gfMul e 1, gfMul e 1, gfMul e 0, gfMul e 1) = _
  rw [gfMul_one e he, gfMul_zero e he]

theorem symbolSum_34 : symbolSum e 34 = (e, 0, e, gfMul 8 e) := by
  change (gfMul e 1, gfMul e 0, gfMul e 1, gfMul e 8) = _
  rw [gfMul_one e he, gfMul_zero e he, gfMul_comm e he 8 (by decide)]

theorem symbolSum_35 : symbolSum e 35 = (0, 0, 0, e) := by
  change (gfMul e 0, gfMul e 0, gfMul e 0, gfMul e 1) = _
  rw [gfMul_one e he, gfMul_zero e he]

end

/-- The four check symbols bring to the sum what the data brought. -/
theorem checkSum_cancels {s0 s1 s2 s3 : Nat} (h0 : s0 < 16) (h1 : s1 < 16) (h2 : s2 < 16) (h3 : s3 < 16) :
    sumXor (sumXor (sumXor (sumXor (s0, s1, s2, s3) (symbolSum (s0 ^^^ s1 ^^^ s2) 32)) (symbolSum s1 33)) (symbolSum s2 34))
      (symbolSum (s3 ^^^ s1 ^^^ gfMul 8 s2) 35) = (0, 0, 0, 0) := by
  rw [symbolSum_32 (xor_lt_sixteen (xor_lt_sixteen h0 h1) h2), symbolSum_33 h1, symbolSum_34 h2,
    symbolSum_35 (xor_lt_sixteen (xor_lt_sixteen h3 h1) (gfMul_lt 8 s2))]
  generalize gfMul 8 s2 = g
  have hfirst : s0 ^^^ (s0 ^^^ s1 ^^^ s2) ^^^ s1 ^^^ s2 = (s0 ^^^ s0) ^^^ (s1 ^^^ s1) ^^^ (s2 ^^^ s2) := by ac_rfl
  have hlast : s3 ^^^ s1 ^^^ g ^^^ (s3 ^^^ s1 ^^^ g) = 0 := Nat.xor_self _
  simp only [sumXor, Nat.xor_zero, Nat.xor_self, hfirst, hlast]

/-- The sum of a coded block is 0 (R282). -/
theorem codeSum_encodeBlock (d : Nat) : codeSum (encodeBlock d) 36 = (0, 0, 0, 0) := by
  obtain ⟨h0, h1, h2, h3⟩ := codeSum_lt (d % 2 ^ 128) 32
  have hd : d % 2 ^ 128 < 2 ^ 128 := Nat.mod_lt _ (Nat.two_pow_pos _)
  have hdata : codeSum (encodeBlock d) 32 = codeSum (d % 2 ^ 128) 32 := codeSum_congr fun k hk => by
    rw [encodeBlock, symbol_block hd, if_pos hk]
  obtain ⟨hc0, hc1, hc2, hc3⟩ := symbol_four (xor_lt_sixteen (xor_lt_sixteen h0 h1) h2) h1 h2
    (xor_lt_sixteen (xor_lt_sixteen h3 h1) (gfMul_lt 8 (codeSum (d % 2 ^ 128) 32).2.2.1))
  have hcheck : ∀ k < 4, symbol (encodeBlock d) (32 + k) = symbol (codeCheck (d % 2 ^ 128)) k := fun k _ => by
    rw [encodeBlock, symbol_block hd, if_neg (by omega), Nat.add_sub_cancel_left]
  rw [codeSum_succ, codeSum_succ, codeSum_succ, codeSum_succ, hdata, hcheck 0 (by decide), hcheck 1 (by decide),
    hcheck 2 (by decide), hcheck 3 (by decide)]
  unfold codeCheck
  rw [hc0, hc1, hc2, hc3]
  exact checkSum_cancels h0 h1 h2 h3

/-- The data of a coded block lies below its check bits. -/
theorem encodeBlock_mod (d : Nat) : encodeBlock d % 2 ^ 128 = d % 2 ^ 128 := by
  rw [encodeBlock, Nat.add_mul_mod_self_right, Nat.mod_mod]

/-- A block whose sum is 0 is clean. -/
theorem decodeBlock_clean {w : Nat} (h : codeSum w 36 = (0, 0, 0, 0)) : decodeBlock w = .clean (w % 2 ^ 128) := by
  unfold decodeBlock
  exact if_pos h

/-! ## One wrong symbol (R282) -/

/-- Only the last column does not begin with 1. -/
theorem codeColumn_head : ∀ j < 36, (codeColumn j).getD 0 0 = if j = 35 then 0 else 1 := by decide

/-- Different symbols have different columns. -/
theorem codeColumn_inj : ∀ j < 36, ∀ k < 36, (∀ i < 4, (codeColumn j).getD i 0 = (codeColumn k).getD i 0) → j = k := by decide

/-- The first component of a wrong symbol's sum is its error, but for the last symbol. -/
theorem symbolSum_fst {e j : Nat} (he : e < 16) (hj : j < 36) : (symbolSum e j).1 = if j = 35 then 0 else e := by
  change gfMul e _ = _
  rw [codeColumn_head j hj]
  split
  · exact gfMul_zero e he
  · exact gfMul_one e he

/-- The sum of a wrong symbol is not 0. -/
theorem symbolSum_ne_zero {e j : Nat} (he : e < 16) (he0 : e ≠ 0) (hj : j < 36) : symbolSum e j ≠ (0, 0, 0, 0) := by
  intro hzero
  by_cases hj35 : j = 35
  · subst hj35
    rw [symbolSum_35 he] at hzero
    exact he0 (congrArg (·.2.2.2) hzero)
  · have hfst := symbolSum_fst he hj
    rw [hzero, if_neg hj35] at hfst
    exact he0 hfst.symm

section
variable {e f j k : Nat} (he : e < 16) (hf : f < 16) (he0 : e ≠ 0) (hf0 : f ≠ 0) (hj : j < 36) (hk : k < 36)
  (h : symbolSum e j = symbolSum f k)
include he hf he0 hf0 hj hk h

/-- The sum of a wrong symbol tells its error. -/
theorem symbolSum_inj_error : e = f := by
  have hfst : (if j = 35 then 0 else e) = if k = 35 then 0 else f := by
    rw [← symbolSum_fst he hj, ← symbolSum_fst hf hk, h]
  by_cases hj35 : j = 35 <;> by_cases hk35 : k = 35
  · subst hj35 hk35
    rw [symbolSum_35 he, symbolSum_35 hf] at h
    exact congrArg (·.2.2.2) h
  · rw [if_pos hj35, if_neg hk35] at hfst
    exact absurd hfst.symm hf0
  · rw [if_neg hj35, if_pos hk35] at hfst
    exact absurd hfst he0
  · rwa [if_neg hj35, if_neg hk35] at hfst

/-- The sum of a wrong symbol tells its place. -/
theorem symbolSum_inj_place : j = k := by
  obtain rfl := symbolSum_inj_error he hf he0 hf0 hj hk h
  obtain ⟨h0, h1, h2, h3⟩ : _ ∧ _ ∧ _ ∧ _ := by simpa only [symbolSum, Prod.mk.injEq] using h
  have hcancel : ∀ i < 4, gfMul e ((codeColumn j).getD i 0) = gfMul e ((codeColumn k).getD i 0) →
      (codeColumn j).getD i 0 = (codeColumn k).getD i 0 := fun i hi =>
    gfMul_cancel e he he0 _ (codeColumn_lt j hj i hi) _ (codeColumn_lt k hk i hi)
  refine codeColumn_inj j hj k hk fun i hi => ?_
  match i, hi with
  | 0, hi => exact hcancel 0 hi h0
  | 1, hi => exact hcancel 1 hi h1
  | 2, hi => exact hcancel 2 hi h2
  | 3, hi => exact hcancel 3 hi h3

end

/-- A search that only one element of the list satisfies finds it. -/
theorem find?_unique {α : Type} {p : α → Bool} {l : List α} {a : α} (ha : a ∈ l) (hp : ∀ b ∈ l, p b = true ↔ b = a) :
    l.find? p = some a := by
  cases hfind : l.find? p with
  | none => exact absurd ((hp a ha).mpr rfl) (List.find?_eq_none.mp hfind a ha)
  | some b => rw [(hp b (List.mem_of_find?_eq_some hfind)).mp (List.find?_some hfind)]

/-- A search that answers on one element of the list alone finds its answer. -/
theorem findSome?_unique {α β : Type} {f : α → Option β} {l : List α} {a : α} {b : β} (ha : a ∈ l) (hfa : f a = some b)
    (hf : ∀ c ∈ l, c ≠ a → f c = none) : l.findSome? f = some b := by
  cases hfind : l.findSome? f with
  | none => rw [List.findSome?_eq_none_iff.mp hfind a ha] at hfa; cases hfa
  | some x =>
    obtain ⟨c, hc, hfc⟩ := List.exists_of_findSome?_eq_some hfind
    by_cases hca : c = a
    · rw [← hfc, hca, hfa]
    · rw [hf c hc hca] at hfc; cases hfc

/-- The decoder's search, over the symbols and then over the errors, by the sum. -/
theorem search_symbolSum {e j : Nat} (he : e < 16) (he0 : e ≠ 0) (hj : j < 36) :
    (List.range 36).findSome? (fun k => (((List.range 16).drop 1).find? (fun f => symbolSum e j == symbolSum f k)).map
      (fun f => (k, f))) = some (j, e) := by
  have hmem : ∀ f, f ∈ (List.range 16).drop 1 ↔ f ≠ 0 ∧ f < 16 := by
    intro f
    rw [show (List.range 16).drop 1 = [1, 2, 3, 4, 5, 6, 7, 8, 9, 10, 11, 12, 13, 14, 15] from rfl]
    simp only [List.mem_cons, List.not_mem_nil, or_false]
    omega
  refine findSome?_unique (List.mem_range.mpr hj) ?_ fun k hk hkj => ?_
  · rw [find?_unique ((hmem e).mpr ⟨he0, he⟩) fun f hf => ?_]
    · rfl
    · obtain ⟨hf0, hf⟩ := (hmem f).mp hf
      rw [beq_iff_eq]
      exact ⟨fun h => (symbolSum_inj_error he hf he0 hf0 hj hj h).symm, fun h => h ▸ rfl⟩
  · rw [Option.map_eq_none_iff, List.find?_eq_none]
    intro f hf h
    obtain ⟨hf0, hf⟩ := (hmem f).mp hf
    exact hkj (symbolSum_inj_place he hf he0 hf0 hj (List.mem_range.mp hk) (beq_iff_eq.mp h)).symm

/-- A block whose sum is that of a single wrong symbol is corrected at that symbol. -/
theorem decodeBlock_corrected {w e j : Nat} (he : e < 16) (he0 : e ≠ 0) (hj : j < 36) (h : codeSum w 36 = symbolSum e j) :
    decodeBlock w = .corrected ((w ^^^ e * 2 ^ (4 * j)) % 2 ^ 128) := by
  unfold decodeBlock
  dsimp only
  rw [h, if_neg (symbolSum_ne_zero he he0 hj)]
  change (match (List.range 36).findSome? (fun k => (((List.range 16).drop 1).find? (fun f => symbolSum e j == symbolSum f k)).map
    (fun f => (k, f))) with
    | some (j, e) => BlockRead.corrected ((w ^^^ e * 2 ^ (4 * j)) % 2 ^ 128)
    | none => .bad) = _
  rw [search_symbolSum he he0 hj]

/-- One wrong symbol of a coded block is corrected. -/
theorem decodeBlock_wrong (d : Nat) {e j : Nat} (he : e < 16) (he0 : e ≠ 0) (hj : j < 36) :
    decodeBlock (encodeBlock d ^^^ e * 2 ^ (4 * j)) = .corrected (d % 2 ^ 128) := by
  have hsum : codeSum (encodeBlock d ^^^ e * 2 ^ (4 * j)) 36 = symbolSum e j := by
    rw [codeSum_xor _ _ (Nat.le_refl 36), codeSum_encodeBlock, zero_sumXor, codeSum_single he j (Nat.le_refl 36), if_pos hj]
  rw [decodeBlock_corrected he he0 hj hsum, Nat.xor_assoc, Nat.xor_self, Nat.xor_zero, encodeBlock_mod]

/-- Settles O60: stuffing by induction on the stream, scrambling because its stream is fixed, and the code by the linear sum. -/
theorem lineCodingRoundTrips : Obligations.LineCodingRoundTrips :=
  ⟨fun bits last run hrun => ⟨unstuff_stuff bits last run hrun, stuff_length_le bits last run hrun⟩,
    fun seq bits => scrambleGo_scrambleGo bits _,
    fun d => by rw [decodeBlock_clean (codeSum_encodeBlock d), encodeBlock_mod],
    fun d _ _ hj he0 he => decodeBlock_wrong d he (by omega) hj⟩

end Sys2Proof.Machine
end

section
/-! SUPPORT. What a memory in canonical form reads after a write (R105): a byte, and a list of bytes between the cells below and above it. -/

namespace Sys2Proof.Machine

open Sys2Proof Sys2Proof.Safety

/-! ## Reads of a canonical memory -/

@[simp] theorem Mem.get_nil (x : Nat) : Mem.get [] x = 0 := rfl

/-- A read of a listed or passed address, or one that goes on. -/
theorem Mem.get_cons (a : Nat) (b : Byte) (m : Mem) (x : Nat) :
    Mem.get ((a, b) :: m) x = if a = x then b else if x < a then 0 else Mem.get m x := rfl

/-- A canonical list, taken apart. -/
theorem Mem.wfFrom_cons {lo a : Nat} {b : Byte} {m : Mem} :
    Mem.wfFrom lo ((a, b) :: m) = true ↔ lo ≤ a ∧ b ≠ 0 ∧ Mem.wfFrom (a + 1) m = true := by
  simp only [Mem.wfFrom, Bool.and_eq_true, decide_eq_true_eq, bne_iff_ne, ne_eq, and_assoc]

/-- Below its bound a canonical memory reads 0. -/
theorem Mem.get_below {m : Mem} {lo x : Nat} (hw : Mem.wfFrom lo m = true) (hx : x < lo) : m.get x = 0 := by
  cases m with
  | nil => rfl
  | cons c m =>
    obtain ⟨ha, -, -⟩ := Mem.wfFrom_cons.mp hw
    rw [Mem.get_cons, if_neg (by omega), if_pos (by omega)]

/-- Every address after one byte is written. -/
theorem Mem.get_set {m : Mem} (x : Nat) (v : Byte) (y : Nat) : ∀ {lo : Nat}, Mem.wfFrom lo m = true →
    (m.set x v).get y = if y = x then v else m.get y := by
  induction m with
  | nil =>
    intro lo _
    unfold Mem.set
    grind [Mem.get_cons, Mem.get_nil]
  | cons c m ih =>
    obtain ⟨a, b⟩ := c
    intro lo hw
    obtain ⟨-, -, hm⟩ := Mem.wfFrom_cons.mp hw
    have hbelow : y < a + 1 → Mem.get m y = 0 := Mem.get_below hm
    unfold Mem.set
    rcases Nat.lt_trichotomy x a with hlt | rfl | hgt
    · rw [if_pos hlt]
      grind [Mem.get_cons]
    · rw [if_neg (Nat.lt_irrefl x), if_pos rfl]
      grind [Mem.get_cons]
    · rw [if_neg (by omega), if_neg (by omega), Mem.get_cons, Mem.get_cons, ih hm]
      grind

/-- A memory made of cells below a bound and cells from it on reads each address where it lies. -/
theorem Mem.get_append {p q : Mem} {mid : Nat} (x : Nat) (hp : ∀ c ∈ p, c.1 < mid) (hq : Mem.wfFrom mid q = true) :
    ∀ {lo : Nat}, Mem.wfFrom lo p = true → Mem.get (p ++ q) x = if x < mid then p.get x else q.get x := by
  induction p with
  | nil =>
    intro lo _
    rw [List.nil_append, Mem.get_nil]
    split
    · next hx => exact Mem.get_below hq hx
    · rfl
  | cons c p ih =>
    obtain ⟨a, b⟩ := c
    intro lo hw
    obtain ⟨-, -, hm⟩ := Mem.wfFrom_cons.mp hw
    have ha : a < mid := hp (a, b) List.mem_cons_self
    rw [List.cons_append, Mem.get_cons, Mem.get_cons, ih (fun c hc => hp c (List.mem_cons_of_mem _ hc)) hm]
    grind

/-- The cells below an address read as the memory does there. -/
theorem Mem.get_takeWhile {m : Mem} {x hi : Nat} (hx : x < hi) : Mem.get (m.takeWhile (fun c => c.1 < hi)) x = m.get x := by
  induction m with
  | nil => rfl
  | cons c m ih =>
    obtain ⟨a, b⟩ := c
    rw [List.takeWhile_cons]
    split
    · rw [Mem.get_cons, Mem.get_cons, ih]
    · next ha =>
      have hlow : ¬a < hi := by simpa using ha
      rw [Mem.get_nil, Mem.get_cons, if_neg (by omega), if_pos (by omega)]

/-- The cells from an address on read as the memory does there. -/
theorem Mem.get_dropWhile {m : Mem} {x hi : Nat} (hx : hi ≤ x) : Mem.get (m.dropWhile (fun c => c.1 < hi)) x = m.get x := by
  induction m with
  | nil => rfl
  | cons c m ih =>
    obtain ⟨a, b⟩ := c
    rw [List.dropWhile_cons]
    split
    · next ha =>
      have hlow : a < hi := by simpa using ha
      rw [ih, Mem.get_cons, if_neg (by omega), if_neg (by omega)]
    · rfl

/-- The cells of a list of bytes read its bytes. -/
theorem Mem.get_cellsAt (bytes : List Nat) : ∀ (a i : Nat), i < bytes.length →
    (cellsAt a bytes).get (a + i) = BitVec.ofNat 8 (bytes.getD i 0) := by
  induction bytes with
  | nil => exact fun _ _ hi => absurd hi (Nat.not_lt_zero _)
  | cons b bytes ih =>
    intro a i hi
    have hrest := cellsAt_wfFrom bytes (a + 1)
    cases i with
    | zero =>
      unfold cellsAt
      split
      · next hb =>
        rw [Mem.get_below hrest (by omega), List.getD_cons_zero]
        exact BitVec.eq_of_toNat_eq (by simpa using hb.symm)
      · rw [Mem.get_cons, if_pos (Nat.add_zero a).symm, List.getD_cons_zero]
    | succ i =>
      have hgo := ih (a + 1) i (Nat.lt_of_succ_lt_succ hi)
      rw [show a + 1 + i = a + (i + 1) by omega] at hgo
      unfold cellsAt
      split
      · rw [hgo, List.getD_cons_succ]
      · rw [Mem.get_cons, if_neg (by omega), if_neg (by omega), hgo, List.getD_cons_succ]

/-! ## A list of bytes -/

/-- Every address after a list of bytes is written: below it, in it, above it. -/
theorem Mem.get_write {m : Mem} (a : Nat) (bytes : List Nat) (x : Nat) (hw : m.wf = true) :
    (m.write a bytes).get x = if x < a then m.get x else if x < a + bytes.length then (cellsAt a bytes).get x else m.get x := by
  have habove := Mem.dropWhile_wfFrom (hi := a + bytes.length) hw
  have hupper : Mem.wfFrom a (cellsAt a bytes ++ m.dropWhile (fun c => c.1 < a + bytes.length)) = true :=
    Mem.wfFrom_append (cellsAt_wfFrom bytes a) (cellsAt_lt bytes a) (Nat.le_add_right _ _) habove
  unfold Mem.write
  rw [Mem.get_append x (Mem.takeWhile_lt m a) hupper (Mem.takeWhile_wfFrom _ hw),
    Mem.get_append x (cellsAt_lt bytes a) habove (cellsAt_wfFrom bytes a)]
  by_cases hlow : x < a
  · rw [if_pos hlow, if_pos hlow, Mem.get_takeWhile hlow]
  · rw [if_neg hlow, if_neg hlow]
    by_cases hin : x < a + bytes.length
    · rw [if_pos hin, if_pos hin]
    · rw [if_neg hin, if_neg hin, Mem.get_dropWhile (Nat.le_of_not_lt hin)]

/-- Settles O7: a byte by `Mem.get_set`, a list by `Mem.get_write`. -/
theorem memoryReadAfterWrite : Obligations.MemoryReadAfterWrite := by
  refine ⟨fun m a v hw => ⟨?_, fun b hb => ?_⟩, fun m a bytes hw => ⟨fun i hi => ?_, fun b hb => ?_⟩⟩
  · rw [Mem.get_set a v a hw, if_pos rfl]
  · rw [Mem.get_set a v b hw, if_neg hb]
  · rw [Mem.get_write a bytes _ hw, if_neg (by omega), if_pos (by omega), Mem.get_cellsAt bytes a i hi]
  · rw [Mem.get_write a bytes b hw]
    rcases hb with hb | hb
    · rw [if_pos hb]
    · rw [if_neg (by omega), if_neg (by omega)]

end Sys2Proof.Machine
end

section
/-! SUPPORT. The mailbox around a verb: a doorbell that is taken or ignored (R49), a verb that no chapter lists (R57), what the pair role
refuses (R332), an untidy header (R14), and how a command that has run is carried to the standby. -/

namespace Sys2Proof.Machine

open Sys2Proof Sys2Proof.Safety

/-! ## A doorbell (R49, R55) -/

/-- The doorbell of a busy slot sets DB_BUSY and no more. -/
theorem State.submit_busy {verb : Nat} {m : Mbox} {s : State} (hr : s.reachable 0 = true)
    (hbusy : ((s.hostLoad m.host).chan m.ch).busySlot m.slot = true) :
    s.submit verb m = (s.hostLoad m.host).modChan m.ch (fun x => { x with dbBusy := true }) := by
  obtain ⟨st, hload⟩ := hostLoad_eq m.host s
  have hr' : (s.hostLoad m.host).reachable 0 = true := by rw [hload]; exact hr
  unfold State.submit
  dsimp only
  rw [if_neg (by simp [hr']), if_pos hbusy]

/-- Settles O11: a busy slot is judged before anything of the command is taken. -/
theorem busySlotIgnoresDoorbell : Obligations.BusySlotIgnoresDoorbell :=
  fun _ _ _ hr hbusy => State.submit_busy hr hbusy

/-- The doorbell of a free slot is taken, at the next place in the order of the doorbells. -/
theorem State.submit_free {verb : Nat} {m : Mbox} {s : State} (hr : s.reachable 0 = true)
    (hfree : ((s.hostLoad m.host).chan m.ch).busySlot m.slot = false) :
    s.submit verb m = ((s.hostLoad m.host).modChan m.ch (fun x => x.take verb m (s.hostLoad m.host).nextPlace)).restAtOnce m.ch
      (cmdOf verb m) := by
  obtain ⟨st, hload⟩ := hostLoad_eq m.host s
  have hr' : (s.hostLoad m.host).reachable 0 = true := by rw [hload]; exact hr
  unfold State.submit
  dsimp only
  rw [if_neg (by simp [hr']), if_neg (by simp [hfree])]

/-- Nothing acts as its doorbell is taken but a STATE.REST behind other commands. -/
theorem State.restAtOnce_waits {ch : Nat} {q : QCmd} {s : State} (h : q.verb ≠ 0x0203 ∨ (s.chan ch).queue.length < 2) :
    s.restAtOnce ch q = s := by
  unfold State.restAtOnce
  exact if_pos (h.imp id fun hlen => .inr (.inr (.inr hlen)))

/-- A STATE.REST that is accepted and stands behind other commands acts at once. -/
theorem State.restAtOnce_acts {ch : Nat} {q : QCmd} {s : State} (hverb : q.verb = 0x0203) (hlive : s.live = true)
    (hgood : q.fault [] [] = none) (hrom : s.ident.romOnly = false) (hlen : 2 ≤ (s.chan ch).queue.length) :
    s.restAtOnce ch q = (s.modChan ch (fun x => { x with queue := x.queue.map (fun y =>
      if y.verb = 0x0203 ∧ y.slot = q.slot then { y with acted := true } else y) })).toRest := by
  have hacts : ¬(q.verb ≠ 0x0203 ∨ (!s.live) = true ∨ (q.fault [] []).isSome = true ∨ s.ident.romOnly = true ∨
      (s.chan ch).queue.length < 2) := by
    simp [hverb, hlive, hgood, hrom, Nat.lt_iff_add_one_le, hlen]
  unfold State.restAtOnce
  rw [if_neg hacts]

theorem le_foldl_max (l : List Nat) : ∀ a : Nat, a ≤ l.foldl max a ∧ ∀ n ∈ l, n ≤ l.foldl max a := by
  induction l with
  | nil => exact fun a => ⟨Nat.le_refl a, fun n hn => absurd hn List.not_mem_nil⟩
  | cons b l ih =>
    intro a
    obtain ⟨hacc, hmem⟩ := ih (max a b)
    rw [List.foldl_cons]
    refine ⟨Nat.le_trans (Nat.le_max_left a b) hacc, fun n hn => ?_⟩
    rcases List.mem_cons.mp hn with rfl | hn
    · exact Nat.le_trans (Nat.le_max_right a n) hacc
    · exact hmem n hn

/-- The next place lies behind that of every doorbell whose command has not completed. -/
theorem State.lt_nextPlace {s : State} {c n : Nat} (hn : n ∈ (s.chan c).order) : n < s.nextPlace := by
  have hchan : s.chan c ∈ s.mbox := by
    unfold State.chan at hn ⊢
    rw [List.getD_eq_getElem?_getD] at hn ⊢
    cases hget : s.mbox[c]? with
    | none => rw [hget] at hn; cases hn
    | some x => exact List.mem_of_getElem? hget
  exact Nat.lt_succ_of_le ((le_foldl_max _ 0).2 n (List.mem_flatMap.mpr ⟨_, hchan, hn⟩))

/-- The bytes of a response that shows a new command PENDING (R48, R51). -/
theorem Rsp.bytes_pending (verb tag : Nat) (phase : Bool) :
    ({ verb := verb, tag := tag, phase := phase, result := Res.pending } : Rsp).bytes =
      leBytes 2 verb ++ leBytes 2 tag ++ [bit phase, Res.pending, 0, 0] ++ List.replicate 56 0 := by
  have hflags : bit phase + 2 * bit false + 4 * bit false + 8 * bit false = bit phase := rfl
  have hrest : ([bit phase, Res.pending] ++ leBytes 2 0 ++ leBytes 8 0 ++ ([] ++ List.replicate 48 0).take 48 : List Nat) =
    [bit phase, Res.pending, 0, 0] ++ List.replicate 56 0 := rfl
  unfold Rsp.bytes
  dsimp only
  rw [hflags]
  simp only [List.append_assoc] at hrest ⊢
  rw [hrest]

/-- Settles O12: a free slot takes the command, and only STATE.REST may act before its turn. -/
theorem doorbellTakesTheCommand : Obligations.DoorbellTakesTheCommand := by
  intro verb m s hr hfree h t
  refine ⟨fun hwaits => ?_, fun hverb hlen hlive hrom hgood => ?_, fun c _ n hn => State.lt_nextPlace hn, Rsp.bytes_pending ..⟩
  · rw [State.submit_free hr hfree]
    exact State.restAtOnce_waits hwaits
  · rw [State.submit_free hr hfree]
    exact State.restAtOnce_acts hverb hlive hgood hrom hlen

/-! ## A command on an empty mailbox (R50, R56) -/

/-- Settles O10: the channel finds the command due, runs it, and carries what it answers (`after_submit_answered`). -/
theorem mailboxCommandRuns : Obligations.MailboxCommandRuns :=
  fun _ dt _ _ hu hv => after_submit_answered dt hu hv

/-- Settles O14: the header is judged before the arguments of every listed verb (`runVerb_form`). -/
theorem untidyCommandsAreBadArg : Obligations.UntidyCommandsAreBadArg := by
  intro ch q s o hverb hstate hheader
  obtain ⟨named, l, f, hform⟩ := runVerb_form ch s hverb
  have hfault : q.fault named l = some o := by
    unfold QCmd.fault
    rw [hheader]
  rw [hform, verbRun_bad f s hstate hfault]

/-- A verb that no chapter lists is UNSUPPORTED. -/
theorem runCmd_unlisted {ch : Nat} {q : QCmd} {s : State} (h : verbTable.contains q.verb = false) :
    s.runCmd ch q = (s, some (Reply.fail Res.unsupported 0)) := by
  have hunlisted : verbCodes.contains q.verb = false := h
  unfold State.runCmd
  exact if_pos (.inl (by rw [hunlisted]; rfl))

/-- Settles O15: the command runs (`after_submit`), and its verb is refused before anything else. -/
theorem unlistedVerbIsUnsupported : Obligations.UnlistedVerbIsUnsupported := by
  intro dt verb m s hwf hu u
  obtain ⟨⟨-, -⟩, hunlisted⟩ : (m.wf = true ∧ verb < 65536) ∧ verbTable.contains verb = false := by
    simpa [Instr.wf] using hwf
  have hrun : u.runCmd m.ch (cmdOf verb m) = (u, some (Reply.fail Res.unsupported 0)) := runCmd_unlisted hunlisted
  have hafter := after_submit dt hu
  dsimp only at hafter
  rw [hrun] at hafter
  rw [exec_unknownVerb, hwf, perform_next]
  exact congrArg Host.Outcome.next hafter

/-! ## Pair roles (R332) -/

/-- A listed verb that the role refuses changes nothing. -/
theorem runCmd_refused {ch : Nat} {q : QCmd} {s : State} {r : Reply} (hv : q.verb ∈ verbTable) (hrom : s.ident.romOnly = false)
    (hrole : s.roleRefusal q = some r) : s.runCmd ch q = (s, some r) := by
  have hlisted : q.verb ∈ verbCodes := hv
  unfold State.runCmd
  rw [if_neg (by simp [hlisted, hrom]), hrole]

/-- A verb of the ACTIVE alone, outside ARM and DISARM of a standby in REST, is refused by the role and then by the place in a gang. -/
theorem roleRefusal_activeOnly {q : QCmd} {s : State} (hactive : activeOnly q = true) (halone : s.aloneInRest q = false) :
    s.roleRefusal q = if s.butt.role = .standby then some (Reply.fail Res.notHolder 2)
      else if s.butt.role = .isolated then some (Reply.fail Res.notHolder 3)
      else if s.butt.gang ∧ s.butt.member ≠ 0 ∧ q.verb < 0x0600 then some (Reply.fail Res.notHolder 4)
      else none := by
  unfold State.roleRefusal
  exact if_neg (by simp [hactive, halone])

/-- Settles O16: the role is judged before the states and the arguments of the verb. -/
theorem pairRolesRefuse : Obligations.PairRolesRefuse := by
  intro ch q s hv hrom hactive halone
  have hrole := roleRefusal_activeOnly hactive halone
  refine ⟨fun hstandby => runCmd_refused hv hrom ?_, fun hisolated => runCmd_refused hv hrom ?_⟩
  · rw [hrole, if_pos hstandby]
  · rw [hrole, if_neg (by simp [hisolated]), if_pos hisolated]

/-! ## Carrying a command that has run (R332, R354) -/

section
variable (ch : Nat) (q : QCmd) (t : State) (rep : Reply)

/-- Outside a pair and a gang nothing is carried. -/
theorem carry_alone (hrole : t.butt.role ≠ .active) (hgang : t.butt.gang = false) :
    State.carry ch q (t, some rep) = (t, some rep) := by
  have hforwards : ¬(t.butt.role = .active ∧ forwarded q = true) := fun h => hrole h.1
  have hcarries : ¬(t.butt.gang = true ∧ t.butt.member = 0 ∧ carried q = true) := fun h => absurd h.1 (by simp [hgang])
  unfold State.carry
  dsimp only
  rw [if_neg hforwards, if_neg hcarries, ite_self]

/-- The ACTIVE forwards a command that has succeeded, and it waits for the standby. -/
theorem carry_forwarded (hrole : t.butt.role = .active) (hforwarded : forwarded q = true) (hok : rep.result = 0)
    (hup : t.pairUp = true) : State.carry ch q (t, some rep) =
      ((t.buttSend (.butt t.pairSide 0x25 (t.msgFields ch q rep))).modButt (fun b => { b with fwd := b.fwd ++
        [{ ch := ch, slot := q.slot, at_ := t.clock.up, data := rep.data, warn := rep.warn, detail := rep.detail, late := rep.late,
           keep := false, verb := q.verb }] }), none) := by
  unfold State.carry
  dsimp only [Option.getD_some]
  rw [if_neg (by simp [hok]), if_pos ⟨hrole, hforwarded⟩, if_pos hup]
  rfl

/-- With the pair link down it completes with a warning, and the mirror is no longer valid. -/
theorem carry_linkDown (hrole : t.butt.role = .active) (hforwarded : forwarded q = true) (hok : rep.result = 0)
    (hdown : t.pairUp = false) : State.carry ch q (t, some rep) =
      (t.setMirror false 3, some { rep with warn := true, detail := 0x0901 }) := by
  unfold State.carry
  dsimp only [Option.getD_some]
  rw [if_neg (by simp [hok]), if_pos ⟨hrole, hforwarded⟩, if_neg (by simp [hdown])]

end

/-- Settles O17: `State.carry` by role, kind of command and pair link. -/
theorem carryOfACompletedCommand : Obligations.CarryOfACompletedCommand :=
  fun ch q t rep => ⟨carry_alone ch q t rep, carry_forwarded ch q t rep, carry_linkDown ch q t rep⟩

end Sys2Proof.Machine
end

section
/-! SUPPORT. What the rows of the table leave: a row that something can carry and whose condition holds (the main domains are on, the
function can be reached, the channel is the host's) has its effect, and what follows at once happens. -/

namespace Sys2Proof.Machine

open Sys2Proof Sys2Proof.Safety

/-! ## A row and its condition (R446, R455) -/

section
variable {ok : Bool} {dt fn ch : Nat} {f : State → State} {s : State} (hwf : ok = true)
include hwf

/-- A row that something can carry. -/
theorem perform_after : perform ok dt f s = .next (after dt f s) := by
  rw [hwf, perform_next, after]

/-- A row of the main domains, while they are on. -/
theorem perform_whenOn (hon : (s.opens dt).mainOn = true) : perform ok dt (fun s => s.whenOn f) s = .next (after dt f s) := by
  rw [perform_after hwf, after, after, State.whenOn, if_pos hon]

/-- A row of a function, while its register space can be reached. -/
theorem perform_whenReach (hr : (s.opens dt).reachable fn = true) :
    perform ok dt (fun s => s.whenReach fn f) s = .next (after dt f s) := by
  rw [perform_after hwf, after, after, State.whenReach, if_pos hr]

/-- A row of one of the host's channels (R81). -/
theorem perform_hostChannel (hch : ch < 14) (hr : (s.opens dt).reachable fn = true) :
    perform ok dt (fun s => if ch < 14 then s.whenReach fn f else s) s = .next (after dt f s) := by
  rw [← perform_whenReach hwf hr]
  simp only [if_pos hch]

end

/-! ## The rows by unit -/

/-- Settles O34. The rows of supplies, domains, resets and links: each acts as its meaning says, once its condition holds. -/
theorem powerCommandsComplete : Obligations.PowerCommandsComplete :=
  ⟨fun _ _ _ _ hwf => (exec_vAuxApplied ..).trans (perform_after hwf),
    fun _ _ hwf => (exec_keepReset ..).trans (perform_after hwf),
    fun _ _ _ _ _ hwf => (exec_supplyThreshold ..).trans (perform_after hwf),
    fun _ _ hwf => (exec_suppliesLost ..).trans (perform_after hwf),
    fun _ _ hwf => (exec_autoOn ..).trans (perform_after hwf),
    fun _ _ hwf => (exec_domainPowerGood ..).trans (perform_after hwf),
    fun _ _ _ hwf => (exec_powerGoodMissed ..).trans (perform_after hwf),
    fun _ _ _ hwf => (exec_powerGoodLost ..).trans (perform_after hwf),
    fun _ _ _ _ _ _ _ hwf => (exec_bootEnd ..).trans (perform_after hwf),
    fun _ _ hwf => (exec_bootTimeout ..).trans (perform_after hwf),
    fun _ _ _ _ hwf hon => (exec_functionReset ..).trans (perform_whenOn hwf hon),
    fun _ _ _ _ _ _ _ _ hwf => (exec_linkTrained ..).trans (perform_after hwf),
    fun _ _ _ hwf hon => (exec_pcieLinkLost ..).trans (perform_whenOn hwf hon),
    fun _ _ _ _ hwf => (exec_hardwareShutdown ..).trans (perform_after hwf),
    fun _ _ _ _ hwf => (exec_thermalRestart ..).trans (perform_after hwf)⟩

/-- Settles O35. The rows of the side band, the log and the images: each acts as its meaning says, once its condition holds. -/
theorem zarnetrumCommandsComplete : Obligations.ZarnetrumCommandsComplete :=
  ⟨fun _ _ _ hwf => (exec_ident ..).trans (perform_after hwf),
    fun _ _ _ hwf => (exec_status ..).trans (perform_after hwf),
    fun _ _ _ hwf => (exec_zarnetrumTemps ..).trans (perform_after hwf),
    fun _ _ _ hwf => (exec_pair ..).trans (perform_after hwf),
    fun _ _ _ hwf => (exec_settings ..).trans (perform_after hwf),
    fun _ _ _ hwf => (exec_powerOn ..).trans (perform_after hwf),
    fun _ _ _ _ hwf => (exec_powerOff ..).trans (perform_after hwf),
    fun _ _ _ _ hwf => (exec_powerCycle ..).trans (perform_after hwf),
    fun _ _ _ _ hwf => (exec_restReq ..).trans (perform_after hwf),
    fun _ _ _ hwf => (exec_force ..).trans (perform_after hwf),
    fun _ _ _ hwf => (exec_lockoutClear ..).trans (perform_after hwf),
    fun _ _ _ hwf => (exec_logInfo ..).trans (perform_after hwf),
    fun _ _ _ hwf => (exec_logRead ..).trans (perform_after hwf),
    fun _ _ _ hwf => (exec_fwOpen ..).trans (perform_after hwf),
    fun _ _ _ hwf => (exec_fwData ..).trans (perform_after hwf),
    fun _ _ _ hwf => (exec_fwClose ..).trans (perform_after hwf),
    fun _ _ _ hwf => (exec_fwSelect ..).trans (perform_after hwf),
    fun _ _ _ _ hwf => (exec_unknownOp ..).trans (perform_after hwf),
    fun _ _ _ hwf => (exec_requestDiscarded ..).trans (perform_after hwf),
    fun _ _ hwf => (exec_fwSessionTimeout ..).trans (perform_after hwf),
    fun _ _ hwf => (exec_alertResponse ..).trans (perform_after hwf),
    fun _ _ hwf => (exec_logCommit ..).trans (perform_after hwf),
    fun _ _ hwf => (exec_tamper ..).trans (perform_after hwf),
    fun _ _ _ hwf => (exec_flashRefresh ..).trans (perform_after hwf),
    fun _ _ hwf => (exec_statusMirrorCopy ..).trans (perform_after hwf)⟩

/-- Settles O36. The rows of the host accesses: each acts as its meaning says, once its condition holds. -/
theorem hostAccessesComplete : Obligations.HostAccessesComplete :=
  ⟨fun _ _ _ _ _ hwf => (exec_registerWrite ..).trans (perform_after hwf),
    fun _ _ _ _ _ _ hwf => (exec_responseRead ..).trans (perform_after hwf),
    fun _ _ _ _ _ hwf => (exec_intCauseClear ..).trans (perform_after hwf),
    fun _ _ _ _ hwf => (exec_intEnableWrite ..).trans (perform_after hwf),
    fun _ _ hwf => (exec_overflowClear ..).trans (perform_after hwf),
    fun _ _ _ hwf => (exec_snapReq ..).trans (perform_after hwf),
    fun _ _ _ hwf => (exec_timeNowLowRead ..).trans (perform_after hwf),
    fun _ _ _ _ _ hwf => (exec_bar2Read ..).trans (perform_after hwf),
    fun _ _ _ _ _ hwf hr => (exec_bar2Write ..).trans (perform_whenReach hwf hr),
    fun _ _ _ hwf => (exec_bar2DroppedRead ..).trans (perform_after hwf),
    fun _ _ hwf hon => (exec_eventRingWrite ..).trans (perform_whenOn hwf hon),
    fun _ _ hwf => (exec_aliveTick ..).trans (perform_after hwf)⟩

/-- Settles O37. The rows of the channels and of module memory: each acts as its meaning says, once its condition holds. -/
theorem transferCommandsComplete : Obligations.TransferCommandsComplete :=
  ⟨fun _ _ _ _ _ hwf hch hr => (exec_ringBaseWrite ..).trans (perform_hostChannel hwf hch hr),
    fun _ _ _ _ _ hwf hch hr => (exec_enable ..).trans (perform_hostChannel hwf hch hr),
    fun _ _ _ _ hwf hch hr => (exec_abort ..).trans (perform_hostChannel hwf hch hr),
    fun _ _ _ _ hwf hch hr => (exec_disable ..).trans (perform_hostChannel hwf hch hr),
    fun _ _ _ _ _ _ hwf hch hr => (exec_tailWrite ..).trans (perform_hostChannel hwf hch hr),
    fun _ _ _ hwf hon => (exec_sourceDestinationFree ..).trans (perform_whenOn hwf hon),
    fun _ _ _ _ _ _ _ _ _ hwf hon => (exec_readCompletion ..).trans (perform_whenOn hwf hon),
    fun _ _ _ _ _ hwf hon => (exec_completionTimeout ..).trans (perform_whenOn hwf hon),
    fun _ _ _ _ hwf hon => (exec_admissionEnd ..).trans (perform_whenOn hwf hon),
    fun _ _ _ _ hwf hon => (exec_descriptorEnd ..).trans (perform_whenOn hwf hon),
    fun _ _ _ hwf hon => (exec_compressionResume ..).trans (perform_whenOn hwf hon),
    fun _ _ _ _ _ hwf => (exec_stripPipelineDecode ..).trans (perform_after hwf),
    fun _ _ _ _ _ _ hwf => (exec_memoryError ..).trans (perform_after hwf),
    fun _ _ _ _ hwf => (exec_scrubReport ..).trans (perform_after hwf)⟩

/-- Settles O38. The rows of courses, lifts, the Tie and the actions: each acts as its meaning says, once its condition holds. -/
theorem courseCommandsComplete : Obligations.CourseCommandsComplete :=
  ⟨fun _ _ _ _ hwf => (exec_courseRecord ..).trans (perform_after hwf),
    fun _ _ _ hwf => (exec_tieReplay ..).trans (perform_after hwf),
    fun _ _ hwf hon => (exec_seamDeadlineMiss ..).trans (perform_whenOn hwf hon),
    fun _ _ hwf hon => (exec_tieTrainingLost ..).trans (perform_whenOn hwf hon),
    fun _ _ _ hwf hon => (exec_lockstep ..).trans (perform_whenOn hwf hon),
    fun _ _ _ hwf hon => (exec_liftToken ..).trans (perform_whenOn hwf hon),
    fun _ _ hwf hon => (exec_commitToken ..).trans (perform_whenOn hwf hon),
    fun _ _ _ _ _ hwf hon => (exec_liftScreened ..).trans (perform_whenOn hwf hon),
    fun _ _ hwf hon => (exec_courseRelease ..).trans (perform_whenOn hwf hon),
    fun _ _ hwf hon => (exec_courseFire ..).trans (perform_whenOn hwf hon),
    fun _ _ _ hwf hon => (exec_liftBoundary ..).trans (perform_whenOn hwf hon),
    fun _ _ hwf hon => (exec_speedLoopCycle ..).trans (perform_whenOn hwf hon),
    fun _ _ hwf hon => (exec_overspeedClear ..).trans (perform_whenOn hwf hon),
    fun _ _ hwf hon => (exec_webAtRest ..).trans (perform_whenOn hwf hon),
    fun _ _ hwf hon => (exec_ceiling ..).trans (perform_whenOn hwf hon),
    fun _ _ hwf hon => (exec_resumeBegin ..).trans (perform_whenOn hwf hon),
    fun _ _ hwf hon => (exec_rejectEdge ..).trans (perform_whenOn hwf hon),
    fun _ _ _ hwf hon => (exec_actionAtCourse ..).trans (perform_whenOn hwf hon),
    fun _ _ _ hwf hon => (exec_actionAtTime ..).trans (perform_whenOn hwf hon),
    fun _ _ _ hwf hon => (exec_actionPulseEnd ..).trans (perform_whenOn hwf hon),
    fun _ _ _ hwf hon => (exec_quantaLostReport ..).trans (perform_whenOn hwf hon),
    fun _ _ _ hwf hon => (exec_saturationReport ..).trans (perform_whenOn hwf hon)⟩

/-- Settles O39. The rows of the web inputs: each acts as its meaning says, once its condition holds. -/
theorem webCommandsComplete : Obligations.WebCommandsComplete :=
  ⟨fun _ _ _ hwf hon => (exec_markEdge ..).trans (perform_whenOn hwf hon),
    fun _ _ _ hwf hon => (exec_markMiss ..).trans (perform_whenOn hwf hon),
    fun _ _ _ _ hwf hon => (exec_positionChange ..).trans (perform_whenOn hwf hon),
    fun _ _ _ _ _ _ hwf hon => (exec_illegalTransition ..).trans (perform_whenOn hwf hon),
    fun _ _ _ _ hwf hon => (exec_radiusFault ..).trans (perform_whenOn hwf hon),
    fun _ _ _ _ hwf hon => (exec_index ..).trans (perform_whenOn hwf hon),
    fun _ _ _ hwf hon => (exec_missingIndex ..).trans (perform_whenOn hwf hon),
    fun _ _ _ _ _ hwf hon => (exec_pairStatusChange ..).trans (perform_whenOn hwf hon),
    fun _ _ _ hwf => (exec_hallChange ..).trans (perform_after hwf),
    fun _ _ hwf hon => (exec_checkWindow ..).trans (perform_whenOn hwf hon),
    fun _ _ _ hwf => (exec_supplyOverload ..).trans (perform_after hwf),
    fun _ _ _ hwf hon => (exec_illegalTransitionReport ..).trans (perform_whenOn hwf hon),
    fun _ _ hwf hon => (exec_hallReport ..).trans (perform_whenOn hwf hon)⟩

/-- Settles O40. The rows of Plumb: each acts as its meaning says, once its condition holds. -/
theorem plumbCommandsComplete : Obligations.PlumbCommandsComplete :=
  ⟨fun _ _ _ _ _ hwf => (exec_fieldInputChange ..).trans (perform_after hwf),
    fun _ _ hwf => (exec_estopDisc ..).trans (perform_after hwf),
    fun _ _ _ hwf => (exec_fieldSupply ..).trans (perform_after hwf),
    fun _ _ _ _ hwf => (exec_outputFault ..).trans (perform_after hwf),
    fun _ _ _ hwf => (exec_openLoad ..).trans (perform_after hwf),
    fun _ _ _ hwf => (exec_thermOkChange ..).trans (perform_after hwf),
    fun _ _ hwf => (exec_watchdogKey ..).trans (perform_after hwf),
    fun _ _ _ hwf => (exec_watchdog ..).trans (perform_after hwf),
    fun _ _ _ hwf => (exec_heartbeatScan ..).trans (perform_after hwf)⟩

/-- Settles O41. The rows of the lanes: each acts as its meaning says, once its condition holds. -/
theorem laneCommandsComplete : Obligations.LaneCommandsComplete :=
  ⟨fun _ _ _ hwf hon => (exec_laneRxAligned ..).trans (perform_whenOn hwf hon),
    fun _ _ _ hwf hon => (exec_laneRxUnaligned ..).trans (perform_whenOn hwf hon),
    fun _ _ _ hwf hon => (exec_identTimeout ..).trans (perform_whenOn hwf hon),
    fun _ _ _ hwf hon => (exec_delayTimeout ..).trans (perform_whenOn hwf hon),
    fun _ _ _ hwf hon => (exec_statusTimeout ..).trans (perform_whenOn hwf hon),
    fun _ _ _ hwf hon => (exec_unalignedTimeout ..).trans (perform_whenOn hwf hon),
    fun _ _ _ hwf hon => (exec_lostTimeout ..).trans (perform_whenOn hwf hon),
    fun _ _ _ hwf hon => (exec_timeSend ..).trans (perform_whenOn hwf hon),
    fun _ _ _ hwf hon => (exec_echoSend ..).trans (perform_whenOn hwf hon),
    fun _ _ _ hwf hon => (exec_discoverSend ..).trans (perform_whenOn hwf hon),
    fun _ _ _ _ _ hwf hon => (exec_hello ..).trans (perform_whenOn hwf hon),
    fun _ _ _ _ _ hwf hon => (exec_statusUnit ..).trans (perform_whenOn hwf hon),
    fun _ _ _ _ _ hwf hon => (exec_tempsUnit ..).trans (perform_whenOn hwf hon),
    fun _ _ _ _ _ _ hwf hon => (exec_echoReply ..).trans (perform_whenOn hwf hon),
    fun _ _ hwf hon => (exec_discovery ..).trans (perform_whenOn hwf hon),
    fun _ _ _ hwf hon => (exec_renewSend ..).trans (perform_whenOn hwf hon),
    fun _ _ _ hwf hon => (exec_acquireRetry ..).trans (perform_whenOn hwf hon),
    fun _ _ hwf hon => (exec_restSend ..).trans (perform_whenOn hwf hon)⟩

/-- Settles O42. The rows of the node boards: each acts as its meaning says, once its condition holds. -/
theorem nodeCommandsComplete : Obligations.NodeCommandsComplete :=
  ⟨fun _ _ _ _ _ _ _ hwf => (exec_nodeFrame ..).trans (perform_after hwf),
    fun _ _ _ _ _ _ _ hwf => (exec_nodeRenew ..).trans (perform_after hwf),
    fun _ _ _ _ _ _ _ hwf => (exec_nodeRelease ..).trans (perform_after hwf),
    fun _ _ _ _ _ _ _ hwf => (exec_nodeRest ..).trans (perform_after hwf),
    fun _ _ _ _ _ _ _ hwf => (exec_nodeCancel ..).trans (perform_after hwf),
    fun _ _ _ _ _ _ _ hwf => (exec_nodeAcquire ..).trans (perform_after hwf),
    fun _ _ _ _ _ _ _ hwf => (exec_nodeConfig ..).trans (perform_after hwf),
    fun _ _ _ _ _ _ _ hwf => (exec_nodeTime ..).trans (perform_after hwf),
    fun _ _ _ _ _ _ _ hwf => (exec_nodeDiscover ..).trans (perform_after hwf),
    fun _ _ _ _ _ _ _ _ hwf => (exec_nodeEcho ..).trans (perform_after hwf),
    fun _ _ _ hwf => (exec_nodeLeaseExpiry ..).trans (perform_after hwf),
    fun _ _ _ _ _ hwf => (exec_nodeRowFire ..).trans (perform_after hwf),
    fun _ _ _ _ _ hwf => (exec_nodeStatusSend ..).trans (perform_after hwf),
    fun _ _ _ _ _ hwf => (exec_nodeTempsSend ..).trans (perform_after hwf),
    fun _ _ _ _ _ _ _ hwf => (exec_nodeReset ..).trans (perform_after hwf),
    fun _ _ _ _ _ _ hwf => (exec_nodeReceiverAlignment ..).trans (perform_after hwf),
    fun _ _ _ _ _ hwf => (exec_headFault ..).trans (perform_after hwf),
    fun _ _ _ hwf => (exec_nodeTimeOkTimeout ..).trans (perform_after hwf)⟩

/-- Settles O43. The rows of Buttress: each acts as its meaning says, once its condition holds. -/
theorem buttressCommandsComplete : Obligations.ButtressCommandsComplete :=
  ⟨fun _ _ _ _ _ _ _ hwf hon => (exec_beat ..).trans (perform_whenOn hwf hon),
    fun _ _ _ hwf hon => (exec_beatSend ..).trans (perform_whenOn hwf hon),
    fun _ _ _ _ hwf hon => (exec_buttressLinkDown ..).trans (perform_whenOn hwf hon),
    fun _ _ _ _ hwf hon => (exec_buttressLinkUp ..).trans (perform_whenOn hwf hon),
    fun _ _ _ _ _ _ hwf hon => (exec_mirror ..).trans (perform_whenOn hwf hon),
    fun _ _ _ _ _ hwf hon => (exec_epochEnd ..).trans (perform_whenOn hwf hon),
    fun _ _ _ hwf hon => (exec_progress ..).trans (perform_whenOn hwf hon),
    fun _ _ _ _ _ hwf hon => (exec_handover ..).trans (perform_whenOn hwf hon),
    fun _ _ _ _ hwf hon => (exec_msg ..).trans (perform_whenOn hwf hon),
    fun _ _ _ _ hwf hon => (exec_forwardAckTimeout ..).trans (perform_whenOn hwf hon),
    fun _ _ _ _ hwf hon => (exec_gsync ..).trans (perform_whenOn hwf hon),
    fun _ _ _ _ _ hwf hon => (exec_gtime ..).trans (perform_whenOn hwf hon),
    fun _ _ _ _ _ _ hwf hon => (exec_gseam ..).trans (perform_whenOn hwf hon),
    fun _ _ hwf hon => (exec_offsetMeasure ..).trans (perform_whenOn hwf hon),
    fun _ _ _ _ _ _ hwf hon => (exec_pairFormation ..).trans (perform_whenOn hwf hon),
    fun _ _ hwf hon => (exec_resync ..).trans (perform_whenOn hwf hon),
    fun _ _ hwf hon => (exec_takeover ..).trans (perform_whenOn hwf hon),
    fun _ _ hwf hon => (exec_acquireTimeout ..).trans (perform_whenOn hwf hon),
    fun _ _ hwf hon => (exec_swapAtReady ..).trans (perform_whenOn hwf hon),
    fun _ _ hwf hon => (exec_autoSwap ..).trans (perform_whenOn hwf hon),
    fun _ _ hwf hon => (exec_sinceSwapTick ..).trans (perform_whenOn hwf hon),
    fun _ _ hwf => (exec_heartbeatSend ..).trans (perform_after hwf),
    fun _ _ _ _ hwf => (exec_heartbeatDatagram ..).trans (perform_after hwf),
    fun _ _ hwf hon => (exec_hbOkTimeout ..).trans (perform_whenOn hwf hon)⟩

/-- Settles O44. The rows of press time: each acts as its meaning says, once its condition holds. -/
theorem timeEventsComplete : Obligations.TimeEventsComplete :=
  ⟨fun _ _ _ _ _ _ hwf => (exec_sync ..).trans (perform_after hwf),
    fun _ _ _ _ _ _ hwf => (exec_followUp ..).trans (perform_after hwf),
    fun _ _ _ _ _ hwf => (exec_delayReq ..).trans (perform_after hwf),
    fun _ _ _ _ _ hwf => (exec_delayResp ..).trans (perform_after hwf),
    fun _ _ _ _ _ _ hwf => (exec_pdelayReq ..).trans (perform_after hwf),
    fun _ _ _ _ _ _ hwf => (exec_pdelayResp ..).trans (perform_after hwf),
    fun _ _ _ _ _ hwf => (exec_pdelayRespFollowUp ..).trans (perform_after hwf),
    fun _ _ _ _ _ hwf => (exec_announce ..).trans (perform_after hwf),
    fun _ _ _ _ hwf => (exec_arp ..).trans (perform_after hwf),
    fun _ _ _ _ hwf => (exec_icmpEcho ..).trans (perform_after hwf),
    fun _ _ hwf => (exec_announceTimeout ..).trans (perform_after hwf),
    fun _ _ hwf hon => (exec_stepApply ..).trans (perform_whenOn hwf hon),
    fun _ _ hwf => (exec_rtcCopy ..).trans (perform_after hwf),
    fun _ _ hwf => (exec_ppsInEdge ..).trans (perform_after hwf),
    fun _ _ hwf => (exec_ppsOut ..).trans (perform_after hwf),
    fun _ _ hwf => (exec_ref10Lost ..).trans (perform_after hwf),
    fun _ _ hwf => (exec_ref10Restored ..).trans (perform_after hwf),
    fun _ _ _ _ hwf => (exec_camPulse ..).trans (perform_after hwf),
    fun _ _ _ _ hwf => (exec_ethernetLink ..).trans (perform_after hwf)⟩

/-- Settles O45. The rows of the lamp chains and the matrix: each acts as its meaning says, once its condition holds. -/
theorem lampEventsComplete : Obligations.LampEventsComplete :=
  ⟨fun _ _ hwf => (exec_chainFrameStart ..).trans (perform_after hwf),
    fun _ _ _ _ _ hwf => (exec_chainReturnEnd ..).trans (perform_after hwf),
    fun _ _ hwf => (exec_chainRestFrame ..).trans (perform_after hwf),
    fun _ _ _ _ hwf => (exec_driverLatch ..).trans (perform_after hwf),
    fun _ _ _ hwf => (exec_driverShareTimeout ..).trans (perform_after hwf),
    fun _ _ _ _ hwf => (exec_matrixRowSlot ..).trans (perform_after hwf),
    fun _ _ _ hwf => (exec_rowOvercurrent ..).trans (perform_after hwf)⟩

/-- Settles O46. The rows of the sensors and of calibration: each acts as its meaning says, once its condition holds. -/
theorem thermalEventsComplete : Obligations.ThermalEventsComplete :=
  ⟨fun _ _ _ _ _ _ hwf => (exec_sensorSample ..).trans (perform_after hwf),
    fun _ _ _ _ _ _ hwf => (exec_calRunEnd ..).trans (perform_after hwf),
    fun _ _ _ hwf => (exec_referenceCompare ..).trans (perform_after hwf)⟩

end Sys2Proof.Machine
end

section
/-! SUPPORT. The SYS and STATE verbs (R55, R58, R60, R80, R319, R456): what of the state is as it was when a command runs, what each verb
answers, and what the entry to READY and the clearing of latches leave of the safety block. -/

namespace Sys2Proof.Machine

open Sys2Proof Sys2Proof.Safety

/-! ## What a running command finds (R50) -/

section
variable {verb : Nat} {m : Mbox} {a : State} (hu : Usable verb m a)
include hu

/-- The identity block is as it was when the command arrived. -/
theorem running_ident : (running verb m a).ident = a.ident := by
  obtain ⟨st, mb, ti, hrunning⟩ := running_fields hu
  rw [hrunning]

theorem running_op : (running verb m a).ident.opState = a.ident.opState := by rw [running_ident hu]

theorem running_armed : (running verb m a).armed = a.armed := by rw [State.armed, running_ident hu]; rfl

theorem running_printHold : (running verb m a).printHold = a.printHold := by rw [State.printHold, running_ident hu]; rfl

theorem running_inRest : (running verb m a).inRest = a.inRest := by rw [State.inRest, running_ident hu]; rfl

theorem running_restReady : (running verb m a).restReady = a.restReady := by rw [State.restReady, running_ident hu]; rfl

/-- A usable command runs on main domains that are on (R455). -/
theorem running_mainOn : (running verb m a).mainOn = true := by
  have hr : a.reachable 0 = true := hu.2.1
  simp only [State.reachable, State.powered, Bool.and_eq_true] at hr
  rw [State.mainOn, running_ident hu]
  exact hr.1.1

end

/-! ## A verb that is accepted with good arguments, and what its command answers -/

/-- An accepted verb runs when no byte is stray and every check of its arguments holds (R54, R57). -/
theorem verbRun_tidy {ok : Bool} {q : QCmd} {named : List (Nat × Nat)} {l : List (Nat × Bool)} {f : State → VRes} {s : State}
    (hok : ok = true) (htidy : Tidy q named) (hgood : ∀ p ∈ l, p.2 = false) : verbRun ok (q.fault named l) f s = f s :=
  verbRun_good f s hok (QCmd.fault_none htidy hgood)

/-- What a usable command answers is what its verb `v` gives in the state that the command finds (R50, R56). -/
theorem submit_answers {ok : Bool} {dt verb : Nat} {m : Mbox} {s t : State} {rep : Option Reply} {v : VRes}
    {out : Host.Outcome State Fault Refusal} (hexec : out = perform ok dt (fun s => s.submit verb m) s)
    (hu : Usable verb m (s.opens dt)) (hv : verb ∈ verbTable)
    (hverb : runVerb m.ch (cmdOf verb m) (running verb m (s.opens dt)) = v) (hr : v = (t, rep)) (hok : ok = true := by exact hu.1) :
    out = .next (answered m.ch (cmdOf verb m) t rep s) := by
  rw [hexec, hok, ← hu.1]
  exact perform_submit_answered hu hv (hverb.trans hr)

/-! ## SYS (R55, R58, R456) -/

section
variable {q : QCmd} {s : State}

theorem vSysInfo_answers (hon : s.mainOn = true) (htidy : Tidy q []) :
    vSysInfo q s = (s, some (Reply.ok (
      ([0, 4, 8, 12].flatMap (fun o => leBytes 4 (s.identWord 0 o))) ++ ([0, 4, 8, 12].flatMap (fun o => leBytes 4 (s.identWord 1 o))) ++
      [80, 56, 0, 0] ++ leBytes 4 s.plinth.fwVersion ++ leBytes 8 s.ident.serial))) :=
  verbRun_tidy hon htidy (by simp)

theorem vSysPing_echoes (hon : s.mainOn = true) (htidy : Tidy q [(8, 48)]) :
    vSysPing q s = (s, some (Reply.ok ((List.range 48).map (fun i => q.byte (8 + i))))) :=
  verbRun_tidy hon htidy (by simp)

theorem vEventRing_removes (hidle : s.idleState = true) (htidy : Tidy q [(8, 9)]) (hoff : q.byte 16 = 0) :
    vEventRing q s = ({ s with ring := { overflow := s.ring.overflow, lost := s.ring.lost } }, some {}) := by
  unfold vEventRing
  dsimp only
  rw [verbRun_tidy hidle htidy, if_pos hoff]
  simp [hoff]

theorem vEventRing_sets (hidle : s.idleState = true) (htidy : Tidy q [(8, 9)]) (hlo : 16 ≤ q.byte 16) (hhi : q.byte 16 ≤ 24)
    (haligned : q.num 8 8 % 2 ^ q.byte 16 = 0) :
    vEventRing q s = ({ s with ring :=
      { valid := true, base := q.num 8 8, exp := q.byte 16, overflow := s.ring.overflow, lost := s.ring.lost } }, some {}) := by
  unfold vEventRing
  dsimp only
  rw [verbRun_tidy hidle htidy, if_neg (by omega)]
  simp [hlo, hhi, haligned]

/-- SYS.RESET accepts MODE 0 and 1, with no image named or a valid one. -/
theorem vReset_notes (hrest : s.inRest = true) (htidy : Tidy q [(8, 2)]) (hmode : q.byte 8 ≤ 1)
    (himage : q.byte 9 = 0 ∨ (q.byte 9 ≤ 2 ∧ (s.plinth.img (q.byte 9 - 1)).valid = true)) :
    vReset q s = ((s.modPlinth (fun p => { p with imgOverride := if q.byte 9 = 0 then none else some (q.byte 9 - 1) })).modPower
      (fun p => { p with resetDue := some (s.clock.up + 100000, q.byte 8 == 1) }), some {}) := by
  unfold vReset
  dsimp only
  rw [verbRun_tidy hrest htidy]
  rcases himage with hnone | ⟨hle, hvalid⟩
  · simp [hmode, hnone]
  · simp [hmode, hle, hvalid]

theorem wf_sysResetWarm {verb : Nat} {m : Mbox} {a : State} (dt : Nat) (hu : Usable verb m a) (hmode : m.arg 8 = 0) :
    Instr.wf (.sysResetWarm dt m) = true := by
  simp [Instr.wf, hu.1, hmode]

theorem wf_sysResetCold {verb : Nat} {m : Mbox} {a : State} (dt : Nat) (hu : Usable verb m a) (hmode : m.arg 8 = 1) :
    Instr.wf (.sysResetCold dt m) = true := by
  simp [Instr.wf, hu.1, hmode]

end

/-- Settles O18: each verb runs in the state that its command finds, its arguments good. -/
theorem systemCommands : Obligations.SystemCommands := by
  refine ⟨fun dt m s => ?info, fun dt m s => ?ping, fun dt m s => ?ringOff, fun dt m s => ?ringOn, fun dt m s => ?warm,
    fun dt m s => ?cold⟩
  case info =>
    intro a q u hu htidy
    exact submit_answers (exec_sysInfo ..) hu (by decide) (runVerb_vSysInfo _ rfl) (vSysInfo_answers (running_mainOn hu) htidy)
  case ping =>
    intro a q u hu htidy
    exact submit_answers (exec_sysPing ..) hu (by decide) (runVerb_vSysPing _ rfl) (vSysPing_echoes (running_mainOn hu) htidy)
  case ringOff =>
    intro a q u hu hidle htidy hoff
    exact submit_answers (exec_sysEventRing ..) hu (by decide) (runVerb_vEventRing _ rfl)
      (vEventRing_removes ((running_idleState hu).trans hidle) htidy hoff)
  case ringOn =>
    intro a q u hu hidle htidy hlo hhi haligned
    exact submit_answers (exec_sysEventRing ..) hu (by decide) (runVerb_vEventRing _ rfl)
      (vEventRing_sets ((running_idleState hu).trans hidle) htidy hlo hhi haligned)
  case warm =>
    intro a q u hu hrest htidy hmode himage
    have hruns := vReset_notes ((running_inRest hu).trans hrest) htidy (by omega) himage
    rw [show (q.byte 8 == 1) = false by simp [hmode]] at hruns
    exact submit_answers (exec_sysResetWarm ..) hu (by decide) (runVerb_vReset _ rfl) hruns (wf_sysResetWarm dt hu hmode)
  case cold =>
    intro a q u hu hrest htidy hmode himage
    have hruns := vReset_notes ((running_inRest hu).trans hrest) htidy (by omega) himage
    rw [show (q.byte 8 == 1) = true by simp [hmode]] at hruns
    exact submit_answers (exec_sysResetCold ..) hu (by decide) (runVerb_vReset _ rfl) hruns (wf_sysResetCold dt hu hmode)

end Sys2Proof.Machine
end

section
/-! SUPPORT. The STATE verbs (R60, R80, R319): what the entry to READY and the clearing of latches leave of the safety block, and what
STATE.ARM, STATE.DISARM, STATE.REST and STATE.CLEAR answer. -/

namespace Sys2Proof.Machine

open Sys2Proof Sys2Proof.Safety

/-! ## What leaves the safety block alone -/

/-- A fold whose step leaves the safety block alone leaves it alone. -/
theorem foldl_plumb {α : Type} (g : State → α → State) (l : List α) (s : State) (h : ∀ s a, (g s a).plumb = s.plumb) :
    (l.foldl g s).plumb = s.plumb := by
  induction l generalizing s with
  | nil => rfl
  | cons a l ih => rw [List.foldl_cons, ih, h]

@[simp] theorem State.message_plumb (f v : Nat) (s : State) : (s.message f v).plumb = s.plumb := by
  unfold State.message
  dsimp only
  split <;> simp

@[simp] theorem State.raise_plumb (f v : Nat) (s : State) : (s.raise f v).plumb = s.plumb := by
  unfold State.raise
  dsimp only
  split <;> simp

@[simp] theorem State.alert_plumb (k : Nat) (s : State) : (s.alert k).plumb = s.plumb := rfl

@[simp] theorem State.startTime_plumb (s : State) : s.startTime.plumb = s.plumb := rfl

@[simp] theorem State.enter_plumb (o : OpState) (s : State) : (s.enter o).plumb = s.plumb := by
  unfold State.enter
  split
  · rfl
  · dsimp only
    split <;> simp

@[simp] theorem State.giveBack_plumb (f : Nat) (s : State) (d : Desc) : (s.giveBack f d).plumb = s.plumb := by
  unfold State.giveBack
  split
  · rfl
  · split <;> simp

@[simp] theorem State.dropStaged_plumb (f c : Nat) (s : State) : (s.dropStaged f c).plumb = s.plumb :=
  foldl_plumb _ _ _ (State.giveBack_plumb f)

@[simp] theorem State.abortDone_plumb (f c : Nat) (s : State) : (s.abortDone f c).plumb = s.plumb := by
  unfold State.abortDone
  dsimp only
  split <;> simp

@[simp] theorem State.chanAbort_plumb (f c : Nat) (rest : Bool) (s : State) : (s.chanAbort f c rest).plumb = s.plumb := by
  unfold State.chanAbort
  dsimp only
  split <;> simp

@[simp] theorem State.abortAll_plumb (s : State) : s.abortAll.plumb = s.plumb :=
  foldl_plumb _ _ _ (fun s c => by simp)

@[simp] theorem State.calStop_plumb (bs : List Nat) (s : State) : (s.calStop bs).plumb = s.plumb := by
  simp [State.calStop]

@[simp] theorem State.lampsAtRest_plumb (s : State) : s.lampsAtRest.plumb = s.plumb := rfl

@[simp] theorem State.newWindow_plumb (s : State) : s.newWindow.plumb = s.plumb := rfl

/-! ## The entry to READY and the clearing of latches -/

theorem State.arm_op (s : State) : s.arm.ident.opState = .ready := by
  simp [State.arm]

/-- The entry to READY keeps no first cause (R323). -/
theorem State.arm_firstCause (s : State) : s.arm.plumb.firstCause = none := by
  simp [State.arm, State.clearFirst]

/-- What STATE.CLEAR leaves of the operating state and of the latches (R319): its changes of the encoders come after the entry to REST. -/
theorem State.clearLatches_rest (s : State) : s.clearLatches.ident.opState = .rest ∧ s.clearLatches.plumb.latched = 0 := by
  unfold State.clearLatches
  dsimp only
  split <;> simp [State.newWindow, State.clearFirst]

/-! ## What the STATE verbs answer -/

section
variable {q : QCmd} {s : State} (htidy : Tidy q [])
include htidy

theorem vArm_arms (hrest : s.ident.opState = .rest) (hnone : s.armRefusal = none) : vArm q s = (s.arm, some {}) := by
  refine Eq.trans (verbRun_tidy (by simp [hrest]) htidy (by simp)) ?_
  rw [hnone]

theorem vArm_refuses {r : Reply} (hrest : s.ident.opState = .rest) (hsome : s.armRefusal = some r) : vArm q s = (s, some r) := by
  refine Eq.trans (verbRun_tidy (by simp [hrest]) htidy (by simp)) ?_
  rw [hsome]

theorem vDisarm_rests (hready : s.ident.opState = .ready) : vDisarm q s = (s.enterRest .rest [], some {}) := by
  refine Eq.trans (verbRun_tidy (by simp [hready]) htidy (by simp)) ?_
  rw [State.toRest, if_pos (by simp [State.armed, hready])]

/-- STATE.REST acts once: the one that waited until now enters REST out of READY, PRINTING and HOLDING. -/
theorem vRest_rests (hacted : q.acted = false) (harmed : s.armed = true) : vRest q s = (s.enterRest .rest [], some {}) := by
  refine Eq.trans (verbRun_tidy (by simp [State.live, harmed]) htidy (by simp)) ?_
  simp [hacted, State.toRest, harmed]

theorem vRest_stays (hrest : s.inRest = true) : vRest q s = (s, some {}) := by
  refine Eq.trans (verbRun_tidy (by simp [State.live, hrest]) htidy (by simp)) ?_
  have harmed : s.armed = false := by
    revert hrest
    unfold State.inRest State.armed
    cases s.ident.opState <;> decide
  simp [State.toRest, harmed]

theorem vClear_clears (hfault : s.ident.opState = .fault) (hnone : s.firstUnremoved = none) :
    vClear q s = (s.clearLatches, some {}) := by
  refine Eq.trans (verbRun_tidy (by simp [hfault]) htidy (by simp)) ?_
  rw [hnone]

theorem vClear_refuses {b : Nat} (hfault : s.ident.opState = .fault) (hsome : s.firstUnremoved = some b) :
    vClear q s = (s, some (Reply.fail Res.hwFault b)) := by
  refine Eq.trans (verbRun_tidy (by simp [hfault]) htidy (by simp)) ?_
  rw [hsome]

end

/-- Settles O19. -/
theorem stateCommands : Obligations.StateCommands := by
  refine ⟨fun dt m s => ?arm, fun dt m s => ?disarm, fun dt m s => ?restArmed, fun dt m s => ?restAtRest, fun dt m s => ?clear,
    fun dt m b s => ?unremoved⟩
  case arm =>
    intro a q u hu hop htidy hnone
    have hrun := vArm_arms htidy ((running_op hu).trans hop) hnone
    exact ⟨submit_answers (exec_stateArm ..) hu (by decide) (runVerb_vArm _ rfl) hrun, u.arm_op, u.arm_firstCause⟩
  case disarm =>
    intro a q u hu hop htidy
    have hrun := vDisarm_rests htidy ((running_op hu).trans hop)
    exact ⟨submit_answers (exec_stateDisarm ..) hu (by decide) (runVerb_vDisarm _ rfl) hrun, State.enterRest_op ..⟩
  case restArmed =>
    intro a q u hu harmed htidy
    have hrun := vRest_rests htidy rfl ((running_armed hu).trans harmed)
    exact ⟨submit_answers (exec_stateRest ..) hu (by decide) (runVerb_vRest _ rfl) hrun, State.enterRest_op ..⟩
  case restAtRest =>
    intro a q u hu hrest htidy
    exact submit_answers (exec_stateRest ..) hu (by decide) (runVerb_vRest _ rfl)
      (vRest_stays htidy ((running_inRest hu).trans hrest))
  case clear =>
    intro a q u hu hop htidy hnone
    have hrun := vClear_clears htidy ((running_op hu).trans hop) hnone
    exact ⟨submit_answers (exec_stateClear ..) hu (by decide) (runVerb_vClear _ rfl) hrun, u.clearLatches_rest⟩
  case unremoved =>
    intro a q u hu hop htidy hsome
    exact submit_answers (exec_stateClear ..) hu (by decide) (runVerb_vClear _ rfl)
      (vClear_refuses htidy ((running_op hu).trans hop) hsome)

/-! ## What refuses STATE.ARM (R60) -/

/-- No bit of the word 0 is set. -/
theorem lowestBit_zero (n : Nat) : lowestBit n 0 = none := by
  simp [lowestBit, bitAt]

section
variable {s : State} (hrest : s.ident.opState = .rest)
include hrest

theorem State.armRefusal_noConfig (hgen : s.cfg.gen = 0) : s.armRefusal = some (Reply.fail Res.checkFail 0x0001) := by
  rw [State.armRefusal, if_neg (not_not_intro hrest), if_pos hgen]

variable (hgen : s.cfg.gen ≠ 0)
include hgen

theorem State.armRefusal_cause {b : Nat} (hcause : lowestBit 32 s.present.toNat = some b) :
    s.armRefusal = some (Reply.fail Res.hwFault b) := by
  rw [State.armRefusal, if_neg (not_not_intro hrest), if_neg hgen, hcause]

variable (hcause : s.present = 0)
include hcause

omit hrest hgen in
theorem State.present_lowest : lowestBit 32 s.present.toNat = none := by
  rw [hcause]
  exact lowestBit_zero 32

theorem State.armRefusal_capacity (hcap : (s.capacityFault (s.sec SecId.barGeometry) (s.sec SecId.profile)).isSome = true) :
    s.armRefusal = some (Reply.fail Res.checkFail 0x0006) := by
  rw [State.armRefusal, if_neg (not_not_intro hrest), if_neg hgen, State.present_lowest hcause]
  exact if_pos hcap

variable (hcap : s.capacityFault (s.sec SecId.barGeometry) (s.sec SecId.profile) = none)
include hcap

theorem State.armRefusal_bond (hbond : s.bondFound = false ∨ s.laneLoadNow.isSome = true) :
    s.armRefusal = some (Reply.fail Res.checkFail 0x0005) := by
  rw [State.armRefusal, if_neg (not_not_intro hrest), if_neg hgen, State.present_lowest hcause]
  exact (if_neg (by simp [hcap])).trans (if_pos (by simpa using hbond))

theorem State.armRefusal_lease {g : Nat} (hbond : s.bondFound = true) (hload : s.laneLoadNow = none) (hhead : s.unheldHead = some g)
    (hrole : s.butt.role ≠ .standby) : s.armRefusal = some (Reply.fail Res.notHolder g) := by
  rw [State.armRefusal, if_neg (not_not_intro hrest), if_neg hgen, State.present_lowest hcause, hhead]
  exact (if_neg (by simp [hcap])).trans ((if_neg (by simp [hbond, hload])).trans (if_neg hrole))

end

/-- Settles O20: the conditions of R60 are judged in its order. -/
theorem armRefusals : Obligations.ArmRefusals := by
  intro ch q s hverb hrest htidy
  dsimp only
  rw [runVerb_vArm s hverb]
  exact ⟨fun hgen => vArm_refuses htidy hrest (State.armRefusal_noConfig hrest hgen),
    fun hgen b hb => vArm_refuses htidy hrest (State.armRefusal_cause hrest hgen hb),
    fun hgen hcause => ⟨fun hcap => vArm_refuses htidy hrest (State.armRefusal_capacity hrest hgen hcause hcap),
      fun hcap => ⟨fun hbond => vArm_refuses htidy hrest (State.armRefusal_bond hrest hgen hcause hcap hbond),
        fun hbond hload g hg hrole =>
          vArm_refuses htidy hrest (State.armRefusal_lease hrest hgen hcause hcap hbond hload hg hrole)⟩⟩⟩

end Sys2Proof.Machine
end

section
/-! SUPPORT. The CFG verbs (R61 to R69, R505, R506, R511): what each answers, and what CFG.COMMIT does with a set that was checked. -/

namespace Sys2Proof.Machine

open Sys2Proof Sys2Proof.Safety

/-! ## What a running command finds of the configuration -/

/-- The configuration unit is as it was when the command arrived. -/
theorem running_cfg {verb : Nat} {m : Mbox} {a : State} (hu : Usable verb m a) : (running verb m a).cfg = a.cfg := by
  obtain ⟨st, mb, ti, hrunning⟩ := running_fields hu
  rw [hrunning]

/-! ## What fetching leaves of the configuration -/

@[simp] theorem State.message_cfg (f v : Nat) (s : State) : (s.message f v).cfg = s.cfg := by
  unfold State.message
  dsimp only
  split <;> simp

@[simp] theorem State.raise_cfg (f v : Nat) (s : State) : (s.raise f v).cfg = s.cfg := by
  unfold State.raise
  dsimp only
  split <;> simp

@[simp] theorem State.ownReads_cfg (f fuel n : Nat) (s : State) : (State.ownReads f fuel n s).cfg = s.cfg := by
  induction fuel generalizing n s with
  | zero => rfl
  | succ fuel ih =>
    unfold State.ownReads
    dsimp only
    split
    · rfl
    · rw [ih, State.modCh_cfg]

@[simp] theorem State.ownChannel_cfg (f c n : Nat) (s : State) : (s.ownChannel f c n).cfg = s.cfg := by
  simp [State.ownChannel]

@[simp] theorem State.ownFetch_cfg (n0 n1 : Nat) (s : State) : (s.ownFetch n0 n1).cfg = s.cfg := by
  unfold State.ownFetch
  dsimp only
  repeat' split
  all_goals simp

@[simp] theorem State.stage_shadowGen (id off : Nat) (bytes : List Nat) (s : State) :
    (s.stage id off bytes).cfg.shadowGen = s.cfg.shadowGen + 1 := by
  simp [State.stage]

/-! ## CFG.STAGE (R62, R505, R511) -/

section
variable {q : QCmd} {s : State} (hlive : s.live = true) (htidy : Tidy q [(8, 1), (12, 4), (16, 8), (24, 32), (56, 4)])
include hlive htidy

section
variable (hid : secLen (q.byte 8) ≠ 0) (hoff : q.num 12 4 < secLen (q.byte 8)) (hlen : q.num 56 4 ≠ 0)
  (hfits : q.num 12 4 + q.num 56 4 ≤ secLen (q.byte 8))
include hid hoff hlen hfits

/-- An inline piece of a section (R62). -/
theorem vStage_inline (haddr : q.num 16 8 = 0) (hinline : q.num 56 4 ≤ 32) (hcheck : s.checkRuns = false)
    (hpend : s.commitPending = false) : vStage q s =
      ((s.stage (q.byte 8) (q.num 12 4) ((List.range (q.num 56 4)).map (fun i => q.byte (24 + i)))).tieSend 0 tieCtrl
        (ctrlStage (q.byte 8) (q.num 12 4) 0 ((List.range (q.num 56 4)).map (fun i => q.byte (24 + i)))),
      some (Reply.ok (leBytes 8 (s.cfg.shadowGen + 1).toNat))) := by
  unfold vStage
  dsimp only
  rw [verbRun_tidy hlive htidy, hcheck, hpend]
  · simp [haddr]
  · simp [hid, hoff, hlen, hfits, haddr, hinline]

/-- A piece fetched from host memory, each wythe its share (R19, R62). -/
theorem vStage_fetched (haddr : q.num 16 8 ≠ 0) (haligned : q.num 16 8 % 64 = 0) (hfetch : q.fetchFail = false)
    (hcheck : s.checkRuns = false) (hpend : s.commitPending = false) : vStage q s =
      (((s.ownFetch (stageShares (q.byte 8) (q.num 12 4) (q.num 56 4)).1 (stageShares (q.byte 8) (q.num 12 4) (q.num 56 4)).2).stage
        (q.byte 8) (q.num 12 4) (s.store.host.read (q.num 16 8) (q.num 56 4))).tieSend 0 tieCtrl
        (ctrlStage (q.byte 8) (q.num 12 4) (q.num 16 8) (s.store.host.read (q.num 16 8) (q.num 56 4))),
      some (Reply.ok (leBytes 8 (s.cfg.shadowGen + 1).toNat))) := by
  unfold vStage
  dsimp only
  rw [verbRun_tidy hlive htidy, hcheck, hpend]
  · simp [haddr, hfetch]
  · simp [hid, hoff, hlen, hfits, haddr, haligned]

/-- A piece is not staged while a CFG.CHECK runs or a commit is pending (R63, R66). -/
theorem vStage_busy (haddr : q.num 16 8 = 0) (hinline : q.num 56 4 ≤ 32) (hbusy : s.checkRuns = true ∨ s.commitPending = true) :
    vStage q s = (s, some (Reply.fail Res.busy (if s.checkRuns = true then 0x0302 else 0x0303))) := by
  unfold vStage
  dsimp only
  rw [verbRun_tidy hlive htidy]
  · by_cases hcheck : s.checkRuns = true
    · simp [hcheck, busyCheck]
    · simp [hcheck, hbusy.resolve_left hcheck, busyCommit]
  · simp [hid, hoff, hlen, hfits, haddr, hinline]

end

/-- The length of MORTAR is set by a piece of no bytes (R511). -/
theorem vStage_mortar (hid : q.byte 8 = SecId.mortar) (hlen : q.num 56 4 = 0) (haddr : q.num 16 8 = 0)
    (hlo : mortarMin ≤ q.num 12 4) (hhi : q.num 12 4 ≤ (s.shadow SecId.mortar).len) (hcheck : s.checkRuns = false)
    (hpend : s.commitPending = false) : vStage q s =
      ((s.stage SecId.mortar (q.num 12 4) []).tieSend 0 tieCtrl (ctrlStage SecId.mortar (q.num 12 4) 0 []),
      some (Reply.ok (leBytes 8 (s.cfg.shadowGen + 1).toNat))) := by
  have hsize : secLen SecId.mortar ≠ 0 := by decide
  unfold vStage
  dsimp only
  rw [verbRun_tidy hlive htidy, hcheck, hpend]
  · simp [hid, hlen, haddr]
  · simp [hid, hlen, haddr, hlo, hhi, hsize]

end

/-! ## CFG.CHECK, CFG.CANCEL and CFG.DISCARD (R63, R68, R69) -/

section
variable {q : QCmd} {s : State} (hlive : s.live = true) (htidy : Tidy q [])
include hlive htidy

theorem vCheck_answers : vCheck q s =
    (match s.checkFails with
      | [] => s.modCfg (fun x => { x with checked := some x.shadowGen.toNat })
      | _ :: _ => s,
    some (match s.checkFails with
      | [] => Reply.ok (leBytes 8 s.cfg.shadowGen.toNat)
      | c :: l => { result := Res.checkFail, detail := c.code,
                    data := leBytes 8 s.cfg.shadowGen.toNat ++ leBytes 4 (c :: l).length ++ leBytes 4 c.section_ ++
                      leBytes 8 c.measured ++ leBytes 8 c.limit })) := by
  refine Eq.trans (verbRun_tidy hlive htidy (by simp)) ?_
  cases s.checkFails <;> rfl

theorem vCancel_idle (hnone : s.cfg.pend = none) (hruns : s.commitRuns = false) : vCancel q s = (s, some (Reply.ok [])) := by
  refine Eq.trans (verbRun_tidy hlive htidy (by simp)) ?_
  rw [hnone]
  simp [hruns]

/-- A commit applied at once is being carried to the pair or the gang. -/
theorem vCancel_carried (hnone : s.cfg.pend = none) (hruns : s.commitRuns = true) :
    vCancel q s = (s, some (Reply.fail Res.late 0x0304)) := by
  refine Eq.trans (verbRun_tidy hlive htidy (by simp)) ?_
  rw [hnone]
  simp [hruns]

theorem vCancel_open {p : Pend} (hpend : s.cfg.pend = some p) (hopen : s.liftOpen p.lift = true) :
    vCancel q s = (s.endPend Res.late 0x0304, some (Reply.ok (leBytes 8 1 ++ leBytes 8 p.gen))) := by
  refine Eq.trans (verbRun_tidy hlive htidy (by simp)) ?_
  rw [hpend]
  exact if_pos hopen

theorem vCancel_late {p : Pend} (hpend : s.cfg.pend = some p) (hopen : s.liftOpen p.lift = false) :
    vCancel q s = (s, some (Reply.fail Res.late 0x0304)) := by
  refine Eq.trans (verbRun_tidy hlive htidy (by simp)) ?_
  rw [hpend]
  exact if_neg (by simp [hopen])

theorem vDiscard_busy (hbusy : s.checkRuns = true ∨ s.commitPending = true) :
    vDiscard q s = (s, some (Reply.fail Res.busy (if s.checkRuns = true then 0x0302 else 0x0303))) := by
  refine Eq.trans (verbRun_tidy hlive htidy (by simp)) ?_
  by_cases hcheck : s.checkRuns = true
  · simp [hcheck, busyCheck]
  · simp [hcheck, hbusy.resolve_left hcheck, busyCommit]

theorem vDiscard_discards (hcheck : s.checkRuns = false) (hpend : s.commitPending = false) : vDiscard q s =
    (s.modCfg (fun x => { x with shadow := x.force, shadowGen := x.shadowGen + 1, touched := [] }),
      some (Reply.ok (leBytes 8 (s.cfg.shadowGen + 1).toNat))) := by
  refine Eq.trans (verbRun_tidy hlive htidy (by simp)) ?_
  simp [hcheck, hpend]

end

/-! ## CFG.READ (R505) -/

/-- CFG.READ copies bytes of a section of the shadow set or of the set in force. -/
theorem vCfgRead_copies {q : QCmd} {s : State} {c : Sec} (hlive : s.live = true) (htidy : Tidy q [(8, 2), (12, 4), (16, 8), (24, 4)])
    (hid : secLen (q.byte 8) ≠ 0) (hcopy : q.byte 9 ≤ 1)
    (hheld : (if q.byte 9 = 0 then assoc (q.byte 8) s.cfg.shadow else assoc (q.byte 8) s.cfg.force) = some c)
    (hoff : q.num 12 4 < c.len) (haligned : q.num 16 8 % 64 = 0) (hlen : q.num 24 4 ≠ 0) (hfits : q.num 12 4 + q.num 24 4 ≤ c.len)
    (hfetch : q.fetchFail = false) : vCfgRead q s =
      (s.copyOut (q.num 16 8) (c.mem.read (q.num 12 4) (q.num 24 4)),
        some (Reply.ok (leBytes 8 (if q.byte 9 = 0 then s.cfg.shadowGen.toNat else s.cfg.gen) ++ leBytes 4 c.len))) := by
  unfold vCfgRead
  dsimp only
  rw [verbRun_tidy hlive htidy, hheld]
  · simp [hfetch]
  · simp [hheld, hid, hcopy, hoff, haligned, hlen, hfits]

/-- Settles O21: each verb by what it answers in the state that its command finds. -/
theorem configurationCommands : Obligations.ConfigurationCommands := by
  refine ⟨fun dt m s => ?inline, fun dt m s => ?fetched, fun dt m s => ?mortar, fun dt m s => ?check, fun dt m s => ?cancelIdle,
    fun dt m s => ?cancelCarried, fun dt m s => ?cancelOpen, fun dt m s => ?stageBusy, fun dt m s => ?discardBusy,
    fun dt m s => ?discard, fun dt m s => ?readShadow, fun dt m s => ?readForce, fun dt m s => ?cancelLate⟩
  case inline =>
    intro a q u hu hlive htidy hid hoff hlen hfits haddr hinline hcheck hpend
    exact submit_answers (exec_cfgStage ..) hu (by decide) (runVerb_vStage _ rfl)
      (vStage_inline ((running_live hu).trans hlive) htidy hid hoff hlen hfits haddr hinline hcheck hpend)
  case fetched =>
    intro a q u hu hlive htidy hid hoff hlen hfits haddr haligned hfetch hcheck hpend
    exact submit_answers (exec_cfgStage ..) hu (by decide) (runVerb_vStage _ rfl)
      (vStage_fetched ((running_live hu).trans hlive) htidy hid hoff hlen hfits haddr haligned hfetch hcheck hpend)
  case mortar =>
    intro a q u hu hlive htidy hid hlen haddr hlo hhi hcheck hpend
    exact submit_answers (exec_cfgStage ..) hu (by decide) (runVerb_vStage _ rfl)
      (vStage_mortar ((running_live hu).trans hlive) htidy hid hlen haddr hlo hhi hcheck hpend)
  case check =>
    intro a q u hu hlive htidy
    refine (submit_answers (exec_cfgCheck ..) hu (by decide) (runVerb_vCheck _ rfl)
      (vCheck_answers ((running_live hu).trans hlive) htidy)).trans ?_
    rfl
  case cancelIdle =>
    intro a q u hu hlive htidy hnone hruns
    exact submit_answers (exec_cfgCancel ..) hu (by decide) (runVerb_vCancel _ rfl)
      (vCancel_idle ((running_live hu).trans hlive) htidy hnone hruns)
  case cancelCarried =>
    intro a q u hu hlive htidy hnone hruns
    exact submit_answers (exec_cfgCancel ..) hu (by decide) (runVerb_vCancel _ rfl)
      (vCancel_carried ((running_live hu).trans hlive) htidy hnone hruns)
  case cancelOpen =>
    intro a q u hu hlive htidy p hpend hopen
    exact submit_answers (exec_cfgCancel ..) hu (by decide) (runVerb_vCancel _ rfl)
      (vCancel_open ((running_live hu).trans hlive) htidy hpend hopen)
  case stageBusy =>
    intro a q u hu hlive htidy hid hoff hlen hfits haddr hinline hbusy
    exact submit_answers (exec_cfgStage ..) hu (by decide) (runVerb_vStage _ rfl)
      (vStage_busy ((running_live hu).trans hlive) htidy hid hoff hlen hfits haddr hinline hbusy)
  case discardBusy =>
    intro a q u hu hlive htidy hbusy
    exact submit_answers (exec_cfgDiscard ..) hu (by decide) (runVerb_vDiscard _ rfl)
      (vDiscard_busy ((running_live hu).trans hlive) htidy hbusy)
  case discard =>
    intro a q u hu hlive htidy hcheck hpend
    exact submit_answers (exec_cfgDiscard ..) hu (by decide) (runVerb_vDiscard _ rfl)
      (vDiscard_discards ((running_live hu).trans hlive) htidy hcheck hpend)
  case readShadow =>
    intro a q u hu hlive htidy hid hcopy c hheld hoff haligned hlen hfits hfetch
    have hrun := vCfgRead_copies ((running_live hu).trans hlive) htidy hid (by omega)
      (by rw [if_pos hcopy, running_cfg hu]; exact hheld) hoff haligned hlen hfits hfetch
    rw [if_pos hcopy] at hrun
    exact submit_answers (exec_cfgRead ..) hu (by decide) (runVerb_vCfgRead _ rfl) hrun
  case readForce =>
    intro a q u hu hlive htidy hid hcopy c hheld hoff haligned hlen hfits hfetch
    have hrun := vCfgRead_copies ((running_live hu).trans hlive) htidy hid (by omega)
      (by rw [if_neg (by omega), running_cfg hu]; exact hheld) hoff haligned hlen hfits hfetch
    rw [if_neg (by omega)] at hrun
    exact submit_answers (exec_cfgRead ..) hu (by decide) (runVerb_vCfgRead _ rfl) hrun
  case cancelLate =>
    intro a q u hu hlive htidy p hpend hopen
    exact submit_answers (exec_cfgCancel ..) hu (by decide) (runVerb_vCancel _ rfl)
      (vCancel_late ((running_live hu).trans hlive) htidy hpend hopen)

end Sys2Proof.Machine
end

section
/-! SUPPORT. CFG.COMMIT of a set that was checked (R64 to R66, R31): at once, for its lift, for the earliest lift, or too late. -/

namespace Sys2Proof.Machine

open Sys2Proof Sys2Proof.Safety

/-- A module that is armed is not in REST or FAULT (R80). -/
theorem State.inRest_of_armed {s : State} (harmed : s.armed = true) : s.inRest = false := by
  revert harmed
  unfold State.armed State.inRest
  cases s.ident.opState <;> decide

/-- A module that prints or holds is armed (R80). -/
theorem State.armed_of_printHold {s : State} (hph : s.printHold = true) : s.armed = true := by
  revert hph
  unfold State.armed State.printHold
  cases s.ident.opState <;> decide

/-- A module in REST or FAULT neither prints nor holds (R80). -/
theorem State.printHold_of_inRest {s : State} (hrest : s.inRest = true) : s.printHold = false := by
  revert hrest
  unfold State.inRest State.printHold
  cases s.ident.opState <;> decide

theorem State.live_of_armed {s : State} (harmed : s.armed = true) : s.live = true := by
  simp [State.live, harmed]

theorem State.live_of_inRest {s : State} (hrest : s.inRest = true) : s.live = true := by
  simp [State.live, hrest]

section
variable {ch : Nat} {q : QCmd} {s : State} (hlive : s.live = true) (htidy : Tidy q [(8, 8), (16, 1), (24, 8)])
  (hgen : q.num 8 8 = s.cfg.shadowGen.toNat) (hchecked : s.cfg.checked = some s.cfg.shadowGen.toNat)
  (hcheck : s.checkRuns = false) (hpend : s.commitPending = false)
include hlive htidy hgen hchecked hcheck hpend

/-- An immediate commit outside PRINTING and HOLDING applies the checked set at once (R65). -/
theorem vCommit_immediate (hkind : q.byte 16 = 0) (htarget : q.num 24 8 = 0) (hph : s.printHold = false) : vCommit ch q s =
    ((s.tieSendAll 0 tieCtrl (ctrlCommit (s.pendOf ch q.slot 0 false))).applySet (s.pendOf ch q.slot 0 false) none,
      some { data := commitData none s.cfg.shadowGen.toNat }) := by
  unfold vCommit
  dsimp only
  rw [verbRun_tidy hlive htidy]
  · simp [hcheck, hkind, hph, hgen, hchecked, hpend, State.commitNow, State.pendOf]
  · simp [hkind, htarget]

variable {lift : Nat} (htarget : (q.byte 16 = 1 ∧ lift = q.num 24 8) ∨ (q.byte 16 = 2 ∧ lift = ceilDiv (q.num 24 8) 256))
  (hidle : s.idleChange = false ∨ s.printHold = false) (hnear : lift ≤ s.presentLift + 4096)
include htarget hidle hnear

/-- A commit at a lift or course that no rule of R64 refuses turns on the state, on the lift and on AT_ONCE (R65). -/
theorem vCommit_atLift (hremote : q.remote = false) : vCommit ch q s =
    if s.inRest then s.commitNow ch q.slot true
    else if s.liftOpen lift then (s.commitAt ch q.slot lift false, none)
    else if q.atOnce then (s.commitAt ch q.slot s.earliestLift true, none)
    else (s, some (Reply.fail Res.late 0x0303)) := by
  have hkind : q.byte 16 ≠ 0 ∧ q.byte 16 ≤ 2 := by omega
  have hlift : (if q.byte 16 = 2 then ceilDiv (q.num 24 8) 256 else q.num 24 8) = lift := by
    rcases htarget with ⟨hkind, hlift⟩ | ⟨hkind, hlift⟩
    · rw [if_neg (by omega), hlift]
    · rw [if_pos hkind, hlift]
  have hidle' : ¬ (s.idleChange = true ∧ s.printHold = true) := by
    rintro ⟨hchange, hph⟩
    simp [hchange, hph] at hidle
  unfold vCommit
  dsimp only
  rw [verbRun_tidy hlive htidy, hlift]
  · rw [if_neg (by simp [hcheck]), if_neg (fun himmediate => hkind.1 himmediate.1), if_neg (not_not_intro hgen),
      if_neg (not_not_intro hchecked), if_neg hidle', if_neg (by simp [hpend]),
      if_neg (fun hfar => absurd hfar.2 (Nat.not_lt.mpr hnear)), if_neg hkind.1]
    simp only [hremote, Bool.false_eq_true, false_and, or_false]
  · simp [hkind]

/-- In REST and FAULT it applies at once, with a warning (R65). -/
theorem vCommit_atRest (hremote : q.remote = false) (hrest : s.inRest = true) : vCommit ch q s =
    ((s.tieSendAll 0 tieCtrl (ctrlCommit (s.pendOf ch q.slot 0 false))).applySet (s.pendOf ch q.slot 0 false) none,
      some { data := commitData none s.cfg.shadowGen.toNat, warn := true, detail := 0x0303 }) := by
  rw [vCommit_atLift hlive htidy hgen hchecked hcheck hpend htarget hidle hnear hremote, if_pos hrest]
  rfl

/-- Where the module is armed it waits for its lift, while that lift is open (R65). -/
theorem vCommit_accepted (hremote : q.remote = false) (hrest : s.inRest = false) (hopen : s.liftOpen lift = true) :
    vCommit ch q s = (s.commitAt ch q.slot lift false, none) := by
  rw [vCommit_atLift hlive htidy hgen hchecked hcheck hpend htarget hidle hnear hremote, if_neg (by simp [hrest]), if_pos hopen]

/-- Under AT_ONCE one that is late waits for the earliest lift, with LATE_MARK (R65). -/
theorem vCommit_lateMark (hremote : q.remote = false) (hrest : s.inRest = false) (hopen : s.liftOpen lift = false)
    (hatOnce : q.atOnce = true) : vCommit ch q s = (s.commitAt ch q.slot s.earliestLift true, none) := by
  rw [vCommit_atLift hlive htidy hgen hchecked hcheck hpend htarget hidle hnear hremote, if_neg (by simp [hrest]),
    if_neg (by simp [hopen]), if_pos hatOnce]

/-- Without AT_ONCE one that is late is refused (R65). -/
theorem vCommit_late (hremote : q.remote = false) (hrest : s.inRest = false) (hopen : s.liftOpen lift = false)
    (hatOnce : q.atOnce = false) : vCommit ch q s = (s, some (Reply.fail Res.late 0x0303)) := by
  rw [vCommit_atLift hlive htidy hgen hchecked hcheck hpend htarget hidle hnear hremote, if_neg (by simp [hrest]),
    if_neg (by simp [hopen]), if_neg (by simp [hatOnce])]

end

/-- Settles O22. -/
theorem commitAccepted : Obligations.CommitAccepted := by
  refine ⟨fun dt m s => ?immediate, fun dt m lift s => ?atRest, fun dt m lift s => ?accepted, fun dt m lift s => ?lateMark⟩
  case immediate =>
    intro a q u hu hlive htidy hkind htarget hph hgen hchecked hcheck hpend
    exact submit_answers (exec_cfgCommit ..) hu (by decide) (runVerb_vCommit _ rfl)
      (vCommit_immediate ((running_live hu).trans hlive) htidy hgen hchecked hcheck hpend hkind htarget
        ((running_printHold hu).trans hph))
  case atRest =>
    intro a q u hu hlive htidy htarget hrest hnear hgen hchecked hcheck hpend
    have hrest' : u.inRest = true := (running_inRest hu).trans hrest
    exact submit_answers (exec_cfgCommit ..) hu (by decide) (runVerb_vCommit _ rfl)
      (vCommit_atRest ((running_live hu).trans hlive) htidy hgen hchecked hcheck hpend htarget (.inr (State.printHold_of_inRest hrest'))
        hnear rfl hrest')
  case accepted =>
    intro a q u hu harmed htidy htarget hidle hnear hopen hgen hchecked hcheck hpend
    have harmed' : u.armed = true := (running_armed hu).trans harmed
    exact submit_answers (exec_cfgCommit ..) hu (by decide) (runVerb_vCommit _ rfl)
      (vCommit_accepted (State.live_of_armed harmed') htidy hgen hchecked hcheck hpend htarget
        (hidle.imp_right (running_printHold hu).trans) hnear rfl (State.inRest_of_armed harmed') hopen)
  case lateMark =>
    intro a q u hu harmed htidy htarget hidle hnear hopen hatOnce hgen hchecked hcheck hpend
    have harmed' : u.armed = true := (running_armed hu).trans harmed
    exact submit_answers (exec_cfgCommit ..) hu (by decide) (runVerb_vCommit _ rfl)
      (vCommit_lateMark (State.live_of_armed harmed') htidy hgen hchecked hcheck hpend htarget
        (hidle.imp_right (running_printHold hu).trans) hnear rfl (State.inRest_of_armed harmed') hopen hatOnce)

end Sys2Proof.Machine
end

section
/-! SUPPORT. The JOB verbs (R73 to R76, R92, R126 to R128, R507, R508): what each does with the job it names, and what JOB.OPEN places. -/

namespace Sys2Proof.Machine

open Sys2Proof Sys2Proof.Safety

/-! ## JOB.SUBMIT (R92) -/

section
variable {q : QCmd} {s : State} {j : Job} (harmed : s.armed = true) (htidy : Tidy q [(8, 6), (16, 8)])
  (hjob : s.job (q.byte 8) = some j) (hm0 : q.num 10 2 < 16384) (hm1 : q.num 12 2 < 16384)
include harmed htidy hjob hm0 hm1

/-- ATTACH binds channels that no other job holds. -/
theorem vJobSubmit_attach (hop : q.byte 9 = 1) (hfree : ∀ o ∈ s.jobs.opened, o.id ≠ j.id →
      o.chan0 &&& BitVec.ofNat 14 (q.num 10 2) = 0 ∧ o.chan1 &&& BitVec.ofNat 14 (q.num 12 2) = 0) : vJobSubmit q s =
    (s.setJob { j with chan0 := j.chan0 ||| BitVec.ofNat 14 (q.num 10 2), chan1 := j.chan1 ||| BitVec.ofNat 14 (q.num 12 2) },
      some {}) := by
  have hnone : s.jobs.opened.any (fun o => o.id != j.id &&
      (o.chan0 &&& BitVec.ofNat 14 (q.num 10 2) != 0 || o.chan1 &&& BitVec.ofNat 14 (q.num 12 2) != 0)) = false := by
    refine List.any_eq_false.mpr fun o ho => ?_
    by_cases hid : o.id = j.id
    · simp [hid]
    · simp [hfree o ho hid]
  unfold vJobSubmit
  dsimp only
  rw [verbRun_tidy harmed htidy, QCmd.jobOf, hjob]
  · dsimp only
    rw [if_pos hop, if_neg (by simp only [hnone]; decide)]
  · simp [QCmd.jobOf, hjob, hop, hm0, hm1]

/-- DETACH releases channels that hold no unfinished SOURCE descriptor of the job. -/
theorem vJobSubmit_detach (hop : q.byte 9 = 2)
    (hdone0 : ∀ c, c < 14 → (BitVec.ofNat 14 (q.num 10 2)).getLsbD c = true → j.bound 0 c = true →
      (s.ch 0 c).descs.any (fun d => d.op == 1 && d.job == j.id) = false)
    (hdone1 : ∀ c, c < 14 → (BitVec.ofNat 14 (q.num 12 2)).getLsbD c = true → j.bound 1 c = true →
      (s.ch 1 c).descs.any (fun d => d.op == 1 && d.job == j.id) = false) : vJobSubmit q s =
    (s.setJob { j with chan0 := j.chan0 &&& ~~~(BitVec.ofNat 14 (q.num 10 2)), chan1 := j.chan1 &&& ~~~(BitVec.ofNat 14 (q.num 12 2)) },
      some {}) := by
  have hnone (f : Nat) (mask : BitVec 14) (hdone : ∀ c, c < 14 → mask.getLsbD c = true → j.bound f c = true →
        (s.ch f c).descs.any (fun d => d.op == 1 && d.job == j.id) = false) :
      (List.range 14).any (fun c => mask.getLsbD c && j.bound f c && (s.ch f c).descs.any (fun d => d.op == 1 && d.job == j.id)) = false := by
    refine List.any_eq_false.mpr fun c hc => ?_
    cases hbit : mask.getLsbD c <;> cases hbound : j.bound f c <;> simp
    simpa using hdone c (List.mem_range.mp hc) hbit hbound
  unfold vJobSubmit
  dsimp only
  rw [verbRun_tidy harmed htidy, QCmd.jobOf, hjob]
  · dsimp only
    rw [if_neg (by omega), if_pos hop, if_neg (by simp only [hnone 0 _ hdone0, hnone 1 _ hdone1]; decide)]
  · simp [QCmd.jobOf, hjob, hop, hm0, hm1]

/-- END declares the last line. -/
theorem vJobSubmit_end (hop : q.byte 9 = 3) (hline : q.num 16 8 ≠ 0)
    (hlength : j.length = 0 ∧ j.repeats = false ∨ j.linesOf j.length = q.num 16 8) : vJobSubmit q s =
    ((s.setJob { j with endLine := some (q.num 16 8) }).starvation, some {}) := by
  unfold vJobSubmit
  dsimp only
  rw [verbRun_tidy harmed htidy, QCmd.jobOf, hjob]
  · dsimp only
    rw [if_neg (by omega), if_neg (by omega)]
  · rcases hlength with ⟨hstream, hrep⟩ | hlines
    · simp [QCmd.jobOf, hjob, hop, hm0, hm1, hline, hstream, hrep]
    · simp [QCmd.jobOf, hjob, hop, hm0, hm1, hline, hlines]

end

/-! ## JOB.START (R74, R75, R358) -/

/-- Outside a gang, and in one whose time offset is at most 50 ns, the offset holds no job up (R358). -/
theorem State.gang_inSync {s : State} (hsync : s.butt.gang = false ∨ s.butt.offset.natAbs ≤ 50) :
    ¬ (s.butt.gang = true ∧ 50 < s.butt.offset.natAbs) := by
  rintro ⟨hgang, hoffset⟩
  rcases hsync with hsync | hsync
  · simp [hsync] at hgang
  · omega

section
variable {q : QCmd} {s : State} {j : Job} (harmed : s.armed = true) (htidy : Tidy q [(8, 2), (16, 8)])
  (hjob : s.job (q.byte 8) = some j) (hqueued : j.state = 0)
include harmed htidy hjob hqueued

/-- In a gang whose time offset is above 50 ns no job starts (R358). -/
theorem vJobStart_mismatch
    (hargs : q.byte 9 = 0 ∧ q.num 16 8 = 0 ∨ q.byte 9 = 1 ∧ ceilDiv (q.num 16 8) 256 ≤ s.presentLift + 4096)
    (hgang : s.butt.gang = true) (hoffset : 50 < s.butt.offset.natAbs) :
    vJobStart q s = (s, some (Reply.fail Res.mismatch 3)) := by
  unfold vJobStart
  dsimp only
  rw [verbRun_tidy harmed htidy, QCmd.jobOf, hjob]
  · dsimp only
    rw [if_pos ⟨hgang, hoffset⟩]
  · rcases hargs with ⟨hnamed, hcourse⟩ | ⟨hnamed, hnear⟩
    · simp [QCmd.jobOf, hjob, hqueued, hnamed, hcourse]
    · simp [QCmd.jobOf, hjob, hqueued, hnamed, hnear]

variable (hsync : s.butt.gang = false ∨ s.butt.offset.natAbs ≤ 50)
include hsync

/-- With no boundary named the job starts at the earliest (R75). -/
theorem vJobStart_earliest (hnamed : q.byte 9 = 0) (hcourse : q.num 16 8 = 0) : vJobStart q s =
    (s.queueJob j (256 * s.earliestLift), some { data := leBytes 8 (256 * s.earliestLift) }) := by
  unfold vJobStart
  dsimp only
  rw [verbRun_tidy harmed htidy, QCmd.jobOf, hjob]
  · dsimp only
    rw [if_neg (State.gang_inSync hsync), if_pos hnamed]
    rfl
  · simp [QCmd.jobOf, hjob, hqueued, hnamed, hcourse]

variable (hnamed : q.byte 9 = 1) (hnear : ceilDiv (q.num 16 8) 256 ≤ s.presentLift + 4096) (hremote : q.remote = false)
include hnamed hnear hremote

/-- A named boundary is judged against the earliest one (R74, R75). -/
theorem vJobStart_named : vJobStart q s =
    if 256 * s.earliestLift ≤ 256 * ceilDiv (q.num 16 8) 256 ∨
        (s.ident.opState == .ready && s.webAtRest && decide (s.nextRelease < q.num 16 8)) = true then
      (s.queueJob j (256 * ceilDiv (q.num 16 8) 256), some { data := leBytes 8 (256 * ceilDiv (q.num 16 8) 256) })
    else if q.atOnce then (s.queueJob j (256 * s.earliestLift), some { data := leBytes 8 (256 * s.earliestLift), late := true })
    else (s, some (Reply.fail Res.late 0x0403)) := by
  unfold vJobStart
  dsimp only
  rw [verbRun_tidy harmed htidy, QCmd.jobOf, hjob]
  · dsimp only
    rw [if_neg (State.gang_inSync hsync), if_neg (by omega)]
    simp only [hremote, Bool.false_eq_true, false_or, startReply]
  · simp [QCmd.jobOf, hjob, hqueued, hnamed, hnear]

theorem vJobStart_inTime (hopen : s.earliestLift ≤ ceilDiv (q.num 16 8) 256) : vJobStart q s =
    (s.queueJob j (256 * ceilDiv (q.num 16 8) 256), some { data := leBytes 8 (256 * ceilDiv (q.num 16 8) 256) }) := by
  rw [vJobStart_named harmed htidy hjob hqueued hsync hnamed hnear hremote, if_pos (.inl (by omega))]

/-- In READY with the web at rest a nearer boundary will do (R75). -/
theorem vJobStart_still (hready : s.ident.opState = .ready) (hrest : s.webAtRest = true) (hahead : s.nextRelease < q.num 16 8) :
    vJobStart q s =
      (s.queueJob j (256 * ceilDiv (q.num 16 8) 256), some { data := leBytes 8 (256 * ceilDiv (q.num 16 8) 256) }) := by
  rw [vJobStart_named harmed htidy hjob hqueued hsync hnamed hnear hremote, if_pos (.inr (by simp [hready, hrest, hahead]))]

section
variable (hprint : s.printHold = true) (hlate : ceilDiv (q.num 16 8) 256 < s.earliestLift)
include hprint hlate

/-- In PRINTING and HOLDING a boundary before the earliest is late (R75). -/
theorem vJobStart_late : vJobStart q s =
    if q.atOnce then (s.queueJob j (256 * s.earliestLift), some { data := leBytes 8 (256 * s.earliestLift), late := true })
    else (s, some (Reply.fail Res.late 0x0403)) := by
  have hready : (s.ident.opState == .ready) = false := by
    revert hprint
    unfold State.printHold
    cases s.ident.opState <;> decide
  rw [vJobStart_named harmed htidy hjob hqueued hsync hnamed hnear hremote, if_neg (by simp [hready]; omega)]

end
end

/-! ## JOB.PAUSE to JOB.STATUS (R76, R508) -/

theorem vJobPause_stops {q : QCmd} {s : State} (hprint : s.ident.opState = .printing) (htidy : Tidy q []) :
    vJobPause q s = ((s.modJobs (fun x => { x with paused := true })).trigger 1 none 0, some {}) :=
  verbRun_tidy (by simp [hprint]) htidy (by simp)

theorem vJobContinue_releases {q : QCmd} {s : State} (hhold : s.ident.opState = .holding) (htidy : Tidy q []) :
    vJobContinue q s = (s.modJobs (fun x => { x with paused := false }), some {}) :=
  verbRun_tidy (by simp [hhold]) htidy (by simp)

/-- A stop in PRINTING holds the press, but on a standby (R259, R332). -/
theorem State.trigger_holds {s : State} (code : Nat) (own : Option Nat) (reason : Nat) (hprint : s.ident.opState = .printing)
    (hrole : s.butt.role ≠ .standby) : (s.trigger code own reason).ident.opState = .holding := by
  unfold State.trigger
  dsimp only
  rw [if_neg (by simp [hrole]), hprint]
  simp

/-- A verb that the ACTIVE alone accepts is not usable on a standby (R332). -/
theorem Usable.role_ne_standby {verb : Nat} {m : Mbox} {a : State} (hu : Usable verb m a) (hactive : activeOnly (cmdOf verb m) = true) :
    a.butt.role ≠ .standby := by
  obtain ⟨-, -, -, -, -, hrefusal, halone⟩ := hu
  intro hrole
  rw [State.roleRefusal, if_neg (by simp [hactive, halone]), if_pos hrole] at hrefusal
  exact absurd hrefusal (by simp)

/-- The pair and gang state is as it was when the command arrived. -/
theorem running_butt {verb : Nat} {m : Mbox} {a : State} (hu : Usable verb m a) : (running verb m a).butt = a.butt := by
  obtain ⟨st, mb, ti, hrunning⟩ := running_fields hu
  rw [hrunning]

section
variable {q : QCmd} {s : State} {j : Job} (htidy : Tidy q [(8, 1)]) (hjob : s.job (q.byte 8) = some j)
include htidy hjob

theorem vJobAbort_ends (harmed : s.armed = true) (hstarted : j.state = 1 ∨ j.state = 2) :
    vJobAbort q s = (s.abortJob j, some {}) := by
  unfold vJobAbort
  rw [verbRun_tidy harmed htidy, QCmd.jobOf, hjob]
  rcases hstarted with hstate | hstate <;> simp [QCmd.jobOf, hjob, hstate]

variable (hlive : s.live = true)
include hlive

theorem vJobClose_frees (hqueued : j.state ≠ 1) (hprints : j.state ≠ 2) : vJobClose q s =
    ((s.modJobs (fun x => { x with
      opened := x.opened.filter (·.id != j.id), lines := x.lines.filter (·.job != j.id), strips := x.strips.filter (·.job != j.id),
      order := x.order.filter (· != j.id) })).updateCeil, some {}) := by
  unfold vJobClose
  rw [verbRun_tidy hlive htidy, QCmd.jobOf, hjob]
  · exact if_neg (by simp [hqueued, hprints])
  · simp [QCmd.jobOf, hjob]

theorem vJobClose_started (hstarted : j.state = 1 ∨ j.state = 2) :
    vJobClose q s = (s, some (Reply.fail Res.badState s.ident.opState.code)) := by
  unfold vJobClose
  rw [verbRun_tidy hlive htidy, QCmd.jobOf, hjob]
  · exact if_pos hstarted
  · simp [QCmd.jobOf, hjob]

theorem vJobStatus_reports : vJobStatus q s = (s, some (Reply.ok (s.jobReport j))) := by
  unfold vJobStatus
  rw [verbRun_tidy hlive htidy, QCmd.jobOf, hjob]
  simp [QCmd.jobOf, hjob]

end

theorem wf_jobSubmitAttach {verb : Nat} {m : Mbox} {a : State} (dt : Nat) (hu : Usable verb m a) (hop : m.arg 9 = 1) :
    Instr.wf (.jobSubmitAttach dt m) = true := by
  simp [Instr.wf, hu.1, hop]

theorem wf_jobSubmitDetach {verb : Nat} {m : Mbox} {a : State} (dt : Nat) (hu : Usable verb m a) (hop : m.arg 9 = 2) :
    Instr.wf (.jobSubmitDetach dt m) = true := by
  simp [Instr.wf, hu.1, hop]

theorem wf_jobSubmitEnd {verb : Nat} {m : Mbox} {a : State} (dt : Nat) (hu : Usable verb m a) (hop : m.arg 9 = 3) :
    Instr.wf (.jobSubmitEnd dt m) = true := by
  simp [Instr.wf, hu.1, hop]

/-- Settles O23. -/
theorem jobCommands : Obligations.JobCommands := by
  refine ⟨fun dt m s => ?attach, fun dt m s => ?detach, fun dt m s => ?endLine, fun dt m s => ?earliest, fun dt m s => ?inTime,
    fun dt m s => ?still, fun dt m s => ?lateMark, fun dt m s => ?pause, fun dt m s => ?continue_, fun dt m s => ?abort,
    fun dt m s => ?close, fun dt m s => ?status, fun dt m s => ?mismatch, fun dt m s => ?closeStarted⟩
  case attach =>
    intro a q u hu harmed htidy j hjob hop hm0 hm1 hfree
    exact submit_answers (exec_jobSubmitAttach ..) hu (by decide) (runVerb_vJobSubmit _ rfl)
      (vJobSubmit_attach ((running_armed hu).trans harmed) htidy hjob hm0 hm1 hop hfree) (wf_jobSubmitAttach dt hu hop)
  case detach =>
    intro a q u hu harmed htidy j hjob hop hm0 hm1 hdone0 hdone1
    exact submit_answers (exec_jobSubmitDetach ..) hu (by decide) (runVerb_vJobSubmit _ rfl)
      (vJobSubmit_detach ((running_armed hu).trans harmed) htidy hjob hm0 hm1 hop hdone0 hdone1) (wf_jobSubmitDetach dt hu hop)
  case endLine =>
    intro a q u hu harmed htidy j hjob hop hm0 hm1 hline hlength
    exact submit_answers (exec_jobSubmitEnd ..) hu (by decide) (runVerb_vJobSubmit _ rfl)
      (vJobSubmit_end ((running_armed hu).trans harmed) htidy hjob hm0 hm1 hop hline hlength) (wf_jobSubmitEnd dt hu hop)
  case earliest =>
    intro a q u hu harmed htidy j hjob hqueued hnamed hcourse hsync
    exact submit_answers (exec_jobStart ..) hu (by decide) (runVerb_vJobStart _ rfl)
      (vJobStart_earliest ((running_armed hu).trans harmed) htidy hjob hqueued hsync hnamed hcourse)
  case inTime =>
    intro a q u hu harmed htidy j hjob hqueued hnamed hnear hsync hopen
    exact submit_answers (exec_jobStart ..) hu (by decide) (runVerb_vJobStart _ rfl)
      (vJobStart_inTime ((running_armed hu).trans harmed) htidy hjob hqueued hsync hnamed hnear rfl hopen)
  case still =>
    intro a q u hu hready htidy j hjob hqueued hnamed hnear hsync hrest hahead
    have hready' : u.ident.opState = .ready := (running_op hu).trans hready
    have harmed : u.armed = true := by simp [State.armed, hready']
    exact submit_answers (exec_jobStart ..) hu (by decide) (runVerb_vJobStart _ rfl)
      (vJobStart_still harmed htidy hjob hqueued hsync hnamed hnear rfl hready' hrest hahead)
  case lateMark =>
    intro a q u hu hprint htidy j hjob hqueued hnamed hnear hsync hlate hatOnce
    have hprint' : u.printHold = true := (running_printHold hu).trans hprint
    have hrun := vJobStart_late (State.armed_of_printHold hprint') htidy hjob hqueued hsync hnamed hnear rfl hprint' hlate
    exact submit_answers (exec_jobStart ..) hu (by decide) (runVerb_vJobStart _ rfl) (hrun.trans (if_pos hatOnce))
  case pause =>
    intro a q u hu hprint htidy
    have hprint' : u.ident.opState = .printing := (running_op hu).trans hprint
    have hrole : u.butt.role ≠ .standby := by rw [running_butt hu]; exact Usable.role_ne_standby hu rfl
    exact ⟨submit_answers (exec_jobPause ..) hu (by decide) (runVerb_vJobPause _ rfl) (vJobPause_stops hprint' htidy),
      State.trigger_holds 1 none 0 (by simpa using hprint') (by simpa using hrole)⟩
  case continue_ =>
    intro a q u hu hhold htidy
    exact submit_answers (exec_jobContinue ..) hu (by decide) (runVerb_vJobContinue _ rfl)
      (vJobContinue_releases ((running_op hu).trans hhold) htidy)
  case abort =>
    intro a q u hu harmed htidy j hjob hstarted
    exact submit_answers (exec_jobAbort ..) hu (by decide) (runVerb_vJobAbort _ rfl)
      (vJobAbort_ends htidy hjob ((running_armed hu).trans harmed) hstarted)
  case close =>
    intro a q u hu hlive htidy j hjob hqueued hprints
    exact submit_answers (exec_jobClose ..) hu (by decide) (runVerb_vJobClose _ rfl)
      (vJobClose_frees htidy hjob ((running_live hu).trans hlive) hqueued hprints)
  case status =>
    intro a q u hu hlive htidy j hjob
    exact submit_answers (exec_jobStatus ..) hu (by decide) (runVerb_vJobStatus _ rfl)
      (vJobStatus_reports htidy hjob ((running_live hu).trans hlive))
  case mismatch =>
    intro a q u hu harmed htidy j hjob hqueued hargs hgang hoffset
    exact submit_answers (exec_jobStart ..) hu (by decide) (runVerb_vJobStart _ rfl)
      (vJobStart_mismatch ((running_armed hu).trans harmed) htidy hjob hqueued hargs hgang hoffset)
  case closeStarted =>
    intro a q u hu hlive htidy j hjob hstarted
    exact submit_answers (exec_jobClose ..) hu (by decide) (runVerb_vJobClose _ rfl)
      (vJobClose_started htidy hjob ((running_live hu).trans hlive) hstarted)

end Sys2Proof.Machine
end

section
/-! SUPPORT. JOB.OPEN (R73, R127, R128, R507, R508): the job that its arguments ask for, and where it is placed. -/

namespace Sys2Proof.Machine

open Sys2Proof Sys2Proof.Safety

/-- What R507 asks of the arguments of JOB.OPEN. -/
structure OpenArgs (q : QCmd) : Prop where
  kind : q.byte 8 ≤ 1
  placement : q.byte 9 ≤ 1
  someChannel : q.num 10 2 ≠ 0
  channels : q.num 10 2 < 4096
  xHalf : q.byte 12 ≤ 1
  yHalf : q.byte 13 ≤ 1
  repeated : (q.byte 8 == 0) = true → q.num 16 8 ≠ 0 ∧ q.num 24 8 ≠ 0
  streamed : (q.byte 8 == 0) = false → q.num 24 8 = 0
  ring : (q.byte 8 == 0) = true ∨ field (q.num 32 4) 16 4 = 0 ∨ (6 ≤ field (q.num 32 4) 16 4 ∧ field (q.num 32 4) 16 4 ≤ 10)
  ratio : field (q.num 32 4) 8 8 = 0 ∨ 16 ≤ field (q.num 32 4) 8 8
  reservedLow : field (q.num 32 4) 1 7 = 0
  reservedHigh : field (q.num 32 4) 20 12 = 0

/-- The job that JOB.OPEN asks for, before it is placed. -/
def State.askedJob (s : State) (q : QCmd) : Job :=
  { id := s.freeJobId, repeats := q.byte 8 == 0, ashlar := q.byte 9 == 1, mask := BitVec.ofNat 12 (q.num 10 2),
    xHalf := q.byte 12 == 1, yHalf := q.byte 13 == 1, length := q.num 16 8, tile := q.num 24 8,
    noComp := bitAt (q.num 32 4) 0, ratio16 := if field (q.num 32 4) 8 8 = 0 then 32 else field (q.num 32 4) 8 8, key := s.freeCtr,
    first := q.first, width := q.width, east := s.neighbour 0, west := s.neighbour 1 }

/-- The ring exponent that JOB.OPEN asks for. -/
def QCmd.askedRing (q : QCmd) : Nat := if field (q.num 32 4) 16 4 = 0 then 6 else field (q.num 32 4) 16 4

/-- A job at its placements and ring exponents, with the extents that it claims there. -/
def State.placed (s : State) (j : Job) (a b : Nat × Nat) : Job :=
  let j : Job := { j with place0 := a.1, ring0 := a.2, place1 := b.1, ring1 := b.2 }
  { j with ext0 := j.extentsFor (s.sec SecId.barGeometry) 0 a.1 a.2 1 1, ext1 := j.extentsFor (s.sec SecId.barGeometry) 1 b.1 b.2 1 1 }

/-- The state in which a placed job is open. -/
def State.opensJob (s : State) (j : Job) : State :=
  ((State.modJobs (fun x => { x with opened := x.opened ++ [j] }) { s with freeCtr := s.freeCtr + 1 }).claimExtents j.id).updateCeil

section
variable {q : QCmd} {s : State} (harmed : s.armed = true) (htidy : Tidy q [(8, 6), (16, 20)]) (hargs : OpenArgs q)
include harmed htidy hargs

/-- With good arguments and room for a job JOB.OPEN turns on the two placements. -/
theorem vJobOpen_places (hroom : s.jobs.opened.length < 16) : vJobOpen q s =
    match s.placeJob (s.askedJob q) q.askedRing 0, s.placeJob (s.askedJob q) q.askedRing 1 with
    | none, _ => (s, some (Reply.fail Res.noSpace 0x0010))
    | some _, none => (s, some (Reply.fail Res.noSpace 0x0011))
    | some a, some b =>
      (s.opensJob (s.placed (s.askedJob q) a b),
        some (Reply.ok ((s.opensJob (s.placed (s.askedJob q) a b)).openReport (s.placed (s.askedJob q) a b)))) := by
  obtain ⟨hkind, hplacement, hsome, hchannels, hx, hy, hrep, hstream, hring, hratio, hlow, hhigh⟩ := hargs
  unfold vJobOpen
  dsimp only
  rw [verbRun_tidy harmed htidy]
  · rw [if_neg (by omega)]
    rfl
  · cases hr : q.byte 8 == 0
    · have htile := hstream hr
      have hexp : ¬ ((1 ≤ field (q.num 32 4) 16 4 ∧ field (q.num 32 4) 16 4 ≤ 5) ∨ 11 ≤ field (q.num 32 4) 16 4) := by
        rcases hring with hring | hring
        · simp [hr] at hring
        · omega
      have hfold : ¬ (1 ≤ field (q.num 32 4) 8 8 ∧ field (q.num 32 4) 8 8 ≤ 15) := by omega
      simp_all
    · obtain ⟨hlength, htile⟩ := hrep hr
      have hfold : ¬ (1 ≤ field (q.num 32 4) 8 8 ∧ field (q.num 32 4) 8 8 ≤ 15) := by omega
      simp_all

end

/-- Settles O24: the placements that the two wythes find decide. -/
theorem jobOpenPlaces : Obligations.JobOpenPlaces := by
  intro dt m s a q u rh exp rep j0 ring geo hu harmed htidy hkind hplacement hsome hchannels hx hy hrep hstream hring hratio hlow hhigh
    hroom
  have hargs : OpenArgs q := ⟨hkind, hplacement, hsome, hchannels, hx, hy, hrep, hstream, hring, hratio, hlow, hhigh⟩
  have hplaces := vJobOpen_places ((running_armed hu).trans harmed) htidy hargs hroom
  refine ⟨fun p0 p1 h0 h1 => ?_, fun h0 => ?_, fun p0 h0 h1 => ?_⟩
  · have hrun : vJobOpen q u = (u.opensJob (u.placed (u.askedJob q) p0 p1),
        some (Reply.ok ((u.opensJob (u.placed (u.askedJob q) p0 p1)).openReport (u.placed (u.askedJob q) p0 p1)))) := by
      change u.placeJob (u.askedJob q) q.askedRing 0 = some p0 at h0
      change u.placeJob (u.askedJob q) q.askedRing 1 = some p1 at h1
      rw [hplaces, h0, h1]
    exact submit_answers (exec_jobOpen ..) hu (by decide) (runVerb_vJobOpen _ rfl) hrun
  · have hrun : vJobOpen q u = (u, some (Reply.fail Res.noSpace 0x0010)) := by
      change u.placeJob (u.askedJob q) q.askedRing 0 = none at h0
      rw [hplaces, h0]
    exact submit_answers (exec_jobOpen ..) hu (by decide) (runVerb_vJobOpen _ rfl) hrun
  · have hrun : vJobOpen q u = (u, some (Reply.fail Res.noSpace 0x0011)) := by
      change u.placeJob (u.askedJob q) q.askedRing 0 = some p0 at h0
      change u.placeJob (u.askedJob q) q.askedRing 1 = none at h1
      rw [hplaces, h0, h1]
    exact submit_answers (exec_jobOpen ..) hu (by decide) (runVerb_vJobOpen _ rfl) hrun

end Sys2Proof.Machine
end

section
/-! SUPPORT. The EVT verbs (R77 to R79, R258, R376, R509): an action that is accepted, late or refused, and what becomes of those that
wait. -/

namespace Sys2Proof.Machine

open Sys2Proof Sys2Proof.Safety

/-! ## An action is accepted or late (R77, R78) -/

section
variable {s : State} (act : Act) (atOnce : Bool) (verb : Nat) (hroom : s.acts.pend.length < 1024)
include hroom

theorem State.acceptAct_inTime : s.acceptAct act false atOnce verb =
    ((s.schedule { act with late := false }).anticipate, some { data := leBytes 4 s.acts.nextId }) := by
  unfold State.acceptAct
  rw [if_neg (by omega), if_neg (by simp)]
  exact if_neg (by simp)

theorem State.acceptAct_late : s.acceptAct act true false verb = (s, some (Reply.fail Res.late verb)) := by
  unfold State.acceptAct
  rw [if_neg (by omega), if_pos (by simp)]

/-- Under AT_ONCE a late action waits for the next lift boundary in PRINTING and HOLDING. -/
theorem State.acceptAct_lateWaits (hprint : s.printHold = true) : s.acceptAct act true true verb =
    ((s.schedule { act with late := true }).anticipate, some { data := leBytes 4 s.acts.nextId, late := true }) := by
  have hprint' : (s.schedule { act with late := true }).printHold = true := hprint
  unfold State.acceptAct
  rw [if_neg (by omega), if_neg (by simp)]
  exact if_neg (by simp [hprint'])

/-- Under AT_ONCE a late action runs at once outside PRINTING and HOLDING. -/
theorem State.acceptAct_lateRuns (hprint : s.printHold = false) : s.acceptAct act true true verb =
    ((s.schedule { act with late := true }).runAction true { act with id := s.acts.nextId, late := true },
      some { data := leBytes 4 s.acts.nextId, late := true }) := by
  have hprint' : (s.schedule { act with late := true }).printHold = false := hprint
  unfold State.acceptAct
  rw [if_neg (by omega), if_neg (by simp)]
  exact if_pos (by simp [hprint'])

end

/-! ## EVT.AT_COURSE and EVT.AT_TIME (R77, R258, R376) -/

/-- The action that EVT.AT_COURSE asks for. -/
def QCmd.courseAct (q : QCmd) : Act := { byTime := false, code := q.byte 17, arg := q.num 20 4, moment := q.num 8 8, frac := q.byte 16 }

/-- The action that EVT.AT_TIME asks for. -/
def QCmd.timeAct (q : QCmd) : Act := { byTime := true, code := q.byte 17, arg := q.num 20 4, moment := q.num 8 8, frac := 0 }

section
variable {q : QCmd} {s : State} (harmed : s.armed = true) (hcode : actionOk (q.byte 17) = true)
  (hout : s.outputBad (q.byte 17) (q.num 20 4) = false)
include harmed hcode hout

theorem vAtCourse_accepts {passed : Bool} (htidy : Tidy q [(8, 10), (20, 4)])
    (hpassed : s.coursePassed (q.num 8 8) (q.byte 16) = passed) :
    vAtCourse q s = s.acceptAct q.courseAct passed q.atOnce 0x0501 := by
  subst hpassed
  unfold vAtCourse
  dsimp only
  rw [verbRun_tidy harmed htidy]
  · rfl
  · simp [hcode, hout]

theorem vAtTime_accepts {passed : Bool} (htidy : Tidy q [(8, 8), (17, 1), (20, 4)]) (heven : bitAt (q.num 8 8) 0 = false)
    (hpassed : decide (q.num 8 8 < s.now + 10000) = passed) : vAtTime q s = s.acceptAct q.timeAct passed q.atOnce 0x0502 := by
  subst hpassed
  unfold vAtTime
  dsimp only
  rw [verbRun_tidy harmed htidy]
  · rfl
  · simp [heven, hcode, hout]

end

/-! ## EVT.CANCEL and EVT.LIST (R79, R509) -/

section
variable {q : QCmd} {s : State} (hlive : s.live = true)
include hlive

theorem vEvtCancel_removes (htidy : Tidy q [(8, 4)]) (hpend : s.acts.pend.any (·.id == q.num 8 4) = true) : vEvtCancel q s =
    ((s.acts.pend.filter (·.id == q.num 8 4)).foldl (fun (t : State) a => t.unqueue a)
      (s.modActs (fun x => { x with pend := x.pend.filter (·.id != q.num 8 4) })), some {}) := by
  unfold vEvtCancel
  dsimp only
  rw [verbRun_tidy hlive htidy, if_pos hpend]
  simp [hpend]

theorem vEvtCancel_late (htidy : Tidy q [(8, 4)]) (hpend : s.acts.pend.any (·.id == q.num 8 4) = false) {t : Nat}
    (hran : assoc (q.num 8 4) s.acts.done = some t) :
    vEvtCancel q s = (s, some { result := Res.late, detail := 0x0503, data := leBytes 8 t }) := by
  unfold vEvtCancel
  dsimp only
  rw [verbRun_tidy hlive htidy, if_neg (by simp only [hpend]; decide), hran]
  · rfl
  · simp [hran]

theorem vEvtList_copies (htidy : Tidy q [(8, 4), (16, 8)]) (hsome : q.num 8 4 ≠ 0) (hmax : q.num 8 4 ≤ 1024)
    (haligned : q.num 16 8 % 64 = 0) (hfetch : q.fetchFail = false) : vEvtList q s =
    (s.copyOut (q.num 16 8) (((s.acts.pend.foldr insertAct []).take (q.num 8 4)).flatMap Act.bytes),
      some (Reply.ok (leBytes 4 ((s.acts.pend.foldr insertAct []).take (q.num 8 4)).length ++ leBytes 4 s.acts.pend.length))) := by
  unfold vEvtList
  dsimp only
  rw [verbRun_tidy hlive htidy, if_neg (by simp [hfetch])]
  simp [hsome, hmax, haligned]

end

/-! ## What holds of the state in READY, PRINTING and HOLDING (R80) -/

theorem State.armed_of_ready {s : State} (hready : s.ident.opState = .ready) : s.armed = true := by
  simp [State.armed, hready]

theorem State.printHold_of_ready {s : State} (hready : s.ident.opState = .ready) : s.printHold = false := by
  simp [State.printHold, hready]

/-- Settles O25: whether the moment has passed, the state and AT_ONCE decide what becomes of an action. -/
theorem eventCommands : Obligations.EventCommands := by
  refine ⟨fun dt m s => ?courseInTime, fun dt m s => ?courseWaits, fun dt m s => ?courseRuns, fun dt m s => ?timeInTime,
    fun dt m s => ?cancel, fun dt m s => ?cancelLate, fun dt m s => ?list, fun dt m s => ?timeWaits, fun dt m s => ?timeRuns⟩
  case courseInTime =>
    intro a q u hu harmed htidy hcode hout hroom hpassed
    have hverb := vAtCourse_accepts ((running_armed hu).trans harmed) hcode hout htidy hpassed
    exact submit_answers (exec_evtAtCourse ..) hu (by decide) ((runVerb_vAtCourse _ rfl).trans hverb)
      (State.acceptAct_inTime _ _ _ hroom)
  case courseWaits =>
    intro a q u hu hprint htidy hcode hout hroom hpassed hatOnce
    have hprint' : u.printHold = true := (running_printHold hu).trans hprint
    have hverb := vAtCourse_accepts (State.armed_of_printHold hprint') hcode hout htidy hpassed
    rw [show q.atOnce = true from hatOnce] at hverb
    exact submit_answers (exec_evtAtCourse ..) hu (by decide) ((runVerb_vAtCourse _ rfl).trans hverb)
      (State.acceptAct_lateWaits _ _ hroom hprint')
  case courseRuns =>
    intro a q u hu hready htidy hcode hout hroom hpassed hatOnce
    have hready' : u.ident.opState = .ready := (running_op hu).trans hready
    have hverb := vAtCourse_accepts (State.armed_of_ready hready') hcode hout htidy hpassed
    rw [show q.atOnce = true from hatOnce] at hverb
    exact submit_answers (exec_evtAtCourse ..) hu (by decide) ((runVerb_vAtCourse _ rfl).trans hverb)
      (State.acceptAct_lateRuns _ _ hroom (State.printHold_of_ready hready'))
  case timeInTime =>
    intro a q u hu harmed htidy heven hcode hout hroom hahead
    have hverb := vAtTime_accepts ((running_armed hu).trans harmed) hcode hout htidy heven (decide_eq_false (Nat.not_lt.mpr hahead))
    exact submit_answers (exec_evtAtTime ..) hu (by decide) ((runVerb_vAtTime _ rfl).trans hverb)
      (State.acceptAct_inTime _ _ _ hroom)
  case cancel =>
    intro a q u hu hlive htidy hpend
    exact submit_answers (exec_evtCancel ..) hu (by decide) (runVerb_vEvtCancel _ rfl)
      (vEvtCancel_removes ((running_live hu).trans hlive) htidy hpend)
  case cancelLate =>
    intro a q u hu hlive htidy hpend t hran
    exact submit_answers (exec_evtCancel ..) hu (by decide) (runVerb_vEvtCancel _ rfl)
      (vEvtCancel_late ((running_live hu).trans hlive) htidy hpend hran)
  case list =>
    intro a q u hu hlive htidy hsome hmax haligned hfetch
    exact submit_answers (exec_evtList ..) hu (by decide) (runVerb_vEvtList _ rfl)
      (vEvtList_copies ((running_live hu).trans hlive) htidy hsome hmax haligned hfetch)
  case timeWaits =>
    intro a q u hu hprint htidy heven hcode hout hroom hlate hatOnce
    have hprint' : u.printHold = true := (running_printHold hu).trans hprint
    have hverb := vAtTime_accepts (State.armed_of_printHold hprint') hcode hout htidy heven (decide_eq_true hlate)
    rw [show q.atOnce = true from hatOnce] at hverb
    exact submit_answers (exec_evtAtTime ..) hu (by decide) ((runVerb_vAtTime _ rfl).trans hverb)
      (State.acceptAct_lateWaits _ _ hroom hprint')
  case timeRuns =>
    intro a q u hu hready htidy heven hcode hout hroom hlate hatOnce
    have hready' : u.ident.opState = .ready := (running_op hu).trans hready
    have hverb := vAtTime_accepts (State.armed_of_ready hready') hcode hout htidy heven (decide_eq_true hlate)
    rw [show q.atOnce = true from hatOnce] at hverb
    exact submit_answers (exec_evtAtTime ..) hu (by decide) ((runVerb_vAtTime _ rfl).trans hverb)
      (State.acceptAct_lateRuns _ _ hroom (State.printHold_of_ready hready'))

end Sys2Proof.Machine
end

section
/-! SUPPORT. The DENS verbs (R151 to R157). -/

namespace Sys2Proof.Machine

open Sys2Proof Sys2Proof.Safety

/-! ## DENS.UPDATE (R152) -/

section
variable {q : QCmd} {s : State} (harmed : s.armed = true) (htidy : Tidy q [(8, 6), (16, 4), (24, 32)]) (hbar : q.byte 8 ≤ 7)
  (hrows : q.byte 9 % 16 ≠ 0) (hexp : q.byte 9 / 16 ≤ 12) (hsome : q.num 10 4 ≠ 0) (hfirst : q.num 16 4 ≤ 120991)
  (hlast : q.num 16 4 + (q.num 10 4 - 1) * 2 ^ (q.byte 9 / 16) ≤ 120991) (hremote : q.remote = false)
include harmed htidy hbar hrows hexp hsome hfirst hlast hremote

/-- Inline entries are judged as they stand. -/
theorem vDensUpdate_inline (haddr : q.num 32 8 = 0) (hmax : q.num 10 4 ≤ 8) : vDensUpdate q s =
    s.densUpdate (q.byte 8) (q.byte 9 % 16) (q.byte 9 / 16) (q.num 16 4) (q.num 24 8) q.atOnce
      (entries16 ((List.range 16).map (fun i => q.byte (40 + i))) (q.num 10 4)) := by
  unfold vDensUpdate
  dsimp only
  rw [verbRun_tidy harmed htidy]
  · rw [if_neg (by simp [haddr]), if_pos (.inl haddr), State.entryBytesOf, if_neg (by simp [hremote]), if_pos haddr]
  · have hcount : q.num 10 4 ≤ 120992 := by omega
    simp [hbar, hrows, hexp, hsome, hcount, hmax, hfirst, hlast, haddr]

/-- Fetched entries come from host memory, each wythe its share (R147). -/
theorem vDensUpdate_fetched (haddr : q.num 32 8 ≠ 0) (hmax : q.num 10 4 ≤ 120992) (haligned : q.num 32 8 % 64 = 0)
    (hfetch : q.fetchFail = false) : vDensUpdate q s =
    (s.ownFetch (densShares (q.num 16 4) (q.byte 9 / 16) (q.num 10 4)).1
        (densShares (q.num 16 4) (q.byte 9 / 16) (q.num 10 4)).2).densUpdate
      (q.byte 8) (q.byte 9 % 16) (q.byte 9 / 16) (q.num 16 4) (q.num 24 8) q.atOnce
      (entries16 (s.store.host.read (q.num 32 8) (2 * q.num 10 4)) (q.num 10 4)) := by
  unfold vDensUpdate
  dsimp only
  rw [verbRun_tidy harmed htidy]
  · rw [if_neg (by simp [hfetch]), if_neg (by simp [haddr, hremote]), State.entryBytesOf, if_neg (by simp [hremote]), if_neg haddr]
  · simp [hbar, hrows, hexp, hsome, hmax, hfirst, hlast, haddr, haligned]

end

/-! ## DENS.FREEZE and DENS.READ (R156, R157) -/

/-- DENS.FREEZE changes the freeze bits its mask names, at once but on a standby. -/
theorem vDensFreeze_freezes {q : QCmd} {s : State} (harmed : s.armed = true) (htidy : Tidy q [(8, 4)]) (hmask : q.num 8 2 < 4096)
    (hchange : q.num 10 2 < 4096) (hrole : s.butt.role ≠ .standby) : vDensFreeze q s =
    (s.modTone (fun t => { t with freeze :=
        (t.freeze &&& ~~~(BitVec.ofNat 12 (q.num 10 2))) ||| (BitVec.ofNat 12 (q.num 8 2) &&& BitVec.ofNat 12 (q.num 10 2)) }),
      some (Reply.ok (leBytes 2 s.tone.freeze.toNat))) := by
  unfold vDensFreeze
  dsimp only
  rw [verbRun_tidy harmed htidy]
  · simp only [if_neg hrole]
    rfl
  · simp [hmask, hchange]

section
variable {q : QCmd} {s : State} (hlive : s.live = true) (htidy : Tidy q [(8, 2), (16, 8)]) (hbar : q.byte 8 ≤ 11)
  (haligned : q.num 16 8 % 64 = 0) (hfetch : q.fetchFail = false)
include hlive htidy hbar haligned hfetch

theorem vDensRead_active (hkind : q.byte 9 = 0) : vDensRead q s =
    (s.copyOut (q.num 16 8) ((s.tone.active.getD (q.byte 8) ⟨128, []⟩).list barNozzles), some {}) := by
  unfold vDensRead
  dsimp only
  rw [verbRun_tidy hlive htidy, if_neg (by simp [hfetch]), hkind]
  · rfl
  · simp [hbar, hkind, haligned]

theorem vDensRead_target (hkind : q.byte 9 = 1) : vDensRead q s =
    (s.copyOut (q.num 16 8) ((s.tone.target.getD (q.byte 8) ⟨128, []⟩).list barNozzles), some {}) := by
  unfold vDensRead
  dsimp only
  rw [verbRun_tidy hlive htidy, if_neg (by simp [hfetch]), hkind]
  · rfl
  · simp [hbar, hkind, haligned]

theorem vDensRead_rows (hkind : q.byte 9 = 2) : vDensRead q s = (s.copyOut (q.num 16 8) (s.rowRecords (q.byte 8)), some {}) := by
  unfold vDensRead
  dsimp only
  rw [verbRun_tidy hlive htidy, if_neg (by simp [hfetch]), hkind]
  · rfl
  · simp [hbar, hkind, haligned]

end

/-- Settles O26. -/
theorem densityCommands : Obligations.DensityCommands := by
  refine ⟨fun dt m s => ?inline, fun dt m s => ?fetched, fun dt m s => ?freeze, fun dt m s => ?target, fun dt m s => ?active,
    fun dt m s => ?rows⟩
  case inline =>
    intro a q u hu harmed htidy hbar hrows hexp hsome hmax hfirst hlast haddr
    exact submit_answers (exec_densUpdate ..) hu (by decide) ((runVerb_vDensUpdate _ rfl).trans
      (vDensUpdate_inline ((running_armed hu).trans harmed) htidy hbar hrows hexp hsome hfirst hlast rfl haddr hmax)) (Prod.eta _).symm
  case fetched =>
    intro a q u hu harmed htidy hbar hrows hexp hsome hmax hfirst hlast haddr haligned hfetch
    exact submit_answers (exec_densUpdate ..) hu (by decide) ((runVerb_vDensUpdate _ rfl).trans
      (vDensUpdate_fetched ((running_armed hu).trans harmed) htidy hbar hrows hexp hsome hfirst hlast rfl haddr hmax haligned hfetch)) (Prod.eta _).symm
  case freeze =>
    intro a q u hu harmed htidy hmask hchange
    have hrole : u.butt.role ≠ .standby := by rw [running_butt hu]; exact Usable.role_ne_standby hu rfl
    exact submit_answers (exec_densFreeze ..) hu (by decide) (runVerb_vDensFreeze _ rfl)
      (vDensFreeze_freezes ((running_armed hu).trans harmed) htidy hmask hchange hrole)
  case target =>
    intro a q u hu hlive htidy hbar hkind haligned hfetch
    exact submit_answers (exec_densRead ..) hu (by decide) (runVerb_vDensRead _ rfl)
      (vDensRead_target ((running_live hu).trans hlive) htidy hbar haligned hfetch hkind)
  case active =>
    intro a q u hu hlive htidy hbar hkind haligned hfetch
    exact submit_answers (exec_densRead ..) hu (by decide) (runVerb_vDensRead _ rfl)
      (vDensRead_active ((running_live hu).trans hlive) htidy hbar haligned hfetch hkind)
  case rows =>
    intro a q u hu hlive htidy hbar hkind haligned hfetch
    exact submit_answers (exec_densRead ..) hu (by decide) (runVerb_vDensRead _ rfl)
      (vDensRead_rows ((running_live hu).trans hlive) htidy hbar haligned hfetch hkind)

end Sys2Proof.Machine
end

section
/-! SUPPORT. The NOZ verbs and LANE.BOND (R195 to R205). -/

namespace Sys2Proof.Machine

open Sys2Proof Sys2Proof.Safety

/-! ## NOZ.MAP (R196, R197) -/

/-- NOZ.MAP once its entries are at hand and valid. -/
def State.takeMap (q : QCmd) (es : List (Nat × Nat)) (s : State) : VRes :=
  if !s.printHold then s.mapNozzles s.presentLift false es
  else if 64 ≤ s.point.pend.length then (s, some (Reply.fail Res.noSpace 0x0701))
  else if q.num 8 8 == 2 ^ 64 - 1 then s.mapNozzles s.earliestLift false es
  else if q.remote ∨ s.liftOpen (q.num 8 8) then s.mapNozzles (q.num 8 8) false es
  else if q.atOnce then s.mapNozzles s.earliestLift true es
  else (s, some (Reply.fail Res.late 0x0701))

/-- The inline entries of NOZ.MAP. -/
def QCmd.inlineMap (q : QCmd) : List Nat := entries32 ((List.range 24).map (fun i => q.byte (32 + i))) (q.num 16 4)

/-- The entries of NOZ.MAP in host memory. -/
def State.hostMap (s : State) (q : QCmd) : List Nat := entries32 (s.store.host.read (q.num 24 8) (4 * q.num 16 4)) (q.num 16 4)

section
variable {q : QCmd} {s : State} (harmed : s.armed = true) (htidy : Tidy q [(8, 12), (24, 32)])
  (hlift : s.printHold = true → q.num 8 8 = 2 ^ 64 - 1 ∨ q.num 8 8 ≤ s.presentLift + 4096) (hsome : q.num 16 4 ≠ 0)
  (hremote : q.remote = false)
include harmed htidy hlift hsome hremote

theorem vNozMap_inline (haddr : q.num 24 8 = 0) (hmax : q.num 16 4 ≤ 6) (hvalid : ∀ w ∈ q.inlineMap, s.nozEntryOk w = true) :
    vNozMap q s = s.takeMap q (q.inlineMap.map nozEntry) := by
  have hnone : q.inlineMap.findIdx? (fun w => !(s.nozEntryOk w)) = none :=
    List.findIdx?_eq_none_iff.mpr (fun w hw => by simp [hvalid w hw])
  unfold vNozMap
  dsimp only
  rw [verbRun_tidy harmed htidy]
  · rw [if_neg (by simp [haddr]), if_pos (.inl haddr), State.entryBytesOf, if_neg (by simp [hremote]), if_pos haddr]
    change (match q.inlineMap.findIdx? (fun w => !(s.nozEntryOk w)) with
      | some i => _
      | none => s.takeMap q (q.inlineMap.map nozEntry)) = _
    rw [hnone]
  · have hcount : q.num 16 4 ≤ 65536 := by omega
    simpa [hsome, hcount, hmax, haddr, Decidable.or_iff_not_imp_left] using hlift

theorem vNozMap_fetched (haddr : q.num 24 8 ≠ 0) (haligned : q.num 24 8 % 64 = 0) (hmax : q.num 16 4 ≤ 65536)
    (hfetch : q.fetchFail = false)
    (hvalid : ∀ w ∈ s.hostMap q, (s.ownFetch (4 * q.num 16 4) (4 * q.num 16 4)).nozEntryOk w = true) :
    vNozMap q s = (s.ownFetch (4 * q.num 16 4) (4 * q.num 16 4)).takeMap q ((s.hostMap q).map nozEntry) := by
  have hnone : (s.hostMap q).findIdx? (fun w => !((s.ownFetch (4 * q.num 16 4) (4 * q.num 16 4)).nozEntryOk w)) = none :=
    List.findIdx?_eq_none_iff.mpr (fun w hw => by simp [hvalid w hw])
  unfold vNozMap
  dsimp only
  rw [verbRun_tidy harmed htidy]
  · rw [if_neg (by simp [hfetch]), if_neg (by simp [haddr, hremote]), State.entryBytesOf, if_neg (by simp [hremote]), if_neg haddr]
    change (match (s.hostMap q).findIdx? (fun w => !((s.ownFetch (4 * q.num 16 4) (4 * q.num 16 4)).nozEntryOk w)) with
      | some i => _
      | none => (s.ownFetch (4 * q.num 16 4) (4 * q.num 16 4)).takeMap q ((s.hostMap q).map nozEntry)) = _
    rw [hnone]
  · simpa [hsome, hmax, haddr, haligned, Decidable.or_iff_not_imp_left] using hlift

end

section
variable {q : QCmd} {s : State} (es : List (Nat × Nat))

theorem State.takeMap_ready (hprint : s.printHold = false) : s.takeMap q es = s.mapNozzles s.presentLift false es := by
  rw [State.takeMap, if_pos (by simp [hprint])]

variable (hprint : s.printHold = true) (hroom : s.point.pend.length < 64)
include hprint hroom

theorem State.takeMap_earliest (hany : q.num 8 8 = 2 ^ 64 - 1) : s.takeMap q es = s.mapNozzles s.earliestLift false es := by
  rw [State.takeMap, if_neg (by simp [hprint]), if_neg (by omega), if_pos (beq_iff_eq.mpr hany)]

variable (hnamed : q.num 8 8 ≠ 2 ^ 64 - 1)
include hnamed

theorem State.takeMap_open (hopen : s.liftOpen (q.num 8 8) = true) : s.takeMap q es = s.mapNozzles (q.num 8 8) false es := by
  rw [State.takeMap, if_neg (by simp [hprint]), if_neg (by omega), if_neg (mt beq_iff_eq.mp hnamed), if_pos (.inr hopen)]

variable (hremote : q.remote = false) (hopen : s.liftOpen (q.num 8 8) = false)
include hremote hopen

theorem State.takeMap_lateMark (hatOnce : q.atOnce = true) : s.takeMap q es = s.mapNozzles s.earliestLift true es := by
  rw [State.takeMap, if_neg (by simp [hprint]), if_neg (by omega), if_neg (mt beq_iff_eq.mp hnamed), if_neg (by simp [hremote, hopen]),
    if_pos hatOnce]

theorem State.takeMap_late (hatOnce : q.atOnce = false) : s.takeMap q es = (s, some (Reply.fail Res.late 0x0701)) := by
  rw [State.takeMap, if_neg (by simp [hprint]), if_neg (by omega), if_neg (mt beq_iff_eq.mp hnamed), if_neg (by simp [hremote, hopen]),
    if_neg (by simp [hatOnce])]

end

/-- In PRINTING and HOLDING the change waits for its lift (R197). -/
theorem State.mapNozzles_waits {s : State} (l : Nat) (late : Bool) (es : List (Nat × Nat)) (hprint : s.printHold = true) :
    s.mapNozzles l late es =
      ({ s with point := { s.point with pend := s.point.pend ++ [{ lift := l, entries := es }] } }, (s.mapNozzles l late es).2) := by
  unfold State.mapNozzles
  dsimp only
  rw [if_pos (.inl hprint)]

@[simp] theorem State.ownFetch_printHold (n0 n1 : Nat) (s : State) : (s.ownFetch n0 n1).printHold = s.printHold := by
  simp [State.printHold]

/-! ## NOZ.READ and LANE.BOND (R200, R202, R203) -/

theorem vNozRead_copies {q : QCmd} {s : State} (hlive : s.live = true) (htidy : Tidy q [(8, 2), (16, 8)]) (hbar : q.byte 8 ≤ 11)
    (hkind : q.byte 9 ≤ 1) (haligned : q.num 16 8 % 64 = 0) (hfetch : q.fetchFail = false) : vNozRead q s =
    (s.copyOut (q.num 16 8) (if q.byte 9 = 0 then s.barStates (q.byte 8) else s.headRecords (q.byte 8)), some {}) := by
  unfold vNozRead
  dsimp only
  rw [verbRun_tidy hlive htidy, if_neg (by simp [hfetch])]
  simp [hbar, hkind, haligned]

section
variable {q : QCmd} {s : State} (htidy : Tidy q [(8, 1), (16, 8)]) (haligned : q.num 16 8 % 64 = 0)
include htidy haligned

theorem vLaneBond_discovers (hrest : s.restReady = true) (hop : q.byte 8 = 0) : vLaneBond q s =
    ((s.discover true).1,
      some (if s.ident.opState = .ready ∧ (s.discover true).2.isSome then Reply.fail Res.checkFail 0x0005 else {})) := by
  have hok : (if q.byte 8 = 0 then s.ident.opState == .rest || s.ident.opState == .ready else s.live) = true := by
    rw [if_pos hop]
    exact hrest
  unfold vLaneBond
  dsimp only
  rw [verbRun_tidy hok htidy, if_pos hop]
  simp [hop, haligned]

theorem vLaneBond_copies (hlive : s.live = true) (hop : q.byte 8 = 1 ∨ q.byte 8 = 2) (hfetch : q.fetchFail = false) :
    vLaneBond q s = (s.copyOut (q.num 16 8) (if q.byte 8 = 1 then s.bondRecords else s.nodeRecords), some {}) := by
  have hok : (if q.byte 8 = 0 then s.ident.opState == .rest || s.ident.opState == .ready else s.live) = true := by
    rw [if_neg (by omega)]
    exact hlive
  have hmax : q.byte 8 ≤ 2 := by omega
  unfold vLaneBond
  dsimp only
  rw [verbRun_tidy hok htidy, if_neg (by omega), if_neg (by simp [hfetch])]
  simp [hmax, haligned]

end

theorem wf_discover {verb : Nat} {m : Mbox} {a : State} (dt : Nat) (hu : Usable verb m a) (hop : m.arg 8 = 0) :
    Instr.wf (.discover dt m) = true := by
  simp [Instr.wf, hu.1, hop]

theorem wf_readBond {verb : Nat} {m : Mbox} {a : State} (dt : Nat) (hu : Usable verb m a) (hop : m.arg 8 = 1) :
    Instr.wf (.readBond dt m) = true := by
  simp [Instr.wf, hu.1, hop]

theorem wf_readNodes {verb : Nat} {m : Mbox} {a : State} (dt : Nat) (hu : Usable verb m a) (hop : m.arg 8 = 2) :
    Instr.wf (.readNodes dt m) = true := by
  simp [Instr.wf, hu.1, hop]

/-- Settles O27. -/
theorem nozzleAndBondCommands : Obligations.NozzleAndBondCommands := by
  refine ⟨fun dt m s => ?ready, fun dt m s => ?open_, fun dt m l s => ?earliest, fun dt m s => ?readyFetched, fun dt m s => ?read,
    fun dt m s => ?discover, fun dt m s => ?readBond, fun dt m s => ?readNodes, fun dt m f l s => ?fetched,
    fun dt m s => ?discoverFails⟩
  case ready =>
    intro a q u hu hready htidy hsome hmax haddr hvalid
    have hready' : u.ident.opState = .ready := (running_op hu).trans hready
    have hprint : u.printHold = false := State.printHold_of_ready hready'
    have hrun := (vNozMap_inline (State.armed_of_ready hready') htidy (by simp [hprint]) hsome rfl haddr hmax hvalid).trans
      (State.takeMap_ready _ hprint)
    exact submit_answers (exec_nozMap ..) hu (by decide) ((runVerb_vNozMap _ rfl).trans hrun) (Prod.eta _).symm
  case open_ =>
    intro a q u hu hprint htidy hsome hmax haddr hvalid hroom hnamed hnear hopen
    have hprint' : u.printHold = true := (running_printHold hu).trans hprint
    have hrun := (vNozMap_inline (State.armed_of_printHold hprint') htidy (fun _ => .inr hnear) hsome rfl haddr hmax hvalid).trans
      (State.takeMap_open _ hprint' hroom hnamed hopen)
    exact submit_answers (exec_nozMap ..) hu (by decide) ((runVerb_vNozMap _ rfl).trans hrun) (State.mapNozzles_waits _ _ _ hprint')
  case earliest =>
    intro a q u hu hprint htidy hsome hmax haddr hvalid hroom hcase
    have hprint' : u.printHold = true := (running_printHold hu).trans hprint
    have hlift : q.num 8 8 = 2 ^ 64 - 1 ∨ q.num 8 8 ≤ u.presentLift + 4096 := hcase.imp And.left And.left
    have hinline := vNozMap_inline (State.armed_of_printHold hprint') htidy (fun _ => hlift) hsome rfl haddr hmax hvalid
    have htake : u.takeMap q (q.inlineMap.map nozEntry) = u.mapNozzles u.earliestLift l (q.inlineMap.map nozEntry) := by
      rcases hcase with ⟨hany, rfl⟩ | ⟨-, hnamed, hopen, hatOnce, rfl⟩
      · exact State.takeMap_earliest _ hprint' hroom hany
      · exact State.takeMap_lateMark _ hprint' hroom hnamed rfl hopen hatOnce
    exact submit_answers (exec_nozMap ..) hu (by decide) ((runVerb_vNozMap _ rfl).trans (hinline.trans htake))
      (State.mapNozzles_waits _ _ _ hprint')
  case readyFetched =>
    intro a q u hu hready htidy hsome hmax haddr haligned hfetch hvalid
    have hready' : u.ident.opState = .ready := (running_op hu).trans hready
    have hprint : u.printHold = false := State.printHold_of_ready hready'
    have hrun := (vNozMap_fetched (State.armed_of_ready hready') htidy (by simp [hprint]) hsome rfl haddr haligned hmax hfetch
      hvalid).trans (State.takeMap_ready _ (by simp [hprint]))
    exact submit_answers (exec_nozMap ..) hu (by decide) ((runVerb_vNozMap _ rfl).trans hrun) (Prod.eta _).symm
  case read =>
    intro a q u hu hlive htidy hbar hkind haligned hfetch
    exact submit_answers (exec_nozRead ..) hu (by decide) (runVerb_vNozRead _ rfl)
      (vNozRead_copies ((running_live hu).trans hlive) htidy hbar hkind haligned hfetch)
  case discover =>
    intro a q u hu hrest htidy hop haligned hpasses
    have hrun := vLaneBond_discovers htidy haligned ((running_restReady hu).trans hrest) hop
    rw [if_neg] at hrun
    · exact submit_answers (exec_discover ..) hu (by decide) (runVerb_vLaneBond _ rfl) hrun (wf_discover dt hu hop)
    · rintro ⟨hready, hfails⟩
      rcases hpasses with hpasses | hatRest
      · have hsome : (u.discover true).2.isSome = true := hfails
        simp [hpasses] at hsome
      · exact absurd (((running_op hu).trans hatRest).symm.trans hready) (by decide)
  case readBond =>
    intro a q u hu hlive htidy hop haligned hfetch
    have hrun := vLaneBond_copies htidy haligned ((running_live hu).trans hlive) (.inl hop) hfetch
    rw [if_pos hop] at hrun
    exact submit_answers (exec_readBond ..) hu (by decide) (runVerb_vLaneBond _ rfl) hrun (wf_readBond dt hu hop)
  case readNodes =>
    intro a q u hu hlive htidy hop haligned hfetch
    have hrun := vLaneBond_copies htidy haligned ((running_live hu).trans hlive) (.inr hop) hfetch
    rw [if_neg (by omega)] at hrun
    exact submit_answers (exec_readNodes ..) hu (by decide) (runVerb_vLaneBond _ rfl) hrun (wf_readNodes dt hu hop)
  case fetched =>
    intro a q u hu hprint htidy hsome hmax haddr haligned hfetch hvalid hroom hcase
    have hprint' : u.printHold = true := (running_printHold hu).trans hprint
    have hfetched : (u.ownFetch (4 * q.num 16 4) (4 * q.num 16 4)).printHold = true := by simpa using hprint'
    have hlift : q.num 8 8 = 2 ^ 64 - 1 ∨ q.num 8 8 ≤ u.presentLift + 4096 := hcase.imp And.left And.left
    have hhost := vNozMap_fetched (State.armed_of_printHold hprint') htidy (fun _ => hlift) hsome rfl haddr haligned hmax hfetch hvalid
    have htake : (u.ownFetch (4 * q.num 16 4) (4 * q.num 16 4)).takeMap q ((u.hostMap q).map nozEntry) =
        (u.ownFetch (4 * q.num 16 4) (4 * q.num 16 4)).mapNozzles f l ((u.hostMap q).map nozEntry) := by
      obtain ⟨hany, hf, hl⟩ | ⟨-, hnamed, ⟨hopen, hf, hl⟩ | ⟨hopen, hatOnce, hf, hl⟩⟩ := hcase
      · rw [hf, hl]
        exact State.takeMap_earliest _ hfetched hroom hany
      · rw [hf, hl]
        exact State.takeMap_open _ hfetched hroom hnamed hopen
      · rw [hf, hl]
        exact State.takeMap_lateMark _ hfetched hroom hnamed rfl hopen hatOnce
    exact submit_answers (exec_nozMap ..) hu (by decide) ((runVerb_vNozMap _ rfl).trans (hhost.trans htake)) (Prod.eta _).symm
  case discoverFails =>
    intro a q u hu hready htidy hop haligned hfails
    have hready' : u.ident.opState = .ready := (running_op hu).trans hready
    have hrest : u.restReady = true := by simp [State.restReady, hready']
    have hrun := vLaneBond_discovers htidy haligned hrest hop
    rw [if_pos ⟨hready', hfails⟩] at hrun
    exact submit_answers (exec_discover ..) hu (by decide) (runVerb_vLaneBond _ rfl) hrun (wf_discover dt hu hop)

end Sys2Proof.Machine
end

section
/-! SUPPORT. The PAIR and GANG verbs (R330 to R353) and TIME.ACCEPT_STEP and TIME.STATUS (R371, R374). -/

namespace Sys2Proof.Machine

open Sys2Proof Sys2Proof.Safety

/-! ## A command that comes with what the partner or the members say -/

/-- A usable command that comes with a change `g` of the state answers as one that comes alone. -/
theorem submit_after_answers {ok : Bool} {dt verb : Nat} {m : Mbox} {s t : State} {rep : Option Reply} {v : VRes} (g : State → State)
    {out : Host.Outcome State Fault Refusal} (hexec : out = perform ok dt (fun s => (g s).submit verb m) s)
    (hu : Usable verb m (g (s.opens dt))) (hv : verb ∈ verbTable)
    (hverb : runVerb m.ch (cmdOf verb m) (running verb m (g (s.opens dt))) = v) (hr : v = (t, rep)) (hok : ok = true) :
    out = .next (answered m.ch (cmdOf verb m) t rep s) := by
  have hafter : after dt (fun s => (g s).submit verb m) s =
      answered m.ch (cmdOf verb m) (runVerb m.ch (cmdOf verb m) (running verb m (g (s.opens dt)))).1
        (runVerb m.ch (cmdOf verb m) (running verb m (g (s.opens dt)))).2 s := by
    refine (submit_closes s.pending hu).trans ?_
    dsimp only
    rw [runCmd_usable hu hv]
    rfl
  rw [hverb.trans hr] at hafter
  rw [hexec, hok, perform_next]
  exact congrArg Host.Outcome.next hafter

/-! ## PAIR (R330, R344 to R348) -/

section
variable {ch : Nat} {q : QCmd} {s : State} (htidy : Tidy q [(8, 1)]) (hrole : s.butt.role = .active) (hpend : s.butt.swapPend = none)
  (hoff : s.butt.swapOff = none) (hat : s.butt.swapAt = none) (hready : s.partnerReady = true)
include htidy hrole hpend hoff hat hready

theorem vPairSwap_planned (hmode : (q.byte 8 = 0 ∧ s.restReady = true) ∨ (q.byte 8 = 1 ∧ s.armed = true)) : vPairSwap ch q s =
    ((s.modButt (fun b => { b with swapPend := some (q.byte 8, ch, q.slot) })).swapWhenReady, none) := by
  unfold vPairSwap
  dsimp only
  rcases hmode with ⟨hmode, hok⟩ | ⟨hmode, hok⟩
  · rw [hmode]
    exact Eq.trans (verbRun_tidy hok htidy (by simp)) (by simp [hrole, hpend, hoff, hat, hready])
  · rw [hmode]
    exact Eq.trans (verbRun_tidy hok htidy (by simp)) (by simp [hrole, hpend, hoff, hat, hready])

/-- A swap in PRINTING holds the press first (R346). -/
theorem vPairSwap_printing (hmode : q.byte 8 = 2) (hprint : s.ident.opState = .printing) : vPairSwap ch q s =
    (((s.modButt (fun b => { b with swapPend := some (2, ch, q.slot) })).trigger 6 none 0).swapWhenReady, none) := by
  have hok : (s.ident.opState == .printing) = true := by simp [hprint]
  unfold vPairSwap
  dsimp only
  rw [hmode]
  exact Eq.trans (verbRun_tidy hok htidy (by simp)) (by simp [hrole, hpend, hoff, hat, hready])

end

section
variable {q : QCmd} {s : State} (htidy : Tidy q [])
include htidy

section
variable {p : PInfo} (hinfo : s.butt.partnerInfo = p) (hrest : s.restReady = true) (hrole : s.butt.role = .isolated) (hup : s.pairUp = true)
include hinfo hrest hrole hup

theorem vPairJoin_joins (hactive : s.butt.partnerRole = .active) (hagree : s.pairMismatch p.digest p.fw p.offset = none) :
    vPairJoin q s = ((s.setRole .standby).modButt Butt.freshMirror, some {}) := by
  subst hinfo
  refine Eq.trans (verbRun_tidy hrest htidy (by simp)) ?_
  dsimp only
  rw [if_neg (not_not_intro hrole), if_neg (by simp [hup]), if_pos hactive, hagree]
  rfl

theorem vPairJoin_mismatch {d : Nat} (hactive : s.butt.partnerRole = .active)
    (hdiffers : s.pairMismatch p.digest p.fw p.offset = some d) : vPairJoin q s =
      (s.buttRecord 0x1501 0 [s.butt.role.code, s.butt.role.code, d], some (Reply.fail Res.mismatch d)) := by
  subst hinfo
  refine Eq.trans (verbRun_tidy hrest htidy (by simp)) ?_
  dsimp only
  rw [if_neg (not_not_intro hrole), if_neg (by simp [hup]), if_pos hactive, hdiffers]

theorem vPairJoin_forms (hactive : s.butt.partnerRole ≠ .active) (hagree : (s.formPair p.digest p.fw p.offset p.prefer).2 = none)
    (hformed : (s.formPair p.digest p.fw p.offset p.prefer).1.butt.role ≠ .isolated) :
    vPairJoin q s = ((s.formPair p.digest p.fw p.offset p.prefer).1, some {}) := by
  subst hinfo
  refine Eq.trans (verbRun_tidy hrest htidy (by simp)) ?_
  dsimp only
  rw [if_neg (not_not_intro hrole), if_neg (by simp [hup]), if_neg hactive, hagree]
  exact if_neg hformed

end

theorem vPairLeave_active (hrest : s.restReady = true) (hrole : s.butt.role = .active) :
    vPairLeave q s = ((s.releaseAll).setRole .isolated, some {}) := by
  refine Eq.trans (verbRun_tidy hrest htidy (by simp)) ?_
  rw [hrole]

theorem vPairLeave_passive (hrest : s.restReady = true) (hrole : s.butt.role = .standby ∨ s.butt.role = .isolated) :
    vPairLeave q s = (s.takeChanges.setRole .isolated, some {}) := by
  refine Eq.trans (verbRun_tidy hrest htidy (by simp)) ?_
  rcases hrole with hrole | hrole
  · rw [hrole]
  · rw [hrole]

section
variable (hrole : s.butt.role = .standby ∨ s.butt.role = .isolated)
include hrole

/-- A standby or isolated module takes the nodes over; in HOLDING its started jobs end (R348). -/
theorem vPairTake_takes (hstate : s.restReady = true ∨ s.ident.opState = .holding) (hfree : s.foreignHead = none) : vPairTake q s =
    (if s.ident.opState = .holding then ((s.takeChanges.setRole .active).acquireAll).abortStarted
      else (s.takeChanges.setRole .active).acquireAll, some {}) := by
  refine Eq.trans (verbRun_tidy (by simpa using hstate) htidy (by simp)) ?_
  rw [if_neg (by rcases hrole with hrole | hrole <;> simp [hrole]), hfree]
  simp

theorem vPairTake_foreign {g : Nat} (hstate : s.restReady = true ∨ s.ident.opState = .holding) (hforeign : s.foreignHead = some g) :
    vPairTake q s = (s, some (Reply.fail Res.notHolder g)) := by
  refine Eq.trans (verbRun_tidy (by simpa using hstate) htidy (by simp)) ?_
  rw [if_neg (by rcases hrole with hrole | hrole <;> simp [hrole]), hforeign]

end

theorem vPairInfo_reports (hlive : s.live = true) : vPairInfo q s =
    (s, some (Reply.ok (packed 0x0905 [s.butt.partnerRole.code, s.butt.partnerState.code, (s.butt.partnerInfo.digest : Int),
      (s.butt.partnerInfo.fw : Int), s.butt.offset, bit s.butt.mirrorOk, (onesOr s.butt.epoch : Int)]))) :=
  verbRun_tidy hlive htidy (by simp)

end

/-- A module in REST or READY does not hold (R80). -/
theorem State.not_holding_of_restReady {s : State} (hrest : s.restReady = true) : s.ident.opState ≠ .holding := by
  revert hrest
  unfold State.restReady
  cases s.ident.opState <;> decide

/-- Settles O28. -/
theorem pairCommands : Obligations.PairCommands := by
  refine ⟨fun dt m s => ?swap, fun dt m s => ?swapPrinting, fun dt m p s => ?join, fun dt m p s => ?form, fun dt m s => ?leaveActive,
    fun dt m s => ?leavePassive, fun dt m s => ?take, fun dt m s => ?takeHolding, fun dt m s => ?foreign, fun dt m s => ?info⟩
  case swap =>
    intro a q u hu hmode htidy hrole hpend hoff hat hready
    have hmode' : (q.byte 8 = 0 ∧ u.restReady = true) ∨ (q.byte 8 = 1 ∧ u.armed = true) :=
      hmode.imp (And.imp_right (running_restReady hu).trans) (And.imp_right (running_armed hu).trans)
    exact submit_answers (exec_pairSwap ..) hu (by decide) (runVerb_vPairSwap _ rfl)
      (vPairSwap_planned htidy hrole hpend hoff hat hready hmode')
  case swapPrinting =>
    intro a q u hu hmode hprint htidy hrole hpend hoff hat hready
    exact submit_answers (exec_pairSwap ..) hu (by decide) (runVerb_vPairSwap _ rfl)
      (vPairSwap_printing htidy hrole hpend hoff hat hready hmode ((running_op hu).trans hprint))
  case join =>
    intro a q u hu hrest htidy hrole hup hactive
    have hinfo : u.butt.partnerInfo = p := by rw [running_butt hu]; rfl
    have hrest' : u.restReady = true := (running_restReady hu).trans hrest
    exact ⟨fun hagree => submit_after_answers _ (exec_pairJoin ..) hu (by decide) (runVerb_vPairJoin _ rfl)
        (vPairJoin_joins htidy hinfo hrest' hrole hup hactive hagree) hu.1,
      fun d hdiffers => submit_after_answers _ (exec_pairJoin ..) hu (by decide) (runVerb_vPairJoin _ rfl)
        (vPairJoin_mismatch htidy hinfo hrest' hrole hup hactive hdiffers) hu.1⟩
  case form =>
    intro a q u r hu hrest htidy hrole hup hactive hagree hformed
    have hinfo : u.butt.partnerInfo = p := by rw [running_butt hu]; rfl
    exact submit_after_answers _ (exec_pairJoin ..) hu (by decide) (runVerb_vPairJoin _ rfl)
      (vPairJoin_forms htidy hinfo ((running_restReady hu).trans hrest) hrole hup hactive hagree hformed) hu.1
  case leaveActive =>
    intro a q u hu hrest htidy hrole
    exact submit_answers (exec_pairLeave ..) hu (by decide) (runVerb_vPairLeave _ rfl)
      (vPairLeave_active htidy ((running_restReady hu).trans hrest) hrole)
  case leavePassive =>
    intro a q u hu hrest htidy hrole
    exact submit_answers (exec_pairLeave ..) hu (by decide) (runVerb_vPairLeave _ rfl)
      (vPairLeave_passive htidy ((running_restReady hu).trans hrest) hrole)
  case take =>
    intro a q u hu hrest htidy hrole hfree
    have hrest' : u.restReady = true := (running_restReady hu).trans hrest
    have hrun := vPairTake_takes htidy hrole (.inl hrest') hfree
    rw [if_neg (State.not_holding_of_restReady hrest')] at hrun
    exact submit_answers (exec_pairTake ..) hu (by decide) (runVerb_vPairTake _ rfl) hrun
  case takeHolding =>
    intro a q u hu hhold htidy hrole hfree
    have hhold' : u.ident.opState = .holding := (running_op hu).trans hhold
    have hrun := vPairTake_takes htidy hrole (.inr hhold') hfree
    rw [if_pos hhold'] at hrun
    exact submit_answers (exec_pairTake ..) hu (by decide) (runVerb_vPairTake _ rfl) hrun
  case foreign =>
    intro a q u hu hstate htidy hrole g hforeign
    exact submit_answers (exec_pairTake ..) hu (by decide) (runVerb_vPairTake _ rfl)
      (vPairTake_foreign htidy hrole (hstate.imp (running_restReady hu).trans (running_op hu).trans) hforeign)
  case info =>
    intro a q u hu hlive htidy
    exact submit_answers (exec_pairInfo ..) hu (by decide) (runVerb_vPairInfo _ rfl)
      (vPairInfo_reports htidy ((running_live hu).trans hlive))

/-! ## GANG (R348, R353) -/

section
variable {q : QCmd} {s : State} (htidy : Tidy q [])
include htidy

section
variable (hrest : s.restReady = true) (hzero : s.memberZero = true)
include hrest hzero

theorem vGangForm_forms {l : List GInfo} (hinfo : s.butt.info = l) (hagree : s.gangMismatch = none) : vGangForm q s =
    ((((s.modButt (fun b => { b with gang := true })).gangSay [9]).buttRecord 0x1508 0 [0, 0]).updateCeil,
      some (Reply.ok (gangData 0x0A01 (s.gangInfo :: l)))) := by
  subst hinfo
  refine Eq.trans (verbRun_tidy hrest htidy (by simp)) ?_
  dsimp only
  rw [if_neg (by simp [hzero]), hagree]

theorem vGangForm_mismatch {l : List GInfo} {d : Nat} (hinfo : s.butt.info = l) (hdiffers : s.gangMismatch = some d) :
    vGangForm q s = (s.buttRecord 0x1508 0 [d, 0],
      some { result := Res.mismatch, detail := d, data := gangData 0x0A01 (s.gangInfo :: l) }) := by
  subst hinfo
  refine Eq.trans (verbRun_tidy hrest htidy (by simp)) ?_
  dsimp only
  rw [if_neg (by simp [hzero]), hdiffers]

theorem vGangDissolve_ends : vGangDissolve q s =
    (((s.gangSay [10]).modButt (fun b => { b with gang := false, ceils := [], settled := [], stops := [] })).updateCeil, some {}) := by
  refine Eq.trans (verbRun_tidy hrest htidy (by simp)) ?_
  rw [if_neg (by simp [hzero])]

end

theorem vGangInfo_reports (hlive : s.live = true) : vGangInfo q s =
    (s, some (Reply.ok (packed 0x0A03 ((List.range ((s.sec SecId.gang).fld 0 2 3)).flatMap s.memberInfo)))) :=
  verbRun_tidy hlive htidy (by simp)

end

theorem wf_gangForm {verb : Nat} {m : Mbox} {a : State} (dt : Nat) {l : List GInfo} (hu : Usable verb m a) (hmembers : l.length ≤ 3) :
    Instr.wf (.gangForm dt m l) = true := by
  simp [Instr.wf, hu.1, hmembers]

/-- Settles O29. -/
theorem gangCommands : Obligations.GangCommands := by
  refine ⟨fun dt m l s => ?form, fun dt m s => ?dissolve, fun dt m s => ?info⟩
  case form =>
    intro a q u hu hmembers hrest htidy hzero
    have hinfo : u.butt.info = l := by rw [running_butt hu]; rfl
    have hrest' : u.restReady = true := (running_restReady hu).trans hrest
    exact ⟨fun hagree => submit_after_answers _ (exec_gangForm ..) hu (by decide) (runVerb_vGangForm _ rfl)
        (vGangForm_forms htidy hrest' hzero hinfo hagree) (wf_gangForm dt hu hmembers),
      fun d hdiffers => submit_after_answers _ (exec_gangForm ..) hu (by decide) (runVerb_vGangForm _ rfl)
        (vGangForm_mismatch htidy hrest' hzero hinfo hdiffers) (wf_gangForm dt hu hmembers)⟩
  case dissolve =>
    intro a q u hu hrest htidy hzero
    exact submit_answers (exec_gangDissolve ..) hu (by decide) (runVerb_vGangDissolve _ rfl)
      (vGangDissolve_ends htidy ((running_restReady hu).trans hrest) hzero)
  case info =>
    intro a q u hu hlive htidy
    exact submit_answers (exec_gangInfo ..) hu (by decide) (runVerb_vGangInfo _ rfl)
      (vGangInfo_reports htidy ((running_live hu).trans hlive))

end Sys2Proof.Machine
end

section
/-! SUPPORT. TIME.ACCEPT_STEP and TIME.STATUS (R371 to R375), the LAMP verbs (R397, R398, R403), the COPING verbs (R423) and the PLINTH
verbs (R442 to R444). -/

namespace Sys2Proof.Machine

open Sys2Proof Sys2Proof.Safety

/-! ## TIME (R371 to R375) -/

theorem State.stepBusy_action {s : State} (hacts : s.acts.pend.any (·.byTime) = true) :
    s.stepBusy = some (Reply.fail Res.busy 0x0502) := by
  rw [State.stepBusy, if_pos hacts]

theorem State.stepBusy_step {s : State} {r : Int × Option Nat × Nat × Nat × Nat} (hacts : s.acts.pend.any (·.byTime) = false)
    (hreq : s.time.stepReq = some r) : s.stepBusy = some (Reply.fail Res.busy r.2.2.1) := by
  rw [State.stepBusy, if_neg (by simp [hacts]), hreq]

section
variable {ch : Nat} {q : QCmd} {s : State} (hidle : s.idleState = true) (htidy : Tidy q [(8, 2)])
include hidle htidy

theorem vAcceptStep_busy {r : Reply} (hbusy : s.stepBusy = some r) : vAcceptStep ch q s = (s, some r) := by
  refine Eq.trans (verbRun_tidy hidle htidy (by simp)) ?_
  rw [hbusy]

variable (hfree : s.stepBusy = none)
include hfree

theorem vAcceptStep_asks (hpending : s.time.stepPending = true) (hseq : q.num 8 2 = s.time.stepSeq.toNat) :
    vAcceptStep ch q s = (s.askStep (-s.time.stepOffset, none, 0x0B01, ch, q.slot), none) := by
  refine Eq.trans (verbRun_tidy hidle htidy (by simp)) ?_
  rw [hfree]
  exact if_neg (by simp [hpending, hseq])

theorem vAcceptStep_mismatch (hother : s.time.stepPending = false ∨ q.num 8 2 ≠ s.time.stepSeq.toNat) :
    vAcceptStep ch q s = (s, some (Reply.fail Res.mismatch 0x0B01)) := by
  refine Eq.trans (verbRun_tidy hidle htidy (by simp)) ?_
  rw [hfree]
  exact if_pos (by simpa using hother)

end

theorem vTimeStatus_reports {q : QCmd} {s : State} (hlive : s.live = true) (htidy : Tidy q []) : vTimeStatus q s =
    (s, some (Reply.ok (packed 0x0B03 ([(s.time.port0.state : Int), (s.time.port1.state : Int), (bit (tmP2p s.tsec) : Int),
      (s.time.gmId : Int)] ++ s.dataSet.map Int.ofNat)))) :=
  verbRun_tidy hlive htidy (by simp)

/-- Settles O30. -/
theorem timeCommands : Obligations.TimeCommands := by
  refine ⟨fun dt m s => ?asks, fun dt m s => ?mismatch, fun dt m s => ?action, fun dt m s => ?step, fun dt m s => ?status⟩
  case asks =>
    intro a q u hu hidle htidy hacts hreq hpending hseq
    exact submit_answers (exec_timeAcceptStep ..) hu (by decide) (runVerb_vAcceptStep _ rfl)
      (vAcceptStep_asks ((running_idleState hu).trans hidle) htidy (State.stepBusy_none hacts hreq) hpending hseq)
  case mismatch =>
    intro a q u hu hidle htidy hacts hreq hother
    exact submit_answers (exec_timeAcceptStep ..) hu (by decide) (runVerb_vAcceptStep _ rfl)
      (vAcceptStep_mismatch ((running_idleState hu).trans hidle) htidy (State.stepBusy_none hacts hreq) hother)
  case action =>
    intro a q u hu hidle htidy hacts
    exact submit_answers (exec_timeAcceptStep ..) hu (by decide) (runVerb_vAcceptStep _ rfl)
      (vAcceptStep_busy ((running_idleState hu).trans hidle) htidy (State.stepBusy_action hacts))
  case step =>
    intro a q u hu hidle htidy hacts r hreq
    exact submit_answers (exec_timeAcceptStep ..) hu (by decide) (runVerb_vAcceptStep _ rfl)
      (vAcceptStep_busy ((running_idleState hu).trans hidle) htidy (State.stepBusy_step hacts hreq))
  case status =>
    intro a q u hu hlive htidy
    exact submit_answers (exec_timeStatus ..) hu (by decide) (runVerb_vTimeStatus _ rfl)
      (vTimeStatus_reports ((running_live hu).trans hlive) htidy)

/-! ## LAMP (R397, R398, R403) -/

section
variable {q : QCmd} {s : State}

theorem vLampSet_sets (harmed : s.armed = true) (htidy : Tidy q [(8, 4)]) (hmask : q.num 8 2 ≠ 0) (hlevel : q.num 10 2 ≤ 4000) :
    vLampSet q s = (s.modCorbel (fun x => { x with
      level := x.level.zipIdx.map (fun p => if bitAt (q.num 8 2) p.2 then q.num 10 2 else p.1), lit := true }), some {}) := by
  unfold vLampSet
  dsimp only
  rw [verbRun_tidy harmed htidy]
  simp [hmask, hlevel]

variable (hlive : s.live = true)
include hlive

theorem vLampRead_copies (htidy : Tidy q [(8, 2), (16, 8)]) (hchain : q.byte 8 ≤ 3) (hkind : q.byte 9 ≤ 1)
    (haligned : q.num 16 8 % 64 = 0) (hfetch : q.fetchFail = false) : vLampRead q s =
    (s.copyOut (q.num 16 8) (if q.byte 9 = 0 then s.channelRecords (q.byte 8) else s.driverRecords (q.byte 8)), some {}) := by
  unfold vLampRead
  dsimp only
  rw [verbRun_tidy hlive htidy, if_neg (by simp [hfetch])]
  simp [hchain, hkind, haligned]

theorem vLampClear_clears (htidy : Tidy q [(8, 1)]) (hkind : q.byte 8 ≤ 1) :
    vLampClear q s = (if q.byte 8 = 0 then s.clearShorts else s.clearPins, some {}) :=
  verbRun_tidy hlive htidy (by simpa using hkind)

end

theorem wf_lampClearShort {verb : Nat} {m : Mbox} {a : State} (dt : Nat) (hu : Usable verb m a) (hkind : m.arg 8 = 0) :
    Instr.wf (.lampClearShort dt m) = true := by
  simp [Instr.wf, hu.1, hkind]

theorem wf_lampClearPins {verb : Nat} {m : Mbox} {a : State} (dt : Nat) (hu : Usable verb m a) (hkind : m.arg 8 = 1) :
    Instr.wf (.lampClearPins dt m) = true := by
  simp [Instr.wf, hu.1, hkind]

/-- Settles O31. -/
theorem lampAndPanelCommands : Obligations.LampAndPanelCommands := by
  refine ⟨fun dt m s => ?set, fun dt m s => ?read, fun dt m s => ?clearShorts, fun dt m s => ?clearPins⟩
  case set =>
    intro a q u hu harmed htidy hmask hlevel
    exact submit_answers (exec_lampSet ..) hu (by decide) (runVerb_vLampSet _ rfl)
      (vLampSet_sets ((running_armed hu).trans harmed) htidy hmask hlevel)
  case read =>
    intro a q u hu hlive htidy hchain hkind haligned hfetch
    exact submit_answers (exec_lampRead ..) hu (by decide) (runVerb_vLampRead _ rfl)
      (vLampRead_copies ((running_live hu).trans hlive) htidy hchain hkind haligned hfetch)
  case clearShorts =>
    intro a q u hu hlive htidy hkind
    have hrun := vLampClear_clears ((running_live hu).trans hlive) htidy (by omega)
    rw [if_pos hkind] at hrun
    exact submit_answers (exec_lampClearShort ..) hu (by decide) (runVerb_vLampClear _ rfl) hrun (wf_lampClearShort dt hu hkind)
  case clearPins =>
    intro a q u hu hlive htidy hkind
    have hrun := vLampClear_clears ((running_live hu).trans hlive) htidy (by omega)
    rw [if_neg (by omega)] at hrun
    exact submit_answers (exec_lampClearPins ..) hu (by decide) (runVerb_vLampClear _ rfl) hrun (wf_lampClearPins dt hu hkind)

/-! ## COPING and PLINTH (R423, R442 to R444) -/

section
variable {q : QCmd} {s : State}

section
variable (hlive : s.live = true)
include hlive

theorem vCopingRead_copies (htidy : Tidy q [(16, 8)]) (haligned : q.num 16 8 % 64 = 0) (hfetch : q.fetchFail = false) :
    vCopingRead q s = (s.copyOut (q.num 16 8) (s.coping.cal.flatMap Cal.bytes), some {}) := by
  unfold vCopingRead
  dsimp only
  rw [verbRun_tidy hlive htidy, if_neg (by simp [hfetch])]
  simp [haligned]

theorem vCopingCal_starts (htidy : Tidy q [(8, 2)]) (hrange : q.byte 8 ≤ q.byte 9) (hlast : q.byte 9 ≤ 107) : vCopingCal q s =
    (((List.range (q.byte 9 + 1 - q.byte 8)).foldl (fun (t : State) i => t.calQueue (q.byte 8 + i)) s).calStart, some {}) := by
  unfold vCopingCal
  dsimp only
  rw [verbRun_tidy hlive htidy]
  simp [hrange, hlast]

theorem vLogRead_copies (htidy : Tidy q [(8, 16)]) (hsome : q.num 12 4 ≠ 0) (hmax : q.num 12 4 ≤ 2048)
    (haligned : q.num 16 8 % 64 = 0) (hfetch : q.fetchFail = false) : vLogRead q s =
    (s.copyOut (q.num 16 8) ((s.logFrom (q.num 8 4) (q.num 12 4)).flatMap LogEntry.bytes),
      some (Reply.ok (packed 0x0E01 [(((s.logFrom (q.num 8 4) (q.num 12 4)).head?.map (·.seq)).getD (q.num 8 4) : Nat),
        ((s.logFrom (q.num 8 4) (q.num 12 4)).length : Int)]))) := by
  unfold vLogRead
  dsimp only
  rw [verbRun_tidy hlive htidy, if_neg (by simp [hfetch])]
  simp [hsome, hmax, haligned]

end

section
variable (hidle : s.idleState = true)
include hidle

/-- The state in which PLINTH.FW has fetched its image and opened a session. -/
def State.fwFetched (s : State) (q : QCmd) : State := (s.ownFetch (q.num 24 4) 0).fwOpen (q.byte 8) (q.num 24 4)

/-- The state in which PLINTH.FW has written its image in the session `x`. -/
def State.fwWritten (s : State) (q : QCmd) (x : Fw) : State :=
  ((s.fwFetched q).fwChunk x 0 ((s.fwFetched q).store.host.read (q.num 16 8) (q.num 24 4))).1

/-- A whole image that checks ends its session with the slot valid. -/
theorem vPlinthFw_writes {x : Fw} (htidy : Tidy q [(8, 1), (16, 16)]) (htarget : q.byte 8 ≤ 1) (hlen : q.num 24 4 ≤ fwLimit (q.byte 8))
    (hclosed : s.plinth.fw = none) (hfetch : q.fetchFail = false) (hopen : (s.fwFetched q).plinth.fw = some x)
    (hgood : (s.fwWritten q x).fwGood { x with endOff := q.num 24 4 } (q.num 28 4) = true) :
    vPlinthFw q s = ((s.fwWritten q x).fwEnd true Res.ok, some {}) := by
  have hwhole : (if (s.fwWritten q x).fwGood { x with endOff := q.num 24 4 } (q.num 28 4) = true then
      ((s.fwWritten q x).fwEnd true Res.ok, (some {} : Option Reply))
      else ((s.fwWritten q x).fwEnd false Res.mismatch).plinthFail Res.mismatch) = ((s.fwWritten q x).fwEnd true Res.ok, some {}) :=
    if_pos hgood
  unfold vPlinthFw
  dsimp only
  rw [verbRun_tidy hidle htidy]
  · rw [if_neg (by simp [hclosed]), if_neg (by simp [hfetch])]
    unfold State.fwFetched at hopen
    rw [hopen]
    exact hwhole
  · simp [htarget, hlen]

theorem vFwSelect_selects (htidy : Tidy q [(8, 2)]) (htarget : q.byte 8 ≤ 1) (hslot : q.byte 9 ≤ 1)
    (hvalid : (s.plinth.image (q.byte 8) (q.byte 9)).valid = true) :
    vFwSelect q s = (s.fwSelect (q.byte 8) (q.byte 9) false, some {}) := by
  unfold vFwSelect
  dsimp only
  rw [verbRun_tidy hidle htidy, if_neg (by simp [hvalid])]
  simp [htarget, hslot]

end
end

/-- Settles O33. -/
theorem copingAndPlinthCommands : Obligations.CopingAndPlinthCommands := by
  refine ⟨fun dt m s => ?read, fun dt m s => ?cal, fun dt m s => ?log, fun dt m x s => ?fw, fun dt m s => ?select⟩
  case read =>
    intro a q u hu hlive htidy haligned hfetch
    exact submit_answers (exec_copingRead ..) hu (by decide) (runVerb_vCopingRead _ rfl)
      (vCopingRead_copies ((running_live hu).trans hlive) htidy haligned hfetch)
  case cal =>
    intro a q u hu hlive htidy hrange hlast
    exact submit_answers (exec_copingCal ..) hu (by decide) (runVerb_vCopingCal _ rfl)
      (vCopingCal_starts ((running_live hu).trans hlive) htidy hrange hlast)
  case log =>
    intro a q u hu hlive htidy hsome hmax haligned hfetch
    exact submit_answers (exec_plinthLogRead ..) hu (by decide) (runVerb_vLogRead _ rfl)
      (vLogRead_copies ((running_live hu).trans hlive) htidy hsome hmax haligned hfetch)
  case fw =>
    intro a q u v w hu hidle htidy htarget hlen hclosed hfetch hopen hgood
    exact submit_answers (exec_plinthFw ..) hu (by decide) (runVerb_vPlinthFw _ rfl)
      (vPlinthFw_writes ((running_idleState hu).trans hidle) htidy htarget hlen hclosed hfetch hopen hgood)
  case select =>
    intro a q u hu hidle htidy htarget hslot hvalid
    exact submit_answers (exec_plinthFwSelect ..) hu (by decide) (runVerb_vFwSelect _ rfl)
      (vFwSelect_selects ((running_idleState hu).trans hidle) htidy htarget hslot hvalid)

end Sys2Proof.Machine
end

section
/-! SUPPORT. What comes too late without AT_ONCE (R54, R65, R75, R78, R197): the LATE answers of the verbs above. -/

namespace Sys2Proof.Machine

open Sys2Proof Sys2Proof.Safety

/-- Settles O58: each of these verbs by its late case. -/
theorem lateRefusals : Obligations.LateRefusals := by
  refine ⟨fun dt m s => ?start, fun dt m s => ?course, fun dt m s => ?time, fun dt m lift s => ?commit, fun dt m s => ?map⟩
  case start =>
    intro a q u hu hprint htidy j hjob hqueued hnamed hnear hsync hlate hatOnce
    have hprint' : u.printHold = true := (running_printHold hu).trans hprint
    have hrun := vJobStart_late (State.armed_of_printHold hprint') htidy hjob hqueued hsync hnamed hnear rfl hprint' hlate
    have hrefused : ¬ q.atOnce = true := Bool.eq_false_iff.mp hatOnce
    exact submit_answers (exec_jobStart ..) hu (by decide) (runVerb_vJobStart _ rfl) (hrun.trans (if_neg hrefused))
  case course =>
    intro a q u hu harmed htidy hcode hout hroom hpassed hatOnce
    have hverb := vAtCourse_accepts ((running_armed hu).trans harmed) hcode hout htidy hpassed
    rw [show q.atOnce = false from hatOnce] at hverb
    exact submit_answers (exec_evtAtCourse ..) hu (by decide) ((runVerb_vAtCourse _ rfl).trans hverb)
      (State.acceptAct_late _ _ hroom)
  case time =>
    intro a q u hu harmed htidy heven hcode hout hroom hlate hatOnce
    have hverb := vAtTime_accepts ((running_armed hu).trans harmed) hcode hout htidy heven (decide_eq_true hlate)
    rw [show q.atOnce = false from hatOnce] at hverb
    exact submit_answers (exec_evtAtTime ..) hu (by decide) ((runVerb_vAtTime _ rfl).trans hverb)
      (State.acceptAct_late _ _ hroom)
  case commit =>
    intro a q u hu harmed htidy htarget hidle hnear hopen hatOnce hgen hchecked hcheck hpend
    have harmed' : u.armed = true := (running_armed hu).trans harmed
    exact submit_answers (exec_cfgCommit ..) hu (by decide) (runVerb_vCommit _ rfl)
      (vCommit_late (State.live_of_armed harmed') htidy hgen hchecked hcheck hpend htarget
        (hidle.imp_right (running_printHold hu).trans) hnear rfl (State.inRest_of_armed harmed') hopen hatOnce)
  case map =>
    intro a q u hu hprint htidy hsome hmax haddr hvalid hroom hnamed hnear hopen hatOnce
    have hprint' : u.printHold = true := (running_printHold hu).trans hprint
    have hrun := (vNozMap_inline (State.armed_of_printHold hprint') htidy (fun _ => .inr hnear) hsome rfl haddr hmax hvalid).trans
      (State.takeMap_late _ hprint' hroom hnamed rfl hopen hatOnce)
    exact submit_answers (exec_nozMap ..) hu (by decide) (runVerb_vNozMap _ rfl) hrun

end Sys2Proof.Machine
end

section
/-! SUPPORT. The field outputs (R308, R310, R392): the word of commands bit by bit, and what the gate and the request hold. -/

namespace Sys2Proof.Machine

open Sys2Proof Sys2Proof.Safety

/-! ## A word built bit by bit -/

/-- Writing a bit changes that bit alone. -/
theorem getLsbD_setBit {w : Nat} (x : BitVec w) (i j : Nat) (b : Bool) (hj : j < w) :
    (setBit x i b).getLsbD j = if i = j then b else x.getLsbD j := by
  cases b
  · rw [setBit, if_neg (by decide), BitVec.getLsbD_and, BitVec.getLsbD_not, BitVec.getLsbD_ofNat, Nat.testBit_two_pow]
    by_cases hij : i = j <;> simp [hij, hj]
  · rw [getLsbD_setBit_true]
    by_cases hij : i = j <;> simp [hij, hj]

/-- The bits of a word built from the lowest bit up. -/
theorem getLsbD_foldl_setBit {w : Nat} (g : Nat → Bool) (n j : Nat) (hj : j < w) :
    ((List.range n).foldl (fun (v : BitVec w) o => setBit v o (g o)) 0).getLsbD j = (decide (j < n) && g j) := by
  induction n with
  | zero => simp
  | succ n ih =>
    rw [List.range_succ, List.foldl_append, List.foldl_cons, List.foldl_nil, getLsbD_setBit _ _ _ _ hj, ih]
    rcases Nat.lt_trichotomy j n with hlt | heq | hgt
    · rw [if_neg (by omega)]
      simp [hlt, Nat.lt_succ_of_lt hlt]
    · simp [heq]
    · rw [if_neg (by omega)]
      simp [show ¬ j < n by omega, show ¬ j < n + 1 by omega]

/-- OUT_CMD shows the command of each output. -/
theorem State.outCmd_bit (s : State) {o : Nat} (ho : o < 16) : s.outCmd.getLsbD o = s.outCmdBit o := by
  rw [State.outCmd, getLsbD_foldl_setBit _ _ _ ho]
  simp [ho]

/-! ## The gate (R308, R310, R392) -/

/-- HV_EN of a bar (R310). -/
theorem State.outCmdBit_bar (s : State) {b : Nat} (hb : b < 12) :
    s.outCmdBit b = (s.mainOn && s.power.domains.getLsbD 10 && (s.reqBar b && s.gateBar b)) := by
  unfold State.outCmdBit
  rw [if_pos hb]
  cases s.mainOn <;> cases s.power.domains.getLsbD 10 <;> rfl

/-- LAMP_EN (R392). -/
theorem State.outCmdBit_lamp (s : State) :
    s.outCmdBit 12 = (s.mainOn && s.power.domains.getLsbD 10 && (s.reqLamp && s.gateCommon)) := by
  unfold State.outCmdBit
  cases s.mainOn <;> cases s.power.domains.getLsbD 10 <;> rfl

/-- The drive release (R308). -/
theorem State.outCmdBit_drive (s : State) : s.outCmdBit 13 = (s.mainOn && s.power.domains.getLsbD 10 && s.armed) := by
  unfold State.outCmdBit
  cases s.mainOn <;> cases s.power.domains.getLsbD 10 <;> rfl

/-- REJECT is on in REST, FAULT and BOOT (R308). -/
theorem State.outCmdBit_reject {s : State} (hmain : s.mainOn = true) (hfield : s.power.domains.getLsbD 10 = true)
    (hheld : s.held = true) : s.outCmdBit 14 = true := by
  simp [State.outCmdBit, hmain, hfield, hheld]

/-- The main domains are on in REST, FAULT and BOOT, which hold the outputs (R308, R450). -/
theorem State.held_of_state {s : State} (hstate : s.ident.opState = .rest ∨ s.ident.opState = .fault ∨ s.ident.opState = .boot) :
    s.mainOn = true ∧ s.held = true := by
  rcases hstate with hop | hop | hop <;> simp [State.mainOn, State.held, State.inRest, hop]

/-- Settles O55. -/
theorem fieldOutputGate : Obligations.FieldOutputGate := by
  refine ⟨fun s b hb => ?bar, fun s => ?lamp, fun s harmed => ⟨fun b hb => ?barOff, ?lampOff, ?driveOff⟩, fun s hfield hstate => ?reject⟩
  case bar =>
    rw [s.outCmd_bit (by omega), s.outCmdBit_bar hb]
    simp only [State.reqBar, State.gateBar, State.gateCommon, Bool.and_eq_true, Bool.not_eq_true', beq_iff_eq]
    constructor
    · rintro ⟨⟨hmain, hfield⟩, ⟨⟨harmed, hinstalled⟩, hcause⟩, ⟨⟨⟨⟨⟨⟨hestopA, hestopB⟩, hwdog⟩, htherm⟩, hdown⟩, hweb⟩, hbreak⟩, hjam⟩
      exact ⟨hmain, hfield, harmed, hinstalled, hcause, hestopA, hestopB, hdown, hweb, hbreak, hjam, hwdog, htherm⟩
    · rintro ⟨hmain, hfield, harmed, hinstalled, hcause, hestopA, hestopB, hdown, hweb, hbreak, hjam, hwdog, htherm⟩
      exact ⟨⟨hmain, hfield⟩, ⟨⟨harmed, hinstalled⟩, hcause⟩, ⟨⟨⟨⟨⟨⟨hestopA, hestopB⟩, hwdog⟩, htherm⟩, hdown⟩, hweb⟩, hbreak⟩, hjam⟩
  case lamp =>
    rw [s.outCmd_bit (by omega), s.outCmdBit_lamp]
    simp only [State.reqLamp, State.gateCommon, Bool.and_eq_true, beq_iff_eq]
    constructor
    · rintro ⟨⟨hmain, hfield⟩, ⟨harmed, hcause⟩, ⟨⟨hestopA, hestopB⟩, hwdog⟩, htherm⟩
      exact ⟨hmain, hfield, harmed, hcause, hestopA, hestopB, hwdog, htherm⟩
    · rintro ⟨hmain, hfield, harmed, hcause, hestopA, hestopB, hwdog, htherm⟩
      exact ⟨⟨hmain, hfield⟩, ⟨harmed, hcause⟩, ⟨⟨hestopA, hestopB⟩, hwdog⟩, htherm⟩
  case barOff =>
    rw [s.outCmd_bit (by omega), s.outCmdBit_bar hb]
    simp [State.reqBar, harmed]
  case lampOff =>
    rw [s.outCmd_bit (by omega), s.outCmdBit_lamp]
    simp [State.reqLamp, harmed]
  case driveOff =>
    rw [s.outCmd_bit (by omega), s.outCmdBit_drive]
    simp [harmed]
  case reject =>
    obtain ⟨hmain, hheld⟩ := State.held_of_state hstate
    rw [s.outCmd_bit (by omega), State.outCmdBit_reject hmain hfield hheld]

end Sys2Proof.Machine
end

section
/-! SUPPORT. The tamper loop (R437, R438, R441, R446): what a record leaves of the Plinth and of the event ring, and what an opening
does. -/

namespace Sys2Proof.Machine

open Sys2Proof Sys2Proof.Safety

/-! ## A record that arrives at the Plinth (R437, R438) -/

/-- A record changes the Plinth alone. -/
theorem State.queueRecord_eq (e : Ev) (s : State) : s.queueRecord e = { s with plinth := (s.queueRecord e).plinth } := by
  unfold State.queueRecord
  split
  · rfl
  · split <;> rfl

@[simp] theorem State.queueRecord_tamper (e : Ev) (s : State) : (s.queueRecord e).plinth.tamper = s.plinth.tamper := by
  unfold State.queueRecord
  split
  · rfl
  · split <;> rfl

/-- A record in time enters the Aux queue where it has room. -/
theorem State.queueRecord_queue {e : Ev} {s : State} (hintime : s.lateRecord e = false) (hroom : s.plinth.queue.length < 256) :
    (s.queueRecord e).plinth.queue = s.plinth.queue ++ [(s.clock.up, e)] := by
  rw [State.queueRecord, if_neg (by simp [hintime]), if_pos hroom]

/-- A late record is the last entry of the log. -/
theorem State.queueRecord_late {e : Ev} {s : State} (hlate : s.lateRecord e = true) :
    (s.queueRecord e).plinth.queue = s.plinth.queue ∧
      (s.queueRecord e).plinth.log.getLast? = some { ev := e, seq := s.plinth.nextSeq.toNat, lateOrder := true } ∧
      (s.queueRecord e).plinth.nextSeq = s.plinth.nextSeq + 1 := by
  rw [State.queueRecord, if_pos hlate]
  exact ⟨rfl, by simp [State.commitEv], rfl⟩

/-- A record changes the Plinth and, where a ring is set while the main domains are on, what waits for the event ring (R58). -/
theorem State.putRecord_eq (e : Ev) (s : State) : s.putRecord e =
    { s with plinth := (s.queueRecord e).plinth,
             ring := if s.mainOn = true ∧ s.ring.valid = true then { s.ring with wait := s.ring.wait ++ [e] } else s.ring } := by
  have hmain : (s.queueRecord e).mainOn = s.mainOn := by simp [State.mainOn]
  have hring : (s.queueRecord e).ring = s.ring := by rw [State.queueRecord_eq]
  unfold State.putRecord
  dsimp only
  rw [hmain, hring]
  by_cases hset : s.mainOn = true ∧ s.ring.valid = true
  · rw [if_pos (Bool.and_eq_true_iff.mpr hset), if_pos hset]
    exact congrArg (fun t : State => { t with ring := { s.ring with wait := s.ring.wait ++ [e] } }) (State.queueRecord_eq e s)
  · rw [if_neg (mt Bool.and_eq_true_iff.mp hset), if_neg hset]
    exact State.queueRecord_eq e s

/-! ## An opening of the loop (R441) -/

/-- The record of an opening, after which the count is `n`. -/
def State.tamperEv (s : State) (n : Nat) : Ev :=
  { stamp := s.rtcStamp, source := srcKeep, code := 0x1904, detail := 0, data := [(n : Int)], rtc := true }

/-- The state in which an opening is counted. -/
def State.tamperCounted (s : State) : State := s.modPlinth (fun p => { p with tamper := satInc 255 p.tamper })

/-- Nothing watches the loop without supply (R446). -/
theorem State.tamperOpen_noSupply {s : State} (hoff : s.ident.opState = .off) (hbat : s.power.batOk = false) : s.tamperOpen = s := by
  rw [State.tamperOpen, if_pos ⟨hoff, by simp [hbat]⟩]

/-- An opening is counted and recorded; out of OFF it is a source of ALERT too (R432). -/
theorem State.tamperOpen_supplied {s : State} (hsupply : s.ident.opState ≠ .off ∨ s.power.batOk = true) : s.tamperOpen =
    if s.ident.opState = .off then s.tamperCounted.putRecord (s.tamperEv (satInc 255 s.plinth.tamper))
    else (s.tamperCounted.putRecord (s.tamperEv (satInc 255 s.plinth.tamper))).alert 4 := by
  have hwatched : ¬ (s.ident.opState = .off ∧ (!s.power.batOk) = true) := by
    rintro ⟨hoff, hbat⟩
    rcases hsupply with hsupply | hsupply
    · exact hsupply hoff
    · simp [hsupply] at hbat
  unfold State.tamperOpen
  rw [if_neg hwatched]
  dsimp only
  rw [State.putRecord_op]
  rfl

/-- What an opening leaves: ALERT changes its own bits of the Plinth only. -/
theorem State.tamperOpen_fields {s : State} (hsupply : s.ident.opState ≠ .off ∨ s.power.batOk = true) :
    let x := s.tamperCounted.putRecord (s.tamperEv (satInc 255 s.plinth.tamper))
    s.tamperOpen.plinth.tamper = x.plinth.tamper ∧ s.tamperOpen.plinth.queue = x.plinth.queue ∧
      s.tamperOpen.plinth.log = x.plinth.log ∧ s.tamperOpen.plinth.nextSeq = x.plinth.nextSeq ∧ s.tamperOpen.ring = x.ring ∧
      { s.tamperOpen with plinth := s.plinth } = { x with plinth := s.plinth } := by
  dsimp only
  rw [State.tamperOpen_supplied hsupply]
  split <;> exact ⟨rfl, rfl, rfl, rfl, rfl, rfl⟩

/-- Settles O57. -/
theorem tamperOpening : Obligations.TamperOpening := by
  intro s
  refine ⟨State.tamperOpen_noSupply, fun hsupply => ?_⟩
  obtain ⟨htamper, hqueue, hlog, hseq, hring, hrest⟩ := State.tamperOpen_fields hsupply
  rw [State.putRecord_eq] at htamper hqueue hlog hseq hring hrest
  dsimp only
  rw [htamper, hqueue, hlog, hseq, hring]
  refine ⟨State.queueRecord_tamper _ s.tamperCounted, fun hintime hroom => State.queueRecord_queue (s := s.tamperCounted) hintime hroom,
    fun hlate => State.queueRecord_late (s := s.tamperCounted) hlate, rfl, ?_⟩
  exact congrArg (fun t : State => { t with ring := s.ring }) hrest

end Sys2Proof.Machine
end

section
/-! SUPPORT. The arithmetic of the tone and density stages (R138, R142, R148, R153): the limiter, the stepping of codes and the measured
entries. -/

namespace Sys2Proof.Machine

open Sys2Proof Sys2Proof.Safety

/-! ## The limiter (R138) -/

theorem limit_below {knee cap t : Nat} (ht : t ≤ knee) : limit knee cap t = t := if_pos ht

/-- Over the whole range above the knee the slope rises by no more than the cap lies above it. -/
theorem limSlope_rise {knee cap t : Nat} (ht : t ≤ 65535) : (t - knee) * limSlope knee cap / 65536 ≤ cap - knee := by
  have hspan : (t - knee) * limSlope knee cap ≤ (cap - knee) * 65536 := calc
    (t - knee) * limSlope knee cap ≤ (65535 - knee) * limSlope knee cap := Nat.mul_le_mul_right _ (by omega)
    _ ≤ (cap - knee) * 65536 := Nat.mul_div_le _ _
  exact Nat.div_le_of_le_mul (by rwa [Nat.mul_comm 65536])

theorem limit_le_cap {knee cap t : Nat} (hcap : knee ≤ cap) (ht : t ≤ 65535) : limit knee cap t ≤ cap := by
  unfold limit
  split
  · omega
  · have hrise := limSlope_rise (knee := knee) (cap := cap) ht
    omega

/-! ## The stepping of codes (R148) -/

/-- Steps toward a higher code count up. -/
theorem repeat_stepCode_up {a t n : Nat} (hn : a + n ≤ t) : Nat.repeat (fun a => stepCode a t) n a = a + n := by
  induction n with
  | zero => rfl
  | succ n ih =>
    change stepCode (Nat.repeat (fun a => stepCode a t) n a) t = a + (n + 1)
    rw [ih (by omega), stepCode, if_pos (by omega), Nat.add_assoc]

/-- Steps toward a lower code count down. -/
theorem repeat_stepCode_down {a t n : Nat} (hn : t + n ≤ a) : Nat.repeat (fun a => stepCode a t) n a = a - n := by
  induction n with
  | zero => rfl
  | succ n ih =>
    change stepCode (Nat.repeat (fun a => stepCode a t) n a) t = a - (n + 1)
    rw [ih (by omega), stepCode, if_neg (by omega), if_pos (by omega), Nat.sub_sub]

/-- A code reaches its target after as many lifts as they differ. -/
theorem repeat_stepCode_reaches (a t : Nat) : Nat.repeat (fun a => stepCode a t) (max a t - min a t) a = t := by
  rcases Nat.le_total a t with hle | hle
  · rw [Nat.max_eq_right hle, Nat.min_eq_left hle, repeat_stepCode_up (by omega)]
    omega
  · rw [Nat.max_eq_left hle, Nat.min_eq_right hle, repeat_stepCode_down (by omega)]
    omega

theorem stepCode_one (a t : Nat) : stepCode a t = a ∨ stepCode a t = a + 1 ∨ stepCode a t + 1 = a := by
  unfold stepCode
  split
  · exact .inr (.inl rfl)
  · split
    · exact .inr (.inr (by omega))
    · exact .inl rfl

/-! ## Measured entries (R153) -/

/-- A measured entry asks for no more than MAX_STEP. -/
theorem densDelta_bounds (gain t maxStep : Nat) (e : Int) :
    -(maxStep : Int) ≤ densDelta gain e t maxStep ∧ densDelta gain e t maxStep ≤ maxStep := by
  unfold densDelta
  dsimp only
  omega

/-- A positive error asks for a lower code. -/
theorem densDelta_nonpos (gain t maxStep : Nat) {e : Int} (he : 0 ≤ e) : densDelta gain e t maxStep ≤ 0 := by
  have hp : 0 ≤ (gain : Int) * e * (128 + t) := Int.mul_nonneg (Int.mul_nonneg (by omega) he) (by omega)
  unfold densDelta
  dsimp only
  generalize (gain : Int) * e * (128 + t) = p at hp ⊢
  split <;> omega

/-- A negative error asks for a higher code. -/
theorem densDelta_nonneg (gain t maxStep : Nat) {e : Int} (he : e ≤ 0) : 0 ≤ densDelta gain e t maxStep := by
  have hp : (gain : Int) * e * (128 + t) ≤ 0 :=
    Int.mul_nonpos_of_nonpos_of_nonneg (Int.mul_nonpos_of_nonneg_of_nonpos (by omega) he) (by omega)
  unfold densDelta
  dsimp only
  generalize (gain : Int) * e * (128 + t) = p at hp ⊢
  rw [if_neg (by omega)]
  omega

/-- A target code moves by the change that the entry asks for, held at 0 and 255. -/
theorem densTarget_eq (gain t maxStep : Nat) (e : Int) : densTarget gain e t maxStep =
    ((max 0 (min 255 ((t : Int) + densDelta gain e t maxStep))).toNat,
      decide ((t : Int) + densDelta gain e t maxStep < 0 ∨ 255 < (t : Int) + densDelta gain e t maxStep)) := by
  unfold densTarget
  dsimp only
  generalize (t : Int) + densDelta gain e t maxStep = v
  rcases Int.lt_or_le v 0 with hlow | hlow
  · rw [if_pos hlow, decide_eq_true (.inl hlow), Int.max_eq_left (by omega)]
    rfl
  · rw [if_neg (by omega)]
    rcases Int.lt_or_le 255 v with hhigh | hhigh
    · rw [if_pos hhigh, decide_eq_true (.inr hhigh), Int.min_eq_left (by omega)]
      rfl
    · rw [if_neg (by omega), decide_eq_false (by omega), Int.min_eq_right hhigh, Int.max_eq_right hlow]

/-- Settles O52. -/
theorem inkAndDensityArithmetic : Obligations.InkAndDensityArithmetic := by
  refine ⟨fun knee cap t hcap ht => ⟨limit_le_cap hcap ht, limit_below⟩, fun c ch v S => rfl,
    fun a t => ⟨repeat_stepCode_reaches a t, stepCode_one a t⟩, fun gain t maxStep e ht => ?_⟩
  obtain ⟨hlow, hhigh⟩ := densDelta_bounds gain t maxStep e
  have hdown := densDelta_nonpos gain t maxStep (e := e)
  have hup := densDelta_nonneg gain t maxStep (e := e)
  dsimp only
  rw [densTarget_eq]
  generalize densDelta gain e t maxStep = d at hlow hhigh hdown hup
  refine ⟨by omega, by omega, by omega, fun he => ?_, fun he => ?_, decide_eq_true_iff⟩
  · have hd := hdown he
    omega
  · have hd := hup he
    omega

end Sys2Proof.Machine
end

section
/-! SUPPORT. Quadrature (R213 to R216, R223): the step of two lines, what an accepted change of the lines does, and the counts of
POSITION and HWM. -/

namespace Sys2Proof.Machine

open Sys2Proof Sys2Proof.Safety

/-! ## The steps of two lines (R214) -/

/-- Every change of two lines: along 0, 2, 3, 1 it counts up, against it down, and a change of both lines is illegal. -/
theorem quadStep_lines (a0 b0 a b : Bool) :
    let st := fun (a b : Bool) => 2 * bit a + bit b
    let fwd := fun (x y : Nat) => (x = 0 ∧ y = 2) ∨ (x = 2 ∧ y = 3) ∨ (x = 3 ∧ y = 1) ∨ (x = 1 ∧ y = 0)
    (fwd (st a0 b0) (st a b) → quadStep (st a0 b0) (st a b) = .counts 1) ∧
      (fwd (st a b) (st a0 b0) → quadStep (st a0 b0) (st a b) = .counts (-1)) ∧
      (a = a0 → b = b0 → quadStep (st a0 b0) (st a b) = .counts 0) ∧
      (a ≠ a0 → b ≠ b0 → quadStep (st a0 b0) (st a b) = .illegal) := by
  revert a0 b0 a b
  decide

/-! ## An accepted change of the lines (R215, R216) -/

@[simp] theorem State.enc_setEnc (e : Nat) (x : Enc) (s : State) : (s.setEnc e x).enc e = x := by
  unfold State.setEnc State.enc
  by_cases he : e = 0
  · simp [he]
  · simp [he]

@[simp] theorem State.setEnc_setEnc (e : Nat) (x y : Enc) (s : State) : (s.setEnc e x).setEnc e y = s.setEnc e y := by
  unfold State.setEnc
  by_cases he : e = 0
  · simp [he]
  · simp [he]

/-- Mode 1 is quadrature (R214). -/
theorem digitalStep_quad (falling a0 b0 a b setup : Bool) :
    digitalStep 1 falling a0 b0 a b setup = quadStep (2 * bit a0 + bit b0) (2 * bit a + bit b) := rfl

/-- An illegal change short of the burst is counted and no more (R216). -/
theorem State.illegalStep_single {s : State} {e : Nat} (u : Nat) (hshort : (s.enc e).illStamps.length < 16) : s.illegalStep e u =
    s.setEnc e { s.enc e with
      illegal := satInc (2 ^ 32 - 1) (s.enc e).illegal, illSince := (s.enc e).illSince + 1,
      illStamps := (u :: (s.enc e).illStamps).take 16 } := by
  unfold State.illegalStep
  exact if_neg (fun hburst => by omega)

section
variable {e : Nat} {s : State} (a b setup : Bool) (u : Nat) (hmode : encMode s.esec e = 1)
include hmode

theorem State.lineStep_counts {d : Int}
    (hstep : quadStep (2 * bit (s.enc e).a + bit (s.enc e).b) (2 * bit a + bit b) = .counts d) :
    s.lineStep e a b setup u = (s.setEnc e { s.enc e with a := a, b := b }).applyCount e d u := by
  unfold State.lineStep
  dsimp only
  rw [hmode, digitalStep_quad, hstep]

theorem State.lineStep_illegal
    (hstep : quadStep (2 * bit (s.enc e).a + bit (s.enc e).b) (2 * bit a + bit b) = .illegal)
    (hshort : (s.enc e).illStamps.length < 16) : s.lineStep e a b setup u =
      s.setEnc e { s.enc e with
        a := a, b := b, illegal := satInc (2 ^ 32 - 1) (s.enc e).illegal, illSince := (s.enc e).illSince + 1,
        illStamps := (u :: (s.enc e).illStamps).take 16 } := by
  unfold State.lineStep
  dsimp only
  rw [hmode, digitalStep_quad, hstep]
  dsimp only
  rw [State.illegalStep_single u (by simpa using hshort)]
  simp

end

/-! ## The filter of a line (R213) -/

section
variable (f n run : Nat) (acc lvl : Bool)

theorem lineTake_held (hlevel : lvl = acc) : lineTake f n acc lvl run = (none, 0) := if_pos hlevel

variable (hlevel : lvl ≠ acc)
include hlevel

/-- A new level is accepted with the FILTER-th sample in a row that holds it. -/
theorem lineTake_accepts (hrun : run < f) (hlong : f ≤ run + n) :
    ∃ k, k ≤ n ∧ run + k = f ∧ lineTake f n acc lvl run = (some k, 0) :=
  ⟨f - run, by omega, by omega, by rw [lineTake, if_neg hlevel, if_pos hlong]⟩

theorem lineTake_waits (hshort : run + n < f) : lineTake f n acc lvl run = (none, run + n) := by
  rw [lineTake, if_neg hlevel, if_neg (by omega)]

end

/-! ## POSITION and HWM (R211, R223) -/

/-- HWM rises to a POSITION above it. -/
theorem Enc.raised_counts {p h : Int} (x : Enc) (hkept : x.pos = p ∧ x.hwm = h) :
    (if x.hwm < p then { x with hwm := p } else x).pos = p ∧ (if x.hwm < p then { x with hwm := p } else x).hwm = max h p := by
  obtain ⟨hpos, rfl⟩ := hkept
  split
  next habove => exact ⟨hpos, (Int.max_eq_right (Int.le_of_lt habove)).symm⟩
  next hbelow => exact ⟨hpos, (Int.max_eq_left (Int.not_lt.mp hbelow)).symm⟩

/-- A new POSITION is taken as it is, whichever way the web turns, and HWM is the highest of them. -/
theorem Enc.moved_counts (p : Int) (x : Enc) : (x.moved p).pos = p ∧ (x.moved p).hwm = max x.hwm p := by
  refine Enc.raised_counts _ ?_
  dsimp only
  repeat' split
  all_goals exact ⟨rfl, rfl⟩

/-- Settles O53. -/
theorem quadratureCounts : Obligations.QuadratureCounts := by
  refine ⟨quadStep_lines, fun e a b setup u s hmode => ⟨fun d hstep => ?_, fun hstep hshort => ?_⟩,
    fun f n run acc lvl hrun => ⟨lineTake_held f n run acc lvl, fun hlevel hlong => ?_, fun hlevel hshort => ?_⟩,
    fun now d x => ⟨?_, ?_⟩⟩
  · exact State.lineStep_counts a b setup u hmode hstep
  · exact State.lineStep_illegal a b setup u hmode hstep hshort
  · exact lineTake_accepts f n run acc lvl hlevel hrun hlong
  · exact lineTake_waits f n run acc lvl hlevel hshort
  · exact (Enc.moved_counts (x.pos + d) x).1
  · exact (Enc.moved_counts (x.pos + d) x).2

end Sys2Proof.Machine
end

section
/-! SUPPORT. A TAIL write (R84): which TAIL stops a channel, and what the stop leaves of it. -/

namespace Sys2Proof.Machine

open Sys2Proof Sys2Proof.Safety

/-! ## The channels of a function -/

@[simp] theorem State.message_channels (f v : Nat) (s : State) : ((s.message f v).fn f).ch = (s.fn f).ch := by
  unfold State.message
  dsimp only
  split <;> simp

/-- A source that fires leaves the channels as they are. -/
@[simp] theorem State.raise_channels (f v : Nat) (s : State) : ((s.raise f v).fn f).ch = (s.fn f).ch := by
  unfold State.raise
  dsimp only
  split <;> simp

@[simp] theorem State.raise_ch (f v c : Nat) (s : State) : (s.raise f v).ch f c = s.ch f c := by
  simp [State.ch]

theorem State.modCh_ch {f c : Nat} {s : State} (g : Dma → Dma) (hc : c < (s.fn f).ch.length) : (s.modCh f c g).ch f c = g (s.ch f c) := by
  rw [State.modCh, State.ch, State.fn_setFn]
  exact (modAt_getD _ _ _ _ _ hc).trans (if_pos rfl)

/-- A channel that stops on an error keeps its TAIL and DONE_IDX (R81, R84). -/
theorem State.chanError_ch {f c : Nat} {s : State} (result detail : Nat) (hc : c < (s.fn f).ch.length) :
    (s.chanError f c result detail).ch f c =
      { s.ch f c with
        st := .stopped, err := true, result := result, detail := detail, head := (s.ch f c).done, descs := [],
        inflight := (s.ch f c).inflight.map (fun r => { r with drop := true }) } := by
  rw [State.chanError, State.raise_ch, State.modCh_ch _ hc]

/-! ## A TAIL write (R84) -/

/-- A TAIL beyond the ring stops a channel that is not on its way to its end. -/
theorem State.tailWrite_beyond {f c v : Nat} {s : State} (hring : (s.ch f c).expOk = true)
    (hfar : (s.ch f c).slots < (BitVec.ofNat 32 v - (s.ch f c).done).toNat) (hdraining : (s.ch f c).st ≠ .draining)
    (haborting : (s.ch f c).st ≠ .aborting) : s.tailWrite f c v = s.chanError f c Res.noSpace 1 := by
  unfold State.tailWrite
  dsimp only
  rw [if_pos (Bool.and_eq_true_iff.mpr ⟨hring, decide_eq_true hfar⟩)]
  split
  next hst => exact absurd hst hdraining
  next hst => exact absurd hst haborting
  next => rfl

theorem State.tailWrite_within {f c v : Nat} {s : State} (hnear : (BitVec.ofNat 32 v - (s.ch f c).done).toNat ≤ (s.ch f c).slots) :
    s.tailWrite f c v = (s.modCh f c (fun x => { x with tail := BitVec.ofNat 32 v })).pump f :=
  if_neg (fun hfar => absurd (of_decide_eq_true (Bool.and_eq_true_iff.mp hfar).2) (Nat.not_lt.mpr hnear))

/-- What a command leaves depends on what it does in the state in which its time has passed. -/
theorem after_congr {dt : Nat} {f g : State → State} {s : State} (hsame : f (s.opens dt) = g (s.opens dt)) : after dt f s = after dt g s := by
  rw [after, after, hsame]

/-- Settles O50. -/
theorem tailWrites : Obligations.TailWrites := by
  refine ⟨fun dt fn ch value host s hwf hch hreach => ?_, fun fn ch s hch => ?_⟩
  · intro x t hring
    have hruns := (exec_tailWrite dt fn ch value host s).trans (perform_hostChannel hwf hch hreach)
    refine ⟨fun hfar hdraining haborting => ?_, fun hnear => ?_⟩
    · exact hruns.trans (congrArg Host.Outcome.next (after_congr (State.tailWrite_beyond hring hfar hdraining haborting)))
    · exact hruns.trans (congrArg Host.Outcome.next (after_congr (State.tailWrite_within hnear)))
  · dsimp only
    rw [State.chanError_ch _ _ hch]
    exact ⟨rfl, rfl, rfl, rfl, rfl, rfl⟩

end Sys2Proof.Machine
end

section
/-! SUPPORT. The responses (R48, R51 to R53): what a read of a response area does, and what a response that the module writes shows. -/

namespace Sys2Proof.Machine

open Sys2Proof Sys2Proof.Safety

/-! ## The response areas -/

/-- A key that has just been set is found. -/
theorem assoc_assocSet_self {α : Type} (k : Nat) (v : α) (l : List (Nat × α)) : assoc k (assocSet k v l) = some v := by
  unfold assoc assocSet
  by_cases hany : l.any (·.1 == k) = true
  · rw [if_pos hany]
    induction l with
    | nil => simp at hany
    | cons p l ih =>
      by_cases hp : p.1 = k
      · simp [hp]
      · have htail : l.any (·.1 == k) = true := by simpa [hp] using hany
        simpa [hp] using ih htail
  · rw [if_neg hany]
    simp

@[simp] theorem State.message_mbox (f v : Nat) (s : State) : (s.message f v).mbox = s.mbox := by
  unfold State.message
  dsimp only
  split <;> simp

@[simp] theorem State.raise_mbox (f v : Nat) (s : State) : (s.raise f v).mbox = s.mbox := by
  unfold State.raise
  dsimp only
  split <;> simp

@[simp] theorem State.raise_chan (f v c : Nat) (s : State) : (s.raise f v).chan c = s.chan c := by
  simp [State.chan]

theorem State.chan_modChan_self {c : Nat} {s : State} (f : Chan → Chan) (hc : c < s.mbox.length) :
    (s.modChan c f).chan c = f (s.chan c) :=
  (chan_modChan c c f s hc).trans (if_pos rfl)

/-- The response that the module has written for its running command (R52). -/
theorem State.respond_response {c : Nat} {q : QCmd} {rest : List QCmd} {s : State} (rep : Reply) (hc : c < s.mbox.length)
    (hqueue : (s.chan c).queue = q :: rest) (hmute : (s.chan c).mute = false) : ((s.respond c rep).chan c).response q.slot =
      { verb := q.verb, tag := q.tag, phase := q.phase, lateMark := rep.late, warn := rep.warn, result := rep.result,
        detail := rep.detail, stamp := s.now, data := rep.data } := by
  unfold State.respond
  dsimp only
  rw [hqueue]
  dsimp only
  rw [if_neg (by simp [hmute])]
  split <;> simp [State.chan_modChan_self _ hc, Chan.response, assoc_assocSet_self]

/-! ## The bytes of a response (R48) -/

/-- READ_AGAIN stands in byte 4 alone. -/
theorem Rsp.bytes_readAgain (r : Rsp) (i : Nat) (hi : i ≠ 4) : ({ r with readAgain := true } : Rsp).bytes.getD i 0 = r.bytes.getD i 0 :=
  match i with
  | 0 | 1 | 2 | 3 => rfl
  | 4 => absurd rfl hi
  | _ + 5 => rfl

/-- Bit 1 of byte 4. -/
theorem bitAt_flags (phase readAgain late warn : Bool) :
    bitAt (bit phase + 2 * bit readAgain + 4 * bit late + 8 * bit warn) 1 = readAgain := by
  revert phase readAgain late warn
  decide

theorem Rsp.bytes_readAgain_bit (r : Rsp) : bitAt (r.bytes.getD 4 0) 1 = r.readAgain := bitAt_flags r.phase r.readAgain r.lateMark r.warn

/-! ## The host reads a response area (R51, R53) -/

section
variable {ch slot off n : Nat} {s : State} (hreach : s.reachable 0 = true)
include hreach

/-- The state in which the completion of the read has gone out. -/
def State.responseSent (ch slot off n : Nat) (s : State) : State :=
  s.send (.read 0 (0x10000 + 0x4000 * ch + 0x1000 + 64 * slot + off) (s.regRead 0 (0x10000 + 0x4000 * ch + 0x1000 + 64 * slot + off) n) false)

theorem State.responseRead_head (hoff : off < 8) (hn : 0 < n) (hready : ((s.chan ch).response slot).ready = true) :
    s.responseRead ch slot off n = (s.responseSent ch slot off n).modChan ch (fun x => { x with
      rsp := assocSet slot { (s.chan ch).response slot with readAgain := true } x.rsp, complete := setBit x.complete slot false }) := by
  unfold State.responseRead
  rw [if_neg (by simp [hreach])]
  exact if_pos ⟨hoff, hn, hready⟩

theorem State.responseRead_tail (hoff : 8 ≤ off) : s.responseRead ch slot off n = s.responseSent ch slot off n := by
  unfold State.responseRead
  rw [if_neg (by simp [hreach])]
  exact if_neg (fun hhead => by omega)

end

/-- Settles O49. -/
theorem responseReads : Obligations.ResponseReads := by
  refine ⟨fun ch slot off n s hreach hch hslot => ⟨fun hoff hn hready => ?_, State.responseRead_tail hreach⟩, Rsp.bytes_readAgain,
    fun r => ⟨Rsp.bytes_readAgain_bit _, Rsp.bytes_readAgain_bit _⟩, fun c q rest rep s hc hqueue hmute => ?_⟩
  · have hread := State.responseRead_head hreach hoff hn hready
    have hsent : ch < (s.responseSent ch slot off n).mbox.length := hch
    refine ⟨hread, ?_, ?_⟩
    · rw [hread, State.chan_modChan_self _ hsent, Chan.response, assoc_assocSet_self]
      rfl
    · rw [hread, State.chan_modChan_self _ hsent]
      exact (getLsbD_setBit _ _ _ _ hslot).trans (if_pos rfl)
  · exact State.respond_response rep hc hqueue hmute

end Sys2Proof.Machine
end

section
/-! SUPPORT. ACQUIRE at a node (R295, R296): what decides its answer, and what a grant leaves of the rows and frames. -/

namespace Sys2Proof.Machine

open Sys2Proof Sys2Proof.Safety

/-! ## A node that is replaced -/

theorem State.node_setNode {id : Nat} {n : Node} (hid : n.id = id) (s : State) : (s.setNode n).node id = some n := by
  subst hid
  exact assoc_assocSet_self _ _ _

/-- An expiry takes no time. -/
@[simp] theorem State.nodeExpiry_clock (id : Nat) (s : State) : (s.nodeExpiry id).clock = s.clock := by
  unfold State.nodeExpiry
  repeat' split
  all_goals simp

/-! ## A grant (R295, R296) -/

section
variable (port : Nat) (m : LeaseMsg) (up : Nat) (n : Node)

@[simp] theorem Node.grant_id : (n.grant port m up).id = n.id := by
  unfold Node.grant
  dsimp only
  split <;> rfl

/-- The node that grants is held by the port under the lease asked for. -/
theorem Node.grant_lease : (n.grant port m up).held = true ∧ (n.grant port m up).holder = port ∧ (n.grant port m up).epoch = m.epoch ∧
    (n.grant port m up).tLease = m.tLease ∧ (n.grant port m up).acqResult = 1 ∧
    (n.grant port m up).expiry = n.time up + 1000 * m.tLease := by
  unfold Node.grant
  dsimp only
  split <;> exact ⟨rfl, rfl, rfl, rfl, rfl, rfl⟩

/-- Rows of another port's lease stay, each to the E it had. -/
theorem Node.grant_keeps (hfree : n.held = false) (hother : n.holder ≠ port) :
    (n.grant port m up).rows = n.rows.map (fun r => { r with expiry := n.rowE r }) ∧ (n.grant port m up).frames = n.frames := by
  unfold Node.grant
  dsimp only
  rw [if_neg (by simp [hfree, hother])]
  exact ⟨rfl, rfl⟩

/-- Rows and frames of an older epoch of the holder are gone. -/
theorem Node.grant_clears (hheld : n.held = true) : (n.grant port m up).rows = [] ∧ (n.grant port m up).frames = [] := by
  unfold Node.grant
  dsimp only
  rw [if_pos (by simp [hheld])]
  exact ⟨rfl, rfl⟩

end

/-! ## What decides the answer (R295) -/

section
variable {id port k len bits : Nat} {s : State} {n : Node} {b : Body} {data : List Nat}
  (hrx : (s.nodeExpiry id).nodeRx id port k 0x03 len bits = some (n, some b)) (hdata : b.data = some data)
  (hop : (leaseRead (data.getD 0 0)).op = 1) (hport : (leaseRead (data.getD 0 0)).port = port)
include hrx hdata hop hport

/-- An ACQUIRE addressed to the port it came on is judged by T_LEASE, the holder and the epoch. -/
theorem State.nodeAcquire_judged : s.nodeAcquire id port k len bits =
    let m := leaseRead (data.getD 0 0)
    let ahead := (m.epoch + 64 - n.epoch) % 64
    if m.tLease < 2000 ∨ 50000 < m.tLease then (s.nodeExpiry id).setNode { n with acqResult := 4 }
    else if n.held ∧ n.holder ≠ port then (s.nodeExpiry id).setNode { n with acqResult := 2 }
    else if 1 ≤ ahead ∧ ahead ≤ 31 then (s.nodeExpiry id).setNode (n.grant port m s.clock.up)
    else if n.held then (s.nodeExpiry id).setNode n.refuse
    else (s.nodeExpiry id).setNode { n with acqResult := 3 } := by
  unfold State.nodeAcquire State.nodeTake
  dsimp only
  rw [hrx]
  dsimp only
  rw [hdata]
  dsimp only
  rw [if_neg (not_not_intro hop), if_neg (not_not_intro hport), State.nodeExpiry_clock]

theorem State.nodeAcquire_badLease (hid : n.id = id)
    (hrange : ¬ (2000 ≤ (leaseRead (data.getD 0 0)).tLease ∧ (leaseRead (data.getD 0 0)).tLease ≤ 50000)) :
    (s.nodeAcquire id port k len bits).node id = some { n with acqResult := 4 } := by
  rw [State.nodeAcquire_judged hrx hdata hop hport]
  dsimp only
  rw [if_pos (by omega)]
  exact State.node_setNode (n := { n with acqResult := 4 }) hid _

variable (hrange : 2000 ≤ (leaseRead (data.getD 0 0)).tLease ∧ (leaseRead (data.getD 0 0)).tLease ≤ 50000)
include hrange

theorem State.nodeAcquire_otherHolder (hid : n.id = id) (hheld : n.held = true) (hother : n.holder ≠ port) :
    (s.nodeAcquire id port k len bits).node id = some { n with acqResult := 2 } := by
  rw [State.nodeAcquire_judged hrx hdata hop hport]
  dsimp only
  rw [if_neg (by omega), if_pos ⟨hheld, hother⟩]
  exact State.node_setNode (n := { n with acqResult := 2 }) hid _

theorem State.nodeAcquire_oldEpoch (hid : n.id = id) (hfree : n.held = false)
    (hold : ¬ (1 ≤ ((leaseRead (data.getD 0 0)).epoch + 64 - n.epoch) % 64 ∧ ((leaseRead (data.getD 0 0)).epoch + 64 - n.epoch) % 64 ≤ 31)) :
    (s.nodeAcquire id port k len bits).node id = some { n with acqResult := 3 } := by
  rw [State.nodeAcquire_judged hrx hdata hop hport]
  dsimp only
  rw [if_neg (by omega), if_neg (by simp [hfree]), if_neg hold, if_neg (by simp [hfree])]
  exact State.node_setNode (n := { n with acqResult := 3 }) hid _

theorem State.nodeAcquire_grants (hid : n.id = id) (hown : n.held = false ∨ n.holder = port)
    (hnew : 1 ≤ ((leaseRead (data.getD 0 0)).epoch + 64 - n.epoch) % 64 ∧ ((leaseRead (data.getD 0 0)).epoch + 64 - n.epoch) % 64 ≤ 31) :
    (s.nodeAcquire id port k len bits).node id = some (n.grant port (leaseRead (data.getD 0 0)) s.clock.up) := by
  have hfree : ¬ (n.held = true ∧ n.holder ≠ port) := by
    rintro ⟨hheld, hother⟩
    rcases hown with hown | hown
    · simp [hown] at hheld
    · exact hother hown
  rw [State.nodeAcquire_judged hrx hdata hop hport]
  dsimp only
  rw [if_neg (by omega), if_neg hfree, if_pos hnew]
  exact State.node_setNode (by rw [Node.grant_id, hid]) _

end

/-- Settles O54. -/
theorem nodeAcquires : Obligations.NodeAcquires := by
  intro id port k len bits s n b data hrx hid hdata m ahead inRange t hop hport
  refine ⟨State.nodeAcquire_badLease hrx hdata hop hport hid,
    fun hrange => State.nodeAcquire_otherHolder hrx hdata hop hport hrange hid,
    fun hrange => State.nodeAcquire_oldEpoch hrx hdata hop hport hrange hid, fun hrange hown hlow hhigh => ?_⟩
  obtain ⟨hheld, hholder, hepoch, htLease, hresult, hexpiry⟩ := Node.grant_lease port m s.clock.up n
  exact ⟨_, State.nodeAcquire_grants hrx hdata hop hport hrange hid hown ⟨hlow, hhigh⟩, hheld, hholder, hepoch, htLease, hresult, hexpiry,
    Node.grant_keeps port m s.clock.up n, Node.grant_clears port m s.clock.up n⟩

end Sys2Proof.Machine
end
